-- ==== Sys2Proof/Word.lean ====
section
/-! DEFINITION. The word types of the uncore PMON hardware: bytes, dwords, MSR containers, counters (10_state.md R25). -/

namespace Sys2Proof

/-- One byte of a host command or of a control word as it is laid out for the decoder. -/
abbrev Byte := BitVec 8

/-- One PCICFG dword, and every control, box control, status, filter, match and mask register (30_encoding.md R150). -/
abbrev Word := BitVec 32

/-- One MSR container (10_state.md R25). -/
abbrev Quad := BitVec 64

/-- The storage of one counter. W is 48 everywhere but in the R3QPI (10_state.md R23), whose counters keep their low
`Params.r3Width` bits. -/
abbrev Counter := BitVec 48

end Sys2Proof
end

