-- ==== Sys2Proof/Syntax.lean ====
section
/-! DEFINITION. The syntax: the boxes, the operand forms, and `Instr`, with one constructor per row of
spec/opcode_table.json. An event row is one clock cycle of a counter whose control word selects that row
(40_global_ubox.md R215, R249); a register row is one host access to that register (R200 to R203). -/

namespace Sys2Proof

/-- The ten kinds of box (00_scope.md R13). -/
inductive Kind where
  | ubox | cbo | sbo | ha | imc | irp | pcu | qpi | r2 | r3
  deriving DecidableEq, Repr, Inhabited

/-- The most instances of a kind one socket has (00_scope.md R7). An IMC instance is a channel: 4 * controller + channel
(44_imc.md R501). -/
def Kind.insts : Kind → Nat
  | .ubox => 1 | .cbo => 18 | .sbo => 4 | .ha => 2 | .imc => 8 | .irp => 1 | .pcu => 1 | .qpi => 3 | .r2 => 1 | .r3 => 3

/-- Generic counters of one box (40_global_ubox.md R218). The IRP's four are IRP0.0, IRP0.1, IRP1.0, IRP1.1
(45_irp.md R601, R602). -/
def Kind.ctrs : Kind → Nat
  | .ubox => 2 | .r3 => 3 | .cbo | .sbo | .ha | .imc | .irp | .pcu | .qpi | .r2 => 4

/-- One PMON block. -/
inductive BoxId where
  | ubox
  | cbo (n : Fin 18)
  | sbo (n : Fin 4)
  | ha (n : Fin 2)
  /-- Channel `n % 4` of memory controller `n / 4`. -/
  | imc (n : Fin 8)
  | irp
  | pcu
  | qpi (p : Fin 3)
  | r2
  | r3 (l : Fin 3)
  deriving DecidableEq, Repr, Inhabited

/-- The kind of a box. -/
def BoxId.kind : BoxId → Kind
  | .ubox => .ubox | .cbo _ => .cbo | .sbo _ => .sbo | .ha _ => .ha | .imc _ => .imc | .irp => .irp | .pcu => .pcu
  | .qpi _ => .qpi | .r2 => .r2 | .r3 _ => .r3

/-- The box a kind and an instance number name. -/
def Kind.box : (k : Kind) → Fin k.insts → BoxId
  | .ubox, _ => .ubox
  | .cbo, n => .cbo n
  | .sbo, n => .sbo n
  | .ha, n => .ha n
  | .imc, n => .imc n
  | .irp, _ => .irp
  | .pcu, _ => .pcu
  | .qpi, p => .qpi p
  | .r2, _ => .r2
  | .r3, l => .r3 l

/-- Counter `i` of a box of kind `k`, as an index into a block's four units. -/
def Kind.unit : (k : Kind) → Fin k.ctrs → Fin 4
  | .ubox, i => i.castLE (by decide)
  | .cbo, i => i.castLE (by decide)
  | .sbo, i => i.castLE (by decide)
  | .ha, i => i.castLE (by decide)
  | .imc, i => i.castLE (by decide)
  | .irp, i => i.castLE (by decide)
  | .pcu, i => i.castLE (by decide)
  | .qpi, i => i.castLE (by decide)
  | .r2, i => i.castLE (by decide)
  | .r3, i => i.castLE (by decide)

/-- The fields of a counter control word beside the event select (30_encoding.md R151 to R154). `extra` holds the unit
mask bits beyond the ones the instruction's own row fixes. `ovEn` is bit 20, `tidEn` bit 19 (CBo and SBo), `occInvert`
and `occEdge` bits 30 and 31 (PCU). -/
structure CtlOps where
  thresh : BitVec 8
  invert : Bool
  en : Bool
  ovEn : Bool
  tidEn : Bool
  edge : Bool
  occInvert : Bool
  occEdge : Bool
  extra : BitVec 8
  deriving DecidableEq, Repr, Inhabited

/-- The operands of an event row: which box instance, which generic counter, and the control fields
(30_encoding.md R159). -/
structure EvOp (k : Kind) where
  inst : Fin k.insts
  ctr : Fin k.ctrs
  ctl : CtlOps
  deriving DecidableEq, Repr

/-- The operand of an MSR row: RDMSR or WRMSR of that register (40_global_ubox.md R200, R201). -/
inductive MsrAccess where
  | read
  | write (v : Quad)
  deriving DecidableEq, Repr, Inhabited

/-- CFGRD or CFGWR (40_global_ubox.md R202, R203). -/
inductive CfgOp where
  | read
  | write (v : Word)
  deriving DecidableEq, Repr, Inhabited

/-- The operands of a PCICFG row: the bus, which dword of a two-dword counter (20_memory.md R103), and the operation. -/
structure CfgAccess where
  bus : BitVec 8
  high : Bool
  op : CfgOp
  deriving DecidableEq, Repr, Inhabited

set_option maxHeartbeats 8000000 in
/-- The instructions: one constructor per row of spec/opcode_table.json, in the table's order. -/
inductive Instr where
  /-- UBox.EVENT_MSG.DOORBELL_RCVD (R250) -/
  | uBoxEventMsgDoorbellRcvd (o : EvOp .ubox)
  /-- UBox.PHOLD_CYCLES.ASSERT_TO_ACK (R251) -/
  | uBoxPholdCyclesAssertToAck (o : EvOp .ubox)
  /-- UBox.RACU_REQUESTS (R252) -/
  | uBoxRacuRequests (o : EvOp .ubox)
  /-- CBo.BOUNCE_CONTROL (R290) -/
  | cBoBounceControl (o : EvOp .cbo)
  /-- CBo.CLOCKTICKS (R291) -/
  | cBoClockticks (o : EvOp .cbo)
  /-- CBo.COUNTER0_OCCUPANCY (R292) -/
  | cBoCounter0Occupancy (o : EvOp .cbo)
  /-- CBo.FAST_ASSERTED (R293) -/
  | cBoFastAsserted (o : EvOp .cbo)
  /-- CBo.LLC_LOOKUP.DATA_READ (R294) -/
  | cBoLlcLookupDataRead (o : EvOp .cbo)
  /-- CBo.LLC_LOOKUP.WRITE (R294) -/
  | cBoLlcLookupWrite (o : EvOp .cbo)
  /-- CBo.LLC_LOOKUP.REMOTE_SNOOP (R294) -/
  | cBoLlcLookupRemoteSnoop (o : EvOp .cbo)
  /-- CBo.LLC_LOOKUP.ANY (R294) -/
  | cBoLlcLookupAny (o : EvOp .cbo)
  /-- CBo.LLC_LOOKUP.READ (R294) -/
  | cBoLlcLookupRead (o : EvOp .cbo)
  /-- CBo.LLC_LOOKUP.NID (R294) -/
  | cBoLlcLookupNid (o : EvOp .cbo)
  /-- CBo.LLC_VICTIMS.M_STATE (R295) -/
  | cBoLlcVictimsMState (o : EvOp .cbo)
  /-- CBo.LLC_VICTIMS.E_STATE (R295) -/
  | cBoLlcVictimsEState (o : EvOp .cbo)
  /-- CBo.LLC_VICTIMS.I_STATE (R295) -/
  | cBoLlcVictimsIState (o : EvOp .cbo)
  /-- CBo.LLC_VICTIMS.F_STATE (R295) -/
  | cBoLlcVictimsFState (o : EvOp .cbo)
  /-- CBo.LLC_VICTIMS.MISS (R295) -/
  | cBoLlcVictimsMiss (o : EvOp .cbo)
  /-- CBo.LLC_VICTIMS.NID (R295) -/
  | cBoLlcVictimsNid (o : EvOp .cbo)
  /-- CBo.MISC.RSPI_WAS_FSE (R296) -/
  | cBoMiscRspiWasFse (o : EvOp .cbo)
  /-- CBo.MISC.WC_ALIASING (R296) -/
  | cBoMiscWcAliasing (o : EvOp .cbo)
  /-- CBo.MISC.STARTED (R296) -/
  | cBoMiscStarted (o : EvOp .cbo)
  /-- CBo.MISC.RFO_HIT_S (R296) -/
  | cBoMiscRfoHitS (o : EvOp .cbo)
  /-- CBo.MISC.CVZERO_PREFETCH_VICTIM (R296) -/
  | cBoMiscCvzeroPrefetchVictim (o : EvOp .cbo)
  /-- CBo.MISC.CVZERO_PREFETCH_MISS (R296) -/
  | cBoMiscCvzeroPrefetchMiss (o : EvOp .cbo)
  /-- CBo.RING_AD_USED.UP_EVEN (R297) -/
  | cBoRingAdUsedUpEven (o : EvOp .cbo)
  /-- CBo.RING_AD_USED.UP_ODD (R297) -/
  | cBoRingAdUsedUpOdd (o : EvOp .cbo)
  /-- CBo.RING_AD_USED.UP (R297) -/
  | cBoRingAdUsedUp (o : EvOp .cbo)
  /-- CBo.RING_AD_USED.DOWN_EVEN (R297) -/
  | cBoRingAdUsedDownEven (o : EvOp .cbo)
  /-- CBo.RING_AD_USED.DOWN_ODD (R297) -/
  | cBoRingAdUsedDownOdd (o : EvOp .cbo)
  /-- CBo.RING_AD_USED.DOWN (R297) -/
  | cBoRingAdUsedDown (o : EvOp .cbo)
  /-- CBo.RING_AD_USED.ALL (R297) -/
  | cBoRingAdUsedAll (o : EvOp .cbo)
  /-- CBo.RING_AK_USED.UP_EVEN (R298) -/
  | cBoRingAkUsedUpEven (o : EvOp .cbo)
  /-- CBo.RING_AK_USED.UP_ODD (R298) -/
  | cBoRingAkUsedUpOdd (o : EvOp .cbo)
  /-- CBo.RING_AK_USED.UP (R298) -/
  | cBoRingAkUsedUp (o : EvOp .cbo)
  /-- CBo.RING_AK_USED.DOWN_EVEN (R298) -/
  | cBoRingAkUsedDownEven (o : EvOp .cbo)
  /-- CBo.RING_AK_USED.DOWN_ODD (R298) -/
  | cBoRingAkUsedDownOdd (o : EvOp .cbo)
  /-- CBo.RING_AK_USED.DOWN (R298) -/
  | cBoRingAkUsedDown (o : EvOp .cbo)
  /-- CBo.RING_AK_USED.ALL (R298) -/
  | cBoRingAkUsedAll (o : EvOp .cbo)
  /-- CBo.RING_BL_USED.UP_EVEN (R299) -/
  | cBoRingBlUsedUpEven (o : EvOp .cbo)
  /-- CBo.RING_BL_USED.UP_ODD (R299) -/
  | cBoRingBlUsedUpOdd (o : EvOp .cbo)
  /-- CBo.RING_BL_USED.UP (R299) -/
  | cBoRingBlUsedUp (o : EvOp .cbo)
  /-- CBo.RING_BL_USED.DOWN_EVEN (R299) -/
  | cBoRingBlUsedDownEven (o : EvOp .cbo)
  /-- CBo.RING_BL_USED.DOWN_ODD (R299) -/
  | cBoRingBlUsedDownOdd (o : EvOp .cbo)
  /-- CBo.RING_BL_USED.DOWN (R299) -/
  | cBoRingBlUsedDown (o : EvOp .cbo)
  /-- CBo.RING_BL_USED.ALL (R299) -/
  | cBoRingBlUsedAll (o : EvOp .cbo)
  /-- CBo.RING_BOUNCES.AD (R300) -/
  | cBoRingBouncesAd (o : EvOp .cbo)
  /-- CBo.RING_BOUNCES.AK (R300) -/
  | cBoRingBouncesAk (o : EvOp .cbo)
  /-- CBo.RING_BOUNCES.BL (R300) -/
  | cBoRingBouncesBl (o : EvOp .cbo)
  /-- CBo.RING_BOUNCES.IV (R300) -/
  | cBoRingBouncesIv (o : EvOp .cbo)
  /-- CBo.RING_IV_USED.UP (R301) -/
  | cBoRingIvUsedUp (o : EvOp .cbo)
  /-- CBo.RING_IV_USED.DN (R301) -/
  | cBoRingIvUsedDn (o : EvOp .cbo)
  /-- CBo.RING_IV_USED.ANY (R301) -/
  | cBoRingIvUsedAny (o : EvOp .cbo)
  /-- CBo.RING_IV_USED.DOWN (R301) -/
  | cBoRingIvUsedDown (o : EvOp .cbo)
  /-- CBo.RING_SRC_THRTL (R302) -/
  | cBoRingSrcThrtl (o : EvOp .cbo)
  /-- CBo.RxR_EXT_STARVED.IRQ (R303) -/
  | cBoRxRExtStarvedIrq (o : EvOp .cbo)
  /-- CBo.RxR_EXT_STARVED.IPQ (R303) -/
  | cBoRxRExtStarvedIpq (o : EvOp .cbo)
  /-- CBo.RxR_EXT_STARVED.PRQ (R303) -/
  | cBoRxRExtStarvedPrq (o : EvOp .cbo)
  /-- CBo.RxR_EXT_STARVED.ISMQ_BIDS (R303) -/
  | cBoRxRExtStarvedIsmqBids (o : EvOp .cbo)
  /-- CBo.RxR_INSERTS.IRQ (R304) -/
  | cBoRxRInsertsIrq (o : EvOp .cbo)
  /-- CBo.RxR_INSERTS.IRQ_REJ (R304) -/
  | cBoRxRInsertsIrqRej (o : EvOp .cbo)
  /-- CBo.RxR_INSERTS.IPQ (R304) -/
  | cBoRxRInsertsIpq (o : EvOp .cbo)
  /-- CBo.RxR_INSERTS.PRQ (R304) -/
  | cBoRxRInsertsPrq (o : EvOp .cbo)
  /-- CBo.RxR_INSERTS.PRQ_REJ (R304) -/
  | cBoRxRInsertsPrqRej (o : EvOp .cbo)
  /-- CBo.RxR_IPQ_RETRY.ANY (R305) -/
  | cBoRxRIpqRetryAny (o : EvOp .cbo)
  /-- CBo.RxR_IPQ_RETRY.FULL (R305) -/
  | cBoRxRIpqRetryFull (o : EvOp .cbo)
  /-- CBo.RxR_IPQ_RETRY.ADDR_CONFLICT (R305) -/
  | cBoRxRIpqRetryAddrConflict (o : EvOp .cbo)
  /-- CBo.RxR_IPQ_RETRY.QPI_CREDITS (R305) -/
  | cBoRxRIpqRetryQpiCredits (o : EvOp .cbo)
  /-- CBo.RxR_IPQ_RETRY2.AD_SBO (R306) -/
  | cBoRxRIpqRetry2AdSbo (o : EvOp .cbo)
  /-- CBo.RxR_IPQ_RETRY2.TARGET (R306) -/
  | cBoRxRIpqRetry2Target (o : EvOp .cbo)
  /-- CBo.RxR_IRQ_RETRY.ANY (R307) -/
  | cBoRxRIrqRetryAny (o : EvOp .cbo)
  /-- CBo.RxR_IRQ_RETRY.FULL (R307) -/
  | cBoRxRIrqRetryFull (o : EvOp .cbo)
  /-- CBo.RxR_IRQ_RETRY.ADDR_CONFLICT (R307) -/
  | cBoRxRIrqRetryAddrConflict (o : EvOp .cbo)
  /-- CBo.RxR_IRQ_RETRY.RTID (R307) -/
  | cBoRxRIrqRetryRtid (o : EvOp .cbo)
  /-- CBo.RxR_IRQ_RETRY.QPI_CREDITS (R307) -/
  | cBoRxRIrqRetryQpiCredits (o : EvOp .cbo)
  /-- CBo.RxR_IRQ_RETRY.IIO_CREDITS (R307) -/
  | cBoRxRIrqRetryIioCredits (o : EvOp .cbo)
  /-- CBo.RxR_IRQ_RETRY.NID (R307) -/
  | cBoRxRIrqRetryNid (o : EvOp .cbo)
  /-- CBo.RxR_IRQ_RETRY2.AD_SBO (R308) -/
  | cBoRxRIrqRetry2AdSbo (o : EvOp .cbo)
  /-- CBo.RxR_IRQ_RETRY2.BL_SBO (R308) -/
  | cBoRxRIrqRetry2BlSbo (o : EvOp .cbo)
  /-- CBo.RxR_IRQ_RETRY2.TARGET (R308) -/
  | cBoRxRIrqRetry2Target (o : EvOp .cbo)
  /-- CBo.RxR_ISMQ_RETRY.ANY (R309) -/
  | cBoRxRIsmqRetryAny (o : EvOp .cbo)
  /-- CBo.RxR_ISMQ_RETRY.FULL (R309) -/
  | cBoRxRIsmqRetryFull (o : EvOp .cbo)
  /-- CBo.RxR_ISMQ_RETRY.RTID (R309) -/
  | cBoRxRIsmqRetryRtid (o : EvOp .cbo)
  /-- CBo.RxR_ISMQ_RETRY.QPI_CREDITS (R309) -/
  | cBoRxRIsmqRetryQpiCredits (o : EvOp .cbo)
  /-- CBo.RxR_ISMQ_RETRY.IIO_CREDITS (R309) -/
  | cBoRxRIsmqRetryIioCredits (o : EvOp .cbo)
  /-- CBo.RxR_ISMQ_RETRY.NID (R309) -/
  | cBoRxRIsmqRetryNid (o : EvOp .cbo)
  /-- CBo.RxR_ISMQ_RETRY.WB_CREDITS (R309) -/
  | cBoRxRIsmqRetryWbCredits (o : EvOp .cbo)
  /-- CBo.RxR_ISMQ_RETRY2.AD_SBO (R310) -/
  | cBoRxRIsmqRetry2AdSbo (o : EvOp .cbo)
  /-- CBo.RxR_ISMQ_RETRY2.BL_SBO (R310) -/
  | cBoRxRIsmqRetry2BlSbo (o : EvOp .cbo)
  /-- CBo.RxR_ISMQ_RETRY2.TARGET (R310) -/
  | cBoRxRIsmqRetry2Target (o : EvOp .cbo)
  /-- CBo.RxR_OCCUPANCY.IRQ (R311) -/
  | cBoRxROccupancyIrq (o : EvOp .cbo)
  /-- CBo.RxR_OCCUPANCY.IRQ_REJ (R311) -/
  | cBoRxROccupancyIrqRej (o : EvOp .cbo)
  /-- CBo.RxR_OCCUPANCY.IPQ (R311) -/
  | cBoRxROccupancyIpq (o : EvOp .cbo)
  /-- CBo.RxR_OCCUPANCY.PRQ_REJ (R311) -/
  | cBoRxROccupancyPrqRej (o : EvOp .cbo)
  /-- CBo.SBO_CREDITS_ACQUIRED.AD (R312) -/
  | cBoSboCreditsAcquiredAd (o : EvOp .cbo)
  /-- CBo.SBO_CREDITS_ACQUIRED.BL (R312) -/
  | cBoSboCreditsAcquiredBl (o : EvOp .cbo)
  /-- CBo.SBO_CREDIT_OCCUPANCY.AD (R313) -/
  | cBoSboCreditOccupancyAd (o : EvOp .cbo)
  /-- CBo.SBO_CREDIT_OCCUPANCY.BL (R313) -/
  | cBoSboCreditOccupancyBl (o : EvOp .cbo)
  /-- CBo.TOR_INSERTS.OPCODE (R314) -/
  | cBoTorInsertsOpcode (o : EvOp .cbo)
  /-- CBo.TOR_INSERTS.MISS_OPCODE (R314) -/
  | cBoTorInsertsMissOpcode (o : EvOp .cbo)
  /-- CBo.TOR_INSERTS.EVICTION (R314) -/
  | cBoTorInsertsEviction (o : EvOp .cbo)
  /-- CBo.TOR_INSERTS.ALL (R314) -/
  | cBoTorInsertsAll (o : EvOp .cbo)
  /-- CBo.TOR_INSERTS.WB (R314) -/
  | cBoTorInsertsWb (o : EvOp .cbo)
  /-- CBo.TOR_INSERTS.LOCAL_OPCODE (R314) -/
  | cBoTorInsertsLocalOpcode (o : EvOp .cbo)
  /-- CBo.TOR_INSERTS.MISS_LOCAL_OPCODE (R314) -/
  | cBoTorInsertsMissLocalOpcode (o : EvOp .cbo)
  /-- CBo.TOR_INSERTS.LOCAL (R314) -/
  | cBoTorInsertsLocal (o : EvOp .cbo)
  /-- CBo.TOR_INSERTS.MISS_LOCAL (R314) -/
  | cBoTorInsertsMissLocal (o : EvOp .cbo)
  /-- CBo.TOR_INSERTS.NID_OPCODE (R314) -/
  | cBoTorInsertsNidOpcode (o : EvOp .cbo)
  /-- CBo.TOR_INSERTS.NID_MISS_OPCODE (R314) -/
  | cBoTorInsertsNidMissOpcode (o : EvOp .cbo)
  /-- CBo.TOR_INSERTS.NID_EVICTION (R314) -/
  | cBoTorInsertsNidEviction (o : EvOp .cbo)
  /-- CBo.TOR_INSERTS.NID_ALL (R314) -/
  | cBoTorInsertsNidAll (o : EvOp .cbo)
  /-- CBo.TOR_INSERTS.NID_MISS_ALL (R314) -/
  | cBoTorInsertsNidMissAll (o : EvOp .cbo)
  /-- CBo.TOR_INSERTS.NID_WB (R314) -/
  | cBoTorInsertsNidWb (o : EvOp .cbo)
  /-- CBo.TOR_INSERTS.REMOTE_OPCODE (R314) -/
  | cBoTorInsertsRemoteOpcode (o : EvOp .cbo)
  /-- CBo.TOR_INSERTS.MISS_REMOTE_OPCODE (R314) -/
  | cBoTorInsertsMissRemoteOpcode (o : EvOp .cbo)
  /-- CBo.TOR_INSERTS.REMOTE (R314) -/
  | cBoTorInsertsRemote (o : EvOp .cbo)
  /-- CBo.TOR_INSERTS.MISS_REMOTE (R314) -/
  | cBoTorInsertsMissRemote (o : EvOp .cbo)
  /-- CBo.TOR_OCCUPANCY.OPCODE (R315) -/
  | cBoTorOccupancyOpcode (o : EvOp .cbo)
  /-- CBo.TOR_OCCUPANCY.MISS_OPCODE (R315) -/
  | cBoTorOccupancyMissOpcode (o : EvOp .cbo)
  /-- CBo.TOR_OCCUPANCY.EVICTION (R315) -/
  | cBoTorOccupancyEviction (o : EvOp .cbo)
  /-- CBo.TOR_OCCUPANCY.ALL (R315) -/
  | cBoTorOccupancyAll (o : EvOp .cbo)
  /-- CBo.TOR_OCCUPANCY.MISS_ALL (R315) -/
  | cBoTorOccupancyMissAll (o : EvOp .cbo)
  /-- CBo.TOR_OCCUPANCY.WB (R315) -/
  | cBoTorOccupancyWb (o : EvOp .cbo)
  /-- CBo.TOR_OCCUPANCY.LOCAL_OPCODE (R315) -/
  | cBoTorOccupancyLocalOpcode (o : EvOp .cbo)
  /-- CBo.TOR_OCCUPANCY.MISS_LOCAL_OPCODE (R315) -/
  | cBoTorOccupancyMissLocalOpcode (o : EvOp .cbo)
  /-- CBo.TOR_OCCUPANCY.LOCAL (R315) -/
  | cBoTorOccupancyLocal (o : EvOp .cbo)
  /-- CBo.TOR_OCCUPANCY.MISS_LOCAL (R315) -/
  | cBoTorOccupancyMissLocal (o : EvOp .cbo)
  /-- CBo.TOR_OCCUPANCY.NID_OPCODE (R315) -/
  | cBoTorOccupancyNidOpcode (o : EvOp .cbo)
  /-- CBo.TOR_OCCUPANCY.NID_MISS_OPCODE (R315) -/
  | cBoTorOccupancyNidMissOpcode (o : EvOp .cbo)
  /-- CBo.TOR_OCCUPANCY.NID_EVICTION (R315) -/
  | cBoTorOccupancyNidEviction (o : EvOp .cbo)
  /-- CBo.TOR_OCCUPANCY.NID_ALL (R315) -/
  | cBoTorOccupancyNidAll (o : EvOp .cbo)
  /-- CBo.TOR_OCCUPANCY.NID_MISS_ALL (R315) -/
  | cBoTorOccupancyNidMissAll (o : EvOp .cbo)
  /-- CBo.TOR_OCCUPANCY.NID_WB (R315) -/
  | cBoTorOccupancyNidWb (o : EvOp .cbo)
  /-- CBo.TOR_OCCUPANCY.REMOTE_OPCODE (R315) -/
  | cBoTorOccupancyRemoteOpcode (o : EvOp .cbo)
  /-- CBo.TOR_OCCUPANCY.MISS_REMOTE_OPCODE (R315) -/
  | cBoTorOccupancyMissRemoteOpcode (o : EvOp .cbo)
  /-- CBo.TOR_OCCUPANCY.REMOTE (R315) -/
  | cBoTorOccupancyRemote (o : EvOp .cbo)
  /-- CBo.TOR_OCCUPANCY.MISS_REMOTE (R315) -/
  | cBoTorOccupancyMissRemote (o : EvOp .cbo)
  /-- CBo.TxR_ADS_USED.AD (R316) -/
  | cBoTxRAdsUsedAd (o : EvOp .cbo)
  /-- CBo.TxR_ADS_USED.AK (R316) -/
  | cBoTxRAdsUsedAk (o : EvOp .cbo)
  /-- CBo.TxR_ADS_USED.BL (R316) -/
  | cBoTxRAdsUsedBl (o : EvOp .cbo)
  /-- CBo.TxR_INSERTS.AD_CACHE (R317) -/
  | cBoTxRInsertsAdCache (o : EvOp .cbo)
  /-- CBo.TxR_INSERTS.AK_CACHE (R317) -/
  | cBoTxRInsertsAkCache (o : EvOp .cbo)
  /-- CBo.TxR_INSERTS.BL_CACHE (R317) -/
  | cBoTxRInsertsBlCache (o : EvOp .cbo)
  /-- CBo.TxR_INSERTS.IV_CACHE (R317) -/
  | cBoTxRInsertsIvCache (o : EvOp .cbo)
  /-- CBo.TxR_INSERTS.AD_CORE (R317) -/
  | cBoTxRInsertsAdCore (o : EvOp .cbo)
  /-- CBo.TxR_INSERTS.AK_CORE (R317) -/
  | cBoTxRInsertsAkCore (o : EvOp .cbo)
  /-- CBo.TxR_INSERTS.BL_CORE (R317) -/
  | cBoTxRInsertsBlCore (o : EvOp .cbo)
  /-- SBo.BOUNCE_CONTROL (R360) -/
  | sBoBounceControl (o : EvOp .sbo)
  /-- SBo.CLOCKTICKS (R361) -/
  | sBoClockticks (o : EvOp .sbo)
  /-- SBo.FAST_ASSERTED (R362) -/
  | sBoFastAsserted (o : EvOp .sbo)
  /-- SBo.RING_AD_USED.UP_EVEN (R363) -/
  | sBoRingAdUsedUpEven (o : EvOp .sbo)
  /-- SBo.RING_AD_USED.UP_ODD (R363) -/
  | sBoRingAdUsedUpOdd (o : EvOp .sbo)
  /-- SBo.RING_AD_USED.UP (R363) -/
  | sBoRingAdUsedUp (o : EvOp .sbo)
  /-- SBo.RING_AD_USED.DOWN_EVEN (R363) -/
  | sBoRingAdUsedDownEven (o : EvOp .sbo)
  /-- SBo.RING_AD_USED.DOWN_ODD (R363) -/
  | sBoRingAdUsedDownOdd (o : EvOp .sbo)
  /-- SBo.RING_AD_USED.DOWN (R363) -/
  | sBoRingAdUsedDown (o : EvOp .sbo)
  /-- SBo.RING_AK_USED.UP_EVEN (R364) -/
  | sBoRingAkUsedUpEven (o : EvOp .sbo)
  /-- SBo.RING_AK_USED.UP_ODD (R364) -/
  | sBoRingAkUsedUpOdd (o : EvOp .sbo)
  /-- SBo.RING_AK_USED.UP (R364) -/
  | sBoRingAkUsedUp (o : EvOp .sbo)
  /-- SBo.RING_AK_USED.DOWN_EVEN (R364) -/
  | sBoRingAkUsedDownEven (o : EvOp .sbo)
  /-- SBo.RING_AK_USED.DOWN_ODD (R364) -/
  | sBoRingAkUsedDownOdd (o : EvOp .sbo)
  /-- SBo.RING_AK_USED.DOWN (R364) -/
  | sBoRingAkUsedDown (o : EvOp .sbo)
  /-- SBo.RING_BL_USED.UP_EVEN (R365) -/
  | sBoRingBlUsedUpEven (o : EvOp .sbo)
  /-- SBo.RING_BL_USED.UP_ODD (R365) -/
  | sBoRingBlUsedUpOdd (o : EvOp .sbo)
  /-- SBo.RING_BL_USED.UP (R365) -/
  | sBoRingBlUsedUp (o : EvOp .sbo)
  /-- SBo.RING_BL_USED.DOWN_EVEN (R365) -/
  | sBoRingBlUsedDownEven (o : EvOp .sbo)
  /-- SBo.RING_BL_USED.DOWN_ODD (R365) -/
  | sBoRingBlUsedDownOdd (o : EvOp .sbo)
  /-- SBo.RING_BL_USED.DOWN (R365) -/
  | sBoRingBlUsedDown (o : EvOp .sbo)
  /-- SBo.RING_BOUNCES.AD_CACHE (R366) -/
  | sBoRingBouncesAdCache (o : EvOp .sbo)
  /-- SBo.RING_BOUNCES.AK_CORE (R366) -/
  | sBoRingBouncesAkCore (o : EvOp .sbo)
  /-- SBo.RING_BOUNCES.BL_CORE (R366) -/
  | sBoRingBouncesBlCore (o : EvOp .sbo)
  /-- SBo.RING_BOUNCES.IV_CORE (R366) -/
  | sBoRingBouncesIvCore (o : EvOp .sbo)
  /-- SBo.RING_IV_USED.UP (R367) -/
  | sBoRingIvUsedUp (o : EvOp .sbo)
  /-- SBo.RING_IV_USED.DN (R367) -/
  | sBoRingIvUsedDn (o : EvOp .sbo)
  /-- SBo.RxR_BYPASS.AD_CRD (R368) -/
  | sBoRxRBypassAdCrd (o : EvOp .sbo)
  /-- SBo.RxR_BYPASS.AD_BNC (R368) -/
  | sBoRxRBypassAdBnc (o : EvOp .sbo)
  /-- SBo.RxR_BYPASS.BL_CRD (R368) -/
  | sBoRxRBypassBlCrd (o : EvOp .sbo)
  /-- SBo.RxR_BYPASS.BL_BNC (R368) -/
  | sBoRxRBypassBlBnc (o : EvOp .sbo)
  /-- SBo.RxR_BYPASS.AK (R368) -/
  | sBoRxRBypassAk (o : EvOp .sbo)
  /-- SBo.RxR_BYPASS.IV (R368) -/
  | sBoRxRBypassIv (o : EvOp .sbo)
  /-- SBo.RxR_INSERTS.AD_CRD (R369) -/
  | sBoRxRInsertsAdCrd (o : EvOp .sbo)
  /-- SBo.RxR_INSERTS.AD_BNC (R369) -/
  | sBoRxRInsertsAdBnc (o : EvOp .sbo)
  /-- SBo.RxR_INSERTS.BL_CRD (R369) -/
  | sBoRxRInsertsBlCrd (o : EvOp .sbo)
  /-- SBo.RxR_INSERTS.BL_BNC (R369) -/
  | sBoRxRInsertsBlBnc (o : EvOp .sbo)
  /-- SBo.RxR_INSERTS.AK (R369) -/
  | sBoRxRInsertsAk (o : EvOp .sbo)
  /-- SBo.RxR_INSERTS.IV (R369) -/
  | sBoRxRInsertsIv (o : EvOp .sbo)
  /-- SBo.RxR_OCCUPANCY.AD_CRD (R370) -/
  | sBoRxROccupancyAdCrd (o : EvOp .sbo)
  /-- SBo.RxR_OCCUPANCY.AD_BNC (R370) -/
  | sBoRxROccupancyAdBnc (o : EvOp .sbo)
  /-- SBo.RxR_OCCUPANCY.BL_CRD (R370) -/
  | sBoRxROccupancyBlCrd (o : EvOp .sbo)
  /-- SBo.RxR_OCCUPANCY.BL_BNC (R370) -/
  | sBoRxROccupancyBlBnc (o : EvOp .sbo)
  /-- SBo.RxR_OCCUPANCY.AK (R370) -/
  | sBoRxROccupancyAk (o : EvOp .sbo)
  /-- SBo.RxR_OCCUPANCY.IV (R370) -/
  | sBoRxROccupancyIv (o : EvOp .sbo)
  /-- SBo.TxR_ADS_USED.AD (R371) -/
  | sBoTxRAdsUsedAd (o : EvOp .sbo)
  /-- SBo.TxR_ADS_USED.AK (R371) -/
  | sBoTxRAdsUsedAk (o : EvOp .sbo)
  /-- SBo.TxR_ADS_USED.BL (R371) -/
  | sBoTxRAdsUsedBl (o : EvOp .sbo)
  /-- SBo.TxR_INSERTS.AD_CRD (R372) -/
  | sBoTxRInsertsAdCrd (o : EvOp .sbo)
  /-- SBo.TxR_INSERTS.AD_BNC (R372) -/
  | sBoTxRInsertsAdBnc (o : EvOp .sbo)
  /-- SBo.TxR_INSERTS.BL_CRD (R372) -/
  | sBoTxRInsertsBlCrd (o : EvOp .sbo)
  /-- SBo.TxR_INSERTS.BL_BNC (R372) -/
  | sBoTxRInsertsBlBnc (o : EvOp .sbo)
  /-- SBo.TxR_INSERTS.AK (R372) -/
  | sBoTxRInsertsAk (o : EvOp .sbo)
  /-- SBo.TxR_INSERTS.IV (R372) -/
  | sBoTxRInsertsIv (o : EvOp .sbo)
  /-- SBo.TxR_OCCUPANCY.AD_CRD (R373) -/
  | sBoTxROccupancyAdCrd (o : EvOp .sbo)
  /-- SBo.TxR_OCCUPANCY.AD_BNC (R373) -/
  | sBoTxROccupancyAdBnc (o : EvOp .sbo)
  /-- SBo.TxR_OCCUPANCY.BL_CRD (R373) -/
  | sBoTxROccupancyBlCrd (o : EvOp .sbo)
  /-- SBo.TxR_OCCUPANCY.BL_BNC (R373) -/
  | sBoTxROccupancyBlBnc (o : EvOp .sbo)
  /-- SBo.TxR_OCCUPANCY.AK (R373) -/
  | sBoTxROccupancyAk (o : EvOp .sbo)
  /-- SBo.TxR_OCCUPANCY.IV (R373) -/
  | sBoTxROccupancyIv (o : EvOp .sbo)
  /-- HA.ADDR_OPC_MATCH.ADDR (R410) -/
  | haAddrOpcMatchAddr (o : EvOp .ha)
  /-- HA.ADDR_OPC_MATCH.OPC (R410) -/
  | haAddrOpcMatchOpc (o : EvOp .ha)
  /-- HA.ADDR_OPC_MATCH.FILT (R410) -/
  | haAddrOpcMatchFilt (o : EvOp .ha)
  /-- HA.ADDR_OPC_MATCH.AD (R410) -/
  | haAddrOpcMatchAd (o : EvOp .ha)
  /-- HA.ADDR_OPC_MATCH.BL (R410) -/
  | haAddrOpcMatchBl (o : EvOp .ha)
  /-- HA.ADDR_OPC_MATCH.AK (R410) -/
  | haAddrOpcMatchAk (o : EvOp .ha)
  /-- HA.BT_CYCLES_NE (R411) -/
  | haBtCyclesNe (o : EvOp .ha)
  /-- HA.BT_OCCUPANCY (R412) -/
  | haBtOccupancy (o : EvOp .ha)
  /-- HA.BYPASS_IMC.TAKEN (R413) -/
  | haBypassImcTaken (o : EvOp .ha)
  /-- HA.BYPASS_IMC.NOT_TAKEN (R413) -/
  | haBypassImcNotTaken (o : EvOp .ha)
  /-- HA.CLOCKTICKS (R414) -/
  | haClockticks (o : EvOp .ha)
  /-- HA.CONFLICT_CYCLES (R415) -/
  | haConflictCycles (o : EvOp .ha)
  /-- HA.DIRECT2CORE_COUNT (R416) -/
  | haDirect2coreCount (o : EvOp .ha)
  /-- HA.DIRECT2CORE_CYCLES_DISABLED (R417) -/
  | haDirect2coreCyclesDisabled (o : EvOp .ha)
  /-- HA.DIRECT2CORE_TXN_OVERRIDE (R418) -/
  | haDirect2coreTxnOverride (o : EvOp .ha)
  /-- HA.DIRECTORY_LAT_OPT (R419) -/
  | haDirectoryLatOpt (o : EvOp .ha)
  /-- HA.DIRECTORY_LOOKUP.SNP (R420) -/
  | haDirectoryLookupSnp (o : EvOp .ha)
  /-- HA.DIRECTORY_LOOKUP.NO_SNP (R420) -/
  | haDirectoryLookupNoSnp (o : EvOp .ha)
  /-- HA.DIRECTORY_UPDATE.SET (R421) -/
  | haDirectoryUpdateSet (o : EvOp .ha)
  /-- HA.DIRECTORY_UPDATE.CLEAR (R421) -/
  | haDirectoryUpdateClear (o : EvOp .ha)
  /-- HA.DIRECTORY_UPDATE.ANY (R421) -/
  | haDirectoryUpdateAny (o : EvOp .ha)
  /-- HA.HITME_HIT.READ_OR_INVITOE (R422) -/
  | haHitmeHitReadOrInvitoe (o : EvOp .ha)
  /-- HA.HITME_HIT.WBMTOI (R422) -/
  | haHitmeHitWbmtoi (o : EvOp .ha)
  /-- HA.HITME_HIT.ACKCNFLTWBI (R422) -/
  | haHitmeHitAckcnfltwbi (o : EvOp .ha)
  /-- HA.HITME_HIT.WBMTOE_OR_S (R422) -/
  | haHitmeHitWbmtoeOrS (o : EvOp .ha)
  /-- HA.HITME_HIT.HOM (R422) -/
  | haHitmeHitHom (o : EvOp .ha)
  /-- HA.HITME_HIT.RSPFWDI_REMOTE (R422) -/
  | haHitmeHitRspfwdiRemote (o : EvOp .ha)
  /-- HA.HITME_HIT.RSPFWDI_LOCAL (R422) -/
  | haHitmeHitRspfwdiLocal (o : EvOp .ha)
  /-- HA.HITME_HIT.INVALS (R422) -/
  | haHitmeHitInvals (o : EvOp .ha)
  /-- HA.HITME_HIT.RSPFWDS (R422) -/
  | haHitmeHitRspfwds (o : EvOp .ha)
  /-- HA.HITME_HIT.EVICTS (R422) -/
  | haHitmeHitEvicts (o : EvOp .ha)
  /-- HA.HITME_HIT.ALLOCS (R422) -/
  | haHitmeHitAllocs (o : EvOp .ha)
  /-- HA.HITME_HIT.RSP (R422) -/
  | haHitmeHitRsp (o : EvOp .ha)
  /-- HA.HITME_HIT.ALL (R422) -/
  | haHitmeHitAll (o : EvOp .ha)
  /-- HA.HITME_HIT_PV_BITS_SET.READ_OR_INVITOE (R423) -/
  | haHitmeHitPvBitsSetReadOrInvitoe (o : EvOp .ha)
  /-- HA.HITME_HIT_PV_BITS_SET.WBMTOI (R423) -/
  | haHitmeHitPvBitsSetWbmtoi (o : EvOp .ha)
  /-- HA.HITME_HIT_PV_BITS_SET.ACKCNFLTWBI (R423) -/
  | haHitmeHitPvBitsSetAckcnfltwbi (o : EvOp .ha)
  /-- HA.HITME_HIT_PV_BITS_SET.WBMTOE_OR_S (R423) -/
  | haHitmeHitPvBitsSetWbmtoeOrS (o : EvOp .ha)
  /-- HA.HITME_HIT_PV_BITS_SET.HOM (R423) -/
  | haHitmeHitPvBitsSetHom (o : EvOp .ha)
  /-- HA.HITME_HIT_PV_BITS_SET.RSPFWDI_REMOTE (R423) -/
  | haHitmeHitPvBitsSetRspfwdiRemote (o : EvOp .ha)
  /-- HA.HITME_HIT_PV_BITS_SET.RSPFWDI_LOCAL (R423) -/
  | haHitmeHitPvBitsSetRspfwdiLocal (o : EvOp .ha)
  /-- HA.HITME_HIT_PV_BITS_SET.RSPFWDS (R423) -/
  | haHitmeHitPvBitsSetRspfwds (o : EvOp .ha)
  /-- HA.HITME_HIT_PV_BITS_SET.RSP (R423) -/
  | haHitmeHitPvBitsSetRsp (o : EvOp .ha)
  /-- HA.HITME_HIT_PV_BITS_SET.ALL (R423) -/
  | haHitmeHitPvBitsSetAll (o : EvOp .ha)
  /-- HA.HITME_LOOKUP.READ_OR_INVITOE (R424) -/
  | haHitmeLookupReadOrInvitoe (o : EvOp .ha)
  /-- HA.HITME_LOOKUP.WBMTOI (R424) -/
  | haHitmeLookupWbmtoi (o : EvOp .ha)
  /-- HA.HITME_LOOKUP.ACKCNFLTWBI (R424) -/
  | haHitmeLookupAckcnfltwbi (o : EvOp .ha)
  /-- HA.HITME_LOOKUP.WBMTOE_OR_S (R424) -/
  | haHitmeLookupWbmtoeOrS (o : EvOp .ha)
  /-- HA.HITME_LOOKUP.HOM (R424) -/
  | haHitmeLookupHom (o : EvOp .ha)
  /-- HA.HITME_LOOKUP.RSPFWDI_REMOTE (R424) -/
  | haHitmeLookupRspfwdiRemote (o : EvOp .ha)
  /-- HA.HITME_LOOKUP.RSPFWDI_LOCAL (R424) -/
  | haHitmeLookupRspfwdiLocal (o : EvOp .ha)
  /-- HA.HITME_LOOKUP.INVALS (R424) -/
  | haHitmeLookupInvals (o : EvOp .ha)
  /-- HA.HITME_LOOKUP.RSPFWDS (R424) -/
  | haHitmeLookupRspfwds (o : EvOp .ha)
  /-- HA.HITME_LOOKUP.ALLOCS (R424) -/
  | haHitmeLookupAllocs (o : EvOp .ha)
  /-- HA.HITME_LOOKUP.RSP (R424) -/
  | haHitmeLookupRsp (o : EvOp .ha)
  /-- HA.HITME_LOOKUP.ALL (R424) -/
  | haHitmeLookupAll (o : EvOp .ha)
  /-- HA.IGR_NO_CREDIT_CYCLES.AD_QPI0 (R425) -/
  | haIgrNoCreditCyclesAdQpi0 (o : EvOp .ha)
  /-- HA.IGR_NO_CREDIT_CYCLES.AD_QPI1 (R425) -/
  | haIgrNoCreditCyclesAdQpi1 (o : EvOp .ha)
  /-- HA.IGR_NO_CREDIT_CYCLES.BL_QPI0 (R425) -/
  | haIgrNoCreditCyclesBlQpi0 (o : EvOp .ha)
  /-- HA.IGR_NO_CREDIT_CYCLES.BL_QPI1 (R425) -/
  | haIgrNoCreditCyclesBlQpi1 (o : EvOp .ha)
  /-- HA.IGR_NO_CREDIT_CYCLES.AD_QPI2 (R425) -/
  | haIgrNoCreditCyclesAdQpi2 (o : EvOp .ha)
  /-- HA.IGR_NO_CREDIT_CYCLES.BL_QPI2 (R425) -/
  | haIgrNoCreditCyclesBlQpi2 (o : EvOp .ha)
  /-- HA.IMC_READS.NORMAL (R426) -/
  | haImcReadsNormal (o : EvOp .ha)
  /-- HA.IMC_RETRY (R427) -/
  | haImcRetry (o : EvOp .ha)
  /-- HA.IMC_WRITES.FULL (R428) -/
  | haImcWritesFull (o : EvOp .ha)
  /-- HA.IMC_WRITES.PARTIAL (R428) -/
  | haImcWritesPartial (o : EvOp .ha)
  /-- HA.IMC_WRITES.FULL_ISOCH (R428) -/
  | haImcWritesFullIsoch (o : EvOp .ha)
  /-- HA.IMC_WRITES.PARTIAL_ISOCH (R428) -/
  | haImcWritesPartialIsoch (o : EvOp .ha)
  /-- HA.IMC_WRITES.ALL (R428) -/
  | haImcWritesAll (o : EvOp .ha)
  /-- HA.OSB.READS_LOCAL (R429) -/
  | haOsbReadsLocal (o : EvOp .ha)
  /-- HA.OSB.INVITOE_LOCAL (R429) -/
  | haOsbInvitoeLocal (o : EvOp .ha)
  /-- HA.OSB.REMOTE (R429) -/
  | haOsbRemote (o : EvOp .ha)
  /-- HA.OSB.CANCELLED (R429) -/
  | haOsbCancelled (o : EvOp .ha)
  /-- HA.OSB.READS_LOCAL_USEFUL (R429) -/
  | haOsbReadsLocalUseful (o : EvOp .ha)
  /-- HA.OSB.REMOTE_USEFUL (R429) -/
  | haOsbRemoteUseful (o : EvOp .ha)
  /-- HA.OSB_EDR.ALL (R430) -/
  | haOsbEdrAll (o : EvOp .ha)
  /-- HA.OSB_EDR.READS_LOCAL_I (R430) -/
  | haOsbEdrReadsLocalI (o : EvOp .ha)
  /-- HA.OSB_EDR.READS_REMOTE_I (R430) -/
  | haOsbEdrReadsRemoteI (o : EvOp .ha)
  /-- HA.OSB_EDR.READS_LOCAL_S (R430) -/
  | haOsbEdrReadsLocalS (o : EvOp .ha)
  /-- HA.OSB_EDR.READS_REMOTE_S (R430) -/
  | haOsbEdrReadsRemoteS (o : EvOp .ha)
  /-- HA.REQUESTS.READS_LOCAL (R431) -/
  | haRequestsReadsLocal (o : EvOp .ha)
  /-- HA.REQUESTS.READS_REMOTE (R431) -/
  | haRequestsReadsRemote (o : EvOp .ha)
  /-- HA.REQUESTS.READS (R431) -/
  | haRequestsReads (o : EvOp .ha)
  /-- HA.REQUESTS.WRITES_LOCAL (R431) -/
  | haRequestsWritesLocal (o : EvOp .ha)
  /-- HA.REQUESTS.WRITES_REMOTE (R431) -/
  | haRequestsWritesRemote (o : EvOp .ha)
  /-- HA.REQUESTS.WRITES (R431) -/
  | haRequestsWrites (o : EvOp .ha)
  /-- HA.REQUESTS.INVITOE_LOCAL (R431) -/
  | haRequestsInvitoeLocal (o : EvOp .ha)
  /-- HA.REQUESTS.INVITOE_REMOTE (R431) -/
  | haRequestsInvitoeRemote (o : EvOp .ha)
  /-- HA.RING_AD_USED.CW_EVEN (R432) -/
  | haRingAdUsedCwEven (o : EvOp .ha)
  /-- HA.RING_AD_USED.CW_ODD (R432) -/
  | haRingAdUsedCwOdd (o : EvOp .ha)
  /-- HA.RING_AD_USED.CW (R432) -/
  | haRingAdUsedCw (o : EvOp .ha)
  /-- HA.RING_AD_USED.CCW_EVEN (R432) -/
  | haRingAdUsedCcwEven (o : EvOp .ha)
  /-- HA.RING_AD_USED.CCW_ODD (R432) -/
  | haRingAdUsedCcwOdd (o : EvOp .ha)
  /-- HA.RING_AD_USED.CCW (R432) -/
  | haRingAdUsedCcw (o : EvOp .ha)
  /-- HA.RING_AK_USED.CW_EVEN (R433) -/
  | haRingAkUsedCwEven (o : EvOp .ha)
  /-- HA.RING_AK_USED.CW_ODD (R433) -/
  | haRingAkUsedCwOdd (o : EvOp .ha)
  /-- HA.RING_AK_USED.CW (R433) -/
  | haRingAkUsedCw (o : EvOp .ha)
  /-- HA.RING_AK_USED.CCW_EVEN (R433) -/
  | haRingAkUsedCcwEven (o : EvOp .ha)
  /-- HA.RING_AK_USED.CCW_ODD (R433) -/
  | haRingAkUsedCcwOdd (o : EvOp .ha)
  /-- HA.RING_AK_USED.CCW (R433) -/
  | haRingAkUsedCcw (o : EvOp .ha)
  /-- HA.RING_BL_USED.CW_EVEN (R434) -/
  | haRingBlUsedCwEven (o : EvOp .ha)
  /-- HA.RING_BL_USED.CW_ODD (R434) -/
  | haRingBlUsedCwOdd (o : EvOp .ha)
  /-- HA.RING_BL_USED.CW (R434) -/
  | haRingBlUsedCw (o : EvOp .ha)
  /-- HA.RING_BL_USED.CCW_EVEN (R434) -/
  | haRingBlUsedCcwEven (o : EvOp .ha)
  /-- HA.RING_BL_USED.CCW_ODD (R434) -/
  | haRingBlUsedCcwOdd (o : EvOp .ha)
  /-- HA.RING_BL_USED.CCW (R434) -/
  | haRingBlUsedCcw (o : EvOp .ha)
  /-- HA.RPQ_CYCLES_NO_REG_CREDITS.CHN0 (R435) -/
  | haRpqCyclesNoRegCreditsChn0 (o : EvOp .ha)
  /-- HA.RPQ_CYCLES_NO_REG_CREDITS.CHN1 (R435) -/
  | haRpqCyclesNoRegCreditsChn1 (o : EvOp .ha)
  /-- HA.RPQ_CYCLES_NO_REG_CREDITS.CHN2 (R435) -/
  | haRpqCyclesNoRegCreditsChn2 (o : EvOp .ha)
  /-- HA.RPQ_CYCLES_NO_REG_CREDITS.CHN3 (R435) -/
  | haRpqCyclesNoRegCreditsChn3 (o : EvOp .ha)
  /-- HA.SBO0_CREDITS_ACQUIRED.AD (R436) -/
  | haSbo0CreditsAcquiredAd (o : EvOp .ha)
  /-- HA.SBO0_CREDITS_ACQUIRED.BL (R436) -/
  | haSbo0CreditsAcquiredBl (o : EvOp .ha)
  /-- HA.SBO0_CREDIT_OCCUPANCY.AD (R437) -/
  | haSbo0CreditOccupancyAd (o : EvOp .ha)
  /-- HA.SBO0_CREDIT_OCCUPANCY.BL (R437) -/
  | haSbo0CreditOccupancyBl (o : EvOp .ha)
  /-- HA.SBO1_CREDITS_ACQUIRED.AD (R438) -/
  | haSbo1CreditsAcquiredAd (o : EvOp .ha)
  /-- HA.SBO1_CREDITS_ACQUIRED.BL (R438) -/
  | haSbo1CreditsAcquiredBl (o : EvOp .ha)
  /-- HA.SBO1_CREDIT_OCCUPANCY.AD (R439) -/
  | haSbo1CreditOccupancyAd (o : EvOp .ha)
  /-- HA.SBO1_CREDIT_OCCUPANCY.BL (R439) -/
  | haSbo1CreditOccupancyBl (o : EvOp .ha)
  /-- HA.SNOOPS_RSP_AFTER_DATA.LOCAL (R440) -/
  | haSnoopsRspAfterDataLocal (o : EvOp .ha)
  /-- HA.SNOOPS_RSP_AFTER_DATA.REMOTE (R440) -/
  | haSnoopsRspAfterDataRemote (o : EvOp .ha)
  /-- HA.SNOOP_CYCLES_NE.LOCAL (R441) -/
  | haSnoopCyclesNeLocal (o : EvOp .ha)
  /-- HA.SNOOP_CYCLES_NE.REMOTE (R441) -/
  | haSnoopCyclesNeRemote (o : EvOp .ha)
  /-- HA.SNOOP_CYCLES_NE.ALL (R441) -/
  | haSnoopCyclesNeAll (o : EvOp .ha)
  /-- HA.SNOOP_OCCUPANCY.LOCAL (R442) -/
  | haSnoopOccupancyLocal (o : EvOp .ha)
  /-- HA.SNOOP_OCCUPANCY.REMOTE (R442) -/
  | haSnoopOccupancyRemote (o : EvOp .ha)
  /-- HA.SNOOP_RESP.RSPI (R443) -/
  | haSnoopRespRspi (o : EvOp .ha)
  /-- HA.SNOOP_RESP.RSPS (R443) -/
  | haSnoopRespRsps (o : EvOp .ha)
  /-- HA.SNOOP_RESP.RSPIFWD (R443) -/
  | haSnoopRespRspifwd (o : EvOp .ha)
  /-- HA.SNOOP_RESP.RSPSFWD (R443) -/
  | haSnoopRespRspsfwd (o : EvOp .ha)
  /-- HA.SNOOP_RESP.RSP_WB (R443) -/
  | haSnoopRespRspWb (o : EvOp .ha)
  /-- HA.SNOOP_RESP.RSP_FWD_WB (R443) -/
  | haSnoopRespRspFwdWb (o : EvOp .ha)
  /-- HA.SNOOP_RESP.RSPCNFLCT (R443) -/
  | haSnoopRespRspcnflct (o : EvOp .ha)
  /-- HA.SNP_RESP_RECV_LOCAL.RSPI (R444) -/
  | haSnpRespRecvLocalRspi (o : EvOp .ha)
  /-- HA.SNP_RESP_RECV_LOCAL.RSPS (R444) -/
  | haSnpRespRecvLocalRsps (o : EvOp .ha)
  /-- HA.SNP_RESP_RECV_LOCAL.RSPIFWD (R444) -/
  | haSnpRespRecvLocalRspifwd (o : EvOp .ha)
  /-- HA.SNP_RESP_RECV_LOCAL.RSPSFWD (R444) -/
  | haSnpRespRecvLocalRspsfwd (o : EvOp .ha)
  /-- HA.SNP_RESP_RECV_LOCAL.RSPxWB (R444) -/
  | haSnpRespRecvLocalRSPxWB (o : EvOp .ha)
  /-- HA.SNP_RESP_RECV_LOCAL.RSPxFWDxWB (R444) -/
  | haSnpRespRecvLocalRSPxFWDxWB (o : EvOp .ha)
  /-- HA.SNP_RESP_RECV_LOCAL.RSPCNFLCT (R444) -/
  | haSnpRespRecvLocalRspcnflct (o : EvOp .ha)
  /-- HA.SNP_RESP_RECV_LOCAL.OTHER (R444) -/
  | haSnpRespRecvLocalOther (o : EvOp .ha)
  /-- HA.STALL_NO_SBO_CREDIT.SBO0_AD (R445) -/
  | haStallNoSboCreditSbo0Ad (o : EvOp .ha)
  /-- HA.STALL_NO_SBO_CREDIT.SBO1_AD (R445) -/
  | haStallNoSboCreditSbo1Ad (o : EvOp .ha)
  /-- HA.STALL_NO_SBO_CREDIT.SBO0_BL (R445) -/
  | haStallNoSboCreditSbo0Bl (o : EvOp .ha)
  /-- HA.STALL_NO_SBO_CREDIT.SB01_BL (R445) -/
  | haStallNoSboCreditSb01Bl (o : EvOp .ha)
  /-- HA.TAD_REQUESTS_G0.REGION0 (R446) -/
  | haTadRequestsG0Region0 (o : EvOp .ha)
  /-- HA.TAD_REQUESTS_G0.REGION1 (R446) -/
  | haTadRequestsG0Region1 (o : EvOp .ha)
  /-- HA.TAD_REQUESTS_G0.REGION2 (R446) -/
  | haTadRequestsG0Region2 (o : EvOp .ha)
  /-- HA.TAD_REQUESTS_G0.REGION3 (R446) -/
  | haTadRequestsG0Region3 (o : EvOp .ha)
  /-- HA.TAD_REQUESTS_G0.REGION4 (R446) -/
  | haTadRequestsG0Region4 (o : EvOp .ha)
  /-- HA.TAD_REQUESTS_G0.REGION5 (R446) -/
  | haTadRequestsG0Region5 (o : EvOp .ha)
  /-- HA.TAD_REQUESTS_G0.REGION6 (R446) -/
  | haTadRequestsG0Region6 (o : EvOp .ha)
  /-- HA.TAD_REQUESTS_G0.REGION7 (R446) -/
  | haTadRequestsG0Region7 (o : EvOp .ha)
  /-- HA.TAD_REQUESTS_G1.REGION8 (R447) -/
  | haTadRequestsG1Region8 (o : EvOp .ha)
  /-- HA.TAD_REQUESTS_G1.REGION9 (R447) -/
  | haTadRequestsG1Region9 (o : EvOp .ha)
  /-- HA.TAD_REQUESTS_G1.REGION10 (R447) -/
  | haTadRequestsG1Region10 (o : EvOp .ha)
  /-- HA.TAD_REQUESTS_G1.REGION11 (R447) -/
  | haTadRequestsG1Region11 (o : EvOp .ha)
  /-- HA.TRACKER_CYCLES_FULL.GP (R448) -/
  | haTrackerCyclesFullGp (o : EvOp .ha)
  /-- HA.TRACKER_CYCLES_FULL.ALL (R448) -/
  | haTrackerCyclesFullAll (o : EvOp .ha)
  /-- HA.TRACKER_CYCLES_NE.LOCAL (R449) -/
  | haTrackerCyclesNeLocal (o : EvOp .ha)
  /-- HA.TRACKER_CYCLES_NE.REMOTE (R449) -/
  | haTrackerCyclesNeRemote (o : EvOp .ha)
  /-- HA.TRACKER_CYCLES_NE.ALL (R449) -/
  | haTrackerCyclesNeAll (o : EvOp .ha)
  /-- HA.TRACKER_OCCUPANCY.READS_LOCAL (R450) -/
  | haTrackerOccupancyReadsLocal (o : EvOp .ha)
  /-- HA.TRACKER_OCCUPANCY.READS_REMOTE (R450) -/
  | haTrackerOccupancyReadsRemote (o : EvOp .ha)
  /-- HA.TRACKER_OCCUPANCY.WRITES_LOCAL (R450) -/
  | haTrackerOccupancyWritesLocal (o : EvOp .ha)
  /-- HA.TRACKER_OCCUPANCY.WRITES_REMOTE (R450) -/
  | haTrackerOccupancyWritesRemote (o : EvOp .ha)
  /-- HA.TRACKER_OCCUPANCY.INVITOE_LOCAL (R450) -/
  | haTrackerOccupancyInvitoeLocal (o : EvOp .ha)
  /-- HA.TRACKER_OCCUPANCY.INVITOE_REMOTE (R450) -/
  | haTrackerOccupancyInvitoeRemote (o : EvOp .ha)
  /-- HA.TRACKER_PENDING_OCCUPANCY.LOCAL (R451) -/
  | haTrackerPendingOccupancyLocal (o : EvOp .ha)
  /-- HA.TRACKER_PENDING_OCCUPANCY.REMOTE (R451) -/
  | haTrackerPendingOccupancyRemote (o : EvOp .ha)
  /-- HA.TxR_AD_CYCLES_FULL.SCHED0 (R452) -/
  | haTxRAdCyclesFullSched0 (o : EvOp .ha)
  /-- HA.TxR_AD_CYCLES_FULL.SCHED1 (R452) -/
  | haTxRAdCyclesFullSched1 (o : EvOp .ha)
  /-- HA.TxR_AD_CYCLES_FULL.ALL (R452) -/
  | haTxRAdCyclesFullAll (o : EvOp .ha)
  /-- HA.TxR_AK (R453) -/
  | haTxRAk (o : EvOp .ha)
  /-- HA.TxR_AK_CYCLES_FULL.SCHED0 (R454) -/
  | haTxRAkCyclesFullSched0 (o : EvOp .ha)
  /-- HA.TxR_AK_CYCLES_FULL.SCHED1 (R454) -/
  | haTxRAkCyclesFullSched1 (o : EvOp .ha)
  /-- HA.TxR_AK_CYCLES_FULL.ALL (R454) -/
  | haTxRAkCyclesFullAll (o : EvOp .ha)
  /-- HA.TxR_BL.DRS_CACHE (R455) -/
  | haTxRBlDrsCache (o : EvOp .ha)
  /-- HA.TxR_BL.DRS_CORE (R455) -/
  | haTxRBlDrsCore (o : EvOp .ha)
  /-- HA.TxR_BL.DRS_QPI (R455) -/
  | haTxRBlDrsQpi (o : EvOp .ha)
  /-- HA.TxR_BL_CYCLES_FULL.SCHED0 (R456) -/
  | haTxRBlCyclesFullSched0 (o : EvOp .ha)
  /-- HA.TxR_BL_CYCLES_FULL.SCHED1 (R456) -/
  | haTxRBlCyclesFullSched1 (o : EvOp .ha)
  /-- HA.TxR_BL_CYCLES_FULL.ALL (R456) -/
  | haTxRBlCyclesFullAll (o : EvOp .ha)
  /-- HA.TxR_BL_OCCUPANCY (R457) -/
  | haTxRBlOccupancy (o : EvOp .ha)
  /-- HA.TxR_STARVED.AK (R458) -/
  | haTxRStarvedAk (o : EvOp .ha)
  /-- HA.TxR_STARVED.BL (R458) -/
  | haTxRStarvedBl (o : EvOp .ha)
  /-- HA.WPQ_CYCLES_NO_REG_CREDITS.CHN0 (R459) -/
  | haWpqCyclesNoRegCreditsChn0 (o : EvOp .ha)
  /-- HA.WPQ_CYCLES_NO_REG_CREDITS.CHN1 (R459) -/
  | haWpqCyclesNoRegCreditsChn1 (o : EvOp .ha)
  /-- HA.WPQ_CYCLES_NO_REG_CREDITS.CHN2 (R459) -/
  | haWpqCyclesNoRegCreditsChn2 (o : EvOp .ha)
  /-- HA.WPQ_CYCLES_NO_REG_CREDITS.CHN3 (R459) -/
  | haWpqCyclesNoRegCreditsChn3 (o : EvOp .ha)
  /-- IMC.ACT_COUNT.RD (R510) -/
  | imcActCountRd (o : EvOp .imc)
  /-- IMC.ACT_COUNT.WR (R510) -/
  | imcActCountWr (o : EvOp .imc)
  /-- IMC.ACT_COUNT.BYP (R510) -/
  | imcActCountByp (o : EvOp .imc)
  /-- IMC.BYP_CMDS.ACT (R511) -/
  | imcBypCmdsAct (o : EvOp .imc)
  /-- IMC.BYP_CMDS.CAS (R511) -/
  | imcBypCmdsCas (o : EvOp .imc)
  /-- IMC.BYP_CMDS.PRE (R511) -/
  | imcBypCmdsPre (o : EvOp .imc)
  /-- IMC.CAS_COUNT.RD_REG (R512) -/
  | imcCasCountRdReg (o : EvOp .imc)
  /-- IMC.CAS_COUNT.RD_UNDERFILL (R512) -/
  | imcCasCountRdUnderfill (o : EvOp .imc)
  /-- IMC.CAS_COUNT.RD (R512) -/
  | imcCasCountRd (o : EvOp .imc)
  /-- IMC.CAS_COUNT.WR_WMM (R512) -/
  | imcCasCountWrWmm (o : EvOp .imc)
  /-- IMC.CAS_COUNT.WR_RMM (R512) -/
  | imcCasCountWrRmm (o : EvOp .imc)
  /-- IMC.CAS_COUNT.WR (R512) -/
  | imcCasCountWr (o : EvOp .imc)
  /-- IMC.CAS_COUNT.ALL (R512) -/
  | imcCasCountAll (o : EvOp .imc)
  /-- IMC.CAS_COUNT.RD_WMM (R512) -/
  | imcCasCountRdWmm (o : EvOp .imc)
  /-- IMC.CAS_COUNT.RD_RMM (R512) -/
  | imcCasCountRdRmm (o : EvOp .imc)
  /-- IMC.DCLOCKTICKS (R513) -/
  | imcDclockticks (o : EvOp .imc)
  /-- IMC.DRAM_PRE_ALL (R514) -/
  | imcDramPreAll (o : EvOp .imc)
  /-- IMC.DRAM_REFRESH.PANIC (R515) -/
  | imcDramRefreshPanic (o : EvOp .imc)
  /-- IMC.DRAM_REFRESH.HIGH (R515) -/
  | imcDramRefreshHigh (o : EvOp .imc)
  /-- IMC.ECC_CORRECTABLE_ERRORS (R516) -/
  | imcEccCorrectableErrors (o : EvOp .imc)
  /-- IMC.MAJOR_MODES.READ (R517) -/
  | imcMajorModesRead (o : EvOp .imc)
  /-- IMC.MAJOR_MODES.WRITE (R517) -/
  | imcMajorModesWrite (o : EvOp .imc)
  /-- IMC.MAJOR_MODES.PARTIAL (R517) -/
  | imcMajorModesPartial (o : EvOp .imc)
  /-- IMC.MAJOR_MODES.ISOCH (R517) -/
  | imcMajorModesIsoch (o : EvOp .imc)
  /-- IMC.POWER_CHANNEL_DLLOFF (R518) -/
  | imcPowerChannelDlloff (o : EvOp .imc)
  /-- IMC.POWER_CHANNEL_PPD (R519) -/
  | imcPowerChannelPpd (o : EvOp .imc)
  /-- IMC.POWER_CKE_CYCLES.RANK0 (R520) -/
  | imcPowerCkeCyclesRank0 (o : EvOp .imc)
  /-- IMC.POWER_CKE_CYCLES.RANK1 (R520) -/
  | imcPowerCkeCyclesRank1 (o : EvOp .imc)
  /-- IMC.POWER_CKE_CYCLES.RANK2 (R520) -/
  | imcPowerCkeCyclesRank2 (o : EvOp .imc)
  /-- IMC.POWER_CKE_CYCLES.RANK3 (R520) -/
  | imcPowerCkeCyclesRank3 (o : EvOp .imc)
  /-- IMC.POWER_CKE_CYCLES.RANK4 (R520) -/
  | imcPowerCkeCyclesRank4 (o : EvOp .imc)
  /-- IMC.POWER_CKE_CYCLES.RANK5 (R520) -/
  | imcPowerCkeCyclesRank5 (o : EvOp .imc)
  /-- IMC.POWER_CKE_CYCLES.RANK6 (R520) -/
  | imcPowerCkeCyclesRank6 (o : EvOp .imc)
  /-- IMC.POWER_CKE_CYCLES.RANK7 (R520) -/
  | imcPowerCkeCyclesRank7 (o : EvOp .imc)
  /-- IMC.POWER_CRITICAL_THROTTLE_CYCLES (R521) -/
  | imcPowerCriticalThrottleCycles (o : EvOp .imc)
  /-- IMC.POWER_PCU_THROTTLING (R522) -/
  | imcPowerPcuThrottling (o : EvOp .imc)
  /-- IMC.POWER_SELF_REFRESH (R523) -/
  | imcPowerSelfRefresh (o : EvOp .imc)
  /-- IMC.POWER_THROTTLE_CYCLES.RANK0 (R524) -/
  | imcPowerThrottleCyclesRank0 (o : EvOp .imc)
  /-- IMC.POWER_THROTTLE_CYCLES.RANK1 (R524) -/
  | imcPowerThrottleCyclesRank1 (o : EvOp .imc)
  /-- IMC.POWER_THROTTLE_CYCLES.RANK2 (R524) -/
  | imcPowerThrottleCyclesRank2 (o : EvOp .imc)
  /-- IMC.POWER_THROTTLE_CYCLES.RANK3 (R524) -/
  | imcPowerThrottleCyclesRank3 (o : EvOp .imc)
  /-- IMC.POWER_THROTTLE_CYCLES.RANK4 (R524) -/
  | imcPowerThrottleCyclesRank4 (o : EvOp .imc)
  /-- IMC.POWER_THROTTLE_CYCLES.RANK5 (R524) -/
  | imcPowerThrottleCyclesRank5 (o : EvOp .imc)
  /-- IMC.POWER_THROTTLE_CYCLES.RANK6 (R524) -/
  | imcPowerThrottleCyclesRank6 (o : EvOp .imc)
  /-- IMC.POWER_THROTTLE_CYCLES.RANK7 (R524) -/
  | imcPowerThrottleCyclesRank7 (o : EvOp .imc)
  /-- IMC.PREEMPTION.RD_PREEMPT_RD (R525) -/
  | imcPreemptionRdPreemptRd (o : EvOp .imc)
  /-- IMC.PREEMPTION.RD_PREEMPT_WR (R525) -/
  | imcPreemptionRdPreemptWr (o : EvOp .imc)
  /-- IMC.PRE_COUNT.PAGE_MISS (R526) -/
  | imcPreCountPageMiss (o : EvOp .imc)
  /-- IMC.PRE_COUNT.PAGE_CLOSE (R526) -/
  | imcPreCountPageClose (o : EvOp .imc)
  /-- IMC.PRE_COUNT.RD (R526) -/
  | imcPreCountRd (o : EvOp .imc)
  /-- IMC.PRE_COUNT.WR (R526) -/
  | imcPreCountWr (o : EvOp .imc)
  /-- IMC.PRE_COUNT.BYP (R526) -/
  | imcPreCountByp (o : EvOp .imc)
  /-- IMC.RD_CAS_PRIO.LOW (R527) -/
  | imcRdCasPrioLow (o : EvOp .imc)
  /-- IMC.RD_CAS_PRIO.MED (R527) -/
  | imcRdCasPrioMed (o : EvOp .imc)
  /-- IMC.RD_CAS_PRIO.HIGH (R527) -/
  | imcRdCasPrioHigh (o : EvOp .imc)
  /-- IMC.RD_CAS_PRIO.PANIC (R527) -/
  | imcRdCasPrioPanic (o : EvOp .imc)
  /-- IMC.RD_CAS_RANK0.BANK0 (R528) -/
  | imcRdCasRank0Bank0 (o : EvOp .imc)
  /-- IMC.RD_CAS_RANK0.BANK1 (R528) -/
  | imcRdCasRank0Bank1 (o : EvOp .imc)
  /-- IMC.RD_CAS_RANK0.BANK2 (R528) -/
  | imcRdCasRank0Bank2 (o : EvOp .imc)
  /-- IMC.RD_CAS_RANK0.BANK3 (R528) -/
  | imcRdCasRank0Bank3 (o : EvOp .imc)
  /-- IMC.RD_CAS_RANK0.BANK4 (R528) -/
  | imcRdCasRank0Bank4 (o : EvOp .imc)
  /-- IMC.RD_CAS_RANK0.BANK5 (R528) -/
  | imcRdCasRank0Bank5 (o : EvOp .imc)
  /-- IMC.RD_CAS_RANK0.BANK6 (R528) -/
  | imcRdCasRank0Bank6 (o : EvOp .imc)
  /-- IMC.RD_CAS_RANK0.BANK7 (R528) -/
  | imcRdCasRank0Bank7 (o : EvOp .imc)
  /-- IMC.RD_CAS_RANK0.BANK8 (R528) -/
  | imcRdCasRank0Bank8 (o : EvOp .imc)
  /-- IMC.RD_CAS_RANK0.BANK9 (R528) -/
  | imcRdCasRank0Bank9 (o : EvOp .imc)
  /-- IMC.RD_CAS_RANK0.BANK10 (R528) -/
  | imcRdCasRank0Bank10 (o : EvOp .imc)
  /-- IMC.RD_CAS_RANK0.BANK11 (R528) -/
  | imcRdCasRank0Bank11 (o : EvOp .imc)
  /-- IMC.RD_CAS_RANK0.BANK12 (R528) -/
  | imcRdCasRank0Bank12 (o : EvOp .imc)
  /-- IMC.RD_CAS_RANK0.BANK13 (R528) -/
  | imcRdCasRank0Bank13 (o : EvOp .imc)
  /-- IMC.RD_CAS_RANK0.BANK14 (R528) -/
  | imcRdCasRank0Bank14 (o : EvOp .imc)
  /-- IMC.RD_CAS_RANK0.BANK15 (R528) -/
  | imcRdCasRank0Bank15 (o : EvOp .imc)
  /-- IMC.RD_CAS_RANK0.ALLBANKS (R528) -/
  | imcRdCasRank0Allbanks (o : EvOp .imc)
  /-- IMC.RD_CAS_RANK0.BANKG0 (R528) -/
  | imcRdCasRank0Bankg0 (o : EvOp .imc)
  /-- IMC.RD_CAS_RANK0.BANKG1 (R528) -/
  | imcRdCasRank0Bankg1 (o : EvOp .imc)
  /-- IMC.RD_CAS_RANK0.BANKG2 (R528) -/
  | imcRdCasRank0Bankg2 (o : EvOp .imc)
  /-- IMC.RD_CAS_RANK0.BANKG3 (R528) -/
  | imcRdCasRank0Bankg3 (o : EvOp .imc)
  /-- IMC.RD_CAS_RANK1.BANK0 (R529) -/
  | imcRdCasRank1Bank0 (o : EvOp .imc)
  /-- IMC.RD_CAS_RANK1.BANK1 (R529) -/
  | imcRdCasRank1Bank1 (o : EvOp .imc)
  /-- IMC.RD_CAS_RANK1.BANK2 (R529) -/
  | imcRdCasRank1Bank2 (o : EvOp .imc)
  /-- IMC.RD_CAS_RANK1.BANK3 (R529) -/
  | imcRdCasRank1Bank3 (o : EvOp .imc)
  /-- IMC.RD_CAS_RANK1.BANK4 (R529) -/
  | imcRdCasRank1Bank4 (o : EvOp .imc)
  /-- IMC.RD_CAS_RANK1.BANK5 (R529) -/
  | imcRdCasRank1Bank5 (o : EvOp .imc)
  /-- IMC.RD_CAS_RANK1.BANK6 (R529) -/
  | imcRdCasRank1Bank6 (o : EvOp .imc)
  /-- IMC.RD_CAS_RANK1.BANK7 (R529) -/
  | imcRdCasRank1Bank7 (o : EvOp .imc)
  /-- IMC.RD_CAS_RANK1.BANK8 (R529) -/
  | imcRdCasRank1Bank8 (o : EvOp .imc)
  /-- IMC.RD_CAS_RANK1.BANK9 (R529) -/
  | imcRdCasRank1Bank9 (o : EvOp .imc)
  /-- IMC.RD_CAS_RANK1.BANK10 (R529) -/
  | imcRdCasRank1Bank10 (o : EvOp .imc)
  /-- IMC.RD_CAS_RANK1.BANK11 (R529) -/
  | imcRdCasRank1Bank11 (o : EvOp .imc)
  /-- IMC.RD_CAS_RANK1.BANK12 (R529) -/
  | imcRdCasRank1Bank12 (o : EvOp .imc)
  /-- IMC.RD_CAS_RANK1.BANK13 (R529) -/
  | imcRdCasRank1Bank13 (o : EvOp .imc)
  /-- IMC.RD_CAS_RANK1.BANK14 (R529) -/
  | imcRdCasRank1Bank14 (o : EvOp .imc)
  /-- IMC.RD_CAS_RANK1.BANK15 (R529) -/
  | imcRdCasRank1Bank15 (o : EvOp .imc)
  /-- IMC.RD_CAS_RANK1.ALLBANKS (R529) -/
  | imcRdCasRank1Allbanks (o : EvOp .imc)
  /-- IMC.RD_CAS_RANK1.BANKG0 (R529) -/
  | imcRdCasRank1Bankg0 (o : EvOp .imc)
  /-- IMC.RD_CAS_RANK1.BANKG1 (R529) -/
  | imcRdCasRank1Bankg1 (o : EvOp .imc)
  /-- IMC.RD_CAS_RANK1.BANKG2 (R529) -/
  | imcRdCasRank1Bankg2 (o : EvOp .imc)
  /-- IMC.RD_CAS_RANK1.BANKG3 (R529) -/
  | imcRdCasRank1Bankg3 (o : EvOp .imc)
  /-- IMC.RD_CAS_RANK2.BANK0 (R530) -/
  | imcRdCasRank2Bank0 (o : EvOp .imc)
  /-- IMC.RD_CAS_RANK4.BANK0 (R531) -/
  | imcRdCasRank4Bank0 (o : EvOp .imc)
  /-- IMC.RD_CAS_RANK4.BANK1 (R531) -/
  | imcRdCasRank4Bank1 (o : EvOp .imc)
  /-- IMC.RD_CAS_RANK4.BANK2 (R531) -/
  | imcRdCasRank4Bank2 (o : EvOp .imc)
  /-- IMC.RD_CAS_RANK4.BANK3 (R531) -/
  | imcRdCasRank4Bank3 (o : EvOp .imc)
  /-- IMC.RD_CAS_RANK4.BANK4 (R531) -/
  | imcRdCasRank4Bank4 (o : EvOp .imc)
  /-- IMC.RD_CAS_RANK4.BANK5 (R531) -/
  | imcRdCasRank4Bank5 (o : EvOp .imc)
  /-- IMC.RD_CAS_RANK4.BANK6 (R531) -/
  | imcRdCasRank4Bank6 (o : EvOp .imc)
  /-- IMC.RD_CAS_RANK4.BANK7 (R531) -/
  | imcRdCasRank4Bank7 (o : EvOp .imc)
  /-- IMC.RD_CAS_RANK4.BANK8 (R531) -/
  | imcRdCasRank4Bank8 (o : EvOp .imc)
  /-- IMC.RD_CAS_RANK4.BANK9 (R531) -/
  | imcRdCasRank4Bank9 (o : EvOp .imc)
  /-- IMC.RD_CAS_RANK4.BANK10 (R531) -/
  | imcRdCasRank4Bank10 (o : EvOp .imc)
  /-- IMC.RD_CAS_RANK4.BANK11 (R531) -/
  | imcRdCasRank4Bank11 (o : EvOp .imc)
  /-- IMC.RD_CAS_RANK4.BANK12 (R531) -/
  | imcRdCasRank4Bank12 (o : EvOp .imc)
  /-- IMC.RD_CAS_RANK4.BANK13 (R531) -/
  | imcRdCasRank4Bank13 (o : EvOp .imc)
  /-- IMC.RD_CAS_RANK4.BANK14 (R531) -/
  | imcRdCasRank4Bank14 (o : EvOp .imc)
  /-- IMC.RD_CAS_RANK4.BANK15 (R531) -/
  | imcRdCasRank4Bank15 (o : EvOp .imc)
  /-- IMC.RD_CAS_RANK4.ALLBANKS (R531) -/
  | imcRdCasRank4Allbanks (o : EvOp .imc)
  /-- IMC.RD_CAS_RANK4.BANKG0 (R531) -/
  | imcRdCasRank4Bankg0 (o : EvOp .imc)
  /-- IMC.RD_CAS_RANK4.BANKG1 (R531) -/
  | imcRdCasRank4Bankg1 (o : EvOp .imc)
  /-- IMC.RD_CAS_RANK4.BANKG2 (R531) -/
  | imcRdCasRank4Bankg2 (o : EvOp .imc)
  /-- IMC.RD_CAS_RANK4.BANKG3 (R531) -/
  | imcRdCasRank4Bankg3 (o : EvOp .imc)
  /-- IMC.RD_CAS_RANK5.BANK0 (R532) -/
  | imcRdCasRank5Bank0 (o : EvOp .imc)
  /-- IMC.RD_CAS_RANK5.BANK1 (R532) -/
  | imcRdCasRank5Bank1 (o : EvOp .imc)
  /-- IMC.RD_CAS_RANK5.BANK2 (R532) -/
  | imcRdCasRank5Bank2 (o : EvOp .imc)
  /-- IMC.RD_CAS_RANK5.BANK3 (R532) -/
  | imcRdCasRank5Bank3 (o : EvOp .imc)
  /-- IMC.RD_CAS_RANK5.BANK4 (R532) -/
  | imcRdCasRank5Bank4 (o : EvOp .imc)
  /-- IMC.RD_CAS_RANK5.BANK5 (R532) -/
  | imcRdCasRank5Bank5 (o : EvOp .imc)
  /-- IMC.RD_CAS_RANK5.BANK6 (R532) -/
  | imcRdCasRank5Bank6 (o : EvOp .imc)
  /-- IMC.RD_CAS_RANK5.BANK7 (R532) -/
  | imcRdCasRank5Bank7 (o : EvOp .imc)
  /-- IMC.RD_CAS_RANK5.BANK8 (R532) -/
  | imcRdCasRank5Bank8 (o : EvOp .imc)
  /-- IMC.RD_CAS_RANK5.BANK9 (R532) -/
  | imcRdCasRank5Bank9 (o : EvOp .imc)
  /-- IMC.RD_CAS_RANK5.BANK10 (R532) -/
  | imcRdCasRank5Bank10 (o : EvOp .imc)
  /-- IMC.RD_CAS_RANK5.BANK11 (R532) -/
  | imcRdCasRank5Bank11 (o : EvOp .imc)
  /-- IMC.RD_CAS_RANK5.BANK12 (R532) -/
  | imcRdCasRank5Bank12 (o : EvOp .imc)
  /-- IMC.RD_CAS_RANK5.BANK13 (R532) -/
  | imcRdCasRank5Bank13 (o : EvOp .imc)
  /-- IMC.RD_CAS_RANK5.BANK14 (R532) -/
  | imcRdCasRank5Bank14 (o : EvOp .imc)
  /-- IMC.RD_CAS_RANK5.BANK15 (R532) -/
  | imcRdCasRank5Bank15 (o : EvOp .imc)
  /-- IMC.RD_CAS_RANK5.ALLBANKS (R532) -/
  | imcRdCasRank5Allbanks (o : EvOp .imc)
  /-- IMC.RD_CAS_RANK5.BANKG0 (R532) -/
  | imcRdCasRank5Bankg0 (o : EvOp .imc)
  /-- IMC.RD_CAS_RANK5.BANKG1 (R532) -/
  | imcRdCasRank5Bankg1 (o : EvOp .imc)
  /-- IMC.RD_CAS_RANK5.BANKG2 (R532) -/
  | imcRdCasRank5Bankg2 (o : EvOp .imc)
  /-- IMC.RD_CAS_RANK5.BANKG3 (R532) -/
  | imcRdCasRank5Bankg3 (o : EvOp .imc)
  /-- IMC.RD_CAS_RANK6.BANK0 (R533) -/
  | imcRdCasRank6Bank0 (o : EvOp .imc)
  /-- IMC.RD_CAS_RANK6.BANK1 (R533) -/
  | imcRdCasRank6Bank1 (o : EvOp .imc)
  /-- IMC.RD_CAS_RANK6.BANK2 (R533) -/
  | imcRdCasRank6Bank2 (o : EvOp .imc)
  /-- IMC.RD_CAS_RANK6.BANK3 (R533) -/
  | imcRdCasRank6Bank3 (o : EvOp .imc)
  /-- IMC.RD_CAS_RANK6.BANK4 (R533) -/
  | imcRdCasRank6Bank4 (o : EvOp .imc)
  /-- IMC.RD_CAS_RANK6.BANK5 (R533) -/
  | imcRdCasRank6Bank5 (o : EvOp .imc)
  /-- IMC.RD_CAS_RANK6.BANK6 (R533) -/
  | imcRdCasRank6Bank6 (o : EvOp .imc)
  /-- IMC.RD_CAS_RANK6.BANK7 (R533) -/
  | imcRdCasRank6Bank7 (o : EvOp .imc)
  /-- IMC.RD_CAS_RANK6.BANK8 (R533) -/
  | imcRdCasRank6Bank8 (o : EvOp .imc)
  /-- IMC.RD_CAS_RANK6.BANK9 (R533) -/
  | imcRdCasRank6Bank9 (o : EvOp .imc)
  /-- IMC.RD_CAS_RANK6.BANK10 (R533) -/
  | imcRdCasRank6Bank10 (o : EvOp .imc)
  /-- IMC.RD_CAS_RANK6.BANK11 (R533) -/
  | imcRdCasRank6Bank11 (o : EvOp .imc)
  /-- IMC.RD_CAS_RANK6.BANK12 (R533) -/
  | imcRdCasRank6Bank12 (o : EvOp .imc)
  /-- IMC.RD_CAS_RANK6.BANK13 (R533) -/
  | imcRdCasRank6Bank13 (o : EvOp .imc)
  /-- IMC.RD_CAS_RANK6.BANK14 (R533) -/
  | imcRdCasRank6Bank14 (o : EvOp .imc)
  /-- IMC.RD_CAS_RANK6.BANK15 (R533) -/
  | imcRdCasRank6Bank15 (o : EvOp .imc)
  /-- IMC.RD_CAS_RANK6.ALLBANKS (R533) -/
  | imcRdCasRank6Allbanks (o : EvOp .imc)
  /-- IMC.RD_CAS_RANK6.BANKG0 (R533) -/
  | imcRdCasRank6Bankg0 (o : EvOp .imc)
  /-- IMC.RD_CAS_RANK6.BANKG1 (R533) -/
  | imcRdCasRank6Bankg1 (o : EvOp .imc)
  /-- IMC.RD_CAS_RANK6.BANKG2 (R533) -/
  | imcRdCasRank6Bankg2 (o : EvOp .imc)
  /-- IMC.RD_CAS_RANK6.BANKG3 (R533) -/
  | imcRdCasRank6Bankg3 (o : EvOp .imc)
  /-- IMC.RD_CAS_RANK7.BANK0 (R534) -/
  | imcRdCasRank7Bank0 (o : EvOp .imc)
  /-- IMC.RD_CAS_RANK7.BANK1 (R534) -/
  | imcRdCasRank7Bank1 (o : EvOp .imc)
  /-- IMC.RD_CAS_RANK7.BANK2 (R534) -/
  | imcRdCasRank7Bank2 (o : EvOp .imc)
  /-- IMC.RD_CAS_RANK7.BANK3 (R534) -/
  | imcRdCasRank7Bank3 (o : EvOp .imc)
  /-- IMC.RD_CAS_RANK7.BANK4 (R534) -/
  | imcRdCasRank7Bank4 (o : EvOp .imc)
  /-- IMC.RD_CAS_RANK7.BANK5 (R534) -/
  | imcRdCasRank7Bank5 (o : EvOp .imc)
  /-- IMC.RD_CAS_RANK7.BANK6 (R534) -/
  | imcRdCasRank7Bank6 (o : EvOp .imc)
  /-- IMC.RD_CAS_RANK7.BANK7 (R534) -/
  | imcRdCasRank7Bank7 (o : EvOp .imc)
  /-- IMC.RD_CAS_RANK7.BANK8 (R534) -/
  | imcRdCasRank7Bank8 (o : EvOp .imc)
  /-- IMC.RD_CAS_RANK7.BANK9 (R534) -/
  | imcRdCasRank7Bank9 (o : EvOp .imc)
  /-- IMC.RD_CAS_RANK7.BANK10 (R534) -/
  | imcRdCasRank7Bank10 (o : EvOp .imc)
  /-- IMC.RD_CAS_RANK7.BANK11 (R534) -/
  | imcRdCasRank7Bank11 (o : EvOp .imc)
  /-- IMC.RD_CAS_RANK7.BANK12 (R534) -/
  | imcRdCasRank7Bank12 (o : EvOp .imc)
  /-- IMC.RD_CAS_RANK7.BANK13 (R534) -/
  | imcRdCasRank7Bank13 (o : EvOp .imc)
  /-- IMC.RD_CAS_RANK7.BANK14 (R534) -/
  | imcRdCasRank7Bank14 (o : EvOp .imc)
  /-- IMC.RD_CAS_RANK7.BANK15 (R534) -/
  | imcRdCasRank7Bank15 (o : EvOp .imc)
  /-- IMC.RD_CAS_RANK7.ALLBANKS (R534) -/
  | imcRdCasRank7Allbanks (o : EvOp .imc)
  /-- IMC.RD_CAS_RANK7.BANKG0 (R534) -/
  | imcRdCasRank7Bankg0 (o : EvOp .imc)
  /-- IMC.RD_CAS_RANK7.BANKG1 (R534) -/
  | imcRdCasRank7Bankg1 (o : EvOp .imc)
  /-- IMC.RD_CAS_RANK7.BANKG2 (R534) -/
  | imcRdCasRank7Bankg2 (o : EvOp .imc)
  /-- IMC.RD_CAS_RANK7.BANKG3 (R534) -/
  | imcRdCasRank7Bankg3 (o : EvOp .imc)
  /-- IMC.RPQ_CYCLES_NE (R535) -/
  | imcRpqCyclesNe (o : EvOp .imc)
  /-- IMC.RPQ_INSERTS (R536) -/
  | imcRpqInserts (o : EvOp .imc)
  /-- IMC.VMSE_MXB_WR_OCCUPANCY (R537) -/
  | imcVmseMxbWrOccupancy (o : EvOp .imc)
  /-- IMC.VMSE_WR_PUSH.WMM (R538) -/
  | imcVmseWrPushWmm (o : EvOp .imc)
  /-- IMC.VMSE_WR_PUSH.RMM (R538) -/
  | imcVmseWrPushRmm (o : EvOp .imc)
  /-- IMC.WMM_TO_RMM.LOW_THRESH (R539) -/
  | imcWmmToRmmLowThresh (o : EvOp .imc)
  /-- IMC.WMM_TO_RMM.STARVE (R539) -/
  | imcWmmToRmmStarve (o : EvOp .imc)
  /-- IMC.WMM_TO_RMM.VMSE_RETRY (R539) -/
  | imcWmmToRmmVmseRetry (o : EvOp .imc)
  /-- IMC.WPQ_CYCLES_FULL (R540) -/
  | imcWpqCyclesFull (o : EvOp .imc)
  /-- IMC.WPQ_CYCLES_NE (R541) -/
  | imcWpqCyclesNe (o : EvOp .imc)
  /-- IMC.WPQ_READ_HIT (R542) -/
  | imcWpqReadHit (o : EvOp .imc)
  /-- IMC.WPQ_WRITE_HIT (R543) -/
  | imcWpqWriteHit (o : EvOp .imc)
  /-- IMC.WRONG_MM (R544) -/
  | imcWrongMm (o : EvOp .imc)
  /-- IMC.WR_CAS_RANK0.BANK0 (R545) -/
  | imcWrCasRank0Bank0 (o : EvOp .imc)
  /-- IMC.WR_CAS_RANK0.BANK1 (R545) -/
  | imcWrCasRank0Bank1 (o : EvOp .imc)
  /-- IMC.WR_CAS_RANK0.BANK2 (R545) -/
  | imcWrCasRank0Bank2 (o : EvOp .imc)
  /-- IMC.WR_CAS_RANK0.BANK3 (R545) -/
  | imcWrCasRank0Bank3 (o : EvOp .imc)
  /-- IMC.WR_CAS_RANK0.BANK4 (R545) -/
  | imcWrCasRank0Bank4 (o : EvOp .imc)
  /-- IMC.WR_CAS_RANK0.BANK5 (R545) -/
  | imcWrCasRank0Bank5 (o : EvOp .imc)
  /-- IMC.WR_CAS_RANK0.BANK6 (R545) -/
  | imcWrCasRank0Bank6 (o : EvOp .imc)
  /-- IMC.WR_CAS_RANK0.BANK7 (R545) -/
  | imcWrCasRank0Bank7 (o : EvOp .imc)
  /-- IMC.WR_CAS_RANK0.BANK8 (R545) -/
  | imcWrCasRank0Bank8 (o : EvOp .imc)
  /-- IMC.WR_CAS_RANK0.BANK9 (R545) -/
  | imcWrCasRank0Bank9 (o : EvOp .imc)
  /-- IMC.WR_CAS_RANK0.BANK10 (R545) -/
  | imcWrCasRank0Bank10 (o : EvOp .imc)
  /-- IMC.WR_CAS_RANK0.BANK11 (R545) -/
  | imcWrCasRank0Bank11 (o : EvOp .imc)
  /-- IMC.WR_CAS_RANK0.BANK12 (R545) -/
  | imcWrCasRank0Bank12 (o : EvOp .imc)
  /-- IMC.WR_CAS_RANK0.BANK13 (R545) -/
  | imcWrCasRank0Bank13 (o : EvOp .imc)
  /-- IMC.WR_CAS_RANK0.BANK14 (R545) -/
  | imcWrCasRank0Bank14 (o : EvOp .imc)
  /-- IMC.WR_CAS_RANK0.BANK15 (R545) -/
  | imcWrCasRank0Bank15 (o : EvOp .imc)
  /-- IMC.WR_CAS_RANK0.ALLBANKS (R545) -/
  | imcWrCasRank0Allbanks (o : EvOp .imc)
  /-- IMC.WR_CAS_RANK0.BANKG0 (R545) -/
  | imcWrCasRank0Bankg0 (o : EvOp .imc)
  /-- IMC.WR_CAS_RANK0.BANKG1 (R545) -/
  | imcWrCasRank0Bankg1 (o : EvOp .imc)
  /-- IMC.WR_CAS_RANK0.BANKG2 (R545) -/
  | imcWrCasRank0Bankg2 (o : EvOp .imc)
  /-- IMC.WR_CAS_RANK0.BANKG3 (R545) -/
  | imcWrCasRank0Bankg3 (o : EvOp .imc)
  /-- IMC.WR_CAS_RANK1.BANK0 (R546) -/
  | imcWrCasRank1Bank0 (o : EvOp .imc)
  /-- IMC.WR_CAS_RANK1.BANK1 (R546) -/
  | imcWrCasRank1Bank1 (o : EvOp .imc)
  /-- IMC.WR_CAS_RANK1.BANK2 (R546) -/
  | imcWrCasRank1Bank2 (o : EvOp .imc)
  /-- IMC.WR_CAS_RANK1.BANK3 (R546) -/
  | imcWrCasRank1Bank3 (o : EvOp .imc)
  /-- IMC.WR_CAS_RANK1.BANK4 (R546) -/
  | imcWrCasRank1Bank4 (o : EvOp .imc)
  /-- IMC.WR_CAS_RANK1.BANK5 (R546) -/
  | imcWrCasRank1Bank5 (o : EvOp .imc)
  /-- IMC.WR_CAS_RANK1.BANK6 (R546) -/
  | imcWrCasRank1Bank6 (o : EvOp .imc)
  /-- IMC.WR_CAS_RANK1.BANK7 (R546) -/
  | imcWrCasRank1Bank7 (o : EvOp .imc)
  /-- IMC.WR_CAS_RANK1.BANK8 (R546) -/
  | imcWrCasRank1Bank8 (o : EvOp .imc)
  /-- IMC.WR_CAS_RANK1.BANK9 (R546) -/
  | imcWrCasRank1Bank9 (o : EvOp .imc)
  /-- IMC.WR_CAS_RANK1.BANK10 (R546) -/
  | imcWrCasRank1Bank10 (o : EvOp .imc)
  /-- IMC.WR_CAS_RANK1.BANK11 (R546) -/
  | imcWrCasRank1Bank11 (o : EvOp .imc)
  /-- IMC.WR_CAS_RANK1.BANK12 (R546) -/
  | imcWrCasRank1Bank12 (o : EvOp .imc)
  /-- IMC.WR_CAS_RANK1.BANK13 (R546) -/
  | imcWrCasRank1Bank13 (o : EvOp .imc)
  /-- IMC.WR_CAS_RANK1.BANK14 (R546) -/
  | imcWrCasRank1Bank14 (o : EvOp .imc)
  /-- IMC.WR_CAS_RANK1.BANK15 (R546) -/
  | imcWrCasRank1Bank15 (o : EvOp .imc)
  /-- IMC.WR_CAS_RANK1.ALLBANKS (R546) -/
  | imcWrCasRank1Allbanks (o : EvOp .imc)
  /-- IMC.WR_CAS_RANK1.BANKG0 (R546) -/
  | imcWrCasRank1Bankg0 (o : EvOp .imc)
  /-- IMC.WR_CAS_RANK1.BANKG1 (R546) -/
  | imcWrCasRank1Bankg1 (o : EvOp .imc)
  /-- IMC.WR_CAS_RANK1.BANKG2 (R546) -/
  | imcWrCasRank1Bankg2 (o : EvOp .imc)
  /-- IMC.WR_CAS_RANK1.BANKG3 (R546) -/
  | imcWrCasRank1Bankg3 (o : EvOp .imc)
  /-- IMC.WR_CAS_RANK2 (R547) -/
  | imcWrCasRank2 (o : EvOp .imc)
  /-- IMC.WR_CAS_RANK3 (R548) -/
  | imcWrCasRank3 (o : EvOp .imc)
  /-- IMC.WR_CAS_RANK4.BANK0 (R549) -/
  | imcWrCasRank4Bank0 (o : EvOp .imc)
  /-- IMC.WR_CAS_RANK4.BANK1 (R549) -/
  | imcWrCasRank4Bank1 (o : EvOp .imc)
  /-- IMC.WR_CAS_RANK4.BANK2 (R549) -/
  | imcWrCasRank4Bank2 (o : EvOp .imc)
  /-- IMC.WR_CAS_RANK4.BANK3 (R549) -/
  | imcWrCasRank4Bank3 (o : EvOp .imc)
  /-- IMC.WR_CAS_RANK4.BANK4 (R549) -/
  | imcWrCasRank4Bank4 (o : EvOp .imc)
  /-- IMC.WR_CAS_RANK4.BANK5 (R549) -/
  | imcWrCasRank4Bank5 (o : EvOp .imc)
  /-- IMC.WR_CAS_RANK4.BANK6 (R549) -/
  | imcWrCasRank4Bank6 (o : EvOp .imc)
  /-- IMC.WR_CAS_RANK4.BANK7 (R549) -/
  | imcWrCasRank4Bank7 (o : EvOp .imc)
  /-- IMC.WR_CAS_RANK4.BANK8 (R549) -/
  | imcWrCasRank4Bank8 (o : EvOp .imc)
  /-- IMC.WR_CAS_RANK4.BANK9 (R549) -/
  | imcWrCasRank4Bank9 (o : EvOp .imc)
  /-- IMC.WR_CAS_RANK4.BANK10 (R549) -/
  | imcWrCasRank4Bank10 (o : EvOp .imc)
  /-- IMC.WR_CAS_RANK4.BANK11 (R549) -/
  | imcWrCasRank4Bank11 (o : EvOp .imc)
  /-- IMC.WR_CAS_RANK4.BANK12 (R549) -/
  | imcWrCasRank4Bank12 (o : EvOp .imc)
  /-- IMC.WR_CAS_RANK4.BANK13 (R549) -/
  | imcWrCasRank4Bank13 (o : EvOp .imc)
  /-- IMC.WR_CAS_RANK4.BANK14 (R549) -/
  | imcWrCasRank4Bank14 (o : EvOp .imc)
  /-- IMC.WR_CAS_RANK4.BANK15 (R549) -/
  | imcWrCasRank4Bank15 (o : EvOp .imc)
  /-- IMC.WR_CAS_RANK4.ALLBANKS (R549) -/
  | imcWrCasRank4Allbanks (o : EvOp .imc)
  /-- IMC.WR_CAS_RANK4.BANKG0 (R549) -/
  | imcWrCasRank4Bankg0 (o : EvOp .imc)
  /-- IMC.WR_CAS_RANK4.BANKG1 (R549) -/
  | imcWrCasRank4Bankg1 (o : EvOp .imc)
  /-- IMC.WR_CAS_RANK4.BANKG2 (R549) -/
  | imcWrCasRank4Bankg2 (o : EvOp .imc)
  /-- IMC.WR_CAS_RANK4.BANKG3 (R549) -/
  | imcWrCasRank4Bankg3 (o : EvOp .imc)
  /-- IMC.WR_CAS_RANK5.BANK0 (R550) -/
  | imcWrCasRank5Bank0 (o : EvOp .imc)
  /-- IMC.WR_CAS_RANK5.BANK1 (R550) -/
  | imcWrCasRank5Bank1 (o : EvOp .imc)
  /-- IMC.WR_CAS_RANK5.BANK2 (R550) -/
  | imcWrCasRank5Bank2 (o : EvOp .imc)
  /-- IMC.WR_CAS_RANK5.BANK3 (R550) -/
  | imcWrCasRank5Bank3 (o : EvOp .imc)
  /-- IMC.WR_CAS_RANK5.BANK4 (R550) -/
  | imcWrCasRank5Bank4 (o : EvOp .imc)
  /-- IMC.WR_CAS_RANK5.BANK5 (R550) -/
  | imcWrCasRank5Bank5 (o : EvOp .imc)
  /-- IMC.WR_CAS_RANK5.BANK6 (R550) -/
  | imcWrCasRank5Bank6 (o : EvOp .imc)
  /-- IMC.WR_CAS_RANK5.BANK7 (R550) -/
  | imcWrCasRank5Bank7 (o : EvOp .imc)
  /-- IMC.WR_CAS_RANK5.BANK8 (R550) -/
  | imcWrCasRank5Bank8 (o : EvOp .imc)
  /-- IMC.WR_CAS_RANK5.BANK9 (R550) -/
  | imcWrCasRank5Bank9 (o : EvOp .imc)
  /-- IMC.WR_CAS_RANK5.BANK10 (R550) -/
  | imcWrCasRank5Bank10 (o : EvOp .imc)
  /-- IMC.WR_CAS_RANK5.BANK11 (R550) -/
  | imcWrCasRank5Bank11 (o : EvOp .imc)
  /-- IMC.WR_CAS_RANK5.BANK12 (R550) -/
  | imcWrCasRank5Bank12 (o : EvOp .imc)
  /-- IMC.WR_CAS_RANK5.BANK13 (R550) -/
  | imcWrCasRank5Bank13 (o : EvOp .imc)
  /-- IMC.WR_CAS_RANK5.BANK14 (R550) -/
  | imcWrCasRank5Bank14 (o : EvOp .imc)
  /-- IMC.WR_CAS_RANK5.BANK15 (R550) -/
  | imcWrCasRank5Bank15 (o : EvOp .imc)
  /-- IMC.WR_CAS_RANK5.ALLBANKS (R550) -/
  | imcWrCasRank5Allbanks (o : EvOp .imc)
  /-- IMC.WR_CAS_RANK5.BANKG0 (R550) -/
  | imcWrCasRank5Bankg0 (o : EvOp .imc)
  /-- IMC.WR_CAS_RANK5.BANKG1 (R550) -/
  | imcWrCasRank5Bankg1 (o : EvOp .imc)
  /-- IMC.WR_CAS_RANK5.BANKG2 (R550) -/
  | imcWrCasRank5Bankg2 (o : EvOp .imc)
  /-- IMC.WR_CAS_RANK5.BANKG3 (R550) -/
  | imcWrCasRank5Bankg3 (o : EvOp .imc)
  /-- IMC.WR_CAS_RANK6.BANK0 (R551) -/
  | imcWrCasRank6Bank0 (o : EvOp .imc)
  /-- IMC.WR_CAS_RANK6.BANK1 (R551) -/
  | imcWrCasRank6Bank1 (o : EvOp .imc)
  /-- IMC.WR_CAS_RANK6.BANK2 (R551) -/
  | imcWrCasRank6Bank2 (o : EvOp .imc)
  /-- IMC.WR_CAS_RANK6.BANK3 (R551) -/
  | imcWrCasRank6Bank3 (o : EvOp .imc)
  /-- IMC.WR_CAS_RANK6.BANK4 (R551) -/
  | imcWrCasRank6Bank4 (o : EvOp .imc)
  /-- IMC.WR_CAS_RANK6.BANK5 (R551) -/
  | imcWrCasRank6Bank5 (o : EvOp .imc)
  /-- IMC.WR_CAS_RANK6.BANK6 (R551) -/
  | imcWrCasRank6Bank6 (o : EvOp .imc)
  /-- IMC.WR_CAS_RANK6.BANK7 (R551) -/
  | imcWrCasRank6Bank7 (o : EvOp .imc)
  /-- IMC.WR_CAS_RANK6.BANK8 (R551) -/
  | imcWrCasRank6Bank8 (o : EvOp .imc)
  /-- IMC.WR_CAS_RANK6.BANK9 (R551) -/
  | imcWrCasRank6Bank9 (o : EvOp .imc)
  /-- IMC.WR_CAS_RANK6.BANK10 (R551) -/
  | imcWrCasRank6Bank10 (o : EvOp .imc)
  /-- IMC.WR_CAS_RANK6.BANK11 (R551) -/
  | imcWrCasRank6Bank11 (o : EvOp .imc)
  /-- IMC.WR_CAS_RANK6.BANK12 (R551) -/
  | imcWrCasRank6Bank12 (o : EvOp .imc)
  /-- IMC.WR_CAS_RANK6.BANK13 (R551) -/
  | imcWrCasRank6Bank13 (o : EvOp .imc)
  /-- IMC.WR_CAS_RANK6.BANK14 (R551) -/
  | imcWrCasRank6Bank14 (o : EvOp .imc)
  /-- IMC.WR_CAS_RANK6.BANK15 (R551) -/
  | imcWrCasRank6Bank15 (o : EvOp .imc)
  /-- IMC.WR_CAS_RANK6.ALLBANKS (R551) -/
  | imcWrCasRank6Allbanks (o : EvOp .imc)
  /-- IMC.WR_CAS_RANK6.BANKG0 (R551) -/
  | imcWrCasRank6Bankg0 (o : EvOp .imc)
  /-- IMC.WR_CAS_RANK6.BANKG1 (R551) -/
  | imcWrCasRank6Bankg1 (o : EvOp .imc)
  /-- IMC.WR_CAS_RANK6.BANKG2 (R551) -/
  | imcWrCasRank6Bankg2 (o : EvOp .imc)
  /-- IMC.WR_CAS_RANK6.BANKG3 (R551) -/
  | imcWrCasRank6Bankg3 (o : EvOp .imc)
  /-- IMC.WR_CAS_RANK7.BANK0 (R552) -/
  | imcWrCasRank7Bank0 (o : EvOp .imc)
  /-- IMC.WR_CAS_RANK7.BANK1 (R552) -/
  | imcWrCasRank7Bank1 (o : EvOp .imc)
  /-- IMC.WR_CAS_RANK7.BANK2 (R552) -/
  | imcWrCasRank7Bank2 (o : EvOp .imc)
  /-- IMC.WR_CAS_RANK7.BANK3 (R552) -/
  | imcWrCasRank7Bank3 (o : EvOp .imc)
  /-- IMC.WR_CAS_RANK7.BANK4 (R552) -/
  | imcWrCasRank7Bank4 (o : EvOp .imc)
  /-- IMC.WR_CAS_RANK7.BANK5 (R552) -/
  | imcWrCasRank7Bank5 (o : EvOp .imc)
  /-- IMC.WR_CAS_RANK7.BANK6 (R552) -/
  | imcWrCasRank7Bank6 (o : EvOp .imc)
  /-- IMC.WR_CAS_RANK7.BANK7 (R552) -/
  | imcWrCasRank7Bank7 (o : EvOp .imc)
  /-- IMC.WR_CAS_RANK7.BANK8 (R552) -/
  | imcWrCasRank7Bank8 (o : EvOp .imc)
  /-- IMC.WR_CAS_RANK7.BANK9 (R552) -/
  | imcWrCasRank7Bank9 (o : EvOp .imc)
  /-- IMC.WR_CAS_RANK7.BANK10 (R552) -/
  | imcWrCasRank7Bank10 (o : EvOp .imc)
  /-- IMC.WR_CAS_RANK7.BANK11 (R552) -/
  | imcWrCasRank7Bank11 (o : EvOp .imc)
  /-- IMC.WR_CAS_RANK7.BANK12 (R552) -/
  | imcWrCasRank7Bank12 (o : EvOp .imc)
  /-- IMC.WR_CAS_RANK7.BANK13 (R552) -/
  | imcWrCasRank7Bank13 (o : EvOp .imc)
  /-- IMC.WR_CAS_RANK7.BANK14 (R552) -/
  | imcWrCasRank7Bank14 (o : EvOp .imc)
  /-- IMC.WR_CAS_RANK7.BANK15 (R552) -/
  | imcWrCasRank7Bank15 (o : EvOp .imc)
  /-- IMC.WR_CAS_RANK7.ALLBANKS (R552) -/
  | imcWrCasRank7Allbanks (o : EvOp .imc)
  /-- IMC.WR_CAS_RANK7.BANKG0 (R552) -/
  | imcWrCasRank7Bankg0 (o : EvOp .imc)
  /-- IMC.WR_CAS_RANK7.BANKG1 (R552) -/
  | imcWrCasRank7Bankg1 (o : EvOp .imc)
  /-- IMC.WR_CAS_RANK7.BANKG2 (R552) -/
  | imcWrCasRank7Bankg2 (o : EvOp .imc)
  /-- IMC.WR_CAS_RANK7.BANKG3 (R552) -/
  | imcWrCasRank7Bankg3 (o : EvOp .imc)
  /-- IRP.CACHE_TOTAL_OCCUPANCY.ANY (R610) -/
  | irpCacheTotalOccupancyAny (o : EvOp .irp)
  /-- IRP.CACHE_TOTAL_OCCUPANCY.SOURCE (R610) -/
  | irpCacheTotalOccupancySource (o : EvOp .irp)
  /-- IRP.CLOCKTICKS (R611) -/
  | irpClockticks (o : EvOp .irp)
  /-- IRP.COHERENT_OPS.PCIRDCUR (R612) -/
  | irpCoherentOpsPcirdcur (o : EvOp .irp)
  /-- IRP.COHERENT_OPS.CRD (R612) -/
  | irpCoherentOpsCrd (o : EvOp .irp)
  /-- IRP.COHERENT_OPS.DRD (R612) -/
  | irpCoherentOpsDrd (o : EvOp .irp)
  /-- IRP.COHERENT_OPS.RFO (R612) -/
  | irpCoherentOpsRfo (o : EvOp .irp)
  /-- IRP.COHERENT_OPS.PCITOM (R612) -/
  | irpCoherentOpsPcitom (o : EvOp .irp)
  /-- IRP.COHERENT_OPS.PCIDCAHINT (R612) -/
  | irpCoherentOpsPcidcahint (o : EvOp .irp)
  /-- IRP.COHERENT_OPS.WBMTOI (R612) -/
  | irpCoherentOpsWbmtoi (o : EvOp .irp)
  /-- IRP.COHERENT_OPS.CLFLUSH (R612) -/
  | irpCoherentOpsClflush (o : EvOp .irp)
  /-- IRP.MISC0.FAST_REQ (R613) -/
  | irpMisc0FastReq (o : EvOp .irp)
  /-- IRP.MISC0.FAST_REJ (R613) -/
  | irpMisc0FastRej (o : EvOp .irp)
  /-- IRP.MISC0.2ND_RD_INSERT (R613) -/
  | irpMisc02ndRdInsert (o : EvOp .irp)
  /-- IRP.MISC0.2ND_WR_INSERT (R613) -/
  | irpMisc02ndWrInsert (o : EvOp .irp)
  /-- IRP.MISC0.2ND_ATOMIC_INSERT (R613) -/
  | irpMisc02ndAtomicInsert (o : EvOp .irp)
  /-- IRP.MISC0.FAST_XFER (R613) -/
  | irpMisc0FastXfer (o : EvOp .irp)
  /-- IRP.MISC0.PF_ACK_HINT (R613) -/
  | irpMisc0PfAckHint (o : EvOp .irp)
  /-- IRP.MISC0.PF_TIMEOUT (R613) -/
  | irpMisc0PfTimeout (o : EvOp .irp)
  /-- IRP.MISC1.SLOW_I (R614) -/
  | irpMisc1SlowI (o : EvOp .irp)
  /-- IRP.MISC1.SLOW_S (R614) -/
  | irpMisc1SlowS (o : EvOp .irp)
  /-- IRP.MISC1.SLOW_E (R614) -/
  | irpMisc1SlowE (o : EvOp .irp)
  /-- IRP.MISC1.SLOW_M (R614) -/
  | irpMisc1SlowM (o : EvOp .irp)
  /-- IRP.MISC1.LOST_FWD (R614) -/
  | irpMisc1LostFwd (o : EvOp .irp)
  /-- IRP.MISC1.SEC_RCVD_INVLD (R614) -/
  | irpMisc1SecRcvdInvld (o : EvOp .irp)
  /-- IRP.MISC1.SEC_RCVD_VLD (R614) -/
  | irpMisc1SecRcvdVld (o : EvOp .irp)
  /-- IRP.MISC1.DATA_THROTTLE (R614) -/
  | irpMisc1DataThrottle (o : EvOp .irp)
  /-- IRP.RxR_AK_INSERTS (R615) -/
  | irpRxRAkInserts (o : EvOp .irp)
  /-- IRP.RxR_BL_DRS_CYCLES_FULL (R616) -/
  | irpRxRBlDrsCyclesFull (o : EvOp .irp)
  /-- IRP.RxR_BL_DRS_INSERTS (R617) -/
  | irpRxRBlDrsInserts (o : EvOp .irp)
  /-- IRP.RxR_BL_DRS_OCCUPANCY (R618) -/
  | irpRxRBlDrsOccupancy (o : EvOp .irp)
  /-- IRP.RxR_BL_NCB_CYCLES_FULL (R619) -/
  | irpRxRBlNcbCyclesFull (o : EvOp .irp)
  /-- IRP.RxR_BL_NCB_INSERTS (R620) -/
  | irpRxRBlNcbInserts (o : EvOp .irp)
  /-- IRP.RxR_BL_NCB_OCCUPANCY (R621) -/
  | irpRxRBlNcbOccupancy (o : EvOp .irp)
  /-- IRP.RxR_BL_NCS_CYCLES_FULL (R622) -/
  | irpRxRBlNcsCyclesFull (o : EvOp .irp)
  /-- IRP.RxR_BL_NCS_INSERTS (R623) -/
  | irpRxRBlNcsInserts (o : EvOp .irp)
  /-- IRP.RxR_BL_NCS_OCCUPANCY (R624) -/
  | irpRxRBlNcsOccupancy (o : EvOp .irp)
  /-- IRP.SNOOP_RESP.MISS (R625) -/
  | irpSnoopRespMiss (o : EvOp .irp)
  /-- IRP.SNOOP_RESP.HIT_I (R625) -/
  | irpSnoopRespHitI (o : EvOp .irp)
  /-- IRP.SNOOP_RESP.HIT_ES (R625) -/
  | irpSnoopRespHitEs (o : EvOp .irp)
  /-- IRP.SNOOP_RESP.HIT_M (R625) -/
  | irpSnoopRespHitM (o : EvOp .irp)
  /-- IRP.SNOOP_RESP.SNPCODE (R625) -/
  | irpSnoopRespSnpcode (o : EvOp .irp)
  /-- IRP.SNOOP_RESP.SNPDATA (R625) -/
  | irpSnoopRespSnpdata (o : EvOp .irp)
  /-- IRP.SNOOP_RESP.SNPINV (R625) -/
  | irpSnoopRespSnpinv (o : EvOp .irp)
  /-- IRP.TRANSACTIONS.READS (R626) -/
  | irpTransactionsReads (o : EvOp .irp)
  /-- IRP.TRANSACTIONS.WRITES (R626) -/
  | irpTransactionsWrites (o : EvOp .irp)
  /-- IRP.TRANSACTIONS.RD_PREF (R626) -/
  | irpTransactionsRdPref (o : EvOp .irp)
  /-- IRP.TRANSACTIONS.WR_PREF (R626) -/
  | irpTransactionsWrPref (o : EvOp .irp)
  /-- IRP.TRANSACTIONS.ATOMIC (R626) -/
  | irpTransactionsAtomic (o : EvOp .irp)
  /-- IRP.TRANSACTIONS.OTHER (R626) -/
  | irpTransactionsOther (o : EvOp .irp)
  /-- IRP.TRANSACTIONS.ORDERINGQ (R626) -/
  | irpTransactionsOrderingq (o : EvOp .irp)
  /-- IRP.TxR_AD_STALL_CREDIT_CYCLES (R627) -/
  | irpTxRAdStallCreditCycles (o : EvOp .irp)
  /-- IRP.TxR_BL_STALL_CREDIT_CYCLES (R628) -/
  | irpTxRBlStallCreditCycles (o : EvOp .irp)
  /-- IRP.TxR_DATA_INSERTS_NCB (R629) -/
  | irpTxRDataInsertsNcb (o : EvOp .irp)
  /-- IRP.TxR_DATA_INSERTS_NCS (R630) -/
  | irpTxRDataInsertsNcs (o : EvOp .irp)
  /-- IRP.TxR_REQUEST_OCCUPANCY (R631) -/
  | irpTxRRequestOccupancy (o : EvOp .irp)
  /-- PCU.CLOCKTICKS (R670) -/
  | pcuClockticks (o : EvOp .pcu)
  /-- PCU.CORE0_TRANSITION_CYCLES (R671) -/
  | pcuCore0TransitionCycles (o : EvOp .pcu)
  /-- PCU.CORE10_TRANSITION_CYCLES (R672) -/
  | pcuCore10TransitionCycles (o : EvOp .pcu)
  /-- PCU.CORE11_TRANSITION_CYCLES (R673) -/
  | pcuCore11TransitionCycles (o : EvOp .pcu)
  /-- PCU.CORE12_TRANSITION_CYCLES (R674) -/
  | pcuCore12TransitionCycles (o : EvOp .pcu)
  /-- PCU.CORE13_TRANSITION_CYCLES (R675) -/
  | pcuCore13TransitionCycles (o : EvOp .pcu)
  /-- PCU.CORE14_TRANSITION_CYCLES (R676) -/
  | pcuCore14TransitionCycles (o : EvOp .pcu)
  /-- PCU.CORE15_TRANSITION_CYCLES (R677) -/
  | pcuCore15TransitionCycles (o : EvOp .pcu)
  /-- PCU.CORE16_TRANSITION_CYCLES (R678) -/
  | pcuCore16TransitionCycles (o : EvOp .pcu)
  /-- PCU.CORE17_TRANSITION_CYCLES (R679) -/
  | pcuCore17TransitionCycles (o : EvOp .pcu)
  /-- PCU.CORE1_TRANSITION_CYCLES (R680) -/
  | pcuCore1TransitionCycles (o : EvOp .pcu)
  /-- PCU.CORE2_TRANSITION_CYCLES (R681) -/
  | pcuCore2TransitionCycles (o : EvOp .pcu)
  /-- PCU.CORE3_TRANSITION_CYCLES (R682) -/
  | pcuCore3TransitionCycles (o : EvOp .pcu)
  /-- PCU.CORE4_TRANSITION_CYCLES (R683) -/
  | pcuCore4TransitionCycles (o : EvOp .pcu)
  /-- PCU.CORE5_TRANSITION_CYCLES (R684) -/
  | pcuCore5TransitionCycles (o : EvOp .pcu)
  /-- PCU.CORE6_TRANSITION_CYCLES (R685) -/
  | pcuCore6TransitionCycles (o : EvOp .pcu)
  /-- PCU.CORE7_TRANSITION_CYCLES (R686) -/
  | pcuCore7TransitionCycles (o : EvOp .pcu)
  /-- PCU.CORE8_TRANSITION_CYCLES (R687) -/
  | pcuCore8TransitionCycles (o : EvOp .pcu)
  /-- PCU.CORE9_TRANSITION_CYCLES (R688) -/
  | pcuCore9TransitionCycles (o : EvOp .pcu)
  /-- PCU.DEMOTIONS_CORE0 (R689) -/
  | pcuDemotionsCore0 (o : EvOp .pcu)
  /-- PCU.DEMOTIONS_CORE1 (R690) -/
  | pcuDemotionsCore1 (o : EvOp .pcu)
  /-- PCU.DEMOTIONS_CORE10 (R691) -/
  | pcuDemotionsCore10 (o : EvOp .pcu)
  /-- PCU.DEMOTIONS_CORE11 (R692) -/
  | pcuDemotionsCore11 (o : EvOp .pcu)
  /-- PCU.DEMOTIONS_CORE12 (R693) -/
  | pcuDemotionsCore12 (o : EvOp .pcu)
  /-- PCU.DEMOTIONS_CORE13 (R694) -/
  | pcuDemotionsCore13 (o : EvOp .pcu)
  /-- PCU.DEMOTIONS_CORE14 (R695) -/
  | pcuDemotionsCore14 (o : EvOp .pcu)
  /-- PCU.DEMOTIONS_CORE15 (R696) -/
  | pcuDemotionsCore15 (o : EvOp .pcu)
  /-- PCU.DEMOTIONS_CORE16 (R697) -/
  | pcuDemotionsCore16 (o : EvOp .pcu)
  /-- PCU.DEMOTIONS_CORE17 (R698) -/
  | pcuDemotionsCore17 (o : EvOp .pcu)
  /-- PCU.DEMOTIONS_CORE2 (R699) -/
  | pcuDemotionsCore2 (o : EvOp .pcu)
  /-- PCU.DEMOTIONS_CORE3 (R700) -/
  | pcuDemotionsCore3 (o : EvOp .pcu)
  /-- PCU.DEMOTIONS_CORE4 (R701) -/
  | pcuDemotionsCore4 (o : EvOp .pcu)
  /-- PCU.DEMOTIONS_CORE5 (R702) -/
  | pcuDemotionsCore5 (o : EvOp .pcu)
  /-- PCU.DEMOTIONS_CORE6 (R703) -/
  | pcuDemotionsCore6 (o : EvOp .pcu)
  /-- PCU.DEMOTIONS_CORE7 (R704) -/
  | pcuDemotionsCore7 (o : EvOp .pcu)
  /-- PCU.DEMOTIONS_CORE8 (R705) -/
  | pcuDemotionsCore8 (o : EvOp .pcu)
  /-- PCU.DEMOTIONS_CORE9 (R706) -/
  | pcuDemotionsCore9 (o : EvOp .pcu)
  /-- PCU.FREQ_BAND0_CYCLES (R707) -/
  | pcuFreqBand0Cycles (o : EvOp .pcu)
  /-- PCU.FREQ_BAND1_CYCLES (R708) -/
  | pcuFreqBand1Cycles (o : EvOp .pcu)
  /-- PCU.FREQ_BAND2_CYCLES (R709) -/
  | pcuFreqBand2Cycles (o : EvOp .pcu)
  /-- PCU.FREQ_BAND3_CYCLES (R710) -/
  | pcuFreqBand3Cycles (o : EvOp .pcu)
  /-- PCU.FREQ_MAX_LIMIT_THERMAL_CYCLES (R711) -/
  | pcuFreqMaxLimitThermalCycles (o : EvOp .pcu)
  /-- PCU.FREQ_MAX_OS_CYCLES (R712) -/
  | pcuFreqMaxOsCycles (o : EvOp .pcu)
  /-- PCU.FREQ_MAX_POWER_CYCLES (R713) -/
  | pcuFreqMaxPowerCycles (o : EvOp .pcu)
  /-- PCU.FREQ_MIN_IO_P_CYCLES (R714) -/
  | pcuFreqMinIoPCycles (o : EvOp .pcu)
  /-- PCU.FREQ_TRANS_CYCLES (R715) -/
  | pcuFreqTransCycles (o : EvOp .pcu)
  /-- PCU.MEMORY_PHASE_SHEDDING_CYCLES (R716) -/
  | pcuMemoryPhaseSheddingCycles (o : EvOp .pcu)
  /-- PCU.PKG_RESIDENCY_C0_CYCLES (R717) -/
  | pcuPkgResidencyC0Cycles (o : EvOp .pcu)
  /-- PCU.PKG_RESIDENCY_C1E_CYCLES (R718) -/
  | pcuPkgResidencyC1eCycles (o : EvOp .pcu)
  /-- PCU.PKG_RESIDENCY_C2E_CYCLES (R719) -/
  | pcuPkgResidencyC2eCycles (o : EvOp .pcu)
  /-- PCU.PKG_RESIDENCY_C3_CYCLES (R720) -/
  | pcuPkgResidencyC3Cycles (o : EvOp .pcu)
  /-- PCU.PKG_RESIDENCY_C6_CYCLES (R721) -/
  | pcuPkgResidencyC6Cycles (o : EvOp .pcu)
  /-- PCU.PKG_RESIDENCY_C7_CYCLES (R722) -/
  | pcuPkgResidencyC7Cycles (o : EvOp .pcu)
  /-- PCU.POWER_STATE_OCCUPANCY.CORES_C0 (R723) -/
  | pcuPowerStateOccupancyCoresC0 (o : EvOp .pcu)
  /-- PCU.POWER_STATE_OCCUPANCY.CORES_C3 (R723) -/
  | pcuPowerStateOccupancyCoresC3 (o : EvOp .pcu)
  /-- PCU.POWER_STATE_OCCUPANCY.CORES_C6 (R723) -/
  | pcuPowerStateOccupancyCoresC6 (o : EvOp .pcu)
  /-- PCU.PROCHOT_EXTERNAL_CYCLES (R724) -/
  | pcuProchotExternalCycles (o : EvOp .pcu)
  /-- PCU.PROCHOT_INTERNAL_CYCLES (R725) -/
  | pcuProchotInternalCycles (o : EvOp .pcu)
  /-- PCU.TOTAL_TRANSITION_CYCLES (R726) -/
  | pcuTotalTransitionCycles (o : EvOp .pcu)
  /-- PCU.UFS_TRANSITIONS_RING_GV (R727) -/
  | pcuUfsTransitionsRingGv (o : EvOp .pcu)
  /-- PCU.VR_HOT_CYCLES (R728) -/
  | pcuVrHotCycles (o : EvOp .pcu)
  /-- QPI.CLOCKTICKS (R780) -/
  | qpiClockticks (o : EvOp .qpi)
  /-- QPI.CTO_COUNT (R781) -/
  | qpiCtoCount (o : EvOp .qpi)
  /-- QPI.DIRECT2CORE.SUCCESS_RBT_HIT (R782) -/
  | qpiDirect2coreSuccessRbtHit (o : EvOp .qpi)
  /-- QPI.DIRECT2CORE.FAILURE_CREDITS (R782) -/
  | qpiDirect2coreFailureCredits (o : EvOp .qpi)
  /-- QPI.DIRECT2CORE.FAILURE_RBT_HIT (R782) -/
  | qpiDirect2coreFailureRbtHit (o : EvOp .qpi)
  /-- QPI.DIRECT2CORE.FAILURE_CREDITS_RBT (R782) -/
  | qpiDirect2coreFailureCreditsRbt (o : EvOp .qpi)
  /-- QPI.DIRECT2CORE.FAILURE_MISS (R782) -/
  | qpiDirect2coreFailureMiss (o : EvOp .qpi)
  /-- QPI.DIRECT2CORE.FAILURE_CREDITS_MISS (R782) -/
  | qpiDirect2coreFailureCreditsMiss (o : EvOp .qpi)
  /-- QPI.DIRECT2CORE.FAILURE_RBT_MISS (R782) -/
  | qpiDirect2coreFailureRbtMiss (o : EvOp .qpi)
  /-- QPI.DIRECT2CORE.FAILURE_CREDITS_RBT_MISS (R782) -/
  | qpiDirect2coreFailureCreditsRbtMiss (o : EvOp .qpi)
  /-- QPI.L1_POWER_CYCLES (R783) -/
  | qpiL1PowerCycles (o : EvOp .qpi)
  /-- QPI.RxL0P_POWER_CYCLES (R784) -/
  | qpiRxL0PPowerCycles (o : EvOp .qpi)
  /-- QPI.RxL0_POWER_CYCLES (R785) -/
  | qpiRxL0PowerCycles (o : EvOp .qpi)
  /-- QPI.RxL_BYPASSED (R786) -/
  | qpiRxLBypassed (o : EvOp .qpi)
  /-- QPI.RxL_CREDITS_CONSUMED_VN0.DRS (R787) -/
  | qpiRxLCreditsConsumedVn0Drs (o : EvOp .qpi)
  /-- QPI.RxL_CREDITS_CONSUMED_VN0.NCB (R787) -/
  | qpiRxLCreditsConsumedVn0Ncb (o : EvOp .qpi)
  /-- QPI.RxL_CREDITS_CONSUMED_VN0.NCS (R787) -/
  | qpiRxLCreditsConsumedVn0Ncs (o : EvOp .qpi)
  /-- QPI.RxL_CREDITS_CONSUMED_VN0.HOM (R787) -/
  | qpiRxLCreditsConsumedVn0Hom (o : EvOp .qpi)
  /-- QPI.RxL_CREDITS_CONSUMED_VN0.SNP (R787) -/
  | qpiRxLCreditsConsumedVn0Snp (o : EvOp .qpi)
  /-- QPI.RxL_CREDITS_CONSUMED_VN0.NDR (R787) -/
  | qpiRxLCreditsConsumedVn0Ndr (o : EvOp .qpi)
  /-- QPI.RxL_CREDITS_CONSUMED_VN1.DRS (R788) -/
  | qpiRxLCreditsConsumedVn1Drs (o : EvOp .qpi)
  /-- QPI.RxL_CREDITS_CONSUMED_VN1.NCB (R788) -/
  | qpiRxLCreditsConsumedVn1Ncb (o : EvOp .qpi)
  /-- QPI.RxL_CREDITS_CONSUMED_VN1.NCS (R788) -/
  | qpiRxLCreditsConsumedVn1Ncs (o : EvOp .qpi)
  /-- QPI.RxL_CREDITS_CONSUMED_VN1.HOM (R788) -/
  | qpiRxLCreditsConsumedVn1Hom (o : EvOp .qpi)
  /-- QPI.RxL_CREDITS_CONSUMED_VN1.SNP (R788) -/
  | qpiRxLCreditsConsumedVn1Snp (o : EvOp .qpi)
  /-- QPI.RxL_CREDITS_CONSUMED_VN1.NDR (R788) -/
  | qpiRxLCreditsConsumedVn1Ndr (o : EvOp .qpi)
  /-- QPI.RxL_CREDITS_CONSUMED_VNA (R789) -/
  | qpiRxLCreditsConsumedVna (o : EvOp .qpi)
  /-- QPI.RxL_CYCLES_NE (R790) -/
  | qpiRxLCyclesNe (o : EvOp .qpi)
  /-- QPI.RxL_FLITS_G1.SNP (R791) -/
  | qpiRxLFlitsG1Snp (o : EvOp .qpi)
  /-- QPI.RxL_FLITS_G1.HOM_REQ (R791) -/
  | qpiRxLFlitsG1HomReq (o : EvOp .qpi)
  /-- QPI.RxL_FLITS_G1.HOM_NONREQ (R791) -/
  | qpiRxLFlitsG1HomNonreq (o : EvOp .qpi)
  /-- QPI.RxL_FLITS_G1.HOM (R791) -/
  | qpiRxLFlitsG1Hom (o : EvOp .qpi)
  /-- QPI.RxL_FLITS_G1.DRS_DATA (R791) -/
  | qpiRxLFlitsG1DrsData (o : EvOp .qpi)
  /-- QPI.RxL_FLITS_G1.DRS_NONDATA (R791) -/
  | qpiRxLFlitsG1DrsNondata (o : EvOp .qpi)
  /-- QPI.RxL_FLITS_G1.DRS (R791) -/
  | qpiRxLFlitsG1Drs (o : EvOp .qpi)
  /-- QPI.RxL_FLITS_G2.NDR_AD (R792) -/
  | qpiRxLFlitsG2NdrAd (o : EvOp .qpi)
  /-- QPI.RxL_FLITS_G2.NDR_AK (R792) -/
  | qpiRxLFlitsG2NdrAk (o : EvOp .qpi)
  /-- QPI.RxL_FLITS_G2.NCB_DATA (R792) -/
  | qpiRxLFlitsG2NcbData (o : EvOp .qpi)
  /-- QPI.RxL_FLITS_G2.NCB_NONDATA (R792) -/
  | qpiRxLFlitsG2NcbNondata (o : EvOp .qpi)
  /-- QPI.RxL_FLITS_G2.NCB (R792) -/
  | qpiRxLFlitsG2Ncb (o : EvOp .qpi)
  /-- QPI.RxL_FLITS_G2.NCS (R792) -/
  | qpiRxLFlitsG2Ncs (o : EvOp .qpi)
  /-- QPI.RxL_INSERTS (R793) -/
  | qpiRxLInserts (o : EvOp .qpi)
  /-- QPI.RxL_INSERTS_DRS.VN0 (R794) -/
  | qpiRxLInsertsDrsVn0 (o : EvOp .qpi)
  /-- QPI.RxL_INSERTS_DRS.VN1 (R794) -/
  | qpiRxLInsertsDrsVn1 (o : EvOp .qpi)
  /-- QPI.RxL_INSERTS_HOM.VN0 (R795) -/
  | qpiRxLInsertsHomVn0 (o : EvOp .qpi)
  /-- QPI.RxL_INSERTS_HOM.VN1 (R795) -/
  | qpiRxLInsertsHomVn1 (o : EvOp .qpi)
  /-- QPI.RxL_INSERTS_NCB.VN0 (R796) -/
  | qpiRxLInsertsNcbVn0 (o : EvOp .qpi)
  /-- QPI.RxL_INSERTS_NCB.VN1 (R796) -/
  | qpiRxLInsertsNcbVn1 (o : EvOp .qpi)
  /-- QPI.RxL_INSERTS_NCS.VN0 (R797) -/
  | qpiRxLInsertsNcsVn0 (o : EvOp .qpi)
  /-- QPI.RxL_INSERTS_NCS.VN1 (R797) -/
  | qpiRxLInsertsNcsVn1 (o : EvOp .qpi)
  /-- QPI.RxL_INSERTS_NDR.VN0 (R798) -/
  | qpiRxLInsertsNdrVn0 (o : EvOp .qpi)
  /-- QPI.RxL_INSERTS_NDR.VN1 (R798) -/
  | qpiRxLInsertsNdrVn1 (o : EvOp .qpi)
  /-- QPI.RxL_INSERTS_SNP.VN0 (R799) -/
  | qpiRxLInsertsSnpVn0 (o : EvOp .qpi)
  /-- QPI.RxL_INSERTS_SNP.VN1 (R799) -/
  | qpiRxLInsertsSnpVn1 (o : EvOp .qpi)
  /-- QPI.RxL_OCCUPANCY (R800) -/
  | qpiRxLOccupancy (o : EvOp .qpi)
  /-- QPI.RxL_OCCUPANCY_DRS.VN0 (R801) -/
  | qpiRxLOccupancyDrsVn0 (o : EvOp .qpi)
  /-- QPI.RxL_OCCUPANCY_DRS.VN1 (R801) -/
  | qpiRxLOccupancyDrsVn1 (o : EvOp .qpi)
  /-- QPI.RxL_OCCUPANCY_HOM.VN0 (R802) -/
  | qpiRxLOccupancyHomVn0 (o : EvOp .qpi)
  /-- QPI.RxL_OCCUPANCY_HOM.VN1 (R802) -/
  | qpiRxLOccupancyHomVn1 (o : EvOp .qpi)
  /-- QPI.RxL_OCCUPANCY_NCB.VN0 (R803) -/
  | qpiRxLOccupancyNcbVn0 (o : EvOp .qpi)
  /-- QPI.RxL_OCCUPANCY_NCB.VN1 (R803) -/
  | qpiRxLOccupancyNcbVn1 (o : EvOp .qpi)
  /-- QPI.RxL_OCCUPANCY_NCS.VN0 (R804) -/
  | qpiRxLOccupancyNcsVn0 (o : EvOp .qpi)
  /-- QPI.RxL_OCCUPANCY_NCS.VN1 (R804) -/
  | qpiRxLOccupancyNcsVn1 (o : EvOp .qpi)
  /-- QPI.RxL_OCCUPANCY_NDR.VN0 (R805) -/
  | qpiRxLOccupancyNdrVn0 (o : EvOp .qpi)
  /-- QPI.RxL_OCCUPANCY_NDR.VN1 (R805) -/
  | qpiRxLOccupancyNdrVn1 (o : EvOp .qpi)
  /-- QPI.RxL_OCCUPANCY_SNP.VN0 (R806) -/
  | qpiRxLOccupancySnpVn0 (o : EvOp .qpi)
  /-- QPI.RxL_OCCUPANCY_SNP.VN1 (R806) -/
  | qpiRxLOccupancySnpVn1 (o : EvOp .qpi)
  /-- QPI.TxL0P_POWER_CYCLES (R807) -/
  | qpiTxL0PPowerCycles (o : EvOp .qpi)
  /-- QPI.TxL0_POWER_CYCLES (R808) -/
  | qpiTxL0PowerCycles (o : EvOp .qpi)
  /-- QPI.TxL_BYPASSED (R809) -/
  | qpiTxLBypassed (o : EvOp .qpi)
  /-- QPI.TxL_CYCLES_NE (R810) -/
  | qpiTxLCyclesNe (o : EvOp .qpi)
  /-- QPI.TxL_FLITS_G0.DATA (R811) -/
  | qpiTxLFlitsG0Data (o : EvOp .qpi)
  /-- QPI.TxL_FLITS_G0.NON_DATA (R811) -/
  | qpiTxLFlitsG0NonData (o : EvOp .qpi)
  /-- QPI.TxL_FLITS_G1.SNP (R812) -/
  | qpiTxLFlitsG1Snp (o : EvOp .qpi)
  /-- QPI.TxL_FLITS_G1.HOM_REQ (R812) -/
  | qpiTxLFlitsG1HomReq (o : EvOp .qpi)
  /-- QPI.TxL_FLITS_G1.HOM_NONREQ (R812) -/
  | qpiTxLFlitsG1HomNonreq (o : EvOp .qpi)
  /-- QPI.TxL_FLITS_G1.HOM (R812) -/
  | qpiTxLFlitsG1Hom (o : EvOp .qpi)
  /-- QPI.TxL_FLITS_G1.DRS_DATA (R812) -/
  | qpiTxLFlitsG1DrsData (o : EvOp .qpi)
  /-- QPI.TxL_FLITS_G1.DRS_NONDATA (R812) -/
  | qpiTxLFlitsG1DrsNondata (o : EvOp .qpi)
  /-- QPI.TxL_FLITS_G1.DRS (R812) -/
  | qpiTxLFlitsG1Drs (o : EvOp .qpi)
  /-- QPI.TxL_FLITS_G2.NDR_AD (R813) -/
  | qpiTxLFlitsG2NdrAd (o : EvOp .qpi)
  /-- QPI.TxL_FLITS_G2.NDR_AK (R813) -/
  | qpiTxLFlitsG2NdrAk (o : EvOp .qpi)
  /-- QPI.TxL_FLITS_G2.NCB_DATA (R813) -/
  | qpiTxLFlitsG2NcbData (o : EvOp .qpi)
  /-- QPI.TxL_FLITS_G2.NCB_NONDATA (R813) -/
  | qpiTxLFlitsG2NcbNondata (o : EvOp .qpi)
  /-- QPI.TxL_FLITS_G2.NCB (R813) -/
  | qpiTxLFlitsG2Ncb (o : EvOp .qpi)
  /-- QPI.TxL_FLITS_G2.NCS (R813) -/
  | qpiTxLFlitsG2Ncs (o : EvOp .qpi)
  /-- QPI.TxL_INSERTS (R814) -/
  | qpiTxLInserts (o : EvOp .qpi)
  /-- QPI.TxL_OCCUPANCY (R815) -/
  | qpiTxLOccupancy (o : EvOp .qpi)
  /-- QPI.TxR_AD_HOM_CREDIT_ACQUIRED.VN0 (R816) -/
  | qpiTxRAdHomCreditAcquiredVn0 (o : EvOp .qpi)
  /-- QPI.TxR_AD_HOM_CREDIT_ACQUIRED.VN1 (R816) -/
  | qpiTxRAdHomCreditAcquiredVn1 (o : EvOp .qpi)
  /-- QPI.TxR_AD_HOM_CREDIT_OCCUPANCY.VN0 (R817) -/
  | qpiTxRAdHomCreditOccupancyVn0 (o : EvOp .qpi)
  /-- QPI.TxR_AD_HOM_CREDIT_OCCUPANCY.VN1 (R817) -/
  | qpiTxRAdHomCreditOccupancyVn1 (o : EvOp .qpi)
  /-- QPI.TxR_AD_NDR_CREDIT_ACQUIRED.VN0 (R818) -/
  | qpiTxRAdNdrCreditAcquiredVn0 (o : EvOp .qpi)
  /-- QPI.TxR_AD_NDR_CREDIT_ACQUIRED.VN1 (R818) -/
  | qpiTxRAdNdrCreditAcquiredVn1 (o : EvOp .qpi)
  /-- QPI.TxR_AD_NDR_CREDIT_OCCUPANCY.VN0 (R819) -/
  | qpiTxRAdNdrCreditOccupancyVn0 (o : EvOp .qpi)
  /-- QPI.TxR_AD_NDR_CREDIT_OCCUPANCY.VN1 (R819) -/
  | qpiTxRAdNdrCreditOccupancyVn1 (o : EvOp .qpi)
  /-- QPI.TxR_AD_SNP_CREDIT_ACQUIRED.VN0 (R820) -/
  | qpiTxRAdSnpCreditAcquiredVn0 (o : EvOp .qpi)
  /-- QPI.TxR_AD_SNP_CREDIT_ACQUIRED.VN1 (R820) -/
  | qpiTxRAdSnpCreditAcquiredVn1 (o : EvOp .qpi)
  /-- QPI.TxR_AD_SNP_CREDIT_OCCUPANCY.VN0 (R821) -/
  | qpiTxRAdSnpCreditOccupancyVn0 (o : EvOp .qpi)
  /-- QPI.TxR_AD_SNP_CREDIT_OCCUPANCY.VN1 (R821) -/
  | qpiTxRAdSnpCreditOccupancyVn1 (o : EvOp .qpi)
  /-- QPI.TxR_AK_NDR_CREDIT_ACQUIRED (R822) -/
  | qpiTxRAkNdrCreditAcquired (o : EvOp .qpi)
  /-- QPI.TxR_AK_NDR_CREDIT_OCCUPANCY (R823) -/
  | qpiTxRAkNdrCreditOccupancy (o : EvOp .qpi)
  /-- QPI.TxR_BL_DRS_CREDIT_ACQUIRED.VN0 (R824) -/
  | qpiTxRBlDrsCreditAcquiredVn0 (o : EvOp .qpi)
  /-- QPI.TxR_BL_DRS_CREDIT_ACQUIRED.VN1 (R824) -/
  | qpiTxRBlDrsCreditAcquiredVn1 (o : EvOp .qpi)
  /-- QPI.TxR_BL_DRS_CREDIT_ACQUIRED.VN_SHR (R824) -/
  | qpiTxRBlDrsCreditAcquiredVnShr (o : EvOp .qpi)
  /-- QPI.TxR_BL_DRS_CREDIT_OCCUPANCY.VN0 (R825) -/
  | qpiTxRBlDrsCreditOccupancyVn0 (o : EvOp .qpi)
  /-- QPI.TxR_BL_DRS_CREDIT_OCCUPANCY.VN1 (R825) -/
  | qpiTxRBlDrsCreditOccupancyVn1 (o : EvOp .qpi)
  /-- QPI.TxR_BL_DRS_CREDIT_OCCUPANCY.VN_SHR (R825) -/
  | qpiTxRBlDrsCreditOccupancyVnShr (o : EvOp .qpi)
  /-- QPI.TxR_BL_NCB_CREDIT_ACQUIRED.VN0 (R826) -/
  | qpiTxRBlNcbCreditAcquiredVn0 (o : EvOp .qpi)
  /-- QPI.TxR_BL_NCB_CREDIT_ACQUIRED.VN1 (R826) -/
  | qpiTxRBlNcbCreditAcquiredVn1 (o : EvOp .qpi)
  /-- QPI.TxR_BL_NCB_CREDIT_OCCUPANCY.VN0 (R827) -/
  | qpiTxRBlNcbCreditOccupancyVn0 (o : EvOp .qpi)
  /-- QPI.TxR_BL_NCB_CREDIT_OCCUPANCY.VN1 (R827) -/
  | qpiTxRBlNcbCreditOccupancyVn1 (o : EvOp .qpi)
  /-- QPI.TxR_BL_NCS_CREDIT_ACQUIRED.VN0 (R828) -/
  | qpiTxRBlNcsCreditAcquiredVn0 (o : EvOp .qpi)
  /-- QPI.TxR_BL_NCS_CREDIT_ACQUIRED.VN1 (R828) -/
  | qpiTxRBlNcsCreditAcquiredVn1 (o : EvOp .qpi)
  /-- QPI.TxR_BL_NCS_CREDIT_OCCUPANCY.VN0 (R829) -/
  | qpiTxRBlNcsCreditOccupancyVn0 (o : EvOp .qpi)
  /-- QPI.TxR_BL_NCS_CREDIT_OCCUPANCY.VN1 (R829) -/
  | qpiTxRBlNcsCreditOccupancyVn1 (o : EvOp .qpi)
  /-- QPI.VNA_CREDIT_RETURNS (R830) -/
  | qpiVnaCreditReturns (o : EvOp .qpi)
  /-- QPI.VNA_CREDIT_RETURN_OCCUPANCY (R831) -/
  | qpiVnaCreditReturnOccupancy (o : EvOp .qpi)
  /-- R2PCIe.CLOCKTICKS (R880) -/
  | r2PCIeClockticks (o : EvOp .r2)
  /-- R2PCIe.IIO_CREDIT.PRQ_QPI0 (R881) -/
  | r2PCIeIioCreditPrqQpi0 (o : EvOp .r2)
  /-- R2PCIe.IIO_CREDIT.PRQ_QPI1 (R881) -/
  | r2PCIeIioCreditPrqQpi1 (o : EvOp .r2)
  /-- R2PCIe.IIO_CREDIT.ISOCH_QPI0 (R881) -/
  | r2PCIeIioCreditIsochQpi0 (o : EvOp .r2)
  /-- R2PCIe.IIO_CREDIT.ISOCH_QPI1 (R881) -/
  | r2PCIeIioCreditIsochQpi1 (o : EvOp .r2)
  /-- R2PCIe.RING_AD_USED.CW_EVEN (R882) -/
  | r2PCIeRingAdUsedCwEven (o : EvOp .r2)
  /-- R2PCIe.RING_AD_USED.CW_ODD (R882) -/
  | r2PCIeRingAdUsedCwOdd (o : EvOp .r2)
  /-- R2PCIe.RING_AD_USED.CW (R882) -/
  | r2PCIeRingAdUsedCw (o : EvOp .r2)
  /-- R2PCIe.RING_AD_USED.CCW_EVEN (R882) -/
  | r2PCIeRingAdUsedCcwEven (o : EvOp .r2)
  /-- R2PCIe.RING_AD_USED.CCW_ODD (R882) -/
  | r2PCIeRingAdUsedCcwOdd (o : EvOp .r2)
  /-- R2PCIe.RING_AD_USED.CCW (R882) -/
  | r2PCIeRingAdUsedCcw (o : EvOp .r2)
  /-- R2PCIe.RING_AK_BOUNCES.UP (R883) -/
  | r2PCIeRingAkBouncesUp (o : EvOp .r2)
  /-- R2PCIe.RING_AK_BOUNCES.DN (R883) -/
  | r2PCIeRingAkBouncesDn (o : EvOp .r2)
  /-- R2PCIe.RING_AK_USED.CW_EVEN (R884) -/
  | r2PCIeRingAkUsedCwEven (o : EvOp .r2)
  /-- R2PCIe.RING_AK_USED.CW_ODD (R884) -/
  | r2PCIeRingAkUsedCwOdd (o : EvOp .r2)
  /-- R2PCIe.RING_AK_USED.CW (R884) -/
  | r2PCIeRingAkUsedCw (o : EvOp .r2)
  /-- R2PCIe.RING_AK_USED.CCW_EVEN (R884) -/
  | r2PCIeRingAkUsedCcwEven (o : EvOp .r2)
  /-- R2PCIe.RING_AK_USED.CCW_ODD (R884) -/
  | r2PCIeRingAkUsedCcwOdd (o : EvOp .r2)
  /-- R2PCIe.RING_AK_USED.CCW (R884) -/
  | r2PCIeRingAkUsedCcw (o : EvOp .r2)
  /-- R2PCIe.RING_BL_USED.CW_EVEN (R885) -/
  | r2PCIeRingBlUsedCwEven (o : EvOp .r2)
  /-- R2PCIe.RING_BL_USED.CW_ODD (R885) -/
  | r2PCIeRingBlUsedCwOdd (o : EvOp .r2)
  /-- R2PCIe.RING_BL_USED.CW (R885) -/
  | r2PCIeRingBlUsedCw (o : EvOp .r2)
  /-- R2PCIe.RING_BL_USED.CCW_EVEN (R885) -/
  | r2PCIeRingBlUsedCcwEven (o : EvOp .r2)
  /-- R2PCIe.RING_BL_USED.CCW_ODD (R885) -/
  | r2PCIeRingBlUsedCcwOdd (o : EvOp .r2)
  /-- R2PCIe.RING_BL_USED.CCW (R885) -/
  | r2PCIeRingBlUsedCcw (o : EvOp .r2)
  /-- R2PCIe.RING_IV_USED.CW (R886) -/
  | r2PCIeRingIvUsedCw (o : EvOp .r2)
  /-- R2PCIe.RING_IV_USED.CCW (R886) -/
  | r2PCIeRingIvUsedCcw (o : EvOp .r2)
  /-- R2PCIe.RING_IV_USED.ANY (R886) -/
  | r2PCIeRingIvUsedAny (o : EvOp .r2)
  /-- R2PCIe.RxR_CYCLES_NE.NCB (R887) -/
  | r2PCIeRxRCyclesNeNcb (o : EvOp .r2)
  /-- R2PCIe.RxR_CYCLES_NE.NCS (R887) -/
  | r2PCIeRxRCyclesNeNcs (o : EvOp .r2)
  /-- R2PCIe.RxR_INSERTS.NCB (R888) -/
  | r2PCIeRxRInsertsNcb (o : EvOp .r2)
  /-- R2PCIe.RxR_INSERTS.NCS (R888) -/
  | r2PCIeRxRInsertsNcs (o : EvOp .r2)
  /-- R2PCIe.RxR_OCCUPANCY.DRS (R889) -/
  | r2PCIeRxROccupancyDrs (o : EvOp .r2)
  /-- R2PCIe.SBO0_CREDITS_ACQUIRED.AD (R890) -/
  | r2PCIeSbo0CreditsAcquiredAd (o : EvOp .r2)
  /-- R2PCIe.SBO0_CREDITS_ACQUIRED.BL (R890) -/
  | r2PCIeSbo0CreditsAcquiredBl (o : EvOp .r2)
  /-- R2PCIe.STALL_NO_SBO_CREDIT.SBO0_AD (R891) -/
  | r2PCIeStallNoSboCreditSbo0Ad (o : EvOp .r2)
  /-- R2PCIe.STALL_NO_SBO_CREDIT.SBO1_AD (R891) -/
  | r2PCIeStallNoSboCreditSbo1Ad (o : EvOp .r2)
  /-- R2PCIe.STALL_NO_SBO_CREDIT.SBO0_BL (R891) -/
  | r2PCIeStallNoSboCreditSbo0Bl (o : EvOp .r2)
  /-- R2PCIe.STALL_NO_SBO_CREDIT.SBO1_BL (R891) -/
  | r2PCIeStallNoSboCreditSbo1Bl (o : EvOp .r2)
  /-- R2PCIe.TxR_NACK_CW.DN_AD (R892) -/
  | r2PCIeTxRNackCwDnAd (o : EvOp .r2)
  /-- R2PCIe.TxR_NACK_CW.DN_BL (R892) -/
  | r2PCIeTxRNackCwDnBl (o : EvOp .r2)
  /-- R2PCIe.TxR_NACK_CW.DN_AK (R892) -/
  | r2PCIeTxRNackCwDnAk (o : EvOp .r2)
  /-- R2PCIe.TxR_NACK_CW.UP_AD (R892) -/
  | r2PCIeTxRNackCwUpAd (o : EvOp .r2)
  /-- R2PCIe.TxR_NACK_CW.UP_BL (R892) -/
  | r2PCIeTxRNackCwUpBl (o : EvOp .r2)
  /-- R2PCIe.TxR_NACK_CW.UP_AK (R892) -/
  | r2PCIeTxRNackCwUpAk (o : EvOp .r2)
  /-- R3QPI.CLOCKTICKS (R930) -/
  | r3qpiClockticks (o : EvOp .r3)
  /-- R3QPI.C_HI_AD_CREDITS_EMPTY.CBO8 (R931) -/
  | r3qpiCHiAdCreditsEmptyCbo8 (o : EvOp .r3)
  /-- R3QPI.C_HI_AD_CREDITS_EMPTY.CB09 (R931) -/
  | r3qpiCHiAdCreditsEmptyCb09 (o : EvOp .r3)
  /-- R3QPI.C_HI_AD_CREDITS_EMPTY.CBO10 (R931) -/
  | r3qpiCHiAdCreditsEmptyCbo10 (o : EvOp .r3)
  /-- R3QPI.C_HI_AD_CREDITS_EMPTY.CB011 (R931) -/
  | r3qpiCHiAdCreditsEmptyCb011 (o : EvOp .r3)
  /-- R3QPI.C_HI_AD_CREDITS_EMPTY.CBO12 (R931) -/
  | r3qpiCHiAdCreditsEmptyCbo12 (o : EvOp .r3)
  /-- R3QPI.C_HI_AD_CREDITS_EMPTY.CBO13 (R931) -/
  | r3qpiCHiAdCreditsEmptyCbo13 (o : EvOp .r3)
  /-- R3QPI.C_HI_AD_CREDITS_EMPTY.CBO14_16 (R931) -/
  | r3qpiCHiAdCreditsEmptyCbo1416 (o : EvOp .r3)
  /-- R3QPI.C_HI_AD_CREDITS_EMPTY.CBO_15_17 (R931) -/
  | r3qpiCHiAdCreditsEmptyCbo1517 (o : EvOp .r3)
  /-- R3QPI.C_LO_AD_CREDITS_EMPTY.CBO0 (R932) -/
  | r3qpiCLoAdCreditsEmptyCbo0 (o : EvOp .r3)
  /-- R3QPI.C_LO_AD_CREDITS_EMPTY.CBO1 (R932) -/
  | r3qpiCLoAdCreditsEmptyCbo1 (o : EvOp .r3)
  /-- R3QPI.C_LO_AD_CREDITS_EMPTY.CBO2 (R932) -/
  | r3qpiCLoAdCreditsEmptyCbo2 (o : EvOp .r3)
  /-- R3QPI.C_LO_AD_CREDITS_EMPTY.CBO3 (R932) -/
  | r3qpiCLoAdCreditsEmptyCbo3 (o : EvOp .r3)
  /-- R3QPI.C_LO_AD_CREDITS_EMPTY.CB04 (R932) -/
  | r3qpiCLoAdCreditsEmptyCb04 (o : EvOp .r3)
  /-- R3QPI.C_LO_AD_CREDITS_EMPTY.CB05 (R932) -/
  | r3qpiCLoAdCreditsEmptyCb05 (o : EvOp .r3)
  /-- R3QPI.C_LO_AD_CREDITS_EMPTY.CB06 (R932) -/
  | r3qpiCLoAdCreditsEmptyCb06 (o : EvOp .r3)
  /-- R3QPI.C_LO_AD_CREDITS_EMPTY.CB07 (R932) -/
  | r3qpiCLoAdCreditsEmptyCb07 (o : EvOp .r3)
  /-- R3QPI.HA_R2_BL_CREDITS_EMPTY.HA0 (R933) -/
  | r3qpiHaR2BlCreditsEmptyHa0 (o : EvOp .r3)
  /-- R3QPI.HA_R2_BL_CREDITS_EMPTY.HA1 (R933) -/
  | r3qpiHaR2BlCreditsEmptyHa1 (o : EvOp .r3)
  /-- R3QPI.HA_R2_BL_CREDITS_EMPTY.R2_NCB (R933) -/
  | r3qpiHaR2BlCreditsEmptyR2Ncb (o : EvOp .r3)
  /-- R3QPI.HA_R2_BL_CREDITS_EMPTY.R2_NCS (R933) -/
  | r3qpiHaR2BlCreditsEmptyR2Ncs (o : EvOp .r3)
  /-- R3QPI.QPI0_AD_CREDITS_EMPTY.VNA (R934) -/
  | r3qpiQpi0AdCreditsEmptyVna (o : EvOp .r3)
  /-- R3QPI.QPI0_AD_CREDITS_EMPTY.VN0_HOM (R934) -/
  | r3qpiQpi0AdCreditsEmptyVn0Hom (o : EvOp .r3)
  /-- R3QPI.QPI0_AD_CREDITS_EMPTY.VN0_SNP (R934) -/
  | r3qpiQpi0AdCreditsEmptyVn0Snp (o : EvOp .r3)
  /-- R3QPI.QPI0_AD_CREDITS_EMPTY.VN0_NDR (R934) -/
  | r3qpiQpi0AdCreditsEmptyVn0Ndr (o : EvOp .r3)
  /-- R3QPI.QPI0_AD_CREDITS_EMPTY.VN1_HOM (R934) -/
  | r3qpiQpi0AdCreditsEmptyVn1Hom (o : EvOp .r3)
  /-- R3QPI.QPI0_AD_CREDITS_EMPTY.VN1_SNP (R934) -/
  | r3qpiQpi0AdCreditsEmptyVn1Snp (o : EvOp .r3)
  /-- R3QPI.QPI0_AD_CREDITS_EMPTY.VN1_NDR (R934) -/
  | r3qpiQpi0AdCreditsEmptyVn1Ndr (o : EvOp .r3)
  /-- R3QPI.QPI0_BL_CREDITS_EMPTY.VNA (R935) -/
  | r3qpiQpi0BlCreditsEmptyVna (o : EvOp .r3)
  /-- R3QPI.QPI0_BL_CREDITS_EMPTY.VN1_HOM (R935) -/
  | r3qpiQpi0BlCreditsEmptyVn1Hom (o : EvOp .r3)
  /-- R3QPI.QPI0_BL_CREDITS_EMPTY.VN1_SNP (R935) -/
  | r3qpiQpi0BlCreditsEmptyVn1Snp (o : EvOp .r3)
  /-- R3QPI.QPI0_BL_CREDITS_EMPTY.VN1_NDR (R935) -/
  | r3qpiQpi0BlCreditsEmptyVn1Ndr (o : EvOp .r3)
  /-- R3QPI.QPI1_AD_CREDITS_EMPTY.VNA (R936) -/
  | r3qpiQpi1AdCreditsEmptyVna (o : EvOp .r3)
  /-- R3QPI.QPI1_AD_CREDITS_EMPTY.VN1_HOM (R936) -/
  | r3qpiQpi1AdCreditsEmptyVn1Hom (o : EvOp .r3)
  /-- R3QPI.QPI1_AD_CREDITS_EMPTY.VN1_SNP (R936) -/
  | r3qpiQpi1AdCreditsEmptyVn1Snp (o : EvOp .r3)
  /-- R3QPI.QPI1_AD_CREDITS_EMPTY.VN1_NDR (R936) -/
  | r3qpiQpi1AdCreditsEmptyVn1Ndr (o : EvOp .r3)
  /-- R3QPI.QPI1_BL_CREDITS_EMPTY.VNA (R937) -/
  | r3qpiQpi1BlCreditsEmptyVna (o : EvOp .r3)
  /-- R3QPI.QPI1_BL_CREDITS_EMPTY.VN0_HOM (R937) -/
  | r3qpiQpi1BlCreditsEmptyVn0Hom (o : EvOp .r3)
  /-- R3QPI.QPI1_BL_CREDITS_EMPTY.VN0_SNP (R937) -/
  | r3qpiQpi1BlCreditsEmptyVn0Snp (o : EvOp .r3)
  /-- R3QPI.QPI1_BL_CREDITS_EMPTY.VN0_NDR (R937) -/
  | r3qpiQpi1BlCreditsEmptyVn0Ndr (o : EvOp .r3)
  /-- R3QPI.QPI1_BL_CREDITS_EMPTY.VN1_HOM (R937) -/
  | r3qpiQpi1BlCreditsEmptyVn1Hom (o : EvOp .r3)
  /-- R3QPI.QPI1_BL_CREDITS_EMPTY.VN1_SNP (R937) -/
  | r3qpiQpi1BlCreditsEmptyVn1Snp (o : EvOp .r3)
  /-- R3QPI.QPI1_BL_CREDITS_EMPTY.VN1_NDR (R937) -/
  | r3qpiQpi1BlCreditsEmptyVn1Ndr (o : EvOp .r3)
  /-- R3QPI.RING_AD_USED.CW_EVEN (R938) -/
  | r3qpiRingAdUsedCwEven (o : EvOp .r3)
  /-- R3QPI.RING_AD_USED.CW_ODD (R938) -/
  | r3qpiRingAdUsedCwOdd (o : EvOp .r3)
  /-- R3QPI.RING_AD_USED.CW (R938) -/
  | r3qpiRingAdUsedCw (o : EvOp .r3)
  /-- R3QPI.RING_AD_USED.CCW_EVEN (R938) -/
  | r3qpiRingAdUsedCcwEven (o : EvOp .r3)
  /-- R3QPI.RING_AD_USED.CCW_ODD (R938) -/
  | r3qpiRingAdUsedCcwOdd (o : EvOp .r3)
  /-- R3QPI.RING_AD_USED.CCW (R938) -/
  | r3qpiRingAdUsedCcw (o : EvOp .r3)
  /-- R3QPI.RING_AK_USED.CW_EVEN (R939) -/
  | r3qpiRingAkUsedCwEven (o : EvOp .r3)
  /-- R3QPI.RING_AK_USED.CW_ODD (R939) -/
  | r3qpiRingAkUsedCwOdd (o : EvOp .r3)
  /-- R3QPI.RING_AK_USED.CW (R939) -/
  | r3qpiRingAkUsedCw (o : EvOp .r3)
  /-- R3QPI.RING_AK_USED.CCW_EVEN (R939) -/
  | r3qpiRingAkUsedCcwEven (o : EvOp .r3)
  /-- R3QPI.RING_AK_USED.CCW_ODD (R939) -/
  | r3qpiRingAkUsedCcwOdd (o : EvOp .r3)
  /-- R3QPI.RING_AK_USED.CCW (R939) -/
  | r3qpiRingAkUsedCcw (o : EvOp .r3)
  /-- R3QPI.RING_BL_USED.CW_EVEN (R940) -/
  | r3qpiRingBlUsedCwEven (o : EvOp .r3)
  /-- R3QPI.RING_BL_USED.CW_ODD (R940) -/
  | r3qpiRingBlUsedCwOdd (o : EvOp .r3)
  /-- R3QPI.RING_BL_USED.CW (R940) -/
  | r3qpiRingBlUsedCw (o : EvOp .r3)
  /-- R3QPI.RING_BL_USED.CCW_EVEN (R940) -/
  | r3qpiRingBlUsedCcwEven (o : EvOp .r3)
  /-- R3QPI.RING_BL_USED.CCW_ODD (R940) -/
  | r3qpiRingBlUsedCcwOdd (o : EvOp .r3)
  /-- R3QPI.RING_BL_USED.CCW (R940) -/
  | r3qpiRingBlUsedCcw (o : EvOp .r3)
  /-- R3QPI.RING_IV_USED.CW (R941) -/
  | r3qpiRingIvUsedCw (o : EvOp .r3)
  /-- R3QPI.RING_IV_USED.ANY (R941) -/
  | r3qpiRingIvUsedAny (o : EvOp .r3)
  /-- R3QPI.RING_SINK_STARVED.AK (R942) -/
  | r3qpiRingSinkStarvedAk (o : EvOp .r3)
  /-- R3QPI.RxR_CYCLES_NE.HOM (R943) -/
  | r3qpiRxRCyclesNeHom (o : EvOp .r3)
  /-- R3QPI.RxR_CYCLES_NE.SNP (R943) -/
  | r3qpiRxRCyclesNeSnp (o : EvOp .r3)
  /-- R3QPI.RxR_CYCLES_NE.NDR (R943) -/
  | r3qpiRxRCyclesNeNdr (o : EvOp .r3)
  /-- R3QPI.RxR_CYCLES_NE_VN1.HOM (R944) -/
  | r3qpiRxRCyclesNeVn1Hom (o : EvOp .r3)
  /-- R3QPI.RxR_CYCLES_NE_VN1.SNP (R944) -/
  | r3qpiRxRCyclesNeVn1Snp (o : EvOp .r3)
  /-- R3QPI.RxR_CYCLES_NE_VN1.NDR (R944) -/
  | r3qpiRxRCyclesNeVn1Ndr (o : EvOp .r3)
  /-- R3QPI.RxR_CYCLES_NE_VN1.DRS (R944) -/
  | r3qpiRxRCyclesNeVn1Drs (o : EvOp .r3)
  /-- R3QPI.RxR_CYCLES_NE_VN1.NCB (R944) -/
  | r3qpiRxRCyclesNeVn1Ncb (o : EvOp .r3)
  /-- R3QPI.RxR_CYCLES_NE_VN1.NCS (R944) -/
  | r3qpiRxRCyclesNeVn1Ncs (o : EvOp .r3)
  /-- R3QPI.RxR_INSERTS.HOM (R945) -/
  | r3qpiRxRInsertsHom (o : EvOp .r3)
  /-- R3QPI.RxR_INSERTS.SNP (R945) -/
  | r3qpiRxRInsertsSnp (o : EvOp .r3)
  /-- R3QPI.RxR_INSERTS.NDR (R945) -/
  | r3qpiRxRInsertsNdr (o : EvOp .r3)
  /-- R3QPI.RxR_INSERTS.DRS (R945) -/
  | r3qpiRxRInsertsDrs (o : EvOp .r3)
  /-- R3QPI.RxR_INSERTS.NCB (R945) -/
  | r3qpiRxRInsertsNcb (o : EvOp .r3)
  /-- R3QPI.RxR_INSERTS.NCS (R945) -/
  | r3qpiRxRInsertsNcs (o : EvOp .r3)
  /-- R3QPI.RxR_INSERTS_VN1.HOM (R946) -/
  | r3qpiRxRInsertsVn1Hom (o : EvOp .r3)
  /-- R3QPI.RxR_INSERTS_VN1.SNP (R946) -/
  | r3qpiRxRInsertsVn1Snp (o : EvOp .r3)
  /-- R3QPI.RxR_INSERTS_VN1.NDR (R946) -/
  | r3qpiRxRInsertsVn1Ndr (o : EvOp .r3)
  /-- R3QPI.RxR_INSERTS_VN1.DRS (R946) -/
  | r3qpiRxRInsertsVn1Drs (o : EvOp .r3)
  /-- R3QPI.RxR_INSERTS_VN1.NCB (R946) -/
  | r3qpiRxRInsertsVn1Ncb (o : EvOp .r3)
  /-- R3QPI.RxR_INSERTS_VN1.NCS (R946) -/
  | r3qpiRxRInsertsVn1Ncs (o : EvOp .r3)
  /-- R3QPI.RxR_OCCUPANCY_VN1.HOM (R947) -/
  | r3qpiRxROccupancyVn1Hom (o : EvOp .r3)
  /-- R3QPI.RxR_OCCUPANCY_VN1.SNP (R947) -/
  | r3qpiRxROccupancyVn1Snp (o : EvOp .r3)
  /-- R3QPI.RxR_OCCUPANCY_VN1.NDR (R947) -/
  | r3qpiRxROccupancyVn1Ndr (o : EvOp .r3)
  /-- R3QPI.RxR_OCCUPANCY_VN1.DRS (R947) -/
  | r3qpiRxROccupancyVn1Drs (o : EvOp .r3)
  /-- R3QPI.RxR_OCCUPANCY_VN1.NCB (R947) -/
  | r3qpiRxROccupancyVn1Ncb (o : EvOp .r3)
  /-- R3QPI.RxR_OCCUPANCY_VN1.NCS (R947) -/
  | r3qpiRxROccupancyVn1Ncs (o : EvOp .r3)
  /-- R3QPI.SBO0_CREDITS_ACQUIRED.AD (R948) -/
  | r3qpiSbo0CreditsAcquiredAd (o : EvOp .r3)
  /-- R3QPI.SBO0_CREDITS_ACQUIRED.BL (R948) -/
  | r3qpiSbo0CreditsAcquiredBl (o : EvOp .r3)
  /-- R3QPI.SBO1_CREDITS_ACQUIRED.AD (R949) -/
  | r3qpiSbo1CreditsAcquiredAd (o : EvOp .r3)
  /-- R3QPI.SBO1_CREDITS_ACQUIRED.BL (R949) -/
  | r3qpiSbo1CreditsAcquiredBl (o : EvOp .r3)
  /-- R3QPI.STALL_NO_SBO_CREDIT.SBO0_AD (R950) -/
  | r3qpiStallNoSboCreditSbo0Ad (o : EvOp .r3)
  /-- R3QPI.STALL_NO_SBO_CREDIT.SBO1_AD (R950) -/
  | r3qpiStallNoSboCreditSbo1Ad (o : EvOp .r3)
  /-- R3QPI.STALL_NO_SBO_CREDIT.SBO0_BL (R950) -/
  | r3qpiStallNoSboCreditSbo0Bl (o : EvOp .r3)
  /-- R3QPI.STALL_NO_SBO_CREDIT.SBO1_BL (R950) -/
  | r3qpiStallNoSboCreditSbo1Bl (o : EvOp .r3)
  /-- R3QPI.TxR_NACK.DN_AD (R951) -/
  | r3qpiTxRNackDnAd (o : EvOp .r3)
  /-- R3QPI.TxR_NACK.DN_BL (R951) -/
  | r3qpiTxRNackDnBl (o : EvOp .r3)
  /-- R3QPI.TxR_NACK.DN_AK (R951) -/
  | r3qpiTxRNackDnAk (o : EvOp .r3)
  /-- R3QPI.TxR_NACK.UP_AD (R951) -/
  | r3qpiTxRNackUpAd (o : EvOp .r3)
  /-- R3QPI.TxR_NACK.UP_BL (R951) -/
  | r3qpiTxRNackUpBl (o : EvOp .r3)
  /-- R3QPI.TxR_NACK.UP_AK (R951) -/
  | r3qpiTxRNackUpAk (o : EvOp .r3)
  /-- R3QPI.VN0_CREDITS_REJECT.HOM (R952) -/
  | r3qpiVn0CreditsRejectHom (o : EvOp .r3)
  /-- R3QPI.VN0_CREDITS_REJECT.SNP (R952) -/
  | r3qpiVn0CreditsRejectSnp (o : EvOp .r3)
  /-- R3QPI.VN0_CREDITS_REJECT.NDR (R952) -/
  | r3qpiVn0CreditsRejectNdr (o : EvOp .r3)
  /-- R3QPI.VN0_CREDITS_REJECT.DRS (R952) -/
  | r3qpiVn0CreditsRejectDrs (o : EvOp .r3)
  /-- R3QPI.VN0_CREDITS_REJECT.NCB (R952) -/
  | r3qpiVn0CreditsRejectNcb (o : EvOp .r3)
  /-- R3QPI.VN0_CREDITS_REJECT.NCS (R952) -/
  | r3qpiVn0CreditsRejectNcs (o : EvOp .r3)
  /-- R3QPI.VN0_CREDITS_USED.HOM (R953) -/
  | r3qpiVn0CreditsUsedHom (o : EvOp .r3)
  /-- R3QPI.VN0_CREDITS_USED.SNP (R953) -/
  | r3qpiVn0CreditsUsedSnp (o : EvOp .r3)
  /-- R3QPI.VN0_CREDITS_USED.NDR (R953) -/
  | r3qpiVn0CreditsUsedNdr (o : EvOp .r3)
  /-- R3QPI.VN0_CREDITS_USED.DRS (R953) -/
  | r3qpiVn0CreditsUsedDrs (o : EvOp .r3)
  /-- R3QPI.VN0_CREDITS_USED.NCB (R953) -/
  | r3qpiVn0CreditsUsedNcb (o : EvOp .r3)
  /-- R3QPI.VN0_CREDITS_USED.NCS (R953) -/
  | r3qpiVn0CreditsUsedNcs (o : EvOp .r3)
  /-- R3QPI.VN1_CREDITS_REJECT.HOM (R954) -/
  | r3qpiVn1CreditsRejectHom (o : EvOp .r3)
  /-- R3QPI.VN1_CREDITS_REJECT.SNP (R954) -/
  | r3qpiVn1CreditsRejectSnp (o : EvOp .r3)
  /-- R3QPI.VN1_CREDITS_REJECT.NDR (R954) -/
  | r3qpiVn1CreditsRejectNdr (o : EvOp .r3)
  /-- R3QPI.VN1_CREDITS_REJECT.DRS (R954) -/
  | r3qpiVn1CreditsRejectDrs (o : EvOp .r3)
  /-- R3QPI.VN1_CREDITS_REJECT.NCB (R954) -/
  | r3qpiVn1CreditsRejectNcb (o : EvOp .r3)
  /-- R3QPI.VN1_CREDITS_REJECT.NCS (R954) -/
  | r3qpiVn1CreditsRejectNcs (o : EvOp .r3)
  /-- R3QPI.VN1_CREDITS_USED.HOM (R955) -/
  | r3qpiVn1CreditsUsedHom (o : EvOp .r3)
  /-- R3QPI.VN1_CREDITS_USED.SNP (R955) -/
  | r3qpiVn1CreditsUsedSnp (o : EvOp .r3)
  /-- R3QPI.VN1_CREDITS_USED.NDR (R955) -/
  | r3qpiVn1CreditsUsedNdr (o : EvOp .r3)
  /-- R3QPI.VN1_CREDITS_USED.DRS (R955) -/
  | r3qpiVn1CreditsUsedDrs (o : EvOp .r3)
  /-- R3QPI.VN1_CREDITS_USED.NCB (R955) -/
  | r3qpiVn1CreditsUsedNcb (o : EvOp .r3)
  /-- R3QPI.VN1_CREDITS_USED.NCS (R955) -/
  | r3qpiVn1CreditsUsedNcs (o : EvOp .r3)
  /-- R3QPI.VNA_CREDITS_ACQUIRED.AD (R956) -/
  | r3qpiVnaCreditsAcquiredAd (o : EvOp .r3)
  /-- R3QPI.VNA_CREDITS_ACQUIRED.BL (R956) -/
  | r3qpiVnaCreditsAcquiredBl (o : EvOp .r3)
  /-- R3QPI.VNA_CREDITS_REJECT.HOM (R957) -/
  | r3qpiVnaCreditsRejectHom (o : EvOp .r3)
  /-- R3QPI.VNA_CREDITS_REJECT.SNP (R957) -/
  | r3qpiVnaCreditsRejectSnp (o : EvOp .r3)
  /-- R3QPI.VNA_CREDITS_REJECT.NDR (R957) -/
  | r3qpiVnaCreditsRejectNdr (o : EvOp .r3)
  /-- R3QPI.VNA_CREDITS_REJECT.DRS (R957) -/
  | r3qpiVnaCreditsRejectDrs (o : EvOp .r3)
  /-- R3QPI.VNA_CREDITS_REJECT.NCB (R957) -/
  | r3qpiVnaCreditsRejectNcb (o : EvOp .r3)
  /-- R3QPI.VNA_CREDITS_REJECT.NCS (R957) -/
  | r3qpiVnaCreditsRejectNcs (o : EvOp .r3)
  /-- U_MSR_PMON_GLOBAL_CTL (R27) -/
  | uMsrPmonGlobalCtl (a : MsrAccess)
  /-- U_MSR_PMON_GLOBAL_STATUS (R28) -/
  | uMsrPmonGlobalStatus (a : MsrAccess)
  /-- U_MSR_PMON_GLOBAL_CONFIG (R29) -/
  | uMsrPmonGlobalConfig (a : MsrAccess)
  /-- U_MSR_PMON_UCLK_FIXED_CTL (R33) -/
  | uMsrPmonUclkFixedCtl (a : MsrAccess)
  /-- U_MSR_PMON_UCLK_FIXED_CTR (R34) -/
  | uMsrPmonUclkFixedCtr (a : MsrAccess)
  /-- U_MSR_PMON_CTL0 (R31) -/
  | uMsrPmonCtl0 (a : MsrAccess)
  /-- U_MSR_PMON_CTL1 (R31) -/
  | uMsrPmonCtl1 (a : MsrAccess)
  /-- U_MSR_PMON_BOX_STATUS (R30) -/
  | uMsrPmonBoxStatus (a : MsrAccess)
  /-- U_MSR_PMON_CTR0 (R32) -/
  | uMsrPmonCtr0 (a : MsrAccess)
  /-- U_MSR_PMON_CTR1 (R32) -/
  | uMsrPmonCtr1 (a : MsrAccess)
  /-- C0_MSR_PMON_BOX_CTL (R36) -/
  | c0MsrPmonBoxCtl (a : MsrAccess)
  /-- C0_MSR_PMON_CTL0 (R38) -/
  | c0MsrPmonCtl0 (a : MsrAccess)
  /-- C0_MSR_PMON_CTL1 (R38) -/
  | c0MsrPmonCtl1 (a : MsrAccess)
  /-- C0_MSR_PMON_CTL2 (R38) -/
  | c0MsrPmonCtl2 (a : MsrAccess)
  /-- C0_MSR_PMON_CTL3 (R38) -/
  | c0MsrPmonCtl3 (a : MsrAccess)
  /-- C0_MSR_PMON_BOX_FILTER0 (R40) -/
  | c0MsrPmonBoxFilter0 (a : MsrAccess)
  /-- C0_MSR_PMON_BOX_FILTER1 (R41) -/
  | c0MsrPmonBoxFilter1 (a : MsrAccess)
  /-- C0_MSR_PMON_BOX_STATUS (R37) -/
  | c0MsrPmonBoxStatus (a : MsrAccess)
  /-- C0_MSR_PMON_CTR0 (R39) -/
  | c0MsrPmonCtr0 (a : MsrAccess)
  /-- C0_MSR_PMON_CTR1 (R39) -/
  | c0MsrPmonCtr1 (a : MsrAccess)
  /-- C0_MSR_PMON_CTR2 (R39) -/
  | c0MsrPmonCtr2 (a : MsrAccess)
  /-- C0_MSR_PMON_CTR3 (R39) -/
  | c0MsrPmonCtr3 (a : MsrAccess)
  /-- C1_MSR_PMON_BOX_CTL (R36) -/
  | c1MsrPmonBoxCtl (a : MsrAccess)
  /-- C1_MSR_PMON_CTL0 (R38) -/
  | c1MsrPmonCtl0 (a : MsrAccess)
  /-- C1_MSR_PMON_CTL1 (R38) -/
  | c1MsrPmonCtl1 (a : MsrAccess)
  /-- C1_MSR_PMON_CTL2 (R38) -/
  | c1MsrPmonCtl2 (a : MsrAccess)
  /-- C1_MSR_PMON_CTL3 (R38) -/
  | c1MsrPmonCtl3 (a : MsrAccess)
  /-- C1_MSR_PMON_BOX_FILTER0 (R40) -/
  | c1MsrPmonBoxFilter0 (a : MsrAccess)
  /-- C1_MSR_PMON_BOX_FILTER1 (R41) -/
  | c1MsrPmonBoxFilter1 (a : MsrAccess)
  /-- C1_MSR_PMON_BOX_STATUS (R37) -/
  | c1MsrPmonBoxStatus (a : MsrAccess)
  /-- C1_MSR_PMON_CTR0 (R39) -/
  | c1MsrPmonCtr0 (a : MsrAccess)
  /-- C1_MSR_PMON_CTR1 (R39) -/
  | c1MsrPmonCtr1 (a : MsrAccess)
  /-- C1_MSR_PMON_CTR2 (R39) -/
  | c1MsrPmonCtr2 (a : MsrAccess)
  /-- C1_MSR_PMON_CTR3 (R39) -/
  | c1MsrPmonCtr3 (a : MsrAccess)
  /-- C2_MSR_PMON_BOX_CTL (R36) -/
  | c2MsrPmonBoxCtl (a : MsrAccess)
  /-- C2_MSR_PMON_CTL0 (R38) -/
  | c2MsrPmonCtl0 (a : MsrAccess)
  /-- C2_MSR_PMON_CTL1 (R38) -/
  | c2MsrPmonCtl1 (a : MsrAccess)
  /-- C2_MSR_PMON_CTL2 (R38) -/
  | c2MsrPmonCtl2 (a : MsrAccess)
  /-- C2_MSR_PMON_CTL3 (R38) -/
  | c2MsrPmonCtl3 (a : MsrAccess)
  /-- C2_MSR_PMON_BOX_FILTER0 (R40) -/
  | c2MsrPmonBoxFilter0 (a : MsrAccess)
  /-- C2_MSR_PMON_BOX_FILTER1 (R41) -/
  | c2MsrPmonBoxFilter1 (a : MsrAccess)
  /-- C2_MSR_PMON_BOX_STATUS (R37) -/
  | c2MsrPmonBoxStatus (a : MsrAccess)
  /-- C2_MSR_PMON_CTR0 (R39) -/
  | c2MsrPmonCtr0 (a : MsrAccess)
  /-- C2_MSR_PMON_CTR1 (R39) -/
  | c2MsrPmonCtr1 (a : MsrAccess)
  /-- C2_MSR_PMON_CTR2 (R39) -/
  | c2MsrPmonCtr2 (a : MsrAccess)
  /-- C2_MSR_PMON_CTR3 (R39) -/
  | c2MsrPmonCtr3 (a : MsrAccess)
  /-- C3_MSR_PMON_BOX_CTL (R36) -/
  | c3MsrPmonBoxCtl (a : MsrAccess)
  /-- C3_MSR_PMON_CTL0 (R38) -/
  | c3MsrPmonCtl0 (a : MsrAccess)
  /-- C3_MSR_PMON_CTL1 (R38) -/
  | c3MsrPmonCtl1 (a : MsrAccess)
  /-- C3_MSR_PMON_CTL2 (R38) -/
  | c3MsrPmonCtl2 (a : MsrAccess)
  /-- C3_MSR_PMON_CTL3 (R38) -/
  | c3MsrPmonCtl3 (a : MsrAccess)
  /-- C3_MSR_PMON_BOX_FILTER0 (R40) -/
  | c3MsrPmonBoxFilter0 (a : MsrAccess)
  /-- C3_MSR_PMON_BOX_FILTER1 (R41) -/
  | c3MsrPmonBoxFilter1 (a : MsrAccess)
  /-- C3_MSR_PMON_BOX_STATUS (R37) -/
  | c3MsrPmonBoxStatus (a : MsrAccess)
  /-- C3_MSR_PMON_CTR0 (R39) -/
  | c3MsrPmonCtr0 (a : MsrAccess)
  /-- C3_MSR_PMON_CTR1 (R39) -/
  | c3MsrPmonCtr1 (a : MsrAccess)
  /-- C3_MSR_PMON_CTR2 (R39) -/
  | c3MsrPmonCtr2 (a : MsrAccess)
  /-- C3_MSR_PMON_CTR3 (R39) -/
  | c3MsrPmonCtr3 (a : MsrAccess)
  /-- C4_MSR_PMON_BOX_CTL (R36) -/
  | c4MsrPmonBoxCtl (a : MsrAccess)
  /-- C4_MSR_PMON_CTL0 (R38) -/
  | c4MsrPmonCtl0 (a : MsrAccess)
  /-- C4_MSR_PMON_CTL1 (R38) -/
  | c4MsrPmonCtl1 (a : MsrAccess)
  /-- C4_MSR_PMON_CTL2 (R38) -/
  | c4MsrPmonCtl2 (a : MsrAccess)
  /-- C4_MSR_PMON_CTL3 (R38) -/
  | c4MsrPmonCtl3 (a : MsrAccess)
  /-- C4_MSR_PMON_BOX_FILTER0 (R40) -/
  | c4MsrPmonBoxFilter0 (a : MsrAccess)
  /-- C4_MSR_PMON_BOX_FILTER1 (R41) -/
  | c4MsrPmonBoxFilter1 (a : MsrAccess)
  /-- C4_MSR_PMON_BOX_STATUS (R37) -/
  | c4MsrPmonBoxStatus (a : MsrAccess)
  /-- C4_MSR_PMON_CTR0 (R39) -/
  | c4MsrPmonCtr0 (a : MsrAccess)
  /-- C4_MSR_PMON_CTR1 (R39) -/
  | c4MsrPmonCtr1 (a : MsrAccess)
  /-- C4_MSR_PMON_CTR2 (R39) -/
  | c4MsrPmonCtr2 (a : MsrAccess)
  /-- C4_MSR_PMON_CTR3 (R39) -/
  | c4MsrPmonCtr3 (a : MsrAccess)
  /-- C5_MSR_PMON_BOX_CTL (R36) -/
  | c5MsrPmonBoxCtl (a : MsrAccess)
  /-- C5_MSR_PMON_CTL0 (R38) -/
  | c5MsrPmonCtl0 (a : MsrAccess)
  /-- C5_MSR_PMON_CTL1 (R38) -/
  | c5MsrPmonCtl1 (a : MsrAccess)
  /-- C5_MSR_PMON_CTL2 (R38) -/
  | c5MsrPmonCtl2 (a : MsrAccess)
  /-- C5_MSR_PMON_CTL3 (R38) -/
  | c5MsrPmonCtl3 (a : MsrAccess)
  /-- C5_MSR_PMON_BOX_FILTER0 (R40) -/
  | c5MsrPmonBoxFilter0 (a : MsrAccess)
  /-- C5_MSR_PMON_BOX_FILTER1 (R41) -/
  | c5MsrPmonBoxFilter1 (a : MsrAccess)
  /-- C5_MSR_PMON_BOX_STATUS (R37) -/
  | c5MsrPmonBoxStatus (a : MsrAccess)
  /-- C5_MSR_PMON_CTR0 (R39) -/
  | c5MsrPmonCtr0 (a : MsrAccess)
  /-- C5_MSR_PMON_CTR1 (R39) -/
  | c5MsrPmonCtr1 (a : MsrAccess)
  /-- C5_MSR_PMON_CTR2 (R39) -/
  | c5MsrPmonCtr2 (a : MsrAccess)
  /-- C5_MSR_PMON_CTR3 (R39) -/
  | c5MsrPmonCtr3 (a : MsrAccess)
  /-- C6_MSR_PMON_BOX_CTL (R36) -/
  | c6MsrPmonBoxCtl (a : MsrAccess)
  /-- C6_MSR_PMON_CTL0 (R38) -/
  | c6MsrPmonCtl0 (a : MsrAccess)
  /-- C6_MSR_PMON_CTL1 (R38) -/
  | c6MsrPmonCtl1 (a : MsrAccess)
  /-- C6_MSR_PMON_CTL2 (R38) -/
  | c6MsrPmonCtl2 (a : MsrAccess)
  /-- C6_MSR_PMON_CTL3 (R38) -/
  | c6MsrPmonCtl3 (a : MsrAccess)
  /-- C6_MSR_PMON_BOX_FILTER0 (R40) -/
  | c6MsrPmonBoxFilter0 (a : MsrAccess)
  /-- C6_MSR_PMON_BOX_FILTER1 (R41) -/
  | c6MsrPmonBoxFilter1 (a : MsrAccess)
  /-- C6_MSR_PMON_BOX_STATUS (R37) -/
  | c6MsrPmonBoxStatus (a : MsrAccess)
  /-- C6_MSR_PMON_CTR0 (R39) -/
  | c6MsrPmonCtr0 (a : MsrAccess)
  /-- C6_MSR_PMON_CTR1 (R39) -/
  | c6MsrPmonCtr1 (a : MsrAccess)
  /-- C6_MSR_PMON_CTR2 (R39) -/
  | c6MsrPmonCtr2 (a : MsrAccess)
  /-- C6_MSR_PMON_CTR3 (R39) -/
  | c6MsrPmonCtr3 (a : MsrAccess)
  /-- C7_MSR_PMON_BOX_CTL (R36) -/
  | c7MsrPmonBoxCtl (a : MsrAccess)
  /-- C7_MSR_PMON_CTL0 (R38) -/
  | c7MsrPmonCtl0 (a : MsrAccess)
  /-- C7_MSR_PMON_CTL1 (R38) -/
  | c7MsrPmonCtl1 (a : MsrAccess)
  /-- C7_MSR_PMON_CTL2 (R38) -/
  | c7MsrPmonCtl2 (a : MsrAccess)
  /-- C7_MSR_PMON_CTL3 (R38) -/
  | c7MsrPmonCtl3 (a : MsrAccess)
  /-- C7_MSR_PMON_BOX_FILTER0 (R40) -/
  | c7MsrPmonBoxFilter0 (a : MsrAccess)
  /-- C7_MSR_PMON_BOX_FILTER1 (R41) -/
  | c7MsrPmonBoxFilter1 (a : MsrAccess)
  /-- C7_MSR_PMON_BOX_STATUS (R37) -/
  | c7MsrPmonBoxStatus (a : MsrAccess)
  /-- C7_MSR_PMON_CTR0 (R39) -/
  | c7MsrPmonCtr0 (a : MsrAccess)
  /-- C7_MSR_PMON_CTR1 (R39) -/
  | c7MsrPmonCtr1 (a : MsrAccess)
  /-- C7_MSR_PMON_CTR2 (R39) -/
  | c7MsrPmonCtr2 (a : MsrAccess)
  /-- C7_MSR_PMON_CTR3 (R39) -/
  | c7MsrPmonCtr3 (a : MsrAccess)
  /-- C8_MSR_PMON_BOX_CTL (R36) -/
  | c8MsrPmonBoxCtl (a : MsrAccess)
  /-- C8_MSR_PMON_CTL0 (R38) -/
  | c8MsrPmonCtl0 (a : MsrAccess)
  /-- C8_MSR_PMON_CTL1 (R38) -/
  | c8MsrPmonCtl1 (a : MsrAccess)
  /-- C8_MSR_PMON_CTL2 (R38) -/
  | c8MsrPmonCtl2 (a : MsrAccess)
  /-- C8_MSR_PMON_CTL3 (R38) -/
  | c8MsrPmonCtl3 (a : MsrAccess)
  /-- C8_MSR_PMON_BOX_FILTER0 (R40) -/
  | c8MsrPmonBoxFilter0 (a : MsrAccess)
  /-- C8_MSR_PMON_BOX_FILTER1 (R41) -/
  | c8MsrPmonBoxFilter1 (a : MsrAccess)
  /-- C8_MSR_PMON_BOX_STATUS (R37) -/
  | c8MsrPmonBoxStatus (a : MsrAccess)
  /-- C8_MSR_PMON_CTR0 (R39) -/
  | c8MsrPmonCtr0 (a : MsrAccess)
  /-- C8_MSR_PMON_CTR1 (R39) -/
  | c8MsrPmonCtr1 (a : MsrAccess)
  /-- C8_MSR_PMON_CTR2 (R39) -/
  | c8MsrPmonCtr2 (a : MsrAccess)
  /-- C8_MSR_PMON_CTR3 (R39) -/
  | c8MsrPmonCtr3 (a : MsrAccess)
  /-- C9_MSR_PMON_BOX_CTL (R36) -/
  | c9MsrPmonBoxCtl (a : MsrAccess)
  /-- C9_MSR_PMON_CTL0 (R38) -/
  | c9MsrPmonCtl0 (a : MsrAccess)
  /-- C9_MSR_PMON_CTL1 (R38) -/
  | c9MsrPmonCtl1 (a : MsrAccess)
  /-- C9_MSR_PMON_CTL2 (R38) -/
  | c9MsrPmonCtl2 (a : MsrAccess)
  /-- C9_MSR_PMON_CTL3 (R38) -/
  | c9MsrPmonCtl3 (a : MsrAccess)
  /-- C9_MSR_PMON_BOX_FILTER0 (R40) -/
  | c9MsrPmonBoxFilter0 (a : MsrAccess)
  /-- C9_MSR_PMON_BOX_FILTER1 (R41) -/
  | c9MsrPmonBoxFilter1 (a : MsrAccess)
  /-- C9_MSR_PMON_BOX_STATUS (R37) -/
  | c9MsrPmonBoxStatus (a : MsrAccess)
  /-- C9_MSR_PMON_CTR0 (R39) -/
  | c9MsrPmonCtr0 (a : MsrAccess)
  /-- C9_MSR_PMON_CTR1 (R39) -/
  | c9MsrPmonCtr1 (a : MsrAccess)
  /-- C9_MSR_PMON_CTR2 (R39) -/
  | c9MsrPmonCtr2 (a : MsrAccess)
  /-- C9_MSR_PMON_CTR3 (R39) -/
  | c9MsrPmonCtr3 (a : MsrAccess)
  /-- C10_MSR_PMON_BOX_CTL (R36) -/
  | c10MsrPmonBoxCtl (a : MsrAccess)
  /-- C10_MSR_PMON_CTL0 (R38) -/
  | c10MsrPmonCtl0 (a : MsrAccess)
  /-- C10_MSR_PMON_CTL1 (R38) -/
  | c10MsrPmonCtl1 (a : MsrAccess)
  /-- C10_MSR_PMON_CTL2 (R38) -/
  | c10MsrPmonCtl2 (a : MsrAccess)
  /-- C10_MSR_PMON_CTL3 (R38) -/
  | c10MsrPmonCtl3 (a : MsrAccess)
  /-- C10_MSR_PMON_BOX_FILTER0 (R40) -/
  | c10MsrPmonBoxFilter0 (a : MsrAccess)
  /-- C10_MSR_PMON_BOX_FILTER1 (R41) -/
  | c10MsrPmonBoxFilter1 (a : MsrAccess)
  /-- C10_MSR_PMON_BOX_STATUS (R37) -/
  | c10MsrPmonBoxStatus (a : MsrAccess)
  /-- C10_MSR_PMON_CTR0 (R39) -/
  | c10MsrPmonCtr0 (a : MsrAccess)
  /-- C10_MSR_PMON_CTR1 (R39) -/
  | c10MsrPmonCtr1 (a : MsrAccess)
  /-- C10_MSR_PMON_CTR2 (R39) -/
  | c10MsrPmonCtr2 (a : MsrAccess)
  /-- C10_MSR_PMON_CTR3 (R39) -/
  | c10MsrPmonCtr3 (a : MsrAccess)
  /-- C11_MSR_PMON_BOX_CTL (R36) -/
  | c11MsrPmonBoxCtl (a : MsrAccess)
  /-- C11_MSR_PMON_CTL0 (R38) -/
  | c11MsrPmonCtl0 (a : MsrAccess)
  /-- C11_MSR_PMON_CTL1 (R38) -/
  | c11MsrPmonCtl1 (a : MsrAccess)
  /-- C11_MSR_PMON_CTL2 (R38) -/
  | c11MsrPmonCtl2 (a : MsrAccess)
  /-- C11_MSR_PMON_CTL3 (R38) -/
  | c11MsrPmonCtl3 (a : MsrAccess)
  /-- C11_MSR_PMON_BOX_FILTER0 (R40) -/
  | c11MsrPmonBoxFilter0 (a : MsrAccess)
  /-- C11_MSR_PMON_BOX_FILTER1 (R41) -/
  | c11MsrPmonBoxFilter1 (a : MsrAccess)
  /-- C11_MSR_PMON_BOX_STATUS (R37) -/
  | c11MsrPmonBoxStatus (a : MsrAccess)
  /-- C11_MSR_PMON_CTR0 (R39) -/
  | c11MsrPmonCtr0 (a : MsrAccess)
  /-- C11_MSR_PMON_CTR1 (R39) -/
  | c11MsrPmonCtr1 (a : MsrAccess)
  /-- C11_MSR_PMON_CTR2 (R39) -/
  | c11MsrPmonCtr2 (a : MsrAccess)
  /-- C11_MSR_PMON_CTR3 (R39) -/
  | c11MsrPmonCtr3 (a : MsrAccess)
  /-- C12_MSR_PMON_BOX_CTL (R36) -/
  | c12MsrPmonBoxCtl (a : MsrAccess)
  /-- C12_MSR_PMON_CTL0 (R38) -/
  | c12MsrPmonCtl0 (a : MsrAccess)
  /-- C12_MSR_PMON_CTL1 (R38) -/
  | c12MsrPmonCtl1 (a : MsrAccess)
  /-- C12_MSR_PMON_CTL2 (R38) -/
  | c12MsrPmonCtl2 (a : MsrAccess)
  /-- C12_MSR_PMON_CTL3 (R38) -/
  | c12MsrPmonCtl3 (a : MsrAccess)
  /-- C12_MSR_PMON_BOX_FILTER0 (R40) -/
  | c12MsrPmonBoxFilter0 (a : MsrAccess)
  /-- C12_MSR_PMON_BOX_FILTER1 (R41) -/
  | c12MsrPmonBoxFilter1 (a : MsrAccess)
  /-- C12_MSR_PMON_BOX_STATUS (R37) -/
  | c12MsrPmonBoxStatus (a : MsrAccess)
  /-- C12_MSR_PMON_CTR0 (R39) -/
  | c12MsrPmonCtr0 (a : MsrAccess)
  /-- C12_MSR_PMON_CTR1 (R39) -/
  | c12MsrPmonCtr1 (a : MsrAccess)
  /-- C12_MSR_PMON_CTR2 (R39) -/
  | c12MsrPmonCtr2 (a : MsrAccess)
  /-- C12_MSR_PMON_CTR3 (R39) -/
  | c12MsrPmonCtr3 (a : MsrAccess)
  /-- C13_MSR_PMON_BOX_CTL (R36) -/
  | c13MsrPmonBoxCtl (a : MsrAccess)
  /-- C13_MSR_PMON_CTL0 (R38) -/
  | c13MsrPmonCtl0 (a : MsrAccess)
  /-- C13_MSR_PMON_CTL1 (R38) -/
  | c13MsrPmonCtl1 (a : MsrAccess)
  /-- C13_MSR_PMON_CTL2 (R38) -/
  | c13MsrPmonCtl2 (a : MsrAccess)
  /-- C13_MSR_PMON_CTL3 (R38) -/
  | c13MsrPmonCtl3 (a : MsrAccess)
  /-- C13_MSR_PMON_BOX_FILTER0 (R40) -/
  | c13MsrPmonBoxFilter0 (a : MsrAccess)
  /-- C13_MSR_PMON_BOX_FILTER1 (R41) -/
  | c13MsrPmonBoxFilter1 (a : MsrAccess)
  /-- C13_MSR_PMON_BOX_STATUS (R37) -/
  | c13MsrPmonBoxStatus (a : MsrAccess)
  /-- C13_MSR_PMON_CTR0 (R39) -/
  | c13MsrPmonCtr0 (a : MsrAccess)
  /-- C13_MSR_PMON_CTR1 (R39) -/
  | c13MsrPmonCtr1 (a : MsrAccess)
  /-- C13_MSR_PMON_CTR2 (R39) -/
  | c13MsrPmonCtr2 (a : MsrAccess)
  /-- C13_MSR_PMON_CTR3 (R39) -/
  | c13MsrPmonCtr3 (a : MsrAccess)
  /-- C14_MSR_PMON_BOX_CTL (R36) -/
  | c14MsrPmonBoxCtl (a : MsrAccess)
  /-- C14_MSR_PMON_CTL0 (R38) -/
  | c14MsrPmonCtl0 (a : MsrAccess)
  /-- C14_MSR_PMON_CTL1 (R38) -/
  | c14MsrPmonCtl1 (a : MsrAccess)
  /-- C14_MSR_PMON_CTL2 (R38) -/
  | c14MsrPmonCtl2 (a : MsrAccess)
  /-- C14_MSR_PMON_CTL3 (R38) -/
  | c14MsrPmonCtl3 (a : MsrAccess)
  /-- C14_MSR_PMON_BOX_FILTER0 (R40) -/
  | c14MsrPmonBoxFilter0 (a : MsrAccess)
  /-- C14_MSR_PMON_BOX_FILTER1 (R41) -/
  | c14MsrPmonBoxFilter1 (a : MsrAccess)
  /-- C14_MSR_PMON_BOX_STATUS (R37) -/
  | c14MsrPmonBoxStatus (a : MsrAccess)
  /-- C14_MSR_PMON_CTR0 (R39) -/
  | c14MsrPmonCtr0 (a : MsrAccess)
  /-- C14_MSR_PMON_CTR1 (R39) -/
  | c14MsrPmonCtr1 (a : MsrAccess)
  /-- C14_MSR_PMON_CTR2 (R39) -/
  | c14MsrPmonCtr2 (a : MsrAccess)
  /-- C14_MSR_PMON_CTR3 (R39) -/
  | c14MsrPmonCtr3 (a : MsrAccess)
  /-- C15_MSR_PMON_BOX_CTL (R36) -/
  | c15MsrPmonBoxCtl (a : MsrAccess)
  /-- C15_MSR_PMON_CTL0 (R38) -/
  | c15MsrPmonCtl0 (a : MsrAccess)
  /-- C15_MSR_PMON_CTL1 (R38) -/
  | c15MsrPmonCtl1 (a : MsrAccess)
  /-- C15_MSR_PMON_CTL2 (R38) -/
  | c15MsrPmonCtl2 (a : MsrAccess)
  /-- C15_MSR_PMON_CTL3 (R38) -/
  | c15MsrPmonCtl3 (a : MsrAccess)
  /-- C15_MSR_PMON_BOX_FILTER0 (R40) -/
  | c15MsrPmonBoxFilter0 (a : MsrAccess)
  /-- C15_MSR_PMON_BOX_FILTER1 (R41) -/
  | c15MsrPmonBoxFilter1 (a : MsrAccess)
  /-- C15_MSR_PMON_BOX_STATUS (R37) -/
  | c15MsrPmonBoxStatus (a : MsrAccess)
  /-- C15_MSR_PMON_CTR0 (R39) -/
  | c15MsrPmonCtr0 (a : MsrAccess)
  /-- C15_MSR_PMON_CTR1 (R39) -/
  | c15MsrPmonCtr1 (a : MsrAccess)
  /-- C15_MSR_PMON_CTR2 (R39) -/
  | c15MsrPmonCtr2 (a : MsrAccess)
  /-- C15_MSR_PMON_CTR3 (R39) -/
  | c15MsrPmonCtr3 (a : MsrAccess)
  /-- C16_MSR_PMON_BOX_CTL (R36) -/
  | c16MsrPmonBoxCtl (a : MsrAccess)
  /-- C16_MSR_PMON_CTL0 (R38) -/
  | c16MsrPmonCtl0 (a : MsrAccess)
  /-- C16_MSR_PMON_CTL1 (R38) -/
  | c16MsrPmonCtl1 (a : MsrAccess)
  /-- C16_MSR_PMON_CTL2 (R38) -/
  | c16MsrPmonCtl2 (a : MsrAccess)
  /-- C16_MSR_PMON_CTL3 (R38) -/
  | c16MsrPmonCtl3 (a : MsrAccess)
  /-- C16_MSR_PMON_BOX_FILTER0 (R40) -/
  | c16MsrPmonBoxFilter0 (a : MsrAccess)
  /-- C16_MSR_PMON_BOX_FILTER1 (R41) -/
  | c16MsrPmonBoxFilter1 (a : MsrAccess)
  /-- C16_MSR_PMON_BOX_STATUS (R37) -/
  | c16MsrPmonBoxStatus (a : MsrAccess)
  /-- C16_MSR_PMON_CTR0 (R39) -/
  | c16MsrPmonCtr0 (a : MsrAccess)
  /-- C16_MSR_PMON_CTR1 (R39) -/
  | c16MsrPmonCtr1 (a : MsrAccess)
  /-- C16_MSR_PMON_CTR2 (R39) -/
  | c16MsrPmonCtr2 (a : MsrAccess)
  /-- C16_MSR_PMON_CTR3 (R39) -/
  | c16MsrPmonCtr3 (a : MsrAccess)
  /-- C17_MSR_PMON_BOX_CTL (R36) -/
  | c17MsrPmonBoxCtl (a : MsrAccess)
  /-- C17_MSR_PMON_CTL0 (R38) -/
  | c17MsrPmonCtl0 (a : MsrAccess)
  /-- C17_MSR_PMON_CTL1 (R38) -/
  | c17MsrPmonCtl1 (a : MsrAccess)
  /-- C17_MSR_PMON_CTL2 (R38) -/
  | c17MsrPmonCtl2 (a : MsrAccess)
  /-- C17_MSR_PMON_CTL3 (R38) -/
  | c17MsrPmonCtl3 (a : MsrAccess)
  /-- C17_MSR_PMON_BOX_FILTER0 (R40) -/
  | c17MsrPmonBoxFilter0 (a : MsrAccess)
  /-- C17_MSR_PMON_BOX_FILTER1 (R41) -/
  | c17MsrPmonBoxFilter1 (a : MsrAccess)
  /-- C17_MSR_PMON_BOX_STATUS (R37) -/
  | c17MsrPmonBoxStatus (a : MsrAccess)
  /-- C17_MSR_PMON_CTR0 (R39) -/
  | c17MsrPmonCtr0 (a : MsrAccess)
  /-- C17_MSR_PMON_CTR1 (R39) -/
  | c17MsrPmonCtr1 (a : MsrAccess)
  /-- C17_MSR_PMON_CTR2 (R39) -/
  | c17MsrPmonCtr2 (a : MsrAccess)
  /-- C17_MSR_PMON_CTR3 (R39) -/
  | c17MsrPmonCtr3 (a : MsrAccess)
  /-- S0_MSR_PMON_BOX_CTL (R43) -/
  | s0MsrPmonBoxCtl (a : MsrAccess)
  /-- S0_MSR_PMON_CTL0 (R45) -/
  | s0MsrPmonCtl0 (a : MsrAccess)
  /-- S0_MSR_PMON_CTL1 (R45) -/
  | s0MsrPmonCtl1 (a : MsrAccess)
  /-- S0_MSR_PMON_CTL2 (R45) -/
  | s0MsrPmonCtl2 (a : MsrAccess)
  /-- S0_MSR_PMON_CTL3 (R45) -/
  | s0MsrPmonCtl3 (a : MsrAccess)
  /-- S0_MSR_PMON_BOX_STATUS (R44) -/
  | s0MsrPmonBoxStatus (a : MsrAccess)
  /-- S0_MSR_PMON_CTR0 (R46) -/
  | s0MsrPmonCtr0 (a : MsrAccess)
  /-- S0_MSR_PMON_CTR1 (R46) -/
  | s0MsrPmonCtr1 (a : MsrAccess)
  /-- S0_MSR_PMON_CTR2 (R46) -/
  | s0MsrPmonCtr2 (a : MsrAccess)
  /-- S0_MSR_PMON_CTR3 (R46) -/
  | s0MsrPmonCtr3 (a : MsrAccess)
  /-- S1_MSR_PMON_BOX_CTL (R43) -/
  | s1MsrPmonBoxCtl (a : MsrAccess)
  /-- S1_MSR_PMON_CTL0 (R45) -/
  | s1MsrPmonCtl0 (a : MsrAccess)
  /-- S1_MSR_PMON_CTL1 (R45) -/
  | s1MsrPmonCtl1 (a : MsrAccess)
  /-- S1_MSR_PMON_CTL2 (R45) -/
  | s1MsrPmonCtl2 (a : MsrAccess)
  /-- S1_MSR_PMON_CTL3 (R45) -/
  | s1MsrPmonCtl3 (a : MsrAccess)
  /-- S1_MSR_PMON_BOX_STATUS (R44) -/
  | s1MsrPmonBoxStatus (a : MsrAccess)
  /-- S1_MSR_PMON_CTR0 (R46) -/
  | s1MsrPmonCtr0 (a : MsrAccess)
  /-- S1_MSR_PMON_CTR1 (R46) -/
  | s1MsrPmonCtr1 (a : MsrAccess)
  /-- S1_MSR_PMON_CTR2 (R46) -/
  | s1MsrPmonCtr2 (a : MsrAccess)
  /-- S1_MSR_PMON_CTR3 (R46) -/
  | s1MsrPmonCtr3 (a : MsrAccess)
  /-- S2_MSR_PMON_BOX_CTL (R43) -/
  | s2MsrPmonBoxCtl (a : MsrAccess)
  /-- S2_MSR_PMON_CTL0 (R45) -/
  | s2MsrPmonCtl0 (a : MsrAccess)
  /-- S2_MSR_PMON_CTL1 (R45) -/
  | s2MsrPmonCtl1 (a : MsrAccess)
  /-- S2_MSR_PMON_CTL2 (R45) -/
  | s2MsrPmonCtl2 (a : MsrAccess)
  /-- S2_MSR_PMON_CTL3 (R45) -/
  | s2MsrPmonCtl3 (a : MsrAccess)
  /-- S2_MSR_PMON_BOX_STATUS (R44) -/
  | s2MsrPmonBoxStatus (a : MsrAccess)
  /-- S2_MSR_PMON_CTR0 (R46) -/
  | s2MsrPmonCtr0 (a : MsrAccess)
  /-- S2_MSR_PMON_CTR1 (R46) -/
  | s2MsrPmonCtr1 (a : MsrAccess)
  /-- S2_MSR_PMON_CTR2 (R46) -/
  | s2MsrPmonCtr2 (a : MsrAccess)
  /-- S2_MSR_PMON_CTR3 (R46) -/
  | s2MsrPmonCtr3 (a : MsrAccess)
  /-- S3_MSR_PMON_BOX_CTL (R43) -/
  | s3MsrPmonBoxCtl (a : MsrAccess)
  /-- S3_MSR_PMON_CTL0 (R45) -/
  | s3MsrPmonCtl0 (a : MsrAccess)
  /-- S3_MSR_PMON_CTL1 (R45) -/
  | s3MsrPmonCtl1 (a : MsrAccess)
  /-- S3_MSR_PMON_CTL2 (R45) -/
  | s3MsrPmonCtl2 (a : MsrAccess)
  /-- S3_MSR_PMON_CTL3 (R45) -/
  | s3MsrPmonCtl3 (a : MsrAccess)
  /-- S3_MSR_PMON_BOX_STATUS (R44) -/
  | s3MsrPmonBoxStatus (a : MsrAccess)
  /-- S3_MSR_PMON_CTR0 (R46) -/
  | s3MsrPmonCtr0 (a : MsrAccess)
  /-- S3_MSR_PMON_CTR1 (R46) -/
  | s3MsrPmonCtr1 (a : MsrAccess)
  /-- S3_MSR_PMON_CTR2 (R46) -/
  | s3MsrPmonCtr2 (a : MsrAccess)
  /-- S3_MSR_PMON_CTR3 (R46) -/
  | s3MsrPmonCtr3 (a : MsrAccess)
  /-- PCU_MSR_PMON_BOX_CTL (R67) -/
  | pcuMsrPmonBoxCtl (a : MsrAccess)
  /-- PCU_MSR_PMON_CTL0 (R69) -/
  | pcuMsrPmonCtl0 (a : MsrAccess)
  /-- PCU_MSR_PMON_CTL1 (R69) -/
  | pcuMsrPmonCtl1 (a : MsrAccess)
  /-- PCU_MSR_PMON_CTL2 (R69) -/
  | pcuMsrPmonCtl2 (a : MsrAccess)
  /-- PCU_MSR_PMON_CTL3 (R69) -/
  | pcuMsrPmonCtl3 (a : MsrAccess)
  /-- PCU_MSR_PMON_BOX_FILTER (R71) -/
  | pcuMsrPmonBoxFilter (a : MsrAccess)
  /-- PCU_MSR_PMON_BOX_STATUS (R68) -/
  | pcuMsrPmonBoxStatus (a : MsrAccess)
  /-- PCU_MSR_PMON_CTR0 (R70) -/
  | pcuMsrPmonCtr0 (a : MsrAccess)
  /-- PCU_MSR_PMON_CTR1 (R70) -/
  | pcuMsrPmonCtr1 (a : MsrAccess)
  /-- PCU_MSR_PMON_CTR2 (R70) -/
  | pcuMsrPmonCtr2 (a : MsrAccess)
  /-- PCU_MSR_PMON_CTR3 (R70) -/
  | pcuMsrPmonCtr3 (a : MsrAccess)
  /-- PCU_MSR_CORE_CC6_CTR (R72) -/
  | pcuMsrCoreCc6Ctr (a : MsrAccess)
  /-- PCU_MSR_CORE_CC3_CTR (R72) -/
  | pcuMsrCoreCc3Ctr (a : MsrAccess)
  /-- PCU_MSR_CORE_PC2_CTR (R72) -/
  | pcuMsrCorePc2Ctr (a : MsrAccess)
  /-- PCU_MSR_CORE_PC3_CTR (R72) -/
  | pcuMsrCorePc3Ctr (a : MsrAccess)
  /-- HA0_PCI_PMON_BOX_STATUS (R49) -/
  | ha0PciPmonBoxStatus (a : CfgAccess)
  /-- HA0_PCI_PMON_BOX_CTL (R48) -/
  | ha0PciPmonBoxCtl (a : CfgAccess)
  /-- HA0_PCI_PMON_CTL0 (R50) -/
  | ha0PciPmonCtl0 (a : CfgAccess)
  /-- HA0_PCI_PMON_CTL1 (R50) -/
  | ha0PciPmonCtl1 (a : CfgAccess)
  /-- HA0_PCI_PMON_CTL2 (R50) -/
  | ha0PciPmonCtl2 (a : CfgAccess)
  /-- HA0_PCI_PMON_CTL3 (R50) -/
  | ha0PciPmonCtl3 (a : CfgAccess)
  /-- HA0_PCI_PMON_CTR0 (R51) -/
  | ha0PciPmonCtr0 (a : CfgAccess)
  /-- HA0_PCI_PMON_CTR1 (R51) -/
  | ha0PciPmonCtr1 (a : CfgAccess)
  /-- HA0_PCI_PMON_CTR2 (R51) -/
  | ha0PciPmonCtr2 (a : CfgAccess)
  /-- HA0_PCI_PMON_CTR3 (R51) -/
  | ha0PciPmonCtr3 (a : CfgAccess)
  /-- HA0_PCI_PMON_BOX_OPCODEMATCH (R52) -/
  | ha0PciPmonBoxOpcodematch (a : CfgAccess)
  /-- HA0_PCI_PMON_BOX_ADDRMATCH1 (R53) -/
  | ha0PciPmonBoxAddrmatch1 (a : CfgAccess)
  /-- HA0_PCI_PMON_BOX_ADDRMATCH0 (R54) -/
  | ha0PciPmonBoxAddrmatch0 (a : CfgAccess)
  /-- HA1_PCI_PMON_BOX_STATUS (R49) -/
  | ha1PciPmonBoxStatus (a : CfgAccess)
  /-- HA1_PCI_PMON_BOX_CTL (R48) -/
  | ha1PciPmonBoxCtl (a : CfgAccess)
  /-- HA1_PCI_PMON_CTL0 (R50) -/
  | ha1PciPmonCtl0 (a : CfgAccess)
  /-- HA1_PCI_PMON_CTL1 (R50) -/
  | ha1PciPmonCtl1 (a : CfgAccess)
  /-- HA1_PCI_PMON_CTL2 (R50) -/
  | ha1PciPmonCtl2 (a : CfgAccess)
  /-- HA1_PCI_PMON_CTL3 (R50) -/
  | ha1PciPmonCtl3 (a : CfgAccess)
  /-- HA1_PCI_PMON_CTR0 (R51) -/
  | ha1PciPmonCtr0 (a : CfgAccess)
  /-- HA1_PCI_PMON_CTR1 (R51) -/
  | ha1PciPmonCtr1 (a : CfgAccess)
  /-- HA1_PCI_PMON_CTR2 (R51) -/
  | ha1PciPmonCtr2 (a : CfgAccess)
  /-- HA1_PCI_PMON_CTR3 (R51) -/
  | ha1PciPmonCtr3 (a : CfgAccess)
  /-- HA1_PCI_PMON_BOX_OPCODEMATCH (R52) -/
  | ha1PciPmonBoxOpcodematch (a : CfgAccess)
  /-- HA1_PCI_PMON_BOX_ADDRMATCH1 (R53) -/
  | ha1PciPmonBoxAddrmatch1 (a : CfgAccess)
  /-- HA1_PCI_PMON_BOX_ADDRMATCH0 (R54) -/
  | ha1PciPmonBoxAddrmatch0 (a : CfgAccess)
  /-- MC0_CH0_PCI_PMON_BOX_STATUS (R57) -/
  | mc0Ch0PciPmonBoxStatus (a : CfgAccess)
  /-- MC0_CH0_PCI_PMON_BOX_CTL (R56) -/
  | mc0Ch0PciPmonBoxCtl (a : CfgAccess)
  /-- MC0_CH0_PCI_PMON_CTL0 (R58) -/
  | mc0Ch0PciPmonCtl0 (a : CfgAccess)
  /-- MC0_CH0_PCI_PMON_CTL1 (R58) -/
  | mc0Ch0PciPmonCtl1 (a : CfgAccess)
  /-- MC0_CH0_PCI_PMON_CTL2 (R58) -/
  | mc0Ch0PciPmonCtl2 (a : CfgAccess)
  /-- MC0_CH0_PCI_PMON_CTL3 (R58) -/
  | mc0Ch0PciPmonCtl3 (a : CfgAccess)
  /-- MC0_CH0_PCI_PMON_CTR0 (R60) -/
  | mc0Ch0PciPmonCtr0 (a : CfgAccess)
  /-- MC0_CH0_PCI_PMON_CTR1 (R60) -/
  | mc0Ch0PciPmonCtr1 (a : CfgAccess)
  /-- MC0_CH0_PCI_PMON_CTR2 (R60) -/
  | mc0Ch0PciPmonCtr2 (a : CfgAccess)
  /-- MC0_CH0_PCI_PMON_CTR3 (R60) -/
  | mc0Ch0PciPmonCtr3 (a : CfgAccess)
  /-- MC0_CH0_PCI_PMON_FIXED_CTL (R59) -/
  | mc0Ch0PciPmonFixedCtl (a : CfgAccess)
  /-- MC0_CH0_PCI_PMON_FIXED_CTR (R60) -/
  | mc0Ch0PciPmonFixedCtr (a : CfgAccess)
  /-- MC0_CH1_PCI_PMON_BOX_STATUS (R57) -/
  | mc0Ch1PciPmonBoxStatus (a : CfgAccess)
  /-- MC0_CH1_PCI_PMON_BOX_CTL (R56) -/
  | mc0Ch1PciPmonBoxCtl (a : CfgAccess)
  /-- MC0_CH1_PCI_PMON_CTL0 (R58) -/
  | mc0Ch1PciPmonCtl0 (a : CfgAccess)
  /-- MC0_CH1_PCI_PMON_CTL1 (R58) -/
  | mc0Ch1PciPmonCtl1 (a : CfgAccess)
  /-- MC0_CH1_PCI_PMON_CTL2 (R58) -/
  | mc0Ch1PciPmonCtl2 (a : CfgAccess)
  /-- MC0_CH1_PCI_PMON_CTL3 (R58) -/
  | mc0Ch1PciPmonCtl3 (a : CfgAccess)
  /-- MC0_CH1_PCI_PMON_CTR0 (R60) -/
  | mc0Ch1PciPmonCtr0 (a : CfgAccess)
  /-- MC0_CH1_PCI_PMON_CTR1 (R60) -/
  | mc0Ch1PciPmonCtr1 (a : CfgAccess)
  /-- MC0_CH1_PCI_PMON_CTR2 (R60) -/
  | mc0Ch1PciPmonCtr2 (a : CfgAccess)
  /-- MC0_CH1_PCI_PMON_CTR3 (R60) -/
  | mc0Ch1PciPmonCtr3 (a : CfgAccess)
  /-- MC0_CH1_PCI_PMON_FIXED_CTL (R59) -/
  | mc0Ch1PciPmonFixedCtl (a : CfgAccess)
  /-- MC0_CH1_PCI_PMON_FIXED_CTR (R60) -/
  | mc0Ch1PciPmonFixedCtr (a : CfgAccess)
  /-- MC0_CH2_PCI_PMON_BOX_STATUS (R57) -/
  | mc0Ch2PciPmonBoxStatus (a : CfgAccess)
  /-- MC0_CH2_PCI_PMON_BOX_CTL (R56) -/
  | mc0Ch2PciPmonBoxCtl (a : CfgAccess)
  /-- MC0_CH2_PCI_PMON_CTL0 (R58) -/
  | mc0Ch2PciPmonCtl0 (a : CfgAccess)
  /-- MC0_CH2_PCI_PMON_CTL1 (R58) -/
  | mc0Ch2PciPmonCtl1 (a : CfgAccess)
  /-- MC0_CH2_PCI_PMON_CTL2 (R58) -/
  | mc0Ch2PciPmonCtl2 (a : CfgAccess)
  /-- MC0_CH2_PCI_PMON_CTL3 (R58) -/
  | mc0Ch2PciPmonCtl3 (a : CfgAccess)
  /-- MC0_CH2_PCI_PMON_CTR0 (R60) -/
  | mc0Ch2PciPmonCtr0 (a : CfgAccess)
  /-- MC0_CH2_PCI_PMON_CTR1 (R60) -/
  | mc0Ch2PciPmonCtr1 (a : CfgAccess)
  /-- MC0_CH2_PCI_PMON_CTR2 (R60) -/
  | mc0Ch2PciPmonCtr2 (a : CfgAccess)
  /-- MC0_CH2_PCI_PMON_CTR3 (R60) -/
  | mc0Ch2PciPmonCtr3 (a : CfgAccess)
  /-- MC0_CH2_PCI_PMON_FIXED_CTL (R59) -/
  | mc0Ch2PciPmonFixedCtl (a : CfgAccess)
  /-- MC0_CH2_PCI_PMON_FIXED_CTR (R60) -/
  | mc0Ch2PciPmonFixedCtr (a : CfgAccess)
  /-- MC0_CH3_PCI_PMON_BOX_STATUS (R57) -/
  | mc0Ch3PciPmonBoxStatus (a : CfgAccess)
  /-- MC0_CH3_PCI_PMON_BOX_CTL (R56) -/
  | mc0Ch3PciPmonBoxCtl (a : CfgAccess)
  /-- MC0_CH3_PCI_PMON_CTL0 (R58) -/
  | mc0Ch3PciPmonCtl0 (a : CfgAccess)
  /-- MC0_CH3_PCI_PMON_CTL1 (R58) -/
  | mc0Ch3PciPmonCtl1 (a : CfgAccess)
  /-- MC0_CH3_PCI_PMON_CTL2 (R58) -/
  | mc0Ch3PciPmonCtl2 (a : CfgAccess)
  /-- MC0_CH3_PCI_PMON_CTL3 (R58) -/
  | mc0Ch3PciPmonCtl3 (a : CfgAccess)
  /-- MC0_CH3_PCI_PMON_CTR0 (R60) -/
  | mc0Ch3PciPmonCtr0 (a : CfgAccess)
  /-- MC0_CH3_PCI_PMON_CTR1 (R60) -/
  | mc0Ch3PciPmonCtr1 (a : CfgAccess)
  /-- MC0_CH3_PCI_PMON_CTR2 (R60) -/
  | mc0Ch3PciPmonCtr2 (a : CfgAccess)
  /-- MC0_CH3_PCI_PMON_CTR3 (R60) -/
  | mc0Ch3PciPmonCtr3 (a : CfgAccess)
  /-- MC0_CH3_PCI_PMON_FIXED_CTL (R59) -/
  | mc0Ch3PciPmonFixedCtl (a : CfgAccess)
  /-- MC0_CH3_PCI_PMON_FIXED_CTR (R60) -/
  | mc0Ch3PciPmonFixedCtr (a : CfgAccess)
  /-- MC1_CH0_PCI_PMON_BOX_STATUS (R57) -/
  | mc1Ch0PciPmonBoxStatus (a : CfgAccess)
  /-- MC1_CH0_PCI_PMON_BOX_CTL (R56) -/
  | mc1Ch0PciPmonBoxCtl (a : CfgAccess)
  /-- MC1_CH0_PCI_PMON_CTL0 (R58) -/
  | mc1Ch0PciPmonCtl0 (a : CfgAccess)
  /-- MC1_CH0_PCI_PMON_CTL1 (R58) -/
  | mc1Ch0PciPmonCtl1 (a : CfgAccess)
  /-- MC1_CH0_PCI_PMON_CTL2 (R58) -/
  | mc1Ch0PciPmonCtl2 (a : CfgAccess)
  /-- MC1_CH0_PCI_PMON_CTL3 (R58) -/
  | mc1Ch0PciPmonCtl3 (a : CfgAccess)
  /-- MC1_CH0_PCI_PMON_CTR0 (R60) -/
  | mc1Ch0PciPmonCtr0 (a : CfgAccess)
  /-- MC1_CH0_PCI_PMON_CTR1 (R60) -/
  | mc1Ch0PciPmonCtr1 (a : CfgAccess)
  /-- MC1_CH0_PCI_PMON_CTR2 (R60) -/
  | mc1Ch0PciPmonCtr2 (a : CfgAccess)
  /-- MC1_CH0_PCI_PMON_CTR3 (R60) -/
  | mc1Ch0PciPmonCtr3 (a : CfgAccess)
  /-- MC1_CH0_PCI_PMON_FIXED_CTL (R59) -/
  | mc1Ch0PciPmonFixedCtl (a : CfgAccess)
  /-- MC1_CH0_PCI_PMON_FIXED_CTR (R60) -/
  | mc1Ch0PciPmonFixedCtr (a : CfgAccess)
  /-- MC1_CH1_PCI_PMON_BOX_STATUS (R57) -/
  | mc1Ch1PciPmonBoxStatus (a : CfgAccess)
  /-- MC1_CH1_PCI_PMON_BOX_CTL (R56) -/
  | mc1Ch1PciPmonBoxCtl (a : CfgAccess)
  /-- MC1_CH1_PCI_PMON_CTL0 (R58) -/
  | mc1Ch1PciPmonCtl0 (a : CfgAccess)
  /-- MC1_CH1_PCI_PMON_CTL1 (R58) -/
  | mc1Ch1PciPmonCtl1 (a : CfgAccess)
  /-- MC1_CH1_PCI_PMON_CTL2 (R58) -/
  | mc1Ch1PciPmonCtl2 (a : CfgAccess)
  /-- MC1_CH1_PCI_PMON_CTL3 (R58) -/
  | mc1Ch1PciPmonCtl3 (a : CfgAccess)
  /-- MC1_CH1_PCI_PMON_CTR0 (R60) -/
  | mc1Ch1PciPmonCtr0 (a : CfgAccess)
  /-- MC1_CH1_PCI_PMON_CTR1 (R60) -/
  | mc1Ch1PciPmonCtr1 (a : CfgAccess)
  /-- MC1_CH1_PCI_PMON_CTR2 (R60) -/
  | mc1Ch1PciPmonCtr2 (a : CfgAccess)
  /-- MC1_CH1_PCI_PMON_CTR3 (R60) -/
  | mc1Ch1PciPmonCtr3 (a : CfgAccess)
  /-- MC1_CH1_PCI_PMON_FIXED_CTL (R59) -/
  | mc1Ch1PciPmonFixedCtl (a : CfgAccess)
  /-- MC1_CH1_PCI_PMON_FIXED_CTR (R60) -/
  | mc1Ch1PciPmonFixedCtr (a : CfgAccess)
  /-- MC1_CH2_PCI_PMON_BOX_STATUS (R57) -/
  | mc1Ch2PciPmonBoxStatus (a : CfgAccess)
  /-- MC1_CH2_PCI_PMON_BOX_CTL (R56) -/
  | mc1Ch2PciPmonBoxCtl (a : CfgAccess)
  /-- MC1_CH2_PCI_PMON_CTL0 (R58) -/
  | mc1Ch2PciPmonCtl0 (a : CfgAccess)
  /-- MC1_CH2_PCI_PMON_CTL1 (R58) -/
  | mc1Ch2PciPmonCtl1 (a : CfgAccess)
  /-- MC1_CH2_PCI_PMON_CTL2 (R58) -/
  | mc1Ch2PciPmonCtl2 (a : CfgAccess)
  /-- MC1_CH2_PCI_PMON_CTL3 (R58) -/
  | mc1Ch2PciPmonCtl3 (a : CfgAccess)
  /-- MC1_CH2_PCI_PMON_CTR0 (R60) -/
  | mc1Ch2PciPmonCtr0 (a : CfgAccess)
  /-- MC1_CH2_PCI_PMON_CTR1 (R60) -/
  | mc1Ch2PciPmonCtr1 (a : CfgAccess)
  /-- MC1_CH2_PCI_PMON_CTR2 (R60) -/
  | mc1Ch2PciPmonCtr2 (a : CfgAccess)
  /-- MC1_CH2_PCI_PMON_CTR3 (R60) -/
  | mc1Ch2PciPmonCtr3 (a : CfgAccess)
  /-- MC1_CH2_PCI_PMON_FIXED_CTL (R59) -/
  | mc1Ch2PciPmonFixedCtl (a : CfgAccess)
  /-- MC1_CH2_PCI_PMON_FIXED_CTR (R60) -/
  | mc1Ch2PciPmonFixedCtr (a : CfgAccess)
  /-- MC1_CH3_PCI_PMON_BOX_STATUS (R57) -/
  | mc1Ch3PciPmonBoxStatus (a : CfgAccess)
  /-- MC1_CH3_PCI_PMON_BOX_CTL (R56) -/
  | mc1Ch3PciPmonBoxCtl (a : CfgAccess)
  /-- MC1_CH3_PCI_PMON_CTL0 (R58) -/
  | mc1Ch3PciPmonCtl0 (a : CfgAccess)
  /-- MC1_CH3_PCI_PMON_CTL1 (R58) -/
  | mc1Ch3PciPmonCtl1 (a : CfgAccess)
  /-- MC1_CH3_PCI_PMON_CTL2 (R58) -/
  | mc1Ch3PciPmonCtl2 (a : CfgAccess)
  /-- MC1_CH3_PCI_PMON_CTL3 (R58) -/
  | mc1Ch3PciPmonCtl3 (a : CfgAccess)
  /-- MC1_CH3_PCI_PMON_CTR0 (R60) -/
  | mc1Ch3PciPmonCtr0 (a : CfgAccess)
  /-- MC1_CH3_PCI_PMON_CTR1 (R60) -/
  | mc1Ch3PciPmonCtr1 (a : CfgAccess)
  /-- MC1_CH3_PCI_PMON_CTR2 (R60) -/
  | mc1Ch3PciPmonCtr2 (a : CfgAccess)
  /-- MC1_CH3_PCI_PMON_CTR3 (R60) -/
  | mc1Ch3PciPmonCtr3 (a : CfgAccess)
  /-- MC1_CH3_PCI_PMON_FIXED_CTL (R59) -/
  | mc1Ch3PciPmonFixedCtl (a : CfgAccess)
  /-- MC1_CH3_PCI_PMON_FIXED_CTR (R60) -/
  | mc1Ch3PciPmonFixedCtr (a : CfgAccess)
  /-- IRP_PCI_PMON_BOX_STATUS (R63) -/
  | irpPciPmonBoxStatus (a : CfgAccess)
  /-- IRP_PCI_PMON_BOX_CTL (R62) -/
  | irpPciPmonBoxCtl (a : CfgAccess)
  /-- IRP0_PCI_PMON_CTL0 (R64) -/
  | irp0PciPmonCtl0 (a : CfgAccess)
  /-- IRP0_PCI_PMON_CTL1 (R64) -/
  | irp0PciPmonCtl1 (a : CfgAccess)
  /-- IRP1_PCI_PMON_CTL0 (R64) -/
  | irp1PciPmonCtl0 (a : CfgAccess)
  /-- IRP1_PCI_PMON_CTL1 (R64) -/
  | irp1PciPmonCtl1 (a : CfgAccess)
  /-- IRP0_PCI_PMON_CTR0 (R65) -/
  | irp0PciPmonCtr0 (a : CfgAccess)
  /-- IRP0_PCI_PMON_CTR1 (R65) -/
  | irp0PciPmonCtr1 (a : CfgAccess)
  /-- IRP1_PCI_PMON_CTR0 (R65) -/
  | irp1PciPmonCtr0 (a : CfgAccess)
  /-- IRP1_PCI_PMON_CTR1 (R65) -/
  | irp1PciPmonCtr1 (a : CfgAccess)
  /-- Q_P0_PCI_PMON_BOX_STATUS (R75) -/
  | qP0PciPmonBoxStatus (a : CfgAccess)
  /-- Q_P0_PCI_PMON_BOX_CTL (R74) -/
  | qP0PciPmonBoxCtl (a : CfgAccess)
  /-- Q_P0_PCI_PMON_CTL0 (R76) -/
  | qP0PciPmonCtl0 (a : CfgAccess)
  /-- Q_P0_PCI_PMON_CTL1 (R76) -/
  | qP0PciPmonCtl1 (a : CfgAccess)
  /-- Q_P0_PCI_PMON_CTL2 (R76) -/
  | qP0PciPmonCtl2 (a : CfgAccess)
  /-- Q_P0_PCI_PMON_CTL3 (R76) -/
  | qP0PciPmonCtl3 (a : CfgAccess)
  /-- Q_P0_PCI_PMON_CTR0 (R77) -/
  | qP0PciPmonCtr0 (a : CfgAccess)
  /-- Q_P0_PCI_PMON_CTR1 (R77) -/
  | qP0PciPmonCtr1 (a : CfgAccess)
  /-- Q_P0_PCI_PMON_CTR2 (R77) -/
  | qP0PciPmonCtr2 (a : CfgAccess)
  /-- Q_P0_PCI_PMON_CTR3 (R77) -/
  | qP0PciPmonCtr3 (a : CfgAccess)
  /-- Q_P0_PCI_PMON_LINK_LLR (R81) -/
  | qP0PciPmonLinkLlr (a : CfgAccess)
  /-- Q_P0_PCI_PMON_LINK_IDLE (R81) -/
  | qP0PciPmonLinkIdle (a : CfgAccess)
  /-- Q_P0_PCI_PMON_RX_PKT_MASK1 (R78) -/
  | qP0PciPmonRxPktMask1 (a : CfgAccess)
  /-- Q_P0_PCI_PMON_RX_PKT_MASK0 (R79) -/
  | qP0PciPmonRxPktMask0 (a : CfgAccess)
  /-- Q_P0_PCI_PMON_RX_PKT_MATCH1 (R78) -/
  | qP0PciPmonRxPktMatch1 (a : CfgAccess)
  /-- Q_P0_PCI_PMON_RX_PKT_MATCH0 (R79) -/
  | qP0PciPmonRxPktMatch0 (a : CfgAccess)
  /-- Q_P0_PCI_PMON_TX_PKT_MASK1 (R78) -/
  | qP0PciPmonTxPktMask1 (a : CfgAccess)
  /-- Q_P0_PCI_PMON_TX_PKT_MASK0 (R79) -/
  | qP0PciPmonTxPktMask0 (a : CfgAccess)
  /-- Q_P0_PCI_PMON_TX_PKT_MATCH1 (R78) -/
  | qP0PciPmonTxPktMatch1 (a : CfgAccess)
  /-- Q_P0_PCI_PMON_TX_PKT_MATCH0 (R79) -/
  | qP0PciPmonTxPktMatch0 (a : CfgAccess)
  /-- Q_P1_PCI_PMON_BOX_STATUS (R75) -/
  | qP1PciPmonBoxStatus (a : CfgAccess)
  /-- Q_P1_PCI_PMON_BOX_CTL (R74) -/
  | qP1PciPmonBoxCtl (a : CfgAccess)
  /-- Q_P1_PCI_PMON_CTL0 (R76) -/
  | qP1PciPmonCtl0 (a : CfgAccess)
  /-- Q_P1_PCI_PMON_CTL1 (R76) -/
  | qP1PciPmonCtl1 (a : CfgAccess)
  /-- Q_P1_PCI_PMON_CTL2 (R76) -/
  | qP1PciPmonCtl2 (a : CfgAccess)
  /-- Q_P1_PCI_PMON_CTL3 (R76) -/
  | qP1PciPmonCtl3 (a : CfgAccess)
  /-- Q_P1_PCI_PMON_CTR0 (R77) -/
  | qP1PciPmonCtr0 (a : CfgAccess)
  /-- Q_P1_PCI_PMON_CTR1 (R77) -/
  | qP1PciPmonCtr1 (a : CfgAccess)
  /-- Q_P1_PCI_PMON_CTR2 (R77) -/
  | qP1PciPmonCtr2 (a : CfgAccess)
  /-- Q_P1_PCI_PMON_CTR3 (R77) -/
  | qP1PciPmonCtr3 (a : CfgAccess)
  /-- Q_P1_PCI_PMON_LINK_LLR (R81) -/
  | qP1PciPmonLinkLlr (a : CfgAccess)
  /-- Q_P1_PCI_PMON_LINK_IDLE (R81) -/
  | qP1PciPmonLinkIdle (a : CfgAccess)
  /-- Q_P1_PCI_PMON_RX_PKT_MASK1 (R78) -/
  | qP1PciPmonRxPktMask1 (a : CfgAccess)
  /-- Q_P1_PCI_PMON_RX_PKT_MASK0 (R79) -/
  | qP1PciPmonRxPktMask0 (a : CfgAccess)
  /-- Q_P1_PCI_PMON_RX_PKT_MATCH1 (R78) -/
  | qP1PciPmonRxPktMatch1 (a : CfgAccess)
  /-- Q_P1_PCI_PMON_RX_PKT_MATCH0 (R79) -/
  | qP1PciPmonRxPktMatch0 (a : CfgAccess)
  /-- Q_P1_PCI_PMON_TX_PKT_MASK1 (R78) -/
  | qP1PciPmonTxPktMask1 (a : CfgAccess)
  /-- Q_P1_PCI_PMON_TX_PKT_MASK0 (R79) -/
  | qP1PciPmonTxPktMask0 (a : CfgAccess)
  /-- Q_P1_PCI_PMON_TX_PKT_MATCH1 (R78) -/
  | qP1PciPmonTxPktMatch1 (a : CfgAccess)
  /-- Q_P1_PCI_PMON_TX_PKT_MATCH0 (R79) -/
  | qP1PciPmonTxPktMatch0 (a : CfgAccess)
  /-- Q_P2_PCI_PMON_BOX_STATUS (R75) -/
  | qP2PciPmonBoxStatus (a : CfgAccess)
  /-- Q_P2_PCI_PMON_BOX_CTL (R74) -/
  | qP2PciPmonBoxCtl (a : CfgAccess)
  /-- Q_P2_PCI_PMON_CTL0 (R76) -/
  | qP2PciPmonCtl0 (a : CfgAccess)
  /-- Q_P2_PCI_PMON_CTL1 (R76) -/
  | qP2PciPmonCtl1 (a : CfgAccess)
  /-- Q_P2_PCI_PMON_CTL2 (R76) -/
  | qP2PciPmonCtl2 (a : CfgAccess)
  /-- Q_P2_PCI_PMON_CTL3 (R76) -/
  | qP2PciPmonCtl3 (a : CfgAccess)
  /-- Q_P2_PCI_PMON_CTR0 (R77) -/
  | qP2PciPmonCtr0 (a : CfgAccess)
  /-- Q_P2_PCI_PMON_CTR1 (R77) -/
  | qP2PciPmonCtr1 (a : CfgAccess)
  /-- Q_P2_PCI_PMON_CTR2 (R77) -/
  | qP2PciPmonCtr2 (a : CfgAccess)
  /-- Q_P2_PCI_PMON_CTR3 (R77) -/
  | qP2PciPmonCtr3 (a : CfgAccess)
  /-- Q_P2_PCI_PMON_LINK_LLR (R81) -/
  | qP2PciPmonLinkLlr (a : CfgAccess)
  /-- Q_P2_PCI_PMON_LINK_IDLE (R81) -/
  | qP2PciPmonLinkIdle (a : CfgAccess)
  /-- Q_P2_PCI_PMON_RX_PKT_MASK1 (R78) -/
  | qP2PciPmonRxPktMask1 (a : CfgAccess)
  /-- Q_P2_PCI_PMON_RX_PKT_MASK0 (R79) -/
  | qP2PciPmonRxPktMask0 (a : CfgAccess)
  /-- Q_P2_PCI_PMON_RX_PKT_MATCH1 (R78) -/
  | qP2PciPmonRxPktMatch1 (a : CfgAccess)
  /-- Q_P2_PCI_PMON_RX_PKT_MATCH0 (R79) -/
  | qP2PciPmonRxPktMatch0 (a : CfgAccess)
  /-- Q_P2_PCI_PMON_TX_PKT_MASK1 (R78) -/
  | qP2PciPmonTxPktMask1 (a : CfgAccess)
  /-- Q_P2_PCI_PMON_TX_PKT_MASK0 (R79) -/
  | qP2PciPmonTxPktMask0 (a : CfgAccess)
  /-- Q_P2_PCI_PMON_TX_PKT_MATCH1 (R78) -/
  | qP2PciPmonTxPktMatch1 (a : CfgAccess)
  /-- Q_P2_PCI_PMON_TX_PKT_MATCH0 (R79) -/
  | qP2PciPmonTxPktMatch0 (a : CfgAccess)
  /-- QPI0_RATE_STATUS (R80) -/
  | qpi0RateStatus (a : CfgAccess)
  /-- QPI1_RATE_STATUS (R80) -/
  | qpi1RateStatus (a : CfgAccess)
  /-- R2_PCI_PMON_BOX_STATUS (R84) -/
  | r2PciPmonBoxStatus (a : CfgAccess)
  /-- R2_PCI_PMON_BOX_CTL (R83) -/
  | r2PciPmonBoxCtl (a : CfgAccess)
  /-- R2_PCI_PMON_CTL0 (R85) -/
  | r2PciPmonCtl0 (a : CfgAccess)
  /-- R2_PCI_PMON_CTL1 (R85) -/
  | r2PciPmonCtl1 (a : CfgAccess)
  /-- R2_PCI_PMON_CTL2 (R85) -/
  | r2PciPmonCtl2 (a : CfgAccess)
  /-- R2_PCI_PMON_CTL3 (R85) -/
  | r2PciPmonCtl3 (a : CfgAccess)
  /-- R2_PCI_PMON_CTR0 (R86) -/
  | r2PciPmonCtr0 (a : CfgAccess)
  /-- R2_PCI_PMON_CTR1 (R86) -/
  | r2PciPmonCtr1 (a : CfgAccess)
  /-- R2_PCI_PMON_CTR2 (R86) -/
  | r2PciPmonCtr2 (a : CfgAccess)
  /-- R2_PCI_PMON_CTR3 (R86) -/
  | r2PciPmonCtr3 (a : CfgAccess)
  /-- R3_L0_PCI_PMON_BOX_STATUS (R89) -/
  | r3L0PciPmonBoxStatus (a : CfgAccess)
  /-- R3_L0_PCI_PMON_BOX_CTL (R88) -/
  | r3L0PciPmonBoxCtl (a : CfgAccess)
  /-- R3_L0_PCI_PMON_CTL0 (R90) -/
  | r3L0PciPmonCtl0 (a : CfgAccess)
  /-- R3_L0_PCI_PMON_CTL1 (R90) -/
  | r3L0PciPmonCtl1 (a : CfgAccess)
  /-- R3_L0_PCI_PMON_CTL2 (R90) -/
  | r3L0PciPmonCtl2 (a : CfgAccess)
  /-- R3_L0_PCI_PMON_CTR0 (R91) -/
  | r3L0PciPmonCtr0 (a : CfgAccess)
  /-- R3_L0_PCI_PMON_CTR1 (R91) -/
  | r3L0PciPmonCtr1 (a : CfgAccess)
  /-- R3_L0_PCI_PMON_CTR2 (R91) -/
  | r3L0PciPmonCtr2 (a : CfgAccess)
  /-- R3_L1_PCI_PMON_BOX_STATUS (R89) -/
  | r3L1PciPmonBoxStatus (a : CfgAccess)
  /-- R3_L1_PCI_PMON_BOX_CTL (R88) -/
  | r3L1PciPmonBoxCtl (a : CfgAccess)
  /-- R3_L1_PCI_PMON_CTL0 (R90) -/
  | r3L1PciPmonCtl0 (a : CfgAccess)
  /-- R3_L1_PCI_PMON_CTL1 (R90) -/
  | r3L1PciPmonCtl1 (a : CfgAccess)
  /-- R3_L1_PCI_PMON_CTL2 (R90) -/
  | r3L1PciPmonCtl2 (a : CfgAccess)
  /-- R3_L1_PCI_PMON_CTR0 (R91) -/
  | r3L1PciPmonCtr0 (a : CfgAccess)
  /-- R3_L1_PCI_PMON_CTR1 (R91) -/
  | r3L1PciPmonCtr1 (a : CfgAccess)
  /-- R3_L1_PCI_PMON_CTR2 (R91) -/
  | r3L1PciPmonCtr2 (a : CfgAccess)
  /-- R3_L2_PCI_PMON_BOX_STATUS (R89) -/
  | r3L2PciPmonBoxStatus (a : CfgAccess)
  /-- R3_L2_PCI_PMON_BOX_CTL (R88) -/
  | r3L2PciPmonBoxCtl (a : CfgAccess)
  /-- R3_L2_PCI_PMON_CTL0 (R90) -/
  | r3L2PciPmonCtl0 (a : CfgAccess)
  /-- R3_L2_PCI_PMON_CTL1 (R90) -/
  | r3L2PciPmonCtl1 (a : CfgAccess)
  /-- R3_L2_PCI_PMON_CTL2 (R90) -/
  | r3L2PciPmonCtl2 (a : CfgAccess)
  /-- R3_L2_PCI_PMON_CTR0 (R91) -/
  | r3L2PciPmonCtr0 (a : CfgAccess)
  /-- R3_L2_PCI_PMON_CTR1 (R91) -/
  | r3L2PciPmonCtr1 (a : CfgAccess)
  /-- R3_L2_PCI_PMON_CTR2 (R91) -/
  | r3L2PciPmonCtr2 (a : CfgAccess)
  deriving DecidableEq, Repr

end Sys2Proof
end

