-- ==== Sys2Proof/Config.lean ====
section
/-! DEFINITION. What an implementation fixes (the parameters of 00_scope.md R7 and 92_eei_decisions.md) and what the
spec leaves to the environment: the raw increments (00_scope.md R12), the draws (R10) and the order in which the agents
move. Every `opaque` here is a free value: nothing can be proved of what it is. -/

namespace Sys2Proof

/-- The parameters of one part. A machine carries them in `State.cfg` and never changes them (70_reset_and_hazards.md
R1040). -/
structure Params where
  /-- N_CBO, 0..18 -/
  nCbo : Nat
  /-- N_SBO, 0..4 -/
  nSbo : Nat
  /-- N_HA, 1..2 -/
  nHa : Nat
  /-- N_IMC, 1..2 -/
  nImc : Nat
  /-- N_CH[0], 1..4 -/
  nCh0 : Nat
  /-- N_CH[1], 1..4 -/
  nCh1 : Nat
  /-- N_QPI_PORT, 1..3 -/
  nQpiPort : Nat
  /-- N_R3_LINK, 2..3 -/
  nR3Link : Nat
  /-- N_CORE, 1..18 -/
  nCore : Nat
  /-- BUS (20_memory.md R108) -/
  bus : BitVec 8
  /-- NODE_ID of the discovery function (20_memory.md R110) -/
  nodeId : BitVec 3
  /-- GID_MAP of the discovery function (20_memory.md R110) -/
  gidMap : BitVec 24
  /-- R3_CTR_WIDTH: 44, or 48 when set (49_r3qpi.md R912) -/
  r3Wide : Bool
  /-- IRP_CTR_OFFSETS: (A0, A8, B0, B8), or (A0, B0, B8, C0) when set (90_conflicts.md C2) -/
  irpAlt : Bool
  /-- QPI_RATE (47_qpi.md R777) -/
  qpiRate : BitVec 3
  /-- BOXCTL_RSV_ONE (10_state.md R22) -/
  boxCtlOne : BitVec 2
  /-- RAW_BOUND is 512 plus this (30_encoding.md R163 asks for at least 512) -/
  rawExtra : Nat
  /-- FREEZE_PROPAGATION = eventual when set (20_memory.md R116) -/
  propEventual : Bool
  /-- HA_CONFLICT_CTRS: {0}, or {1} when set (90_conflicts.md C23) -/
  haConflictOne : Bool
  /-- IRP_ORDERINGQ (45_irp.md R604) -/
  irpOrderingQ : BitVec 5
  deriving DecidableEq, Repr, Inhabited

/-- The ranges of 00_scope.md R7 and 92_eei_decisions.md section 2. The fields not named here have every value of their
type in range. -/
structure Params.Ok (p : Params) : Prop where
  cbo : p.nCbo ≤ 18
  sbo : p.nSbo ≤ 4
  ha : 1 ≤ p.nHa ∧ p.nHa ≤ 2
  imc : 1 ≤ p.nImc ∧ p.nImc ≤ 2
  ch0 : 1 ≤ p.nCh0 ∧ p.nCh0 ≤ 4
  ch1 : 1 ≤ p.nCh1 ∧ p.nCh1 ≤ 4
  qpiPort : 1 ≤ p.nQpiPort ∧ p.nQpiPort ≤ 3
  r3Link : 2 ≤ p.nR3Link ∧ p.nR3Link ≤ 3
  core : 1 ≤ p.nCore ∧ p.nCore ≤ 18
  rate : p.qpiRate = 3 ∨ p.qpiRate = 4 ∨ p.qpiRate = 5 ∨ p.qpiRate = 7
  boxCtl : p.boxCtlOne = 1 ∨ p.boxCtlOne = 3

/-- RAW_BOUND (30_encoding.md R163). -/
def Params.rawBound (p : Params) : Nat := 512 + p.rawExtra

/-- R3_CTR_WIDTH (49_r3qpi.md R912). -/
def Params.r3Width (p : Params) : Nat := if p.r3Wide then 48 else 44

/-- The default parameters of 95_test_vectors.md section 0; what it does not name is 0 (a design choice, log 3). -/
def Params.default : Params where
  nCbo := 18
  nSbo := 4
  nHa := 2
  nImc := 2
  nCh0 := 4
  nCh1 := 4
  nQpiPort := 3
  nR3Link := 3
  nCore := 18
  bus := 0
  nodeId := 0
  gidMap := 0
  r3Wide := false
  irpAlt := false
  qpiRate := 3
  boxCtlOne := 1
  rawExtra := 0
  propEventual := false
  haConflictOne := false
  irpOrderingQ := 0

/-- Cache line states found by an LLC lookup; I is a miss (41_cbo.md R277). -/
inductive LineState where
  | i | s | e | m | f
  deriving DecidableEq, Repr, Inhabited

/-- One occurrence of a filtered event in one clock cycle, with the attributes the filters read (41_cbo.md R276,
43_ha.md R404, 45_irp.md R604). The environment supplies it. -/
structure Occ where
  /-- The unit mask rows of the event this occurrence belongs to, each row named by the bits printed 1 in its pattern. -/
  rows : List (BitVec 8)
  /-- Thread id (41_cbo.md R278). -/
  tid : BitVec 6
  /-- Target node id. -/
  nid : BitVec 4
  opc : BitVec 9
  nonCoherent : Bool
  isoc : Bool
  line : LineState
  /-- Cache-line address bits 45:6, if the packet has one; not read of an NDR response (43_ha.md R404). -/
  addr : Option (BitVec 40)
  /-- Message class code, 4 bits (49_packet_matching.md R971). -/
  cls : BitVec 4
  /-- QPI opcode. -/
  pktOpc : BitVec 4
  /-- IRP source queue. -/
  queue : BitVec 5
  deriving DecidableEq, Repr, Inhabited

/-- A packet handled by a QPI port (47_qpi.md R757). -/
structure Packet where
  /-- Received, else transmitted. -/
  rx : Bool
  rnid : BitVec 5
  dnid : BitVec 5
  mc : BitVec 4
  opc : BitVec 4
  vnw : BitVec 2
  rds : BitVec 4
  deriving DecidableEq, Repr, Inhabited

/-- The conditions the four PCU free-running counters count (46_pcu.md R659). -/
inductive FreeRun where
  | cc6 | cc3 | pc2 | pc3
  deriving DecidableEq, Repr, Inhabited

/-- What moves next: the host, one box's clock, a message in flight, or the platform. Agents interleave arbitrarily
(20_memory.md R111); a turn is plain data, so a run is a list of turns. -/
inductive Turn where
  /-- The host issues one access, its command laid out as `decodeHost` reads it. -/
  | host (cmd : List Byte)
  /-- One cycle of a box's clock (40_global_ubox.md R215). -/
  | clock (b : BoxId)
  /-- The UBox receives the `k`-th pending overflow message (R226). -/
  | deliver (k : Nat)
  /-- A frequency transition ends in the PCU (46_pcu.md R656). -/
  | frequency
  /-- A box's copy of the global freeze catches up (20_memory.md R116, FREEZE_PROPAGATION = eventual). -/
  | seen (b : BoxId)
  /-- The hardware reset (70_reset_and_hazards.md R1040). -/
  | reset
  deriving DecidableEq, Repr, Inhabited

/-- `draw(S)` of 00_scope.md R10: the n-th value the environment draws, reduced to the set by `State.draw`. -/
opaque Config.draw : Nat → Nat

/-- Who moves when no turn is listed: the n-th choice of the environment's scheduler. -/
opaque Config.schedule : Nat → Turn

/-- `inc` of 00_scope.md R12: the raw increment of event `code` (with ev_sel_ext as bit 8) at box `b` in the cycle with
time stamp `t`, as a function of the unit mask rows selected; `set` is the IRP counter set (45_irp.md R601) and 0
elsewhere. `Event.increment` holds it to the laws of R12. -/
opaque Config.inc : (b : BoxId) → (set : Nat) → (code : Nat) → (t : Nat) → (rows : List (BitVec 8)) → Nat

/-- The occurrences of an event whose filter or match registers the spec describes (41_cbo.md R276, 43_ha.md R404,
45_irp.md R605), with the same arguments. -/
opaque Config.occ : (b : BoxId) → (set : Nat) → (code : Nat) → (t : Nat) → List Occ

/-- Row AD (0x04), BL (0x08) or AK (0x10) of an HA's ADDR_OPC_MATCH counts this packet in cycle `t`, under this value of
OPCODEMATCH.opc: the part of `inc` that 43_ha.md R404 leaves open. -/
opaque Config.haRing : (n : Fin 2) → (t : Nat) → (row : BitVec 8) → (opc : BitVec 6) → Occ → Bool

/-- The packet a QPI port's slot holds in a cycle (47_qpi.md R759). Its RDS field is the environment's, as for a packet
that has none (R757). -/
opaque Config.slot : (port : Fin 3) → (slot : Bool) → (t : Nat) → Option Packet

/-- The receive side of a QPI link is idle in this cycle (47_qpi.md R760). -/
opaque Config.rxIdle : (port : Fin 3) → (t : Nat) → Bool

/-- The receive side of a QPI link is in LLR in this cycle (47_qpi.md R760). -/
opaque Config.rxLlr : (port : Fin 3) → (t : Nat) → Bool

/-- The condition of a PCU free-running counter in this cycle (46_pcu.md R659). -/
opaque Config.freeRun : (c : FreeRun) → (t : Nat) → Bool

/-- The uncore frequency in units of 100 MHz in this cycle (46_pcu.md R656). -/
opaque Config.ratio : (t : Nat) → Nat

/-- This cycle is part of a frequency transition (46_pcu.md R656). -/
opaque Config.inTransition : (t : Nat) → Bool

/-- The cores asleep at the n-th moment of choice (60_exceptions.md R1008). -/
opaque Config.asleep : (n : Nat) → BitVec 18

end Sys2Proof
end

