-- ==== Sys2Proof/Machine/Events.lean ====
section
/-! DEFINITION. The events of every box: their codes, unit mask rows, counter restrictions and largest increments
(30_encoding.md R157, R162, R172 to R181), and how a unit mask selects rows. The decoder, the encoder and the
meanings all read these tables. -/

namespace Sys2Proof.Machine

/-- A unit mask row's pattern (30_encoding.md R157): no table (the field is not examined), a bit row, an exact row, or a
mixed row. -/
inductive Sel where
  | any
  | bits (m : BitVec 8)
  | exact (v : BitVec 8)
  | masked (v m : BitVec 8)
  deriving DecidableEq, Repr, Inhabited

/-- The bits printed 1 in a row's pattern; within one event they name the row. -/
def Sel.base : Sel → BitVec 8
  | .any => 0
  | .bits m => m
  | .exact v => v
  | .masked v _ => v

/-- A unit mask value selects a row (30_encoding.md R157). -/
def Sel.selected (u : BitVec 8) : Sel → Bool
  | .any => true
  | .bits m => u &&& m == m
  | .exact v => u == v
  | .masked v m => u &&& m == v

/-- Whether a row is a bit row. -/
def Sel.isBits : Sel → Bool
  | .bits _ => true
  | _ => false

/-- Whether a row is an exact row. -/
def Sel.isExact : Sel → Bool
  | .exact _ => true
  | _ => false

/-- The bits a bit row lists; none for the other forms. -/
def Sel.listedBits : Sel → BitVec 8
  | .bits m => m
  | _ => 0

/-- One unit mask row and the CBo filter fields it reads (41_cbo.md R276 to R280). -/
structure Row where
  sel : Sel
  state : Bool := false
  nid : Bool := false
  opc : Bool := false
  deriving DecidableEq, Repr, Inhabited

/-- What gives an event its raw increment, where the spec says more of it than R12 does. -/
inductive EvKind where
  /-- 1 in every cycle of the box's clock -/
  | clock
  /-- the environment's `inc`, no filter -/
  | env
  /-- CBo occurrences under the thread, node and opcode filters (R276 to R281) -/
  | cbo
  /-- LLC_LOOKUP, which also reads the state filter (R277) -/
  | llcLookup
  /-- COUNTER0_OCCUPANCY (R273) -/
  | counter0Occupancy
  /-- ADDR_OPC_MATCH (43_ha.md R404) -/
  | haMatch
  /-- CONFLICT_CYCLES, whose counters are a parameter (43_ha.md R407) -/
  | haConflict
  /-- TRANSACTIONS, SNOOP_RESP, CACHE_TOTAL_OCCUPANCY (45_irp.md R604, R605) -/
  | irpTransactions | irpSnoopResp | irpCache
  /-- FREQ_BANDk_CYCLES (46_pcu.md R656) -/
  | freqBand (k : Fin 4)
  /-- an event of core n (46_pcu.md R660) -/
  | perCore (n : Nat)
  /-- CTO_COUNT (47_qpi.md R759) -/
  | qpiCto
  deriving DecidableEq, Repr, Inhabited

/-- One event of a box. `rows` lists the more specific rows first (exact, mixed, several bits, one bit), each group in
the source's order; `ctrs` has bit i set when counter i may count the event. -/
structure Event where
  code : BitVec 8
  ext : Bool := false
  ctrs : BitVec 4 := 0xF
  maxInc : Nat := 1
  /-- The listed unit mask values select one rank each and add at most 1, whatever MaxInc is (44_imc.md R506(d), R520). -/
  oneRank : Bool := false
  /-- Its exact rows are the ORs of other rows (48_r2pcie.md R877(d), (e)). -/
  ors : Bool := false
  kind : EvKind := .env
  rows : List Row
  deriving DecidableEq, Repr, Inhabited

/-- Every bit that some bit row of the event lists. -/
def Event.listedBits (e : Event) : BitVec 8 := e.rows.foldl (fun acc r => acc ||| r.sel.listedBits) 0

/-- The unit mask value is one the source lists: it selects a row, and if only bit rows, it has no bit that belongs to no
row (30_encoding.md R163). -/
def Event.listed (e : Event) (u : BitVec 8) : Bool :=
  e.rows.any (fun r => !r.sel.isBits && r.sel.selected u) ||
    (e.rows.any (fun r => r.sel.selected u) && u &&& ~~~e.listedBits == 0)

/-- The row that names a listed unit mask value: the first selected row, by its base. -/
def Event.pick (e : Event) (u : BitVec 8) : Option (BitVec 8) :=
  if e.listed u then (e.rows.find? (fun r => r.sel.selected u)).map (fun r => r.sel.base) else none

/-- The 9-bit event code: ev_sel_ext above ev_sel. -/
def Event.code9 (e : Event) : Nat := (if e.ext then 256 else 0) + e.code.toNat

/-! ### The laws of the raw increment (00_scope.md R12) -/

/-- The largest raw increment of a listed unit mask value: MaxInc, or 1 where each listed value is one rank. -/
def Event.bound (e : Event) : Nat := if e.oneRank then min 1 e.maxInc else e.maxInc

/-- A row that unit mask bits select beside others: a bit row, or an exact row that is an OR of rows. -/
def Event.joins (e : Event) (r : Row) : Bool := r.sel.isBits || e.ors

/-- Such a row adds nothing of its own when its bits are those of smaller rows together: selecting it is selecting
them. -/
def Event.composite (e : Event) (r : Row) : Bool :=
  e.joins r && r.sel.base != 0 &&
    (e.rows.filter (fun q => e.joins q && q.sel.base != r.sel.base && q.sel.base &&& r.sel.base == q.sel.base)).foldl
      (fun acc q => acc ||| q.sel.base) 0 == r.sel.base

/-- The row is selected by a unit mask value; an exact row that is an OR of rows, by its bits. -/
def Event.selects (e : Event) (u : BitVec 8) (r : Row) : Bool :=
  if e.ors then u &&& r.sel.base == r.sel.base else r.sel.selected u

/-- The exact row that a unit mask value equals. It stands alone, with a meaning of its own (92_eei_decisions.md D30),
although 30_encoding.md R157 lets the value select the bit rows beneath it too (log 37). -/
def Event.alone (e : Event) (u : BitVec 8) : Option Row :=
  e.rows.find? (fun r => !e.ors && r.sel.isExact && r.sel.selected u)

/-- The rows a unit mask value selects, composite ones apart. -/
def Event.selection (e : Event) (u : BitVec 8) : List (BitVec 8) :=
  match e.alone u with
  | some r => [r.sel.base]
  | none => (e.rows.filter (fun r => e.selects u r && !e.composite r)).map (fun r => r.sel.base)

/-- The laws of R12 on an increment as a function of the selected rows: none for no row, at most MaxInc, no less for more
rows, and for several rows together at most the sum. R12 states them over the bits of the unit mask; for a mixed row,
whose fixed 0 bits other rows may set, they hold over the rows selected (log 37). -/
abbrev Event.Lawful (e : Event) (g : List (BitVec 8) → Nat) : Prop :=
  g [] = 0 ∧ (∀ u, g (e.selection u) ≤ e.bound) ∧
    (∀ u v, e.selection u ⊆ e.selection v → g (e.selection u) ≤ g (e.selection v)) ∧
    (∀ u v w, e.selection w ⊆ e.selection u ++ e.selection v →
      g (e.selection w) ≤ g (e.selection u) + g (e.selection v))

/-- The raw increment the environment's `g` gives at unit mask `u`. Every lawful `g` gives itself; one that keeps not
the laws, which R12 excludes, gives nothing. -/
def Event.increment (e : Event) (g : List (BitVec 8) → Nat) (u : BitVec 8) : Nat :=
  if e.Lawful g then g (e.selection u) else 0

/-- A row without filter dependency. -/
def row (s : Sel) : Row := { sel := s }

/-! ### UBox (R250 to R252) -/

/-- UBox EVENT_MSG (R250). -/
def evUBoxEventMsg : Event :=
  { code := 0x42, ctrs := 0x3, rows := [
    row (.bits 0x08)] }

/-- UBox PHOLD_CYCLES (R251). -/
def evUBoxPholdCycles : Event :=
  { code := 0x45, ctrs := 0x3, rows := [
    row (.bits 0x01)] }

/-- UBox RACU_REQUESTS (R252). -/
def evUBoxRacuRequests : Event :=
  { code := 0x46, ctrs := 0x3, rows := [
    row .any] }

/-! ### CBo (41_cbo.md R290 to R317) -/

/-- CBo CLOCKTICKS (R291). -/
def evCBoClockticks : Event :=
  { code := 0x00, kind := .clock, rows := [
    row .any] }

/-- CBo TxR_INSERTS (R317). -/
def evCBoTxRInserts : Event :=
  { code := 0x02, kind := .cbo, rows := [
    row (.bits 0x01), row (.bits 0x02), row (.bits 0x04), row (.bits 0x08), row (.bits 0x10), row (.bits 0x20),
    row (.bits 0x40)] }

/-- CBo TxR_ADS_USED (R316). -/
def evCBoTxRAdsUsed : Event :=
  { code := 0x04, kind := .cbo, rows := [
    row (.bits 0x01), row (.bits 0x02), row (.bits 0x04)] }

/-- CBo RING_BOUNCES (R300). -/
def evCBoRingBounces : Event :=
  { code := 0x05, kind := .cbo, rows := [
    row (.bits 0x01), row (.bits 0x02), row (.bits 0x04), row (.bits 0x10)] }

/-- CBo RING_SRC_THRTL (R302). -/
def evCBoRingSrcThrtl : Event :=
  { code := 0x07, kind := .cbo, rows := [
    row .any] }

/-- CBo FAST_ASSERTED (R293). -/
def evCBoFastAsserted : Event :=
  { code := 0x09, ctrs := 0x3, kind := .cbo, rows := [
    row .any] }

/-- CBo BOUNCE_CONTROL (R290). -/
def evCBoBounceControl : Event :=
  { code := 0x0A, kind := .cbo, rows := [
    row .any] }

/-- CBo RxR_OCCUPANCY (R311). -/
def evCBoRxROccupancy : Event :=
  { code := 0x11, ctrs := 0x1, maxInc := 20, kind := .cbo, rows := [
    row (.exact 0x01), row (.exact 0x02), row (.exact 0x04), row (.exact 0x20)] }

/-- CBo RxR_EXT_STARVED (R303). -/
def evCBoRxRExtStarved : Event :=
  { code := 0x12, kind := .cbo, rows := [
    row (.bits 0x01), row (.bits 0x02), row (.bits 0x04), row (.bits 0x08)] }

/-- CBo RxR_INSERTS (R304). -/
def evCBoRxRInserts : Event :=
  { code := 0x13, kind := .cbo, rows := [
    row (.bits 0x01), row (.bits 0x02), row (.bits 0x04), row (.bits 0x10), row (.bits 0x20)] }

/-- CBo RING_AD_USED (R297). -/
def evCBoRingAdUsed : Event :=
  { code := 0x1B, maxInc := 2, kind := .cbo, rows := [
    row (.exact 0x03), row (.exact 0x0C), row (.exact 0x0F), row (.bits 0x01), row (.bits 0x02), row (.bits 0x04),
    row (.bits 0x08)] }

/-- CBo RING_AK_USED (R298). -/
def evCBoRingAkUsed : Event :=
  { code := 0x1C, maxInc := 2, kind := .cbo, rows := [
    row (.exact 0x03), row (.exact 0x0C), row (.exact 0x0F), row (.bits 0x01), row (.bits 0x02), row (.bits 0x04),
    row (.bits 0x08)] }

/-- CBo RING_BL_USED (R299). -/
def evCBoRingBlUsed : Event :=
  { code := 0x1D, maxInc := 2, kind := .cbo, rows := [
    row (.exact 0x03), row (.exact 0x0C), row (.exact 0x0F), row (.bits 0x01), row (.bits 0x02), row (.bits 0x04),
    row (.bits 0x08)] }

/-- CBo RING_IV_USED (R301). -/
def evCBoRingIvUsed : Event :=
  { code := 0x1E, kind := .cbo, rows := [
    row (.exact 0x03), row (.exact 0x0C), row (.exact 0x0F), row (.exact 0xCC)] }

/-- CBo COUNTER0_OCCUPANCY (R292). -/
def evCBoCounter0Occupancy : Event :=
  { code := 0x1F, maxInc := 20, kind := .counter0Occupancy, rows := [
    row .any] }

/-- CBo RxR_IPQ_RETRY2 (R306). -/
def evCBoRxRIpqRetry2 : Event :=
  { code := 0x28, kind := .cbo, rows := [
    row (.bits 0x01), { sel := .bits 0x40, nid := true }] }

/-- CBo RxR_IRQ_RETRY2 (R308). -/
def evCBoRxRIrqRetry2 : Event :=
  { code := 0x29, kind := .cbo, rows := [
    row (.bits 0x01), row (.bits 0x02), { sel := .bits 0x40, nid := true }] }

/-- CBo RxR_ISMQ_RETRY2 (R310). -/
def evCBoRxRIsmqRetry2 : Event :=
  { code := 0x2A, kind := .cbo, rows := [
    row (.bits 0x01), row (.bits 0x02), { sel := .bits 0x40, nid := true }] }

/-- CBo RxR_IPQ_RETRY (R305). -/
def evCBoRxRIpqRetry : Event :=
  { code := 0x31, kind := .cbo, rows := [
    row (.bits 0x01), row (.bits 0x02), row (.bits 0x04), row (.bits 0x10)] }

/-- CBo RxR_IRQ_RETRY (R307). -/
def evCBoRxRIrqRetry : Event :=
  { code := 0x32, kind := .cbo, rows := [
    row (.bits 0x01), row (.bits 0x02), row (.bits 0x04), row (.bits 0x08), row (.bits 0x10), row (.bits 0x20),
    { sel := .bits 0x40, nid := true }] }

/-- CBo RxR_ISMQ_RETRY (R309). -/
def evCBoRxRIsmqRetry : Event :=
  { code := 0x33, kind := .cbo, rows := [
    row (.bits 0x01), row (.bits 0x02), row (.bits 0x08), row (.bits 0x10), row (.bits 0x20),
    { sel := .bits 0x40, nid := true }, { sel := .bits 0x80, nid := true }] }

/-- CBo LLC_LOOKUP (R294). -/
def evCBoLlcLookup : Event :=
  { code := 0x34, kind := .llcLookup, rows := [
    { sel := .exact 0x03, state := true }, { sel := .exact 0x05, state := true },
    { sel := .exact 0x09, state := true }, { sel := .exact 0x11, state := true },
    { sel := .exact 0x21, state := true }, { sel := .exact 0x41, state := true, nid := true }] }

/-- CBo TOR_INSERTS (R314). -/
def evCBoTorInserts : Event :=
  { code := 0x35, kind := .cbo, rows := [
    { sel := .exact 0x01, opc := true }, { sel := .exact 0x03, opc := true }, row (.exact 0x04), row (.exact 0x08),
    row (.exact 0x10), { sel := .exact 0x21, opc := true }, { sel := .exact 0x23, opc := true }, row (.exact 0x28),
    row (.exact 0x2A), { sel := .exact 0x41, nid := true, opc := true },
    { sel := .exact 0x43, nid := true, opc := true }, { sel := .exact 0x44, nid := true },
    { sel := .exact 0x48, nid := true }, { sel := .exact 0x4A, nid := true }, { sel := .exact 0x50, nid := true },
    { sel := .exact 0x81, opc := true }, { sel := .exact 0x83, opc := true }, row (.exact 0x88), row (.exact 0x8A)] }

/-- CBo TOR_OCCUPANCY (R315). -/
def evCBoTorOccupancy : Event :=
  { code := 0x36, ctrs := 0x1, maxInc := 20, kind := .cbo, rows := [
    { sel := .exact 0x01, opc := true }, { sel := .exact 0x03, opc := true }, row (.exact 0x04), row (.exact 0x08),
    row (.exact 0x0A), row (.exact 0x10), { sel := .exact 0x21, opc := true }, { sel := .exact 0x23, opc := true },
    row (.exact 0x28), row (.exact 0x2A), { sel := .exact 0x41, nid := true, opc := true },
    { sel := .exact 0x43, nid := true, opc := true }, { sel := .exact 0x44, nid := true },
    { sel := .exact 0x48, nid := true }, { sel := .exact 0x4A, nid := true }, { sel := .exact 0x50, nid := true },
    { sel := .exact 0x81, opc := true }, { sel := .exact 0x83, opc := true }, row (.exact 0x88), row (.exact 0x8A)] }

/-- CBo LLC_VICTIMS (R295). -/
def evCBoLlcVictims : Event :=
  { code := 0x37, kind := .cbo, rows := [
    row (.bits 0x01), row (.bits 0x02), row (.bits 0x04), row (.bits 0x08), row (.bits 0x10),
    { sel := .bits 0x40, nid := true }] }

/-- CBo MISC (R296). -/
def evCBoMisc : Event :=
  { code := 0x39, kind := .cbo, rows := [
    row (.bits 0x01), row (.bits 0x02), row (.bits 0x04), row (.bits 0x08), row (.bits 0x10), row (.bits 0x20)] }

/-- CBo SBO_CREDITS_ACQUIRED (R312). -/
def evCBoSboCreditsAcquired : Event :=
  { code := 0x3D, kind := .cbo, rows := [
    row (.bits 0x01), row (.bits 0x02)] }

/-- CBo SBO_CREDIT_OCCUPANCY (R313). -/
def evCBoSboCreditOccupancy : Event :=
  { code := 0x3E, ctrs := 0x1, maxInc := 7, kind := .cbo, rows := [
    row (.bits 0x01), row (.bits 0x02)] }

/-! ### SBo (42_sbo.md) -/

/-- SBo CLOCKTICKS (R361). -/
def evSBoClockticks : Event :=
  { code := 0x00, kind := .clock, rows := [
    row .any] }

/-- SBo TxR_OCCUPANCY (R373). -/
def evSBoTxROccupancy : Event :=
  { code := 0x01, maxInc := 12, rows := [
    row (.exact 0x01), row (.exact 0x02), row (.exact 0x04), row (.exact 0x08), row (.exact 0x10), row (.exact 0x20)] }

/-- SBo TxR_INSERTS (R372). -/
def evSBoTxRInserts : Event :=
  { code := 0x02, rows := [
    row (.bits 0x01), row (.bits 0x02), row (.bits 0x04), row (.bits 0x08), row (.bits 0x10), row (.bits 0x20)] }

/-- SBo TxR_ADS_USED (R371). -/
def evSBoTxRAdsUsed : Event :=
  { code := 0x04, rows := [
    row (.bits 0x01), row (.bits 0x02), row (.bits 0x04)] }

/-- SBo RING_BOUNCES (R366). -/
def evSBoRingBounces : Event :=
  { code := 0x05, maxInc := 2, rows := [
    row (.bits 0x01), row (.bits 0x02), row (.bits 0x04), row (.bits 0x08)] }

/-- SBo FAST_ASSERTED (R362). -/
def evSBoFastAsserted : Event :=
  { code := 0x09, rows := [
    row .any] }

/-- SBo BOUNCE_CONTROL (R360). -/
def evSBoBounceControl : Event :=
  { code := 0x0A, rows := [
    row .any] }

/-- SBo RxR_OCCUPANCY (R370). -/
def evSBoRxROccupancy : Event :=
  { code := 0x11, maxInc := 12, rows := [
    row (.exact 0x01), row (.exact 0x02), row (.exact 0x04), row (.exact 0x08), row (.exact 0x10), row (.exact 0x20)] }

/-- SBo RxR_BYPASS (R368). -/
def evSBoRxRBypass : Event :=
  { code := 0x12, maxInc := 12, rows := [
    row (.exact 0x01), row (.exact 0x02), row (.exact 0x04), row (.exact 0x08), row (.exact 0x10), row (.exact 0x20)] }

/-- SBo RxR_INSERTS (R369). -/
def evSBoRxRInserts : Event :=
  { code := 0x13, rows := [
    row (.bits 0x01), row (.bits 0x02), row (.bits 0x04), row (.bits 0x08), row (.bits 0x10), row (.bits 0x20)] }

/-- SBo RING_AD_USED (R363). -/
def evSBoRingAdUsed : Event :=
  { code := 0x1B, maxInc := 2, rows := [
    row (.exact 0x03), row (.exact 0x0C), row (.bits 0x01), row (.bits 0x02), row (.bits 0x04), row (.bits 0x08)] }

/-- SBo RING_AK_USED (R364). -/
def evSBoRingAkUsed : Event :=
  { code := 0x1C, maxInc := 2, rows := [
    row (.exact 0x03), row (.exact 0x0C), row (.bits 0x01), row (.bits 0x02), row (.bits 0x04), row (.bits 0x08)] }

/-- SBo RING_BL_USED (R365). -/
def evSBoRingBlUsed : Event :=
  { code := 0x1D, maxInc := 2, rows := [
    row (.exact 0x03), row (.exact 0x0C), row (.bits 0x01), row (.bits 0x02), row (.bits 0x04), row (.bits 0x08)] }

/-- SBo RING_IV_USED (R367). -/
def evSBoRingIvUsed : Event :=
  { code := 0x1E, rows := [
    row (.exact 0x03), row (.exact 0x0C)] }

/-! ### HA (43_ha.md) -/

/-- HA CLOCKTICKS (R414). -/
def evHaClockticks : Event :=
  { code := 0x00, kind := .clock, rows := [
    row .any] }

/-- HA REQUESTS (R431). -/
def evHaRequests : Event :=
  { code := 0x01, rows := [
    row (.exact 0x03), row (.exact 0x0C), row (.bits 0x01), row (.bits 0x02), row (.bits 0x04), row (.bits 0x08),
    row (.bits 0x10), row (.bits 0x20)] }

/-- HA TRACKER_CYCLES_FULL (R448). -/
def evHaTrackerCyclesFull : Event :=
  { code := 0x02, rows := [
    row (.bits 0x01), row (.bits 0x02)] }

/-- HA TRACKER_CYCLES_NE (R449). -/
def evHaTrackerCyclesNe : Event :=
  { code := 0x03, rows := [
    row (.exact 0x03), row (.bits 0x01), row (.bits 0x02)] }

/-- HA TRACKER_OCCUPANCY (R450). -/
def evHaTrackerOccupancy : Event :=
  { code := 0x04, maxInc := 128, rows := [
    row (.bits 0x04), row (.bits 0x08), row (.bits 0x10), row (.bits 0x20), row (.bits 0x40), row (.bits 0x80)] }

/-- HA TRACKER_PENDING_OCCUPANCY (R451). -/
def evHaTrackerPendingOccupancy : Event :=
  { code := 0x05, maxInc := 127, rows := [
    row (.exact 0x01), row (.exact 0x02)] }

/-- HA SNOOP_CYCLES_NE (R441). -/
def evHaSnoopCyclesNe : Event :=
  { code := 0x08, rows := [
    row (.exact 0x03), row (.bits 0x01), row (.bits 0x02)] }

/-- HA SNOOP_OCCUPANCY (R442). -/
def evHaSnoopOccupancy : Event :=
  { code := 0x09, maxInc := 127, rows := [
    row (.exact 0x01), row (.exact 0x02)] }

/-- HA SNOOPS_RSP_AFTER_DATA (R440). -/
def evHaSnoopsRspAfterData : Event :=
  { code := 0x0A, maxInc := 127, rows := [
    row (.exact 0x01), row (.exact 0x02)] }

/-- HA CONFLICT_CYCLES (R415). -/
def evHaConflictCycles : Event :=
  { code := 0x0B, ctrs := 0x0, kind := .haConflict, rows := [
    row .any] }

/-- HA DIRECTORY_LOOKUP (R420). -/
def evHaDirectoryLookup : Event :=
  { code := 0x0C, rows := [
    row (.bits 0x01), row (.bits 0x02)] }

/-- HA DIRECTORY_UPDATE (R421). -/
def evHaDirectoryUpdate : Event :=
  { code := 0x0D, rows := [
    row (.bits 0x03), row (.bits 0x01), row (.bits 0x02)] }

/-- HA TxR_AK (R453). -/
def evHaTxRAk : Event :=
  { code := 0x0E, rows := [
    row .any] }

/-- HA TxR_BL (R455). -/
def evHaTxRBl : Event :=
  { code := 0x10, rows := [
    row (.bits 0x01), row (.bits 0x02), row (.bits 0x04)] }

/-- HA DIRECT2CORE_COUNT (R416). -/
def evHaDirect2coreCount : Event :=
  { code := 0x11, rows := [
    row .any] }

/-- HA DIRECT2CORE_CYCLES_DISABLED (R417). -/
def evHaDirect2coreCyclesDisabled : Event :=
  { code := 0x12, rows := [
    row .any] }

/-- HA DIRECT2CORE_TXN_OVERRIDE (R418). -/
def evHaDirect2coreTxnOverride : Event :=
  { code := 0x13, rows := [
    row .any] }

/-- HA BYPASS_IMC (R413). -/
def evHaBypassImc : Event :=
  { code := 0x14, rows := [
    row (.bits 0x01), row (.bits 0x02)] }

/-- HA RPQ_CYCLES_NO_REG_CREDITS (R435). -/
def evHaRpqCyclesNoRegCredits : Event :=
  { code := 0x15, maxInc := 4, rows := [
    row (.exact 0x01), row (.exact 0x02), row (.exact 0x04), row (.exact 0x08)] }

/-- HA IMC_READS (R426). -/
def evHaImcReads : Event :=
  { code := 0x17, maxInc := 4, rows := [
    row (.exact 0x01)] }

/-- HA WPQ_CYCLES_NO_REG_CREDITS (R459). -/
def evHaWpqCyclesNoRegCredits : Event :=
  { code := 0x18, maxInc := 4, rows := [
    row (.exact 0x01), row (.exact 0x02), row (.exact 0x04), row (.exact 0x08)] }

/-- HA IMC_WRITES (R428). -/
def evHaImcWrites : Event :=
  { code := 0x1A, rows := [
    row (.exact 0x0F), row (.bits 0x01), row (.bits 0x02), row (.bits 0x04), row (.bits 0x08)] }

/-- HA TAD_REQUESTS_G0 (R446). -/
def evHaTadRequestsG0 : Event :=
  { code := 0x1B, maxInc := 2, rows := [
    row (.exact 0x01), row (.exact 0x02), row (.exact 0x04), row (.exact 0x08), row (.exact 0x10),
    row (.exact 0x20), row (.exact 0x40), row (.exact 0x80)] }

/-- HA TAD_REQUESTS_G1 (R447). -/
def evHaTadRequestsG1 : Event :=
  { code := 0x1C, maxInc := 2, rows := [
    row (.exact 0x01), row (.exact 0x02), row (.exact 0x04), row (.exact 0x08)] }

/-- HA IMC_RETRY (R427). -/
def evHaImcRetry : Event :=
  { code := 0x1E, rows := [
    row .any] }

/-- HA ADDR_OPC_MATCH (R410). -/
def evHaAddrOpcMatch : Event :=
  { code := 0x20, kind := .haMatch, rows := [
    row (.exact 0x03), row (.bits 0x01), row (.bits 0x02), row (.bits 0x04), row (.bits 0x08), row (.bits 0x10)] }

/-- HA SNOOP_RESP (R443). -/
def evHaSnoopResp : Event :=
  { code := 0x21, rows := [
    row (.bits 0x01), row (.bits 0x02), row (.bits 0x04), row (.bits 0x08), row (.bits 0x10), row (.bits 0x20),
    row (.bits 0x40)] }

/-- HA IGR_NO_CREDIT_CYCLES (R425). -/
def evHaIgrNoCreditCycles : Event :=
  { code := 0x22, rows := [
    row (.bits 0x01), row (.bits 0x02), row (.bits 0x04), row (.bits 0x08), row (.bits 0x10), row (.bits 0x20)] }

/-- HA TxR_AD_CYCLES_FULL (R452). -/
def evHaTxRAdCyclesFull : Event :=
  { code := 0x2A, rows := [
    row (.bits 0x03), row (.bits 0x01), row (.bits 0x02)] }

/-- HA TxR_AK_CYCLES_FULL (R454). -/
def evHaTxRAkCyclesFull : Event :=
  { code := 0x32, rows := [
    row (.bits 0x03), row (.bits 0x01), row (.bits 0x02)] }

/-- HA TxR_BL_OCCUPANCY (R457). -/
def evHaTxRBlOccupancy : Event :=
  { code := 0x34, maxInc := 20, rows := [
    row .any] }

/-- HA TxR_BL_CYCLES_FULL (R456). -/
def evHaTxRBlCyclesFull : Event :=
  { code := 0x36, rows := [
    row (.bits 0x03), row (.bits 0x01), row (.bits 0x02)] }

/-- HA RING_AD_USED (R432). -/
def evHaRingAdUsed : Event :=
  { code := 0x3E, rows := [
    row (.exact 0x03), row (.exact 0x0C), row (.bits 0x01), row (.bits 0x02), row (.bits 0x04), row (.bits 0x08)] }

/-- HA RING_AK_USED (R433). -/
def evHaRingAkUsed : Event :=
  { code := 0x3F, rows := [
    row (.exact 0x03), row (.exact 0x0C), row (.bits 0x01), row (.bits 0x02), row (.bits 0x04), row (.bits 0x08)] }

/-- HA RING_BL_USED (R434). -/
def evHaRingBlUsed : Event :=
  { code := 0x40, rows := [
    row (.exact 0x03), row (.exact 0x0C), row (.bits 0x01), row (.bits 0x02), row (.bits 0x04), row (.bits 0x08)] }

/-- HA DIRECTORY_LAT_OPT (R419). -/
def evHaDirectoryLatOpt : Event :=
  { code := 0x41, rows := [
    row .any] }

/-- HA BT_CYCLES_NE (R411). -/
def evHaBtCyclesNe : Event :=
  { code := 0x42, rows := [
    row .any] }

/-- HA BT_OCCUPANCY (R412). -/
def evHaBtOccupancy : Event :=
  { code := 0x43, maxInc := 512, rows := [
    row .any] }

/-- HA OSB (R429). -/
def evHaOsb : Event :=
  { code := 0x53, rows := [
    row (.bits 0x02), row (.bits 0x04), row (.bits 0x08), row (.bits 0x10), row (.bits 0x20), row (.bits 0x40)] }

/-- HA OSB_EDR (R430). -/
def evHaOsbEdr : Event :=
  { code := 0x54, rows := [
    row (.bits 0x01), row (.bits 0x02), row (.bits 0x04), row (.bits 0x08), row (.bits 0x10)] }

/-- HA SNP_RESP_RECV_LOCAL (R444). -/
def evHaSnpRespRecvLocal : Event :=
  { code := 0x60, rows := [
    row (.bits 0x01), row (.bits 0x02), row (.bits 0x04), row (.bits 0x08), row (.bits 0x10), row (.bits 0x20),
    row (.bits 0x40), row (.bits 0x80)] }

/-- HA SBO0_CREDITS_ACQUIRED (R436). -/
def evHaSbo0CreditsAcquired : Event :=
  { code := 0x68, rows := [
    row (.bits 0x01), row (.bits 0x02)] }

/-- HA SBO1_CREDITS_ACQUIRED (R438). -/
def evHaSbo1CreditsAcquired : Event :=
  { code := 0x69, rows := [
    row (.bits 0x01), row (.bits 0x02)] }

/-- HA SBO0_CREDIT_OCCUPANCY (R437). -/
def evHaSbo0CreditOccupancy : Event :=
  { code := 0x6A, rows := [
    row (.bits 0x01), row (.bits 0x02)] }

/-- HA SBO1_CREDIT_OCCUPANCY (R439). -/
def evHaSbo1CreditOccupancy : Event :=
  { code := 0x6B, rows := [
    row (.bits 0x01), row (.bits 0x02)] }

/-- HA STALL_NO_SBO_CREDIT (R445). -/
def evHaStallNoSboCredit : Event :=
  { code := 0x6C, rows := [
    row (.bits 0x01), row (.bits 0x02), row (.bits 0x04), row (.bits 0x08)] }

/-- HA TxR_STARVED (R458). -/
def evHaTxRStarved : Event :=
  { code := 0x6D, rows := [
    row (.bits 0x01), row (.bits 0x02)] }

/-- HA HITME_LOOKUP (R424). -/
def evHaHitmeLookup : Event :=
  { code := 0x70, rows := [
    row (.exact 0x0F), row (.exact 0x26), row (.exact 0x70), row (.exact 0xFF), row (.bits 0x01), row (.bits 0x02),
    row (.bits 0x04), row (.bits 0x08), row (.bits 0x10), row (.bits 0x20), row (.bits 0x40), row (.bits 0x80)] }

/-- HA HITME_HIT (R422). -/
def evHaHitmeHit : Event :=
  { code := 0x71, rows := [
    row (.exact 0x0F), row (.exact 0x26), row (.exact 0x42), row (.exact 0x70), row (.exact 0xFF),
    row (.bits 0x01), row (.bits 0x02), row (.bits 0x04), row (.bits 0x08), row (.bits 0x10), row (.bits 0x20),
    row (.bits 0x40), row (.bits 0x80)] }

/-- HA HITME_HIT_PV_BITS_SET (R423). -/
def evHaHitmeHitPvBitsSet : Event :=
  { code := 0x72, rows := [
    row (.exact 0x0F), row (.exact 0xFF), row (.bits 0x01), row (.bits 0x02), row (.bits 0x04), row (.bits 0x08),
    row (.bits 0x10), row (.bits 0x20), row (.bits 0x40), row (.bits 0x80)] }

/-! ### IMC (44_imc.md) -/

/-- IMC DCLOCKTICKS (R513). -/
def evImcDclockticks : Event :=
  { code := 0x00, kind := .clock, rows := [
    row .any] }

/-- IMC ACT_COUNT (R510). -/
def evImcActCount : Event :=
  { code := 0x01, rows := [
    row (.bits 0x01), row (.bits 0x02), row (.bits 0x08)] }

/-- IMC PRE_COUNT (R526). -/
def evImcPreCount : Event :=
  { code := 0x02, rows := [
    row (.bits 0x01), row (.bits 0x02), row (.bits 0x04), row (.bits 0x08), row (.bits 0x10)] }

/-- IMC CAS_COUNT (R512). -/
def evImcCasCount : Event :=
  { code := 0x04, rows := [
    row (.exact 0x03), row (.exact 0x0C), row (.exact 0x0F), row (.bits 0x01), row (.bits 0x02), row (.bits 0x04),
    row (.bits 0x08), row (.bits 0x10), row (.bits 0x20)] }

/-- IMC DRAM_REFRESH (R515). -/
def evImcDramRefresh : Event :=
  { code := 0x05, rows := [
    row (.bits 0x02), row (.bits 0x04)] }

/-- IMC DRAM_PRE_ALL (R514). -/
def evImcDramPreAll : Event :=
  { code := 0x06, rows := [
    row .any] }

/-- IMC MAJOR_MODES (R517). -/
def evImcMajorModes : Event :=
  { code := 0x07, rows := [
    row (.bits 0x01), row (.bits 0x02), row (.bits 0x04), row (.bits 0x08)] }

/-- IMC PREEMPTION (R525). -/
def evImcPreemption : Event :=
  { code := 0x08, rows := [
    row (.bits 0x01), row (.bits 0x02)] }

/-- IMC ECC_CORRECTABLE_ERRORS (R516). -/
def evImcEccCorrectableErrors : Event :=
  { code := 0x09, rows := [
    row .any] }

/-- IMC RPQ_INSERTS (R536). -/
def evImcRpqInserts : Event :=
  { code := 0x10, rows := [
    row .any] }

/-- IMC RPQ_CYCLES_NE (R535). -/
def evImcRpqCyclesNe : Event :=
  { code := 0x11, rows := [
    row .any] }

/-- IMC WPQ_CYCLES_NE (R541). -/
def evImcWpqCyclesNe : Event :=
  { code := 0x21, rows := [
    row .any] }

/-- IMC WPQ_CYCLES_FULL (R540). -/
def evImcWpqCyclesFull : Event :=
  { code := 0x22, rows := [
    row .any] }

/-- IMC WPQ_READ_HIT (R542). -/
def evImcWpqReadHit : Event :=
  { code := 0x23, rows := [
    row .any] }

/-- IMC WPQ_WRITE_HIT (R543). -/
def evImcWpqWriteHit : Event :=
  { code := 0x24, rows := [
    row .any] }

/-- IMC POWER_THROTTLE_CYCLES (R524). -/
def evImcPowerThrottleCycles : Event :=
  { code := 0x41, rows := [
    row (.bits 0x01), row (.bits 0x02), row (.bits 0x04), row (.bits 0x08), row (.bits 0x10), row (.bits 0x20),
    row (.bits 0x40), row (.bits 0x80)] }

/-- IMC POWER_PCU_THROTTLING (R522). -/
def evImcPowerPcuThrottling : Event :=
  { code := 0x42, rows := [
    row .any] }

/-- IMC POWER_SELF_REFRESH (R523). -/
def evImcPowerSelfRefresh : Event :=
  { code := 0x43, rows := [
    row .any] }

/-- IMC POWER_CKE_CYCLES (R520). -/
def evImcPowerCkeCycles : Event :=
  { code := 0x83, maxInc := 16, oneRank := true, rows := [
    row (.exact 0x01), row (.exact 0x02), row (.exact 0x04), row (.exact 0x08), row (.exact 0x10),
    row (.exact 0x20), row (.exact 0x40), row (.exact 0x80)] }

/-- IMC POWER_CHANNEL_DLLOFF (R518). -/
def evImcPowerChannelDlloff : Event :=
  { code := 0x84, rows := [
    row .any] }

/-- IMC POWER_CHANNEL_PPD (R519). -/
def evImcPowerChannelPpd : Event :=
  { code := 0x85, maxInc := 4, rows := [
    row .any] }

/-- IMC POWER_CRITICAL_THROTTLE_CYCLES (R521). -/
def evImcPowerCriticalThrottleCycles : Event :=
  { code := 0x86, rows := [
    row .any] }

/-- IMC VMSE_WR_PUSH (R538). -/
def evImcVmseWrPush : Event :=
  { code := 0x90, rows := [
    row (.bits 0x01), row (.bits 0x02)] }

/-- IMC VMSE_MXB_WR_OCCUPANCY (R537). -/
def evImcVmseMxbWrOccupancy : Event :=
  { code := 0x91, maxInc := 32, rows := [
    row .any] }

/-- IMC RD_CAS_PRIO (R527). -/
def evImcRdCasPrio : Event :=
  { code := 0xA0, rows := [
    row (.bits 0x01), row (.bits 0x02), row (.bits 0x04), row (.bits 0x08)] }

/-- IMC BYP_CMDS (R511). -/
def evImcBypCmds : Event :=
  { code := 0xA1, rows := [
    row (.bits 0x01), row (.bits 0x02), row (.bits 0x04)] }

/-- IMC RD_CAS_RANK0 (R528). -/
def evImcRdCasRank0 : Event :=
  { code := 0xB0, rows := [
    row (.exact 0x00), row (.exact 0x01), row (.exact 0x02), row (.exact 0x03), row (.exact 0x04),
    row (.exact 0x05), row (.exact 0x06), row (.exact 0x07), row (.exact 0x08), row (.exact 0x09),
    row (.exact 0x0A), row (.exact 0x0B), row (.exact 0x0C), row (.exact 0x0D), row (.exact 0x0E),
    row (.exact 0x0F), row (.exact 0x10), row (.exact 0x11), row (.exact 0x12), row (.exact 0x13), row (.exact 0x14)] }

/-- IMC RD_CAS_RANK1 (R529). -/
def evImcRdCasRank1 : Event :=
  { code := 0xB1, rows := [
    row (.exact 0x00), row (.exact 0x01), row (.exact 0x02), row (.exact 0x03), row (.exact 0x04),
    row (.exact 0x05), row (.exact 0x06), row (.exact 0x07), row (.exact 0x08), row (.exact 0x09),
    row (.exact 0x0A), row (.exact 0x0B), row (.exact 0x0C), row (.exact 0x0D), row (.exact 0x0E),
    row (.exact 0x0F), row (.exact 0x10), row (.exact 0x11), row (.exact 0x12), row (.exact 0x13), row (.exact 0x14)] }

/-- IMC RD_CAS_RANK2 (R530). -/
def evImcRdCasRank2 : Event :=
  { code := 0xB2, rows := [
    row (.exact 0x00)] }

/-- IMC RD_CAS_RANK4 (R531). -/
def evImcRdCasRank4 : Event :=
  { code := 0xB4, rows := [
    row (.exact 0x00), row (.exact 0x01), row (.exact 0x02), row (.exact 0x03), row (.exact 0x04),
    row (.exact 0x05), row (.exact 0x06), row (.exact 0x07), row (.exact 0x08), row (.exact 0x09),
    row (.exact 0x0A), row (.exact 0x0B), row (.exact 0x0C), row (.exact 0x0D), row (.exact 0x0E),
    row (.exact 0x0F), row (.exact 0x10), row (.exact 0x11), row (.exact 0x12), row (.exact 0x13), row (.exact 0x14)] }

/-- IMC RD_CAS_RANK5 (R532). -/
def evImcRdCasRank5 : Event :=
  { code := 0xB5, rows := [
    row (.exact 0x00), row (.exact 0x01), row (.exact 0x02), row (.exact 0x03), row (.exact 0x04),
    row (.exact 0x05), row (.exact 0x06), row (.exact 0x07), row (.exact 0x08), row (.exact 0x09),
    row (.exact 0x0A), row (.exact 0x0B), row (.exact 0x0C), row (.exact 0x0D), row (.exact 0x0E),
    row (.exact 0x0F), row (.exact 0x10), row (.exact 0x11), row (.exact 0x12), row (.exact 0x13), row (.exact 0x14)] }

/-- IMC RD_CAS_RANK6 (R533). -/
def evImcRdCasRank6 : Event :=
  { code := 0xB6, rows := [
    row (.exact 0x00), row (.exact 0x01), row (.exact 0x02), row (.exact 0x03), row (.exact 0x04),
    row (.exact 0x05), row (.exact 0x06), row (.exact 0x07), row (.exact 0x08), row (.exact 0x09),
    row (.exact 0x0A), row (.exact 0x0B), row (.exact 0x0C), row (.exact 0x0D), row (.exact 0x0E),
    row (.exact 0x0F), row (.exact 0x10), row (.exact 0x11), row (.exact 0x12), row (.exact 0x13), row (.exact 0x14)] }

/-- IMC RD_CAS_RANK7 (R534). -/
def evImcRdCasRank7 : Event :=
  { code := 0xB7, rows := [
    row (.exact 0x00), row (.exact 0x01), row (.exact 0x02), row (.exact 0x03), row (.exact 0x04),
    row (.exact 0x05), row (.exact 0x06), row (.exact 0x07), row (.exact 0x08), row (.exact 0x09),
    row (.exact 0x0A), row (.exact 0x0B), row (.exact 0x0C), row (.exact 0x0D), row (.exact 0x0E),
    row (.exact 0x0F), row (.exact 0x10), row (.exact 0x11), row (.exact 0x12), row (.exact 0x13), row (.exact 0x14)] }

/-- IMC WR_CAS_RANK0 (R545). -/
def evImcWrCasRank0 : Event :=
  { code := 0xB8, rows := [
    row (.exact 0x00), row (.exact 0x01), row (.exact 0x02), row (.exact 0x03), row (.exact 0x04),
    row (.exact 0x05), row (.exact 0x06), row (.exact 0x07), row (.exact 0x08), row (.exact 0x09),
    row (.exact 0x0A), row (.exact 0x0B), row (.exact 0x0C), row (.exact 0x0D), row (.exact 0x0E),
    row (.exact 0x0F), row (.exact 0x10), row (.exact 0x11), row (.exact 0x12), row (.exact 0x13), row (.exact 0x14)] }

/-- IMC WR_CAS_RANK1 (R546). -/
def evImcWrCasRank1 : Event :=
  { code := 0xB9, rows := [
    row (.exact 0x00), row (.exact 0x01), row (.exact 0x02), row (.exact 0x03), row (.exact 0x04),
    row (.exact 0x05), row (.exact 0x06), row (.exact 0x07), row (.exact 0x08), row (.exact 0x09),
    row (.exact 0x0A), row (.exact 0x0B), row (.exact 0x0C), row (.exact 0x0D), row (.exact 0x0E),
    row (.exact 0x0F), row (.exact 0x10), row (.exact 0x11), row (.exact 0x12), row (.exact 0x13), row (.exact 0x14)] }

/-- IMC WR_CAS_RANK2 (R547). -/
def evImcWrCasRank2 : Event :=
  { code := 0xBA, rows := [
    row .any] }

/-- IMC WR_CAS_RANK3 (R548). -/
def evImcWrCasRank3 : Event :=
  { code := 0xBB, rows := [
    row .any] }

/-- IMC WR_CAS_RANK4 (R549). -/
def evImcWrCasRank4 : Event :=
  { code := 0xBC, rows := [
    row (.exact 0x00), row (.exact 0x01), row (.exact 0x02), row (.exact 0x03), row (.exact 0x04),
    row (.exact 0x05), row (.exact 0x06), row (.exact 0x07), row (.exact 0x08), row (.exact 0x09),
    row (.exact 0x0A), row (.exact 0x0B), row (.exact 0x0C), row (.exact 0x0D), row (.exact 0x0E),
    row (.exact 0x0F), row (.exact 0x10), row (.exact 0x11), row (.exact 0x12), row (.exact 0x13), row (.exact 0x14)] }

/-- IMC WR_CAS_RANK5 (R550). -/
def evImcWrCasRank5 : Event :=
  { code := 0xBD, rows := [
    row (.exact 0x00), row (.exact 0x01), row (.exact 0x02), row (.exact 0x03), row (.exact 0x04),
    row (.exact 0x05), row (.exact 0x06), row (.exact 0x07), row (.exact 0x08), row (.exact 0x09),
    row (.exact 0x0A), row (.exact 0x0B), row (.exact 0x0C), row (.exact 0x0D), row (.exact 0x0E),
    row (.exact 0x0F), row (.exact 0x10), row (.exact 0x11), row (.exact 0x12), row (.exact 0x13), row (.exact 0x14)] }

/-- IMC WR_CAS_RANK6 (R551). -/
def evImcWrCasRank6 : Event :=
  { code := 0xBE, rows := [
    row (.exact 0x00), row (.exact 0x01), row (.exact 0x02), row (.exact 0x03), row (.exact 0x04),
    row (.exact 0x05), row (.exact 0x06), row (.exact 0x07), row (.exact 0x08), row (.exact 0x09),
    row (.exact 0x0A), row (.exact 0x0B), row (.exact 0x0C), row (.exact 0x0D), row (.exact 0x0E),
    row (.exact 0x0F), row (.exact 0x10), row (.exact 0x11), row (.exact 0x12), row (.exact 0x13), row (.exact 0x14)] }

/-- IMC WR_CAS_RANK7 (R552). -/
def evImcWrCasRank7 : Event :=
  { code := 0xBF, rows := [
    row (.exact 0x00), row (.exact 0x01), row (.exact 0x02), row (.exact 0x03), row (.exact 0x04),
    row (.exact 0x05), row (.exact 0x06), row (.exact 0x07), row (.exact 0x08), row (.exact 0x09),
    row (.exact 0x0A), row (.exact 0x0B), row (.exact 0x0C), row (.exact 0x0D), row (.exact 0x0E),
    row (.exact 0x0F), row (.exact 0x10), row (.exact 0x11), row (.exact 0x12), row (.exact 0x13), row (.exact 0x14)] }

/-- IMC WMM_TO_RMM (R539). -/
def evImcWmmToRmm : Event :=
  { code := 0xC0, rows := [
    row (.bits 0x01), row (.bits 0x02), row (.bits 0x04)] }

/-- IMC WRONG_MM (R544). -/
def evImcWrongMm : Event :=
  { code := 0xC1, rows := [
    row .any] }

/-! ### IRP (45_irp.md) -/

/-- IRP CLOCKTICKS (R611). -/
def evIrpClockticks : Event :=
  { code := 0x00, kind := .clock, rows := [
    row .any] }

/-- IRP RxR_BL_DRS_INSERTS (R617). -/
def evIrpRxRBlDrsInserts : Event :=
  { code := 0x01, rows := [
    row .any] }

/-- IRP RxR_BL_NCB_INSERTS (R620). -/
def evIrpRxRBlNcbInserts : Event :=
  { code := 0x02, rows := [
    row .any] }

/-- IRP RxR_BL_NCS_INSERTS (R623). -/
def evIrpRxRBlNcsInserts : Event :=
  { code := 0x03, rows := [
    row .any] }

/-- IRP RxR_BL_DRS_CYCLES_FULL (R616). -/
def evIrpRxRBlDrsCyclesFull : Event :=
  { code := 0x04, rows := [
    row .any] }

/-- IRP RxR_BL_NCB_CYCLES_FULL (R619). -/
def evIrpRxRBlNcbCyclesFull : Event :=
  { code := 0x05, rows := [
    row .any] }

/-- IRP RxR_BL_NCS_CYCLES_FULL (R622). -/
def evIrpRxRBlNcsCyclesFull : Event :=
  { code := 0x06, rows := [
    row .any] }

/-- IRP RxR_BL_DRS_OCCUPANCY (R618). -/
def evIrpRxRBlDrsOccupancy : Event :=
  { code := 0x07, maxInc := 24, rows := [
    row .any] }

/-- IRP RxR_BL_NCB_OCCUPANCY (R621). -/
def evIrpRxRBlNcbOccupancy : Event :=
  { code := 0x08, maxInc := 24, rows := [
    row .any] }

/-- IRP RxR_BL_NCS_OCCUPANCY (R624). -/
def evIrpRxRBlNcsOccupancy : Event :=
  { code := 0x09, maxInc := 24, rows := [
    row .any] }

/-- IRP RxR_AK_INSERTS (R615). -/
def evIrpRxRAkInserts : Event :=
  { code := 0x0A, rows := [
    row .any] }

/-- IRP TxR_REQUEST_OCCUPANCY (R631). -/
def evIrpTxRRequestOccupancy : Event :=
  { code := 0x0D, rows := [
    row .any] }

/-- IRP TxR_DATA_INSERTS_NCB (R629). -/
def evIrpTxRDataInsertsNcb : Event :=
  { code := 0x0E, rows := [
    row .any] }

/-- IRP TxR_DATA_INSERTS_NCS (R630). -/
def evIrpTxRDataInsertsNcs : Event :=
  { code := 0x0F, rows := [
    row .any] }

/-- IRP CACHE_TOTAL_OCCUPANCY (R610). -/
def evIrpCacheTotalOccupancy : Event :=
  { code := 0x12, maxInc := 128, kind := .irpCache, rows := [
    row (.exact 0x01), row (.exact 0x02)] }

/-- IRP COHERENT_OPS (R612). -/
def evIrpCoherentOps : Event :=
  { code := 0x13, rows := [
    row (.bits 0x01), row (.bits 0x02), row (.bits 0x04), row (.bits 0x08), row (.bits 0x10), row (.bits 0x20),
    row (.bits 0x40), row (.bits 0x80)] }

/-- IRP MISC0 (R613). -/
def evIrpMisc0 : Event :=
  { code := 0x14, rows := [
    row (.masked 0x01 0xFD), row (.masked 0x02 0xFE), row (.masked 0x04 0x67), row (.masked 0x08 0x6B),
    row (.masked 0x10 0x73), row (.masked 0x20 0x3F), row (.masked 0x40 0x5F), row (.masked 0x80 0x9F)] }

/-- IRP MISC1 (R614). -/
def evIrpMisc1 : Event :=
  { code := 0x15, rows := [
    row (.masked 0x01 0xE1), row (.masked 0x02 0xE2), row (.masked 0x04 0xE4), row (.masked 0x08 0xE8),
    row (.masked 0x10 0xF0), row (.masked 0x20 0x2F), row (.masked 0x40 0x4F), row (.masked 0x80 0x8F)] }

/-- IRP TRANSACTIONS (R626). -/
def evIrpTransactions : Event :=
  { code := 0x16, kind := .irpTransactions, rows := [
    row (.bits 0x01), row (.bits 0x02), row (.bits 0x04), row (.bits 0x08), row (.bits 0x10), row (.bits 0x20),
    row (.bits 0x40)] }

/-- IRP SNOOP_RESP (R625). -/
def evIrpSnoopResp : Event :=
  { code := 0x17, kind := .irpSnoopResp, rows := [
    row (.bits 0x01), row (.bits 0x02), row (.bits 0x04), row (.bits 0x08), row (.bits 0x10), row (.bits 0x20),
    row (.bits 0x40)] }

/-- IRP TxR_AD_STALL_CREDIT_CYCLES (R627). -/
def evIrpTxRAdStallCreditCycles : Event :=
  { code := 0x18, rows := [
    row .any] }

/-- IRP TxR_BL_STALL_CREDIT_CYCLES (R628). -/
def evIrpTxRBlStallCreditCycles : Event :=
  { code := 0x19, rows := [
    row .any] }

/-! ### PCU (46_pcu.md) -/

/-- PCU CLOCKTICKS (R670). -/
def evPcuClockticks : Event :=
  { code := 0x00, kind := .clock, rows := [
    row .any] }

/-- PCU FREQ_MAX_LIMIT_THERMAL_CYCLES (R711). -/
def evPcuFreqMaxLimitThermalCycles : Event :=
  { code := 0x04, rows := [
    row .any] }

/-- PCU FREQ_MAX_POWER_CYCLES (R713). -/
def evPcuFreqMaxPowerCycles : Event :=
  { code := 0x05, rows := [
    row .any] }

/-- PCU FREQ_MAX_OS_CYCLES (R712). -/
def evPcuFreqMaxOsCycles : Event :=
  { code := 0x06, rows := [
    row .any] }

/-- PCU PROCHOT_INTERNAL_CYCLES (R725). -/
def evPcuProchotInternalCycles : Event :=
  { code := 0x09, rows := [
    row .any] }

/-- PCU PROCHOT_EXTERNAL_CYCLES (R724). -/
def evPcuProchotExternalCycles : Event :=
  { code := 0x0A, rows := [
    row .any] }

/-- PCU FREQ_BAND0_CYCLES (R707). -/
def evPcuFreqBand0Cycles : Event :=
  { code := 0x0B, kind := .freqBand 0, rows := [
    row .any] }

/-- PCU FREQ_BAND1_CYCLES (R708). -/
def evPcuFreqBand1Cycles : Event :=
  { code := 0x0C, kind := .freqBand 1, rows := [
    row .any] }

/-- PCU FREQ_BAND2_CYCLES (R709). -/
def evPcuFreqBand2Cycles : Event :=
  { code := 0x0D, kind := .freqBand 2, rows := [
    row .any] }

/-- PCU FREQ_BAND3_CYCLES (R710). -/
def evPcuFreqBand3Cycles : Event :=
  { code := 0x0E, kind := .freqBand 3, rows := [
    row .any] }

/-- PCU PKG_RESIDENCY_C0_CYCLES (R717). -/
def evPcuPkgResidencyC0Cycles : Event :=
  { code := 0x2A, rows := [
    row .any] }

/-- PCU PKG_RESIDENCY_C2E_CYCLES (R719). -/
def evPcuPkgResidencyC2eCycles : Event :=
  { code := 0x2B, rows := [
    row .any] }

/-- PCU PKG_RESIDENCY_C3_CYCLES (R720). -/
def evPcuPkgResidencyC3Cycles : Event :=
  { code := 0x2C, rows := [
    row .any] }

/-- PCU PKG_RESIDENCY_C6_CYCLES (R721). -/
def evPcuPkgResidencyC6Cycles : Event :=
  { code := 0x2D, rows := [
    row .any] }

/-- PCU PKG_RESIDENCY_C7_CYCLES (R722). -/
def evPcuPkgResidencyC7Cycles : Event :=
  { code := 0x2E, rows := [
    row .any] }

/-- PCU MEMORY_PHASE_SHEDDING_CYCLES (R716). -/
def evPcuMemoryPhaseSheddingCycles : Event :=
  { code := 0x2F, rows := [
    row .any] }

/-- PCU DEMOTIONS_CORE0 (R689). -/
def evPcuDemotionsCore0 : Event :=
  { code := 0x30, kind := .perCore 0, rows := [
    row .any] }

/-- PCU DEMOTIONS_CORE1 (R690). -/
def evPcuDemotionsCore1 : Event :=
  { code := 0x31, kind := .perCore 1, rows := [
    row .any] }

/-- PCU DEMOTIONS_CORE2 (R699). -/
def evPcuDemotionsCore2 : Event :=
  { code := 0x32, kind := .perCore 2, rows := [
    row .any] }

/-- PCU DEMOTIONS_CORE3 (R700). -/
def evPcuDemotionsCore3 : Event :=
  { code := 0x33, kind := .perCore 3, rows := [
    row .any] }

/-- PCU DEMOTIONS_CORE4 (R701). -/
def evPcuDemotionsCore4 : Event :=
  { code := 0x34, kind := .perCore 4, rows := [
    row .any] }

/-- PCU DEMOTIONS_CORE5 (R702). -/
def evPcuDemotionsCore5 : Event :=
  { code := 0x35, kind := .perCore 5, rows := [
    row .any] }

/-- PCU DEMOTIONS_CORE6 (R703). -/
def evPcuDemotionsCore6 : Event :=
  { code := 0x36, kind := .perCore 6, rows := [
    row .any] }

/-- PCU DEMOTIONS_CORE7 (R704). -/
def evPcuDemotionsCore7 : Event :=
  { code := 0x37, kind := .perCore 7, rows := [
    row .any] }

/-- PCU DEMOTIONS_CORE8 (R705). -/
def evPcuDemotionsCore8 : Event :=
  { code := 0x38, kind := .perCore 8, rows := [
    row .any] }

/-- PCU DEMOTIONS_CORE9 (R706). -/
def evPcuDemotionsCore9 : Event :=
  { code := 0x39, kind := .perCore 9, rows := [
    row .any] }

/-- PCU DEMOTIONS_CORE10 (R691). -/
def evPcuDemotionsCore10 : Event :=
  { code := 0x3A, kind := .perCore 10, rows := [
    row .any] }

/-- PCU DEMOTIONS_CORE11 (R692). -/
def evPcuDemotionsCore11 : Event :=
  { code := 0x3B, kind := .perCore 11, rows := [
    row .any] }

/-- PCU DEMOTIONS_CORE12 (R693). -/
def evPcuDemotionsCore12 : Event :=
  { code := 0x3C, kind := .perCore 12, rows := [
    row .any] }

/-- PCU DEMOTIONS_CORE13 (R694). -/
def evPcuDemotionsCore13 : Event :=
  { code := 0x3D, kind := .perCore 13, rows := [
    row .any] }

/-- PCU DEMOTIONS_CORE14 (R695). -/
def evPcuDemotionsCore14 : Event :=
  { code := 0x3E, kind := .perCore 14, rows := [
    row .any] }

/-- PCU DEMOTIONS_CORE15 (R696). -/
def evPcuDemotionsCore15 : Event :=
  { code := 0x3F, kind := .perCore 15, rows := [
    row .any] }

/-- PCU DEMOTIONS_CORE16 (R697). -/
def evPcuDemotionsCore16 : Event :=
  { code := 0x40, kind := .perCore 16, rows := [
    row .any] }

/-- PCU DEMOTIONS_CORE17 (R698). -/
def evPcuDemotionsCore17 : Event :=
  { code := 0x41, kind := .perCore 17, rows := [
    row .any] }

/-- PCU VR_HOT_CYCLES (R728). -/
def evPcuVrHotCycles : Event :=
  { code := 0x42, rows := [
    row .any] }

/-- PCU PKG_RESIDENCY_C1E_CYCLES (R718). -/
def evPcuPkgResidencyC1eCycles : Event :=
  { code := 0x4E, rows := [
    row .any] }

/-- PCU CORE0_TRANSITION_CYCLES (R671). -/
def evPcuCore0TransitionCycles : Event :=
  { code := 0x60, kind := .perCore 0, rows := [
    row .any] }

/-- PCU CORE1_TRANSITION_CYCLES (R680). -/
def evPcuCore1TransitionCycles : Event :=
  { code := 0x61, kind := .perCore 1, rows := [
    row .any] }

/-- PCU CORE2_TRANSITION_CYCLES (R681). -/
def evPcuCore2TransitionCycles : Event :=
  { code := 0x62, kind := .perCore 2, rows := [
    row .any] }

/-- PCU CORE3_TRANSITION_CYCLES (R682). -/
def evPcuCore3TransitionCycles : Event :=
  { code := 0x63, kind := .perCore 3, rows := [
    row .any] }

/-- PCU CORE4_TRANSITION_CYCLES (R683). -/
def evPcuCore4TransitionCycles : Event :=
  { code := 0x64, kind := .perCore 4, rows := [
    row .any] }

/-- PCU CORE5_TRANSITION_CYCLES (R684). -/
def evPcuCore5TransitionCycles : Event :=
  { code := 0x65, kind := .perCore 5, rows := [
    row .any] }

/-- PCU CORE6_TRANSITION_CYCLES (R685). -/
def evPcuCore6TransitionCycles : Event :=
  { code := 0x66, kind := .perCore 6, rows := [
    row .any] }

/-- PCU CORE7_TRANSITION_CYCLES (R686). -/
def evPcuCore7TransitionCycles : Event :=
  { code := 0x67, kind := .perCore 7, rows := [
    row .any] }

/-- PCU CORE8_TRANSITION_CYCLES (R687). -/
def evPcuCore8TransitionCycles : Event :=
  { code := 0x68, kind := .perCore 8, rows := [
    row .any] }

/-- PCU CORE9_TRANSITION_CYCLES (R688). -/
def evPcuCore9TransitionCycles : Event :=
  { code := 0x69, kind := .perCore 9, rows := [
    row .any] }

/-- PCU CORE10_TRANSITION_CYCLES (R672). -/
def evPcuCore10TransitionCycles : Event :=
  { code := 0x6A, kind := .perCore 10, rows := [
    row .any] }

/-- PCU CORE11_TRANSITION_CYCLES (R673). -/
def evPcuCore11TransitionCycles : Event :=
  { code := 0x6B, kind := .perCore 11, rows := [
    row .any] }

/-- PCU CORE12_TRANSITION_CYCLES (R674). -/
def evPcuCore12TransitionCycles : Event :=
  { code := 0x6C, kind := .perCore 12, rows := [
    row .any] }

/-- PCU CORE13_TRANSITION_CYCLES (R675). -/
def evPcuCore13TransitionCycles : Event :=
  { code := 0x6D, kind := .perCore 13, rows := [
    row .any] }

/-- PCU CORE14_TRANSITION_CYCLES (R676). -/
def evPcuCore14TransitionCycles : Event :=
  { code := 0x6E, kind := .perCore 14, rows := [
    row .any] }

/-- PCU CORE15_TRANSITION_CYCLES (R677). -/
def evPcuCore15TransitionCycles : Event :=
  { code := 0x6F, kind := .perCore 15, rows := [
    row .any] }

/-- PCU CORE16_TRANSITION_CYCLES (R678). -/
def evPcuCore16TransitionCycles : Event :=
  { code := 0x70, kind := .perCore 16, rows := [
    row .any] }

/-- PCU CORE17_TRANSITION_CYCLES (R679). -/
def evPcuCore17TransitionCycles : Event :=
  { code := 0x71, kind := .perCore 17, rows := [
    row .any] }

/-- PCU TOTAL_TRANSITION_CYCLES (R726). -/
def evPcuTotalTransitionCycles : Event :=
  { code := 0x72, rows := [
    row .any] }

/-- PCU FREQ_MIN_IO_P_CYCLES (R714). -/
def evPcuFreqMinIoPCycles : Event :=
  { code := 0x73, rows := [
    row .any] }

/-- PCU FREQ_TRANS_CYCLES (R715). -/
def evPcuFreqTransCycles : Event :=
  { code := 0x74, rows := [
    row .any] }

/-- PCU UFS_TRANSITIONS_RING_GV (R727). -/
def evPcuUfsTransitionsRingGv : Event :=
  { code := 0x79, rows := [
    row .any] }

/-- PCU POWER_STATE_OCCUPANCY (R723). -/
def evPcuPowerStateOccupancy : Event :=
  { code := 0x80, maxInc := 8, rows := [
    row (.exact 0x40), row (.exact 0x80), row (.exact 0xC0)] }

/-! ### QPI (47_qpi_events.md) -/

/-- QPI TxL_FLITS_G0 (R811). -/
def evQpiTxLFlitsG0 : Event :=
  { code := 0x00, maxInc := 2, rows := [
    row (.exact 0x02), row (.exact 0x04)] }

/-- QPI TxL_INSERTS (R814). -/
def evQpiTxLInserts : Event :=
  { code := 0x04, rows := [
    row .any] }

/-- QPI TxL_BYPASSED (R809). -/
def evQpiTxLBypassed : Event :=
  { code := 0x05, rows := [
    row .any] }

/-- QPI TxL_CYCLES_NE (R810). -/
def evQpiTxLCyclesNe : Event :=
  { code := 0x06, rows := [
    row .any] }

/-- QPI TxL_OCCUPANCY (R815). -/
def evQpiTxLOccupancy : Event :=
  { code := 0x07, rows := [
    row .any] }

/-- QPI RxL_INSERTS (R793). -/
def evQpiRxLInserts : Event :=
  { code := 0x08, rows := [
    row .any] }

/-- QPI RxL_BYPASSED (R786). -/
def evQpiRxLBypassed : Event :=
  { code := 0x09, rows := [
    row .any] }

/-- QPI RxL_CYCLES_NE (R790). -/
def evQpiRxLCyclesNe : Event :=
  { code := 0x0A, rows := [
    row .any] }

/-- QPI RxL_OCCUPANCY (R800). -/
def evQpiRxLOccupancy : Event :=
  { code := 0x0B, maxInc := 128, rows := [
    row .any] }

/-- QPI TxL0_POWER_CYCLES (R808). -/
def evQpiTxL0PowerCycles : Event :=
  { code := 0x0C, rows := [
    row .any] }

/-- QPI TxL0P_POWER_CYCLES (R807). -/
def evQpiTxL0PPowerCycles : Event :=
  { code := 0x0D, rows := [
    row .any] }

/-- QPI RxL0_POWER_CYCLES (R785). -/
def evQpiRxL0PowerCycles : Event :=
  { code := 0x0F, rows := [
    row .any] }

/-- QPI RxL0P_POWER_CYCLES (R784). -/
def evQpiRxL0PPowerCycles : Event :=
  { code := 0x10, rows := [
    row .any] }

/-- QPI L1_POWER_CYCLES (R783). -/
def evQpiL1PowerCycles : Event :=
  { code := 0x12, rows := [
    row .any] }

/-- QPI DIRECT2CORE (R782). -/
def evQpiDirect2core : Event :=
  { code := 0x13, rows := [
    row (.bits 0x01), row (.bits 0x02), row (.bits 0x04), row (.bits 0x08), row (.bits 0x10), row (.bits 0x20),
    row (.bits 0x40), row (.bits 0x80)] }

/-- QPI CLOCKTICKS (R780). -/
def evQpiClockticks : Event :=
  { code := 0x14, kind := .clock, rows := [
    row .any] }

/-- QPI TxL_FLITS_G1 (R812). -/
def evQpiTxLFlitsG1 : Event :=
  { code := 0x00, ext := true, maxInc := 2, rows := [
    row (.exact 0x01), row (.exact 0x02), row (.exact 0x04), row (.exact 0x06), row (.exact 0x08),
    row (.exact 0x10), row (.exact 0x18)] }

/-- QPI TxL_FLITS_G2 (R813). -/
def evQpiTxLFlitsG2 : Event :=
  { code := 0x01, ext := true, maxInc := 2, rows := [
    row (.exact 0x01), row (.exact 0x02), row (.exact 0x04), row (.exact 0x08), row (.exact 0x0C), row (.exact 0x10)] }

/-- QPI RxL_FLITS_G1 (R791). -/
def evQpiRxLFlitsG1 : Event :=
  { code := 0x02, ext := true, maxInc := 2, rows := [
    row (.exact 0x01), row (.exact 0x02), row (.exact 0x04), row (.exact 0x06), row (.exact 0x08),
    row (.exact 0x10), row (.exact 0x18)] }

/-- QPI RxL_FLITS_G2 (R792). -/
def evQpiRxLFlitsG2 : Event :=
  { code := 0x03, ext := true, maxInc := 2, rows := [
    row (.exact 0x01), row (.exact 0x02), row (.exact 0x04), row (.exact 0x08), row (.exact 0x0C), row (.exact 0x10)] }

/-- QPI RxL_INSERTS_DRS (R794). -/
def evQpiRxLInsertsDrs : Event :=
  { code := 0x09, ext := true, rows := [
    row (.bits 0x01), row (.bits 0x02)] }

/-- QPI RxL_INSERTS_NCB (R796). -/
def evQpiRxLInsertsNcb : Event :=
  { code := 0x0A, ext := true, rows := [
    row (.bits 0x01), row (.bits 0x02)] }

/-- QPI RxL_INSERTS_NCS (R797). -/
def evQpiRxLInsertsNcs : Event :=
  { code := 0x0B, ext := true, rows := [
    row (.bits 0x01), row (.bits 0x02)] }

/-- QPI RxL_INSERTS_HOM (R795). -/
def evQpiRxLInsertsHom : Event :=
  { code := 0x0C, ext := true, rows := [
    row (.bits 0x01), row (.bits 0x02)] }

/-- QPI RxL_INSERTS_SNP (R799). -/
def evQpiRxLInsertsSnp : Event :=
  { code := 0x0D, ext := true, rows := [
    row (.bits 0x01), row (.bits 0x02)] }

/-- QPI RxL_INSERTS_NDR (R798). -/
def evQpiRxLInsertsNdr : Event :=
  { code := 0x0E, ext := true, rows := [
    row (.bits 0x01), row (.bits 0x02)] }

/-- QPI RxL_OCCUPANCY_DRS (R801). -/
def evQpiRxLOccupancyDrs : Event :=
  { code := 0x15, ext := true, maxInc := 128, rows := [
    row (.bits 0x01), row (.bits 0x02)] }

/-- QPI RxL_OCCUPANCY_NCB (R803). -/
def evQpiRxLOccupancyNcb : Event :=
  { code := 0x16, ext := true, maxInc := 128, rows := [
    row (.bits 0x01), row (.bits 0x02)] }

/-- QPI RxL_OCCUPANCY_NCS (R804). -/
def evQpiRxLOccupancyNcs : Event :=
  { code := 0x17, ext := true, maxInc := 128, rows := [
    row (.bits 0x01), row (.bits 0x02)] }

/-- QPI RxL_OCCUPANCY_HOM (R802). -/
def evQpiRxLOccupancyHom : Event :=
  { code := 0x18, ext := true, maxInc := 128, rows := [
    row (.bits 0x01), row (.bits 0x02)] }

/-- QPI RxL_OCCUPANCY_SNP (R806). -/
def evQpiRxLOccupancySnp : Event :=
  { code := 0x19, ext := true, maxInc := 128, rows := [
    row (.bits 0x01), row (.bits 0x02)] }

/-- QPI RxL_OCCUPANCY_NDR (R805). -/
def evQpiRxLOccupancyNdr : Event :=
  { code := 0x1A, ext := true, maxInc := 128, rows := [
    row (.bits 0x01), row (.bits 0x02)] }

/-- QPI VNA_CREDIT_RETURN_OCCUPANCY (R831). -/
def evQpiVnaCreditReturnOccupancy : Event :=
  { code := 0x1B, ext := true, maxInc := 128, rows := [
    row .any] }

/-- QPI VNA_CREDIT_RETURNS (R830). -/
def evQpiVnaCreditReturns : Event :=
  { code := 0x1C, ext := true, rows := [
    row .any] }

/-- QPI RxL_CREDITS_CONSUMED_VNA (R789). -/
def evQpiRxLCreditsConsumedVna : Event :=
  { code := 0x1D, ext := true, rows := [
    row .any] }

/-- QPI RxL_CREDITS_CONSUMED_VN0 (R787). -/
def evQpiRxLCreditsConsumedVn0 : Event :=
  { code := 0x1E, ext := true, maxInc := 2, rows := [
    row (.bits 0x01), row (.bits 0x02), row (.bits 0x04), row (.bits 0x08), row (.bits 0x10), row (.bits 0x20)] }

/-- QPI TxR_BL_DRS_CREDIT_OCCUPANCY (R825). -/
def evQpiTxRBlDrsCreditOccupancy : Event :=
  { code := 0x1F, ext := true, maxInc := 8, rows := [
    row (.exact 0x01), row (.exact 0x02), row (.exact 0x04)] }

/-- QPI TxR_BL_NCB_CREDIT_OCCUPANCY (R827). -/
def evQpiTxRBlNcbCreditOccupancy : Event :=
  { code := 0x20, ext := true, maxInc := 2, rows := [
    row (.exact 0x01), row (.exact 0x02)] }

/-- QPI TxR_BL_NCS_CREDIT_OCCUPANCY (R829). -/
def evQpiTxRBlNcsCreditOccupancy : Event :=
  { code := 0x21, ext := true, maxInc := 2, rows := [
    row (.exact 0x01), row (.exact 0x02)] }

/-- QPI TxR_AD_HOM_CREDIT_OCCUPANCY (R817). -/
def evQpiTxRAdHomCreditOccupancy : Event :=
  { code := 0x22, ext := true, maxInc := 28, rows := [
    row (.exact 0x01), row (.exact 0x02)] }

/-- QPI TxR_AD_SNP_CREDIT_OCCUPANCY (R821). -/
def evQpiTxRAdSnpCreditOccupancy : Event :=
  { code := 0x23, ext := true, maxInc := 28, rows := [
    row (.exact 0x01), row (.exact 0x02)] }

/-- QPI TxR_AD_NDR_CREDIT_OCCUPANCY (R819). -/
def evQpiTxRAdNdrCreditOccupancy : Event :=
  { code := 0x24, ext := true, maxInc := 8, rows := [
    row (.exact 0x01), row (.exact 0x02)] }

/-- QPI TxR_AK_NDR_CREDIT_OCCUPANCY (R823). -/
def evQpiTxRAkNdrCreditOccupancy : Event :=
  { code := 0x25, ext := true, maxInc := 6, rows := [
    row .any] }

/-- QPI TxR_AD_HOM_CREDIT_ACQUIRED (R816). -/
def evQpiTxRAdHomCreditAcquired : Event :=
  { code := 0x26, ext := true, rows := [
    row (.exact 0x01), row (.exact 0x02)] }

/-- QPI TxR_AD_SNP_CREDIT_ACQUIRED (R820). -/
def evQpiTxRAdSnpCreditAcquired : Event :=
  { code := 0x27, ext := true, rows := [
    row (.exact 0x01), row (.exact 0x02)] }

/-- QPI TxR_AD_NDR_CREDIT_ACQUIRED (R818). -/
def evQpiTxRAdNdrCreditAcquired : Event :=
  { code := 0x28, ext := true, rows := [
    row (.exact 0x01), row (.exact 0x02)] }

/-- QPI TxR_AK_NDR_CREDIT_ACQUIRED (R822). -/
def evQpiTxRAkNdrCreditAcquired : Event :=
  { code := 0x29, ext := true, rows := [
    row .any] }

/-- QPI TxR_BL_DRS_CREDIT_ACQUIRED (R824). -/
def evQpiTxRBlDrsCreditAcquired : Event :=
  { code := 0x2A, ext := true, rows := [
    row (.exact 0x01), row (.exact 0x02), row (.exact 0x04)] }

/-- QPI TxR_BL_NCB_CREDIT_ACQUIRED (R826). -/
def evQpiTxRBlNcbCreditAcquired : Event :=
  { code := 0x2B, ext := true, rows := [
    row (.exact 0x01), row (.exact 0x02)] }

/-- QPI TxR_BL_NCS_CREDIT_ACQUIRED (R828). -/
def evQpiTxRBlNcsCreditAcquired : Event :=
  { code := 0x2C, ext := true, rows := [
    row (.exact 0x01), row (.exact 0x02)] }

/-- QPI CTO_COUNT (R781). -/
def evQpiCtoCount : Event :=
  { code := 0x38, ext := true, maxInc := 2, kind := .qpiCto, rows := [
    row .any] }

/-- QPI RxL_CREDITS_CONSUMED_VN1 (R788). -/
def evQpiRxLCreditsConsumedVn1 : Event :=
  { code := 0x39, ext := true, maxInc := 2, rows := [
    row (.bits 0x01), row (.bits 0x02), row (.bits 0x04), row (.bits 0x08), row (.bits 0x10), row (.bits 0x20)] }

/-! ### R2PCIe (48_r2pcie.md) -/

/-- R2PCIe CLOCKTICKS (R880). -/
def evR2PCIeClockticks : Event :=
  { code := 0x01, kind := .clock, rows := [
    row .any] }

/-- R2PCIe RING_AD_USED (R882). -/
def evR2PCIeRingAdUsed : Event :=
  { code := 0x07, ctrs := 0xC, ors := true, rows := [
    row (.exact 0x03), row (.exact 0x0C), row (.bits 0x01), row (.bits 0x02), row (.bits 0x04), row (.bits 0x08)] }

/-- R2PCIe RING_AK_USED (R884). -/
def evR2PCIeRingAkUsed : Event :=
  { code := 0x08, ctrs := 0xC, ors := true, rows := [
    row (.exact 0x03), row (.exact 0x0C), row (.bits 0x01), row (.bits 0x02), row (.bits 0x04), row (.bits 0x08)] }

/-- R2PCIe RING_BL_USED (R885). -/
def evR2PCIeRingBlUsed : Event :=
  { code := 0x09, ctrs := 0xC, ors := true, rows := [
    row (.exact 0x03), row (.exact 0x0C), row (.bits 0x01), row (.bits 0x02), row (.bits 0x04), row (.bits 0x08)] }

/-- R2PCIe RING_IV_USED (R886). -/
def evR2PCIeRingIvUsed : Event :=
  { code := 0x0A, ctrs := 0xC, ors := true, rows := [
    row (.exact 0x03), row (.exact 0x0C), row (.exact 0x0F)] }

/-- R2PCIe RxR_CYCLES_NE (R887). -/
def evR2PCIeRxRCyclesNe : Event :=
  { code := 0x10, ctrs := 0x3, rows := [
    row (.bits 0x10), row (.bits 0x20)] }

/-- R2PCIe RxR_INSERTS (R888). -/
def evR2PCIeRxRInserts : Event :=
  { code := 0x11, ctrs := 0x3, rows := [
    row (.bits 0x10), row (.bits 0x20)] }

/-- R2PCIe RING_AK_BOUNCES (R883). -/
def evR2PCIeRingAkBounces : Event :=
  { code := 0x12, ctrs := 0xC, rows := [
    row (.bits 0x01), row (.bits 0x02)] }

/-- R2PCIe RxR_OCCUPANCY (R889). -/
def evR2PCIeRxROccupancy : Event :=
  { code := 0x13, ctrs := 0x1, maxInc := 24, rows := [
    row (.exact 0x08)] }

/-- R2PCIe TxR_NACK_CW (R892). -/
def evR2PCIeTxRNackCw : Event :=
  { code := 0x26, ctrs := 0x3, rows := [
    row (.bits 0x01), row (.bits 0x02), row (.bits 0x04), row (.bits 0x08), row (.bits 0x10), row (.bits 0x20)] }

/-- R2PCIe SBO0_CREDITS_ACQUIRED (R890). -/
def evR2PCIeSbo0CreditsAcquired : Event :=
  { code := 0x28, ctrs := 0x3, maxInc := 2, rows := [
    row (.bits 0x01), row (.bits 0x02)] }

/-- R2PCIe STALL_NO_SBO_CREDIT (R891). -/
def evR2PCIeStallNoSboCredit : Event :=
  { code := 0x2C, ctrs := 0x3, maxInc := 4, rows := [
    row (.bits 0x01), row (.bits 0x02), row (.bits 0x04), row (.bits 0x08)] }

/-- R2PCIe IIO_CREDIT (R881). -/
def evR2PCIeIioCredit : Event :=
  { code := 0x2D, ctrs := 0x3, maxInc := 4, rows := [
    row (.bits 0x01), row (.bits 0x02), row (.bits 0x04), row (.bits 0x08)] }

/-! ### R3QPI (49_r3qpi.md) -/

/-- R3QPI CLOCKTICKS (R930). -/
def evR3qpiClockticks : Event :=
  { code := 0x01, ctrs := 0x7, kind := .clock, rows := [
    row .any] }

/-- R3QPI RING_AD_USED (R938). -/
def evR3qpiRingAdUsed : Event :=
  { code := 0x07, ctrs := 0x4, rows := [
    row (.exact 0x03), row (.exact 0x0C), row (.bits 0x01), row (.bits 0x02), row (.bits 0x04), row (.bits 0x08)] }

/-- R3QPI RING_AK_USED (R939). -/
def evR3qpiRingAkUsed : Event :=
  { code := 0x08, ctrs := 0x4, rows := [
    row (.exact 0x03), row (.exact 0x0C), row (.bits 0x01), row (.bits 0x02), row (.bits 0x04), row (.bits 0x08)] }

/-- R3QPI RING_BL_USED (R940). -/
def evR3qpiRingBlUsed : Event :=
  { code := 0x09, ctrs := 0x4, rows := [
    row (.exact 0x03), row (.exact 0x0C), row (.bits 0x01), row (.bits 0x02), row (.bits 0x04), row (.bits 0x08)] }

/-- R3QPI RING_IV_USED (R941). -/
def evR3qpiRingIvUsed : Event :=
  { code := 0x0A, ctrs := 0x4, rows := [
    row (.exact 0x03), row (.exact 0x0F)] }

/-- R3QPI RING_SINK_STARVED (R942). -/
def evR3qpiRingSinkStarved : Event :=
  { code := 0x0E, ctrs := 0x4, maxInc := 2, rows := [
    row (.bits 0x02)] }

/-- R3QPI RxR_CYCLES_NE (R943). -/
def evR3qpiRxRCyclesNe : Event :=
  { code := 0x10, ctrs := 0x3, rows := [
    row (.bits 0x01), row (.bits 0x02), row (.bits 0x04)] }

/-- R3QPI RxR_INSERTS (R945). -/
def evR3qpiRxRInserts : Event :=
  { code := 0x11, ctrs := 0x3, rows := [
    row (.bits 0x01), row (.bits 0x02), row (.bits 0x04), row (.bits 0x08), row (.bits 0x10), row (.bits 0x20)] }

/-- R3QPI RxR_OCCUPANCY_VN1 (R947). -/
def evR3qpiRxROccupancyVn1 : Event :=
  { code := 0x13, ctrs := 0x1, maxInc := 32, rows := [
    row (.bits 0x01), row (.bits 0x02), row (.bits 0x04), row (.bits 0x08), row (.bits 0x10), row (.bits 0x20)] }

/-- R3QPI RxR_CYCLES_NE_VN1 (R944). -/
def evR3qpiRxRCyclesNeVn1 : Event :=
  { code := 0x14, ctrs := 0x3, rows := [
    row (.bits 0x01), row (.bits 0x02), row (.bits 0x04), row (.bits 0x08), row (.bits 0x10), row (.bits 0x20)] }

/-- R3QPI RxR_INSERTS_VN1 (R946). -/
def evR3qpiRxRInsertsVn1 : Event :=
  { code := 0x15, ctrs := 0x3, rows := [
    row (.bits 0x01), row (.bits 0x02), row (.bits 0x04), row (.bits 0x08), row (.bits 0x10), row (.bits 0x20)] }

/-- R3QPI C_HI_AD_CREDITS_EMPTY (R931). -/
def evR3qpiCHiAdCreditsEmpty : Event :=
  { code := 0x1F, ctrs := 0x3, rows := [
    row (.bits 0x01), row (.bits 0x02), row (.bits 0x04), row (.bits 0x08), row (.bits 0x10), row (.bits 0x20),
    row (.bits 0x40), row (.bits 0x80)] }

/-- R3QPI QPI0_AD_CREDITS_EMPTY (R934). -/
def evR3qpiQpi0AdCreditsEmpty : Event :=
  { code := 0x20, ctrs := 0x3, rows := [
    row (.bits 0x01), row (.bits 0x02), row (.bits 0x04), row (.bits 0x08), row (.bits 0x10), row (.bits 0x20),
    row (.bits 0x40)] }

/-- R3QPI QPI0_BL_CREDITS_EMPTY (R935). -/
def evR3qpiQpi0BlCreditsEmpty : Event :=
  { code := 0x21, ctrs := 0x3, rows := [
    row (.bits 0x01), row (.bits 0x10), row (.bits 0x20), row (.bits 0x40)] }

/-- R3QPI C_LO_AD_CREDITS_EMPTY (R932). -/
def evR3qpiCLoAdCreditsEmpty : Event :=
  { code := 0x22, ctrs := 0x3, rows := [
    row (.bits 0x01), row (.bits 0x02), row (.bits 0x04), row (.bits 0x08), row (.bits 0x10), row (.bits 0x20),
    row (.bits 0x40), row (.bits 0x80)] }

/-- R3QPI TxR_NACK (R951). -/
def evR3qpiTxRNack : Event :=
  { code := 0x26, ctrs := 0x3, rows := [
    row (.bits 0x01), row (.bits 0x02), row (.bits 0x04), row (.bits 0x08), row (.bits 0x10), row (.bits 0x20)] }

/-- R3QPI SBO0_CREDITS_ACQUIRED (R948). -/
def evR3qpiSbo0CreditsAcquired : Event :=
  { code := 0x28, ctrs := 0x3, maxInc := 2, rows := [
    row (.exact 0x01), row (.exact 0x02)] }

/-- R3QPI SBO1_CREDITS_ACQUIRED (R949). -/
def evR3qpiSbo1CreditsAcquired : Event :=
  { code := 0x29, ctrs := 0x3, maxInc := 2, rows := [
    row (.exact 0x01), row (.exact 0x02)] }

/-- R3QPI STALL_NO_SBO_CREDIT (R950). -/
def evR3qpiStallNoSboCredit : Event :=
  { code := 0x2C, ctrs := 0x3, maxInc := 4, rows := [
    row (.exact 0x01), row (.exact 0x02), row (.exact 0x04), row (.exact 0x08)] }

/-- R3QPI HA_R2_BL_CREDITS_EMPTY (R933). -/
def evR3qpiHaR2BlCreditsEmpty : Event :=
  { code := 0x2D, ctrs := 0x3, rows := [
    row (.bits 0x01), row (.bits 0x02), row (.bits 0x04), row (.bits 0x08)] }

/-- R3QPI QPI1_AD_CREDITS_EMPTY (R936). -/
def evR3qpiQpi1AdCreditsEmpty : Event :=
  { code := 0x2E, ctrs := 0x3, rows := [
    row (.bits 0x01), row (.bits 0x10), row (.bits 0x20), row (.bits 0x40)] }

/-- R3QPI QPI1_BL_CREDITS_EMPTY (R937). -/
def evR3qpiQpi1BlCreditsEmpty : Event :=
  { code := 0x2F, ctrs := 0x3, rows := [
    row (.bits 0x01), row (.bits 0x02), row (.bits 0x04), row (.bits 0x08), row (.bits 0x10), row (.bits 0x20),
    row (.bits 0x40)] }

/-- R3QPI VNA_CREDITS_ACQUIRED (R956). -/
def evR3qpiVnaCreditsAcquired : Event :=
  { code := 0x33, ctrs := 0x3, maxInc := 4, rows := [
    row (.bits 0x01), row (.bits 0x04)] }

/-- R3QPI VNA_CREDITS_REJECT (R957). -/
def evR3qpiVnaCreditsReject : Event :=
  { code := 0x34, ctrs := 0x3, rows := [
    row (.bits 0x01), row (.bits 0x02), row (.bits 0x04), row (.bits 0x08), row (.bits 0x10), row (.bits 0x20)] }

/-- R3QPI VN0_CREDITS_USED (R953). -/
def evR3qpiVn0CreditsUsed : Event :=
  { code := 0x36, ctrs := 0x3, rows := [
    row (.bits 0x01), row (.bits 0x02), row (.bits 0x04), row (.bits 0x08), row (.bits 0x10), row (.bits 0x20)] }

/-- R3QPI VN0_CREDITS_REJECT (R952). -/
def evR3qpiVn0CreditsReject : Event :=
  { code := 0x37, ctrs := 0x3, rows := [
    row (.bits 0x01), row (.bits 0x02), row (.bits 0x04), row (.bits 0x08), row (.bits 0x10), row (.bits 0x20)] }

/-- R3QPI VN1_CREDITS_USED (R955). -/
def evR3qpiVn1CreditsUsed : Event :=
  { code := 0x38, ctrs := 0x3, rows := [
    row (.bits 0x01), row (.bits 0x02), row (.bits 0x04), row (.bits 0x08), row (.bits 0x10), row (.bits 0x20)] }

/-- R3QPI VN1_CREDITS_REJECT (R954). -/
def evR3qpiVn1CreditsReject : Event :=
  { code := 0x39, ctrs := 0x3, rows := [
    row (.bits 0x01), row (.bits 0x02), row (.bits 0x04), row (.bits 0x08), row (.bits 0x10), row (.bits 0x20)] }

end Sys2Proof.Machine
end

