-- ==== Sys2Proof/Machine/View.lean ====
section
/-! DEFINITION. What each instruction names, read once: an event row names an event and a unit mask row, a register row
an address and a register (30_encoding.md R156, R182). Well-formedness, the decoder and the encoder all go through
`Instr.view`. -/

namespace Sys2Proof.Machine

/-- The eight packet match and mask registers of a QPI port (10_state.md R78, R79). -/
inductive PktReg where
  | rxMatch0 | rxMatch1 | rxMask0 | rxMask1 | txMatch0 | txMatch1 | txMask0 | txMask1
  deriving DecidableEq, Repr, Inhabited

/-- Every register an access can reach (20_memory.md R101, R102). -/
inductive Reg where
  | globalCtl | globalStatus | globalConfig
  /-- `U_MSR_PMON_UCLK_FIXED_CTL`, `MC_CHy_PCI_PMON_FIXED_CTL` -/
  | fixedCtl (b : BoxId)
  | fixedCtr (b : BoxId)
  | ctl (b : BoxId) (i : Fin 4)
  | ctr (b : BoxId) (i : Fin 4)
  | boxCtl (b : BoxId)
  | boxStatus (b : BoxId)
  | cboFilter0 (n : Fin 18)
  | cboFilter1 (n : Fin 18)
  | pcuFilter
  | pcuFree (c : FreeRun)
  | haOpcodeMatch (n : Fin 2)
  | haAddrMatch1 (n : Fin 2)
  | haAddrMatch0 (n : Fin 2)
  | qpiPkt (p : Fin 3) (r : PktReg)
  | qpiIdle (p : Fin 3)
  | qpiLlr (p : Fin 3)
  /-- `QPI0_RATE_STATUS`, or `QPI1_RATE_STATUS` when set -/
  | qpiRate (second : Bool)
  deriving DecidableEq, Repr, Inhabited

/-- A counter printed as two dwords in PCICFG space (20_memory.md R103). -/
def Reg.twoDwords : Reg → Bool
  | .ctr _ _ | .fixedCtr _ => true
  | _ => false

/-- What an instruction names. -/
inductive View where
  /-- one cycle of a counter on the unit mask row `base` of event `e` -/
  | event (k : Kind) (e : Event) (base : BitVec 8) (o : EvOp k)
  /-- an access to the register at MSR `addr` -/
  | msr (addr : Nat) (r : Reg) (a : MsrAccess)
  /-- an access to the register at PCICFG `addr` = device <<< 15 + function <<< 12 + offset -/
  | cfg (addr : Nat) (r : Reg) (a : CfgAccess)
  deriving DecidableEq, Repr

end Sys2Proof.Machine

namespace Sys2Proof

open Machine

/-- The row of the opcode table an instruction stands for, as data. -/
def Instr.view (i : Instr) : View :=
  match i with
  | .uBoxEventMsgDoorbellRcvd o => .event .ubox evUBoxEventMsg 0x08 o
  | .uBoxPholdCyclesAssertToAck o => .event .ubox evUBoxPholdCycles 0x01 o
  | .uBoxRacuRequests o => .event .ubox evUBoxRacuRequests 0x00 o
  | .cBoBounceControl o => .event .cbo evCBoBounceControl 0x00 o
  | .cBoClockticks o => .event .cbo evCBoClockticks 0x00 o
  | .cBoCounter0Occupancy o => .event .cbo evCBoCounter0Occupancy 0x00 o
  | .cBoFastAsserted o => .event .cbo evCBoFastAsserted 0x00 o
  | .cBoLlcLookupDataRead o => .event .cbo evCBoLlcLookup 0x03 o
  | .cBoLlcLookupWrite o => .event .cbo evCBoLlcLookup 0x05 o
  | .cBoLlcLookupRemoteSnoop o => .event .cbo evCBoLlcLookup 0x09 o
  | .cBoLlcLookupAny o => .event .cbo evCBoLlcLookup 0x11 o
  | .cBoLlcLookupRead o => .event .cbo evCBoLlcLookup 0x21 o
  | .cBoLlcLookupNid o => .event .cbo evCBoLlcLookup 0x41 o
  | .cBoLlcVictimsMState o => .event .cbo evCBoLlcVictims 0x01 o
  | .cBoLlcVictimsEState o => .event .cbo evCBoLlcVictims 0x02 o
  | .cBoLlcVictimsIState o => .event .cbo evCBoLlcVictims 0x04 o
  | .cBoLlcVictimsFState o => .event .cbo evCBoLlcVictims 0x08 o
  | .cBoLlcVictimsMiss o => .event .cbo evCBoLlcVictims 0x10 o
  | .cBoLlcVictimsNid o => .event .cbo evCBoLlcVictims 0x40 o
  | .cBoMiscRspiWasFse o => .event .cbo evCBoMisc 0x01 o
  | .cBoMiscWcAliasing o => .event .cbo evCBoMisc 0x02 o
  | .cBoMiscStarted o => .event .cbo evCBoMisc 0x04 o
  | .cBoMiscRfoHitS o => .event .cbo evCBoMisc 0x08 o
  | .cBoMiscCvzeroPrefetchVictim o => .event .cbo evCBoMisc 0x10 o
  | .cBoMiscCvzeroPrefetchMiss o => .event .cbo evCBoMisc 0x20 o
  | .cBoRingAdUsedUpEven o => .event .cbo evCBoRingAdUsed 0x01 o
  | .cBoRingAdUsedUpOdd o => .event .cbo evCBoRingAdUsed 0x02 o
  | .cBoRingAdUsedUp o => .event .cbo evCBoRingAdUsed 0x03 o
  | .cBoRingAdUsedDownEven o => .event .cbo evCBoRingAdUsed 0x04 o
  | .cBoRingAdUsedDownOdd o => .event .cbo evCBoRingAdUsed 0x08 o
  | .cBoRingAdUsedDown o => .event .cbo evCBoRingAdUsed 0x0C o
  | .cBoRingAdUsedAll o => .event .cbo evCBoRingAdUsed 0x0F o
  | .cBoRingAkUsedUpEven o => .event .cbo evCBoRingAkUsed 0x01 o
  | .cBoRingAkUsedUpOdd o => .event .cbo evCBoRingAkUsed 0x02 o
  | .cBoRingAkUsedUp o => .event .cbo evCBoRingAkUsed 0x03 o
  | .cBoRingAkUsedDownEven o => .event .cbo evCBoRingAkUsed 0x04 o
  | .cBoRingAkUsedDownOdd o => .event .cbo evCBoRingAkUsed 0x08 o
  | .cBoRingAkUsedDown o => .event .cbo evCBoRingAkUsed 0x0C o
  | .cBoRingAkUsedAll o => .event .cbo evCBoRingAkUsed 0x0F o
  | .cBoRingBlUsedUpEven o => .event .cbo evCBoRingBlUsed 0x01 o
  | .cBoRingBlUsedUpOdd o => .event .cbo evCBoRingBlUsed 0x02 o
  | .cBoRingBlUsedUp o => .event .cbo evCBoRingBlUsed 0x03 o
  | .cBoRingBlUsedDownEven o => .event .cbo evCBoRingBlUsed 0x04 o
  | .cBoRingBlUsedDownOdd o => .event .cbo evCBoRingBlUsed 0x08 o
  | .cBoRingBlUsedDown o => .event .cbo evCBoRingBlUsed 0x0C o
  | .cBoRingBlUsedAll o => .event .cbo evCBoRingBlUsed 0x0F o
  | .cBoRingBouncesAd o => .event .cbo evCBoRingBounces 0x01 o
  | .cBoRingBouncesAk o => .event .cbo evCBoRingBounces 0x02 o
  | .cBoRingBouncesBl o => .event .cbo evCBoRingBounces 0x04 o
  | .cBoRingBouncesIv o => .event .cbo evCBoRingBounces 0x10 o
  | .cBoRingIvUsedUp o => .event .cbo evCBoRingIvUsed 0x03 o
  | .cBoRingIvUsedDn o => .event .cbo evCBoRingIvUsed 0x0C o
  | .cBoRingIvUsedAny o => .event .cbo evCBoRingIvUsed 0x0F o
  | .cBoRingIvUsedDown o => .event .cbo evCBoRingIvUsed 0xCC o
  | .cBoRingSrcThrtl o => .event .cbo evCBoRingSrcThrtl 0x00 o
  | .cBoRxRExtStarvedIrq o => .event .cbo evCBoRxRExtStarved 0x01 o
  | .cBoRxRExtStarvedIpq o => .event .cbo evCBoRxRExtStarved 0x02 o
  | .cBoRxRExtStarvedPrq o => .event .cbo evCBoRxRExtStarved 0x04 o
  | .cBoRxRExtStarvedIsmqBids o => .event .cbo evCBoRxRExtStarved 0x08 o
  | .cBoRxRInsertsIrq o => .event .cbo evCBoRxRInserts 0x01 o
  | .cBoRxRInsertsIrqRej o => .event .cbo evCBoRxRInserts 0x02 o
  | .cBoRxRInsertsIpq o => .event .cbo evCBoRxRInserts 0x04 o
  | .cBoRxRInsertsPrq o => .event .cbo evCBoRxRInserts 0x10 o
  | .cBoRxRInsertsPrqRej o => .event .cbo evCBoRxRInserts 0x20 o
  | .cBoRxRIpqRetryAny o => .event .cbo evCBoRxRIpqRetry 0x01 o
  | .cBoRxRIpqRetryFull o => .event .cbo evCBoRxRIpqRetry 0x02 o
  | .cBoRxRIpqRetryAddrConflict o => .event .cbo evCBoRxRIpqRetry 0x04 o
  | .cBoRxRIpqRetryQpiCredits o => .event .cbo evCBoRxRIpqRetry 0x10 o
  | .cBoRxRIpqRetry2AdSbo o => .event .cbo evCBoRxRIpqRetry2 0x01 o
  | .cBoRxRIpqRetry2Target o => .event .cbo evCBoRxRIpqRetry2 0x40 o
  | .cBoRxRIrqRetryAny o => .event .cbo evCBoRxRIrqRetry 0x01 o
  | .cBoRxRIrqRetryFull o => .event .cbo evCBoRxRIrqRetry 0x02 o
  | .cBoRxRIrqRetryAddrConflict o => .event .cbo evCBoRxRIrqRetry 0x04 o
  | .cBoRxRIrqRetryRtid o => .event .cbo evCBoRxRIrqRetry 0x08 o
  | .cBoRxRIrqRetryQpiCredits o => .event .cbo evCBoRxRIrqRetry 0x10 o
  | .cBoRxRIrqRetryIioCredits o => .event .cbo evCBoRxRIrqRetry 0x20 o
  | .cBoRxRIrqRetryNid o => .event .cbo evCBoRxRIrqRetry 0x40 o
  | .cBoRxRIrqRetry2AdSbo o => .event .cbo evCBoRxRIrqRetry2 0x01 o
  | .cBoRxRIrqRetry2BlSbo o => .event .cbo evCBoRxRIrqRetry2 0x02 o
  | .cBoRxRIrqRetry2Target o => .event .cbo evCBoRxRIrqRetry2 0x40 o
  | .cBoRxRIsmqRetryAny o => .event .cbo evCBoRxRIsmqRetry 0x01 o
  | .cBoRxRIsmqRetryFull o => .event .cbo evCBoRxRIsmqRetry 0x02 o
  | .cBoRxRIsmqRetryRtid o => .event .cbo evCBoRxRIsmqRetry 0x08 o
  | .cBoRxRIsmqRetryQpiCredits o => .event .cbo evCBoRxRIsmqRetry 0x10 o
  | .cBoRxRIsmqRetryIioCredits o => .event .cbo evCBoRxRIsmqRetry 0x20 o
  | .cBoRxRIsmqRetryNid o => .event .cbo evCBoRxRIsmqRetry 0x40 o
  | .cBoRxRIsmqRetryWbCredits o => .event .cbo evCBoRxRIsmqRetry 0x80 o
  | .cBoRxRIsmqRetry2AdSbo o => .event .cbo evCBoRxRIsmqRetry2 0x01 o
  | .cBoRxRIsmqRetry2BlSbo o => .event .cbo evCBoRxRIsmqRetry2 0x02 o
  | .cBoRxRIsmqRetry2Target o => .event .cbo evCBoRxRIsmqRetry2 0x40 o
  | .cBoRxROccupancyIrq o => .event .cbo evCBoRxROccupancy 0x01 o
  | .cBoRxROccupancyIrqRej o => .event .cbo evCBoRxROccupancy 0x02 o
  | .cBoRxROccupancyIpq o => .event .cbo evCBoRxROccupancy 0x04 o
  | .cBoRxROccupancyPrqRej o => .event .cbo evCBoRxROccupancy 0x20 o
  | .cBoSboCreditsAcquiredAd o => .event .cbo evCBoSboCreditsAcquired 0x01 o
  | .cBoSboCreditsAcquiredBl o => .event .cbo evCBoSboCreditsAcquired 0x02 o
  | .cBoSboCreditOccupancyAd o => .event .cbo evCBoSboCreditOccupancy 0x01 o
  | .cBoSboCreditOccupancyBl o => .event .cbo evCBoSboCreditOccupancy 0x02 o
  | .cBoTorInsertsOpcode o => .event .cbo evCBoTorInserts 0x01 o
  | .cBoTorInsertsMissOpcode o => .event .cbo evCBoTorInserts 0x03 o
  | .cBoTorInsertsEviction o => .event .cbo evCBoTorInserts 0x04 o
  | .cBoTorInsertsAll o => .event .cbo evCBoTorInserts 0x08 o
  | .cBoTorInsertsWb o => .event .cbo evCBoTorInserts 0x10 o
  | .cBoTorInsertsLocalOpcode o => .event .cbo evCBoTorInserts 0x21 o
  | .cBoTorInsertsMissLocalOpcode o => .event .cbo evCBoTorInserts 0x23 o
  | .cBoTorInsertsLocal o => .event .cbo evCBoTorInserts 0x28 o
  | .cBoTorInsertsMissLocal o => .event .cbo evCBoTorInserts 0x2A o
  | .cBoTorInsertsNidOpcode o => .event .cbo evCBoTorInserts 0x41 o
  | .cBoTorInsertsNidMissOpcode o => .event .cbo evCBoTorInserts 0x43 o
  | .cBoTorInsertsNidEviction o => .event .cbo evCBoTorInserts 0x44 o
  | .cBoTorInsertsNidAll o => .event .cbo evCBoTorInserts 0x48 o
  | .cBoTorInsertsNidMissAll o => .event .cbo evCBoTorInserts 0x4A o
  | .cBoTorInsertsNidWb o => .event .cbo evCBoTorInserts 0x50 o
  | .cBoTorInsertsRemoteOpcode o => .event .cbo evCBoTorInserts 0x81 o
  | .cBoTorInsertsMissRemoteOpcode o => .event .cbo evCBoTorInserts 0x83 o
  | .cBoTorInsertsRemote o => .event .cbo evCBoTorInserts 0x88 o
  | .cBoTorInsertsMissRemote o => .event .cbo evCBoTorInserts 0x8A o
  | .cBoTorOccupancyOpcode o => .event .cbo evCBoTorOccupancy 0x01 o
  | .cBoTorOccupancyMissOpcode o => .event .cbo evCBoTorOccupancy 0x03 o
  | .cBoTorOccupancyEviction o => .event .cbo evCBoTorOccupancy 0x04 o
  | .cBoTorOccupancyAll o => .event .cbo evCBoTorOccupancy 0x08 o
  | .cBoTorOccupancyMissAll o => .event .cbo evCBoTorOccupancy 0x0A o
  | .cBoTorOccupancyWb o => .event .cbo evCBoTorOccupancy 0x10 o
  | .cBoTorOccupancyLocalOpcode o => .event .cbo evCBoTorOccupancy 0x21 o
  | .cBoTorOccupancyMissLocalOpcode o => .event .cbo evCBoTorOccupancy 0x23 o
  | .cBoTorOccupancyLocal o => .event .cbo evCBoTorOccupancy 0x28 o
  | .cBoTorOccupancyMissLocal o => .event .cbo evCBoTorOccupancy 0x2A o
  | .cBoTorOccupancyNidOpcode o => .event .cbo evCBoTorOccupancy 0x41 o
  | .cBoTorOccupancyNidMissOpcode o => .event .cbo evCBoTorOccupancy 0x43 o
  | .cBoTorOccupancyNidEviction o => .event .cbo evCBoTorOccupancy 0x44 o
  | .cBoTorOccupancyNidAll o => .event .cbo evCBoTorOccupancy 0x48 o
  | .cBoTorOccupancyNidMissAll o => .event .cbo evCBoTorOccupancy 0x4A o
  | .cBoTorOccupancyNidWb o => .event .cbo evCBoTorOccupancy 0x50 o
  | .cBoTorOccupancyRemoteOpcode o => .event .cbo evCBoTorOccupancy 0x81 o
  | .cBoTorOccupancyMissRemoteOpcode o => .event .cbo evCBoTorOccupancy 0x83 o
  | .cBoTorOccupancyRemote o => .event .cbo evCBoTorOccupancy 0x88 o
  | .cBoTorOccupancyMissRemote o => .event .cbo evCBoTorOccupancy 0x8A o
  | .cBoTxRAdsUsedAd o => .event .cbo evCBoTxRAdsUsed 0x01 o
  | .cBoTxRAdsUsedAk o => .event .cbo evCBoTxRAdsUsed 0x02 o
  | .cBoTxRAdsUsedBl o => .event .cbo evCBoTxRAdsUsed 0x04 o
  | .cBoTxRInsertsAdCache o => .event .cbo evCBoTxRInserts 0x01 o
  | .cBoTxRInsertsAkCache o => .event .cbo evCBoTxRInserts 0x02 o
  | .cBoTxRInsertsBlCache o => .event .cbo evCBoTxRInserts 0x04 o
  | .cBoTxRInsertsIvCache o => .event .cbo evCBoTxRInserts 0x08 o
  | .cBoTxRInsertsAdCore o => .event .cbo evCBoTxRInserts 0x10 o
  | .cBoTxRInsertsAkCore o => .event .cbo evCBoTxRInserts 0x20 o
  | .cBoTxRInsertsBlCore o => .event .cbo evCBoTxRInserts 0x40 o
  | .sBoBounceControl o => .event .sbo evSBoBounceControl 0x00 o
  | .sBoClockticks o => .event .sbo evSBoClockticks 0x00 o
  | .sBoFastAsserted o => .event .sbo evSBoFastAsserted 0x00 o
  | .sBoRingAdUsedUpEven o => .event .sbo evSBoRingAdUsed 0x01 o
  | .sBoRingAdUsedUpOdd o => .event .sbo evSBoRingAdUsed 0x02 o
  | .sBoRingAdUsedUp o => .event .sbo evSBoRingAdUsed 0x03 o
  | .sBoRingAdUsedDownEven o => .event .sbo evSBoRingAdUsed 0x04 o
  | .sBoRingAdUsedDownOdd o => .event .sbo evSBoRingAdUsed 0x08 o
  | .sBoRingAdUsedDown o => .event .sbo evSBoRingAdUsed 0x0C o
  | .sBoRingAkUsedUpEven o => .event .sbo evSBoRingAkUsed 0x01 o
  | .sBoRingAkUsedUpOdd o => .event .sbo evSBoRingAkUsed 0x02 o
  | .sBoRingAkUsedUp o => .event .sbo evSBoRingAkUsed 0x03 o
  | .sBoRingAkUsedDownEven o => .event .sbo evSBoRingAkUsed 0x04 o
  | .sBoRingAkUsedDownOdd o => .event .sbo evSBoRingAkUsed 0x08 o
  | .sBoRingAkUsedDown o => .event .sbo evSBoRingAkUsed 0x0C o
  | .sBoRingBlUsedUpEven o => .event .sbo evSBoRingBlUsed 0x01 o
  | .sBoRingBlUsedUpOdd o => .event .sbo evSBoRingBlUsed 0x02 o
  | .sBoRingBlUsedUp o => .event .sbo evSBoRingBlUsed 0x03 o
  | .sBoRingBlUsedDownEven o => .event .sbo evSBoRingBlUsed 0x04 o
  | .sBoRingBlUsedDownOdd o => .event .sbo evSBoRingBlUsed 0x08 o
  | .sBoRingBlUsedDown o => .event .sbo evSBoRingBlUsed 0x0C o
  | .sBoRingBouncesAdCache o => .event .sbo evSBoRingBounces 0x01 o
  | .sBoRingBouncesAkCore o => .event .sbo evSBoRingBounces 0x02 o
  | .sBoRingBouncesBlCore o => .event .sbo evSBoRingBounces 0x04 o
  | .sBoRingBouncesIvCore o => .event .sbo evSBoRingBounces 0x08 o
  | .sBoRingIvUsedUp o => .event .sbo evSBoRingIvUsed 0x03 o
  | .sBoRingIvUsedDn o => .event .sbo evSBoRingIvUsed 0x0C o
  | .sBoRxRBypassAdCrd o => .event .sbo evSBoRxRBypass 0x01 o
  | .sBoRxRBypassAdBnc o => .event .sbo evSBoRxRBypass 0x02 o
  | .sBoRxRBypassBlCrd o => .event .sbo evSBoRxRBypass 0x04 o
  | .sBoRxRBypassBlBnc o => .event .sbo evSBoRxRBypass 0x08 o
  | .sBoRxRBypassAk o => .event .sbo evSBoRxRBypass 0x10 o
  | .sBoRxRBypassIv o => .event .sbo evSBoRxRBypass 0x20 o
  | .sBoRxRInsertsAdCrd o => .event .sbo evSBoRxRInserts 0x01 o
  | .sBoRxRInsertsAdBnc o => .event .sbo evSBoRxRInserts 0x02 o
  | .sBoRxRInsertsBlCrd o => .event .sbo evSBoRxRInserts 0x04 o
  | .sBoRxRInsertsBlBnc o => .event .sbo evSBoRxRInserts 0x08 o
  | .sBoRxRInsertsAk o => .event .sbo evSBoRxRInserts 0x10 o
  | .sBoRxRInsertsIv o => .event .sbo evSBoRxRInserts 0x20 o
  | .sBoRxROccupancyAdCrd o => .event .sbo evSBoRxROccupancy 0x01 o
  | .sBoRxROccupancyAdBnc o => .event .sbo evSBoRxROccupancy 0x02 o
  | .sBoRxROccupancyBlCrd o => .event .sbo evSBoRxROccupancy 0x04 o
  | .sBoRxROccupancyBlBnc o => .event .sbo evSBoRxROccupancy 0x08 o
  | .sBoRxROccupancyAk o => .event .sbo evSBoRxROccupancy 0x10 o
  | .sBoRxROccupancyIv o => .event .sbo evSBoRxROccupancy 0x20 o
  | .sBoTxRAdsUsedAd o => .event .sbo evSBoTxRAdsUsed 0x01 o
  | .sBoTxRAdsUsedAk o => .event .sbo evSBoTxRAdsUsed 0x02 o
  | .sBoTxRAdsUsedBl o => .event .sbo evSBoTxRAdsUsed 0x04 o
  | .sBoTxRInsertsAdCrd o => .event .sbo evSBoTxRInserts 0x01 o
  | .sBoTxRInsertsAdBnc o => .event .sbo evSBoTxRInserts 0x02 o
  | .sBoTxRInsertsBlCrd o => .event .sbo evSBoTxRInserts 0x04 o
  | .sBoTxRInsertsBlBnc o => .event .sbo evSBoTxRInserts 0x08 o
  | .sBoTxRInsertsAk o => .event .sbo evSBoTxRInserts 0x10 o
  | .sBoTxRInsertsIv o => .event .sbo evSBoTxRInserts 0x20 o
  | .sBoTxROccupancyAdCrd o => .event .sbo evSBoTxROccupancy 0x01 o
  | .sBoTxROccupancyAdBnc o => .event .sbo evSBoTxROccupancy 0x02 o
  | .sBoTxROccupancyBlCrd o => .event .sbo evSBoTxROccupancy 0x04 o
  | .sBoTxROccupancyBlBnc o => .event .sbo evSBoTxROccupancy 0x08 o
  | .sBoTxROccupancyAk o => .event .sbo evSBoTxROccupancy 0x10 o
  | .sBoTxROccupancyIv o => .event .sbo evSBoTxROccupancy 0x20 o
  | .haAddrOpcMatchAddr o => .event .ha evHaAddrOpcMatch 0x01 o
  | .haAddrOpcMatchOpc o => .event .ha evHaAddrOpcMatch 0x02 o
  | .haAddrOpcMatchFilt o => .event .ha evHaAddrOpcMatch 0x03 o
  | .haAddrOpcMatchAd o => .event .ha evHaAddrOpcMatch 0x04 o
  | .haAddrOpcMatchBl o => .event .ha evHaAddrOpcMatch 0x08 o
  | .haAddrOpcMatchAk o => .event .ha evHaAddrOpcMatch 0x10 o
  | .haBtCyclesNe o => .event .ha evHaBtCyclesNe 0x00 o
  | .haBtOccupancy o => .event .ha evHaBtOccupancy 0x00 o
  | .haBypassImcTaken o => .event .ha evHaBypassImc 0x01 o
  | .haBypassImcNotTaken o => .event .ha evHaBypassImc 0x02 o
  | .haClockticks o => .event .ha evHaClockticks 0x00 o
  | .haConflictCycles o => .event .ha evHaConflictCycles 0x00 o
  | .haDirect2coreCount o => .event .ha evHaDirect2coreCount 0x00 o
  | .haDirect2coreCyclesDisabled o => .event .ha evHaDirect2coreCyclesDisabled 0x00 o
  | .haDirect2coreTxnOverride o => .event .ha evHaDirect2coreTxnOverride 0x00 o
  | .haDirectoryLatOpt o => .event .ha evHaDirectoryLatOpt 0x00 o
  | .haDirectoryLookupSnp o => .event .ha evHaDirectoryLookup 0x01 o
  | .haDirectoryLookupNoSnp o => .event .ha evHaDirectoryLookup 0x02 o
  | .haDirectoryUpdateSet o => .event .ha evHaDirectoryUpdate 0x01 o
  | .haDirectoryUpdateClear o => .event .ha evHaDirectoryUpdate 0x02 o
  | .haDirectoryUpdateAny o => .event .ha evHaDirectoryUpdate 0x03 o
  | .haHitmeHitReadOrInvitoe o => .event .ha evHaHitmeHit 0x01 o
  | .haHitmeHitWbmtoi o => .event .ha evHaHitmeHit 0x02 o
  | .haHitmeHitAckcnfltwbi o => .event .ha evHaHitmeHit 0x04 o
  | .haHitmeHitWbmtoeOrS o => .event .ha evHaHitmeHit 0x08 o
  | .haHitmeHitHom o => .event .ha evHaHitmeHit 0x0F o
  | .haHitmeHitRspfwdiRemote o => .event .ha evHaHitmeHit 0x10 o
  | .haHitmeHitRspfwdiLocal o => .event .ha evHaHitmeHit 0x20 o
  | .haHitmeHitInvals o => .event .ha evHaHitmeHit 0x26 o
  | .haHitmeHitRspfwds o => .event .ha evHaHitmeHit 0x40 o
  | .haHitmeHitEvicts o => .event .ha evHaHitmeHit 0x42 o
  | .haHitmeHitAllocs o => .event .ha evHaHitmeHit 0x70 o
  | .haHitmeHitRsp o => .event .ha evHaHitmeHit 0x80 o
  | .haHitmeHitAll o => .event .ha evHaHitmeHit 0xFF o
  | .haHitmeHitPvBitsSetReadOrInvitoe o => .event .ha evHaHitmeHitPvBitsSet 0x01 o
  | .haHitmeHitPvBitsSetWbmtoi o => .event .ha evHaHitmeHitPvBitsSet 0x02 o
  | .haHitmeHitPvBitsSetAckcnfltwbi o => .event .ha evHaHitmeHitPvBitsSet 0x04 o
  | .haHitmeHitPvBitsSetWbmtoeOrS o => .event .ha evHaHitmeHitPvBitsSet 0x08 o
  | .haHitmeHitPvBitsSetHom o => .event .ha evHaHitmeHitPvBitsSet 0x0F o
  | .haHitmeHitPvBitsSetRspfwdiRemote o => .event .ha evHaHitmeHitPvBitsSet 0x10 o
  | .haHitmeHitPvBitsSetRspfwdiLocal o => .event .ha evHaHitmeHitPvBitsSet 0x20 o
  | .haHitmeHitPvBitsSetRspfwds o => .event .ha evHaHitmeHitPvBitsSet 0x40 o
  | .haHitmeHitPvBitsSetRsp o => .event .ha evHaHitmeHitPvBitsSet 0x80 o
  | .haHitmeHitPvBitsSetAll o => .event .ha evHaHitmeHitPvBitsSet 0xFF o
  | .haHitmeLookupReadOrInvitoe o => .event .ha evHaHitmeLookup 0x01 o
  | .haHitmeLookupWbmtoi o => .event .ha evHaHitmeLookup 0x02 o
  | .haHitmeLookupAckcnfltwbi o => .event .ha evHaHitmeLookup 0x04 o
  | .haHitmeLookupWbmtoeOrS o => .event .ha evHaHitmeLookup 0x08 o
  | .haHitmeLookupHom o => .event .ha evHaHitmeLookup 0x0F o
  | .haHitmeLookupRspfwdiRemote o => .event .ha evHaHitmeLookup 0x10 o
  | .haHitmeLookupRspfwdiLocal o => .event .ha evHaHitmeLookup 0x20 o
  | .haHitmeLookupInvals o => .event .ha evHaHitmeLookup 0x26 o
  | .haHitmeLookupRspfwds o => .event .ha evHaHitmeLookup 0x40 o
  | .haHitmeLookupAllocs o => .event .ha evHaHitmeLookup 0x70 o
  | .haHitmeLookupRsp o => .event .ha evHaHitmeLookup 0x80 o
  | .haHitmeLookupAll o => .event .ha evHaHitmeLookup 0xFF o
  | .haIgrNoCreditCyclesAdQpi0 o => .event .ha evHaIgrNoCreditCycles 0x01 o
  | .haIgrNoCreditCyclesAdQpi1 o => .event .ha evHaIgrNoCreditCycles 0x02 o
  | .haIgrNoCreditCyclesBlQpi0 o => .event .ha evHaIgrNoCreditCycles 0x04 o
  | .haIgrNoCreditCyclesBlQpi1 o => .event .ha evHaIgrNoCreditCycles 0x08 o
  | .haIgrNoCreditCyclesAdQpi2 o => .event .ha evHaIgrNoCreditCycles 0x10 o
  | .haIgrNoCreditCyclesBlQpi2 o => .event .ha evHaIgrNoCreditCycles 0x20 o
  | .haImcReadsNormal o => .event .ha evHaImcReads 0x01 o
  | .haImcRetry o => .event .ha evHaImcRetry 0x00 o
  | .haImcWritesFull o => .event .ha evHaImcWrites 0x01 o
  | .haImcWritesPartial o => .event .ha evHaImcWrites 0x02 o
  | .haImcWritesFullIsoch o => .event .ha evHaImcWrites 0x04 o
  | .haImcWritesPartialIsoch o => .event .ha evHaImcWrites 0x08 o
  | .haImcWritesAll o => .event .ha evHaImcWrites 0x0F o
  | .haOsbReadsLocal o => .event .ha evHaOsb 0x02 o
  | .haOsbInvitoeLocal o => .event .ha evHaOsb 0x04 o
  | .haOsbRemote o => .event .ha evHaOsb 0x08 o
  | .haOsbCancelled o => .event .ha evHaOsb 0x10 o
  | .haOsbReadsLocalUseful o => .event .ha evHaOsb 0x20 o
  | .haOsbRemoteUseful o => .event .ha evHaOsb 0x40 o
  | .haOsbEdrAll o => .event .ha evHaOsbEdr 0x01 o
  | .haOsbEdrReadsLocalI o => .event .ha evHaOsbEdr 0x02 o
  | .haOsbEdrReadsRemoteI o => .event .ha evHaOsbEdr 0x04 o
  | .haOsbEdrReadsLocalS o => .event .ha evHaOsbEdr 0x08 o
  | .haOsbEdrReadsRemoteS o => .event .ha evHaOsbEdr 0x10 o
  | .haRequestsReadsLocal o => .event .ha evHaRequests 0x01 o
  | .haRequestsReadsRemote o => .event .ha evHaRequests 0x02 o
  | .haRequestsReads o => .event .ha evHaRequests 0x03 o
  | .haRequestsWritesLocal o => .event .ha evHaRequests 0x04 o
  | .haRequestsWritesRemote o => .event .ha evHaRequests 0x08 o
  | .haRequestsWrites o => .event .ha evHaRequests 0x0C o
  | .haRequestsInvitoeLocal o => .event .ha evHaRequests 0x10 o
  | .haRequestsInvitoeRemote o => .event .ha evHaRequests 0x20 o
  | .haRingAdUsedCwEven o => .event .ha evHaRingAdUsed 0x01 o
  | .haRingAdUsedCwOdd o => .event .ha evHaRingAdUsed 0x02 o
  | .haRingAdUsedCw o => .event .ha evHaRingAdUsed 0x03 o
  | .haRingAdUsedCcwEven o => .event .ha evHaRingAdUsed 0x04 o
  | .haRingAdUsedCcwOdd o => .event .ha evHaRingAdUsed 0x08 o
  | .haRingAdUsedCcw o => .event .ha evHaRingAdUsed 0x0C o
  | .haRingAkUsedCwEven o => .event .ha evHaRingAkUsed 0x01 o
  | .haRingAkUsedCwOdd o => .event .ha evHaRingAkUsed 0x02 o
  | .haRingAkUsedCw o => .event .ha evHaRingAkUsed 0x03 o
  | .haRingAkUsedCcwEven o => .event .ha evHaRingAkUsed 0x04 o
  | .haRingAkUsedCcwOdd o => .event .ha evHaRingAkUsed 0x08 o
  | .haRingAkUsedCcw o => .event .ha evHaRingAkUsed 0x0C o
  | .haRingBlUsedCwEven o => .event .ha evHaRingBlUsed 0x01 o
  | .haRingBlUsedCwOdd o => .event .ha evHaRingBlUsed 0x02 o
  | .haRingBlUsedCw o => .event .ha evHaRingBlUsed 0x03 o
  | .haRingBlUsedCcwEven o => .event .ha evHaRingBlUsed 0x04 o
  | .haRingBlUsedCcwOdd o => .event .ha evHaRingBlUsed 0x08 o
  | .haRingBlUsedCcw o => .event .ha evHaRingBlUsed 0x0C o
  | .haRpqCyclesNoRegCreditsChn0 o => .event .ha evHaRpqCyclesNoRegCredits 0x01 o
  | .haRpqCyclesNoRegCreditsChn1 o => .event .ha evHaRpqCyclesNoRegCredits 0x02 o
  | .haRpqCyclesNoRegCreditsChn2 o => .event .ha evHaRpqCyclesNoRegCredits 0x04 o
  | .haRpqCyclesNoRegCreditsChn3 o => .event .ha evHaRpqCyclesNoRegCredits 0x08 o
  | .haSbo0CreditsAcquiredAd o => .event .ha evHaSbo0CreditsAcquired 0x01 o
  | .haSbo0CreditsAcquiredBl o => .event .ha evHaSbo0CreditsAcquired 0x02 o
  | .haSbo0CreditOccupancyAd o => .event .ha evHaSbo0CreditOccupancy 0x01 o
  | .haSbo0CreditOccupancyBl o => .event .ha evHaSbo0CreditOccupancy 0x02 o
  | .haSbo1CreditsAcquiredAd o => .event .ha evHaSbo1CreditsAcquired 0x01 o
  | .haSbo1CreditsAcquiredBl o => .event .ha evHaSbo1CreditsAcquired 0x02 o
  | .haSbo1CreditOccupancyAd o => .event .ha evHaSbo1CreditOccupancy 0x01 o
  | .haSbo1CreditOccupancyBl o => .event .ha evHaSbo1CreditOccupancy 0x02 o
  | .haSnoopsRspAfterDataLocal o => .event .ha evHaSnoopsRspAfterData 0x01 o
  | .haSnoopsRspAfterDataRemote o => .event .ha evHaSnoopsRspAfterData 0x02 o
  | .haSnoopCyclesNeLocal o => .event .ha evHaSnoopCyclesNe 0x01 o
  | .haSnoopCyclesNeRemote o => .event .ha evHaSnoopCyclesNe 0x02 o
  | .haSnoopCyclesNeAll o => .event .ha evHaSnoopCyclesNe 0x03 o
  | .haSnoopOccupancyLocal o => .event .ha evHaSnoopOccupancy 0x01 o
  | .haSnoopOccupancyRemote o => .event .ha evHaSnoopOccupancy 0x02 o
  | .haSnoopRespRspi o => .event .ha evHaSnoopResp 0x01 o
  | .haSnoopRespRsps o => .event .ha evHaSnoopResp 0x02 o
  | .haSnoopRespRspifwd o => .event .ha evHaSnoopResp 0x04 o
  | .haSnoopRespRspsfwd o => .event .ha evHaSnoopResp 0x08 o
  | .haSnoopRespRspWb o => .event .ha evHaSnoopResp 0x10 o
  | .haSnoopRespRspFwdWb o => .event .ha evHaSnoopResp 0x20 o
  | .haSnoopRespRspcnflct o => .event .ha evHaSnoopResp 0x40 o
  | .haSnpRespRecvLocalRspi o => .event .ha evHaSnpRespRecvLocal 0x01 o
  | .haSnpRespRecvLocalRsps o => .event .ha evHaSnpRespRecvLocal 0x02 o
  | .haSnpRespRecvLocalRspifwd o => .event .ha evHaSnpRespRecvLocal 0x04 o
  | .haSnpRespRecvLocalRspsfwd o => .event .ha evHaSnpRespRecvLocal 0x08 o
  | .haSnpRespRecvLocalRSPxWB o => .event .ha evHaSnpRespRecvLocal 0x10 o
  | .haSnpRespRecvLocalRSPxFWDxWB o => .event .ha evHaSnpRespRecvLocal 0x20 o
  | .haSnpRespRecvLocalRspcnflct o => .event .ha evHaSnpRespRecvLocal 0x40 o
  | .haSnpRespRecvLocalOther o => .event .ha evHaSnpRespRecvLocal 0x80 o
  | .haStallNoSboCreditSbo0Ad o => .event .ha evHaStallNoSboCredit 0x01 o
  | .haStallNoSboCreditSbo1Ad o => .event .ha evHaStallNoSboCredit 0x02 o
  | .haStallNoSboCreditSbo0Bl o => .event .ha evHaStallNoSboCredit 0x04 o
  | .haStallNoSboCreditSb01Bl o => .event .ha evHaStallNoSboCredit 0x08 o
  | .haTadRequestsG0Region0 o => .event .ha evHaTadRequestsG0 0x01 o
  | .haTadRequestsG0Region1 o => .event .ha evHaTadRequestsG0 0x02 o
  | .haTadRequestsG0Region2 o => .event .ha evHaTadRequestsG0 0x04 o
  | .haTadRequestsG0Region3 o => .event .ha evHaTadRequestsG0 0x08 o
  | .haTadRequestsG0Region4 o => .event .ha evHaTadRequestsG0 0x10 o
  | .haTadRequestsG0Region5 o => .event .ha evHaTadRequestsG0 0x20 o
  | .haTadRequestsG0Region6 o => .event .ha evHaTadRequestsG0 0x40 o
  | .haTadRequestsG0Region7 o => .event .ha evHaTadRequestsG0 0x80 o
  | .haTadRequestsG1Region8 o => .event .ha evHaTadRequestsG1 0x01 o
  | .haTadRequestsG1Region9 o => .event .ha evHaTadRequestsG1 0x02 o
  | .haTadRequestsG1Region10 o => .event .ha evHaTadRequestsG1 0x04 o
  | .haTadRequestsG1Region11 o => .event .ha evHaTadRequestsG1 0x08 o
  | .haTrackerCyclesFullGp o => .event .ha evHaTrackerCyclesFull 0x01 o
  | .haTrackerCyclesFullAll o => .event .ha evHaTrackerCyclesFull 0x02 o
  | .haTrackerCyclesNeLocal o => .event .ha evHaTrackerCyclesNe 0x01 o
  | .haTrackerCyclesNeRemote o => .event .ha evHaTrackerCyclesNe 0x02 o
  | .haTrackerCyclesNeAll o => .event .ha evHaTrackerCyclesNe 0x03 o
  | .haTrackerOccupancyReadsLocal o => .event .ha evHaTrackerOccupancy 0x04 o
  | .haTrackerOccupancyReadsRemote o => .event .ha evHaTrackerOccupancy 0x08 o
  | .haTrackerOccupancyWritesLocal o => .event .ha evHaTrackerOccupancy 0x10 o
  | .haTrackerOccupancyWritesRemote o => .event .ha evHaTrackerOccupancy 0x20 o
  | .haTrackerOccupancyInvitoeLocal o => .event .ha evHaTrackerOccupancy 0x40 o
  | .haTrackerOccupancyInvitoeRemote o => .event .ha evHaTrackerOccupancy 0x80 o
  | .haTrackerPendingOccupancyLocal o => .event .ha evHaTrackerPendingOccupancy 0x01 o
  | .haTrackerPendingOccupancyRemote o => .event .ha evHaTrackerPendingOccupancy 0x02 o
  | .haTxRAdCyclesFullSched0 o => .event .ha evHaTxRAdCyclesFull 0x01 o
  | .haTxRAdCyclesFullSched1 o => .event .ha evHaTxRAdCyclesFull 0x02 o
  | .haTxRAdCyclesFullAll o => .event .ha evHaTxRAdCyclesFull 0x03 o
  | .haTxRAk o => .event .ha evHaTxRAk 0x00 o
  | .haTxRAkCyclesFullSched0 o => .event .ha evHaTxRAkCyclesFull 0x01 o
  | .haTxRAkCyclesFullSched1 o => .event .ha evHaTxRAkCyclesFull 0x02 o
  | .haTxRAkCyclesFullAll o => .event .ha evHaTxRAkCyclesFull 0x03 o
  | .haTxRBlDrsCache o => .event .ha evHaTxRBl 0x01 o
  | .haTxRBlDrsCore o => .event .ha evHaTxRBl 0x02 o
  | .haTxRBlDrsQpi o => .event .ha evHaTxRBl 0x04 o
  | .haTxRBlCyclesFullSched0 o => .event .ha evHaTxRBlCyclesFull 0x01 o
  | .haTxRBlCyclesFullSched1 o => .event .ha evHaTxRBlCyclesFull 0x02 o
  | .haTxRBlCyclesFullAll o => .event .ha evHaTxRBlCyclesFull 0x03 o
  | .haTxRBlOccupancy o => .event .ha evHaTxRBlOccupancy 0x00 o
  | .haTxRStarvedAk o => .event .ha evHaTxRStarved 0x01 o
  | .haTxRStarvedBl o => .event .ha evHaTxRStarved 0x02 o
  | .haWpqCyclesNoRegCreditsChn0 o => .event .ha evHaWpqCyclesNoRegCredits 0x01 o
  | .haWpqCyclesNoRegCreditsChn1 o => .event .ha evHaWpqCyclesNoRegCredits 0x02 o
  | .haWpqCyclesNoRegCreditsChn2 o => .event .ha evHaWpqCyclesNoRegCredits 0x04 o
  | .haWpqCyclesNoRegCreditsChn3 o => .event .ha evHaWpqCyclesNoRegCredits 0x08 o
  | .imcActCountRd o => .event .imc evImcActCount 0x01 o
  | .imcActCountWr o => .event .imc evImcActCount 0x02 o
  | .imcActCountByp o => .event .imc evImcActCount 0x08 o
  | .imcBypCmdsAct o => .event .imc evImcBypCmds 0x01 o
  | .imcBypCmdsCas o => .event .imc evImcBypCmds 0x02 o
  | .imcBypCmdsPre o => .event .imc evImcBypCmds 0x04 o
  | .imcCasCountRdReg o => .event .imc evImcCasCount 0x01 o
  | .imcCasCountRdUnderfill o => .event .imc evImcCasCount 0x02 o
  | .imcCasCountRd o => .event .imc evImcCasCount 0x03 o
  | .imcCasCountWrWmm o => .event .imc evImcCasCount 0x04 o
  | .imcCasCountWrRmm o => .event .imc evImcCasCount 0x08 o
  | .imcCasCountWr o => .event .imc evImcCasCount 0x0C o
  | .imcCasCountAll o => .event .imc evImcCasCount 0x0F o
  | .imcCasCountRdWmm o => .event .imc evImcCasCount 0x10 o
  | .imcCasCountRdRmm o => .event .imc evImcCasCount 0x20 o
  | .imcDclockticks o => .event .imc evImcDclockticks 0x00 o
  | .imcDramPreAll o => .event .imc evImcDramPreAll 0x00 o
  | .imcDramRefreshPanic o => .event .imc evImcDramRefresh 0x02 o
  | .imcDramRefreshHigh o => .event .imc evImcDramRefresh 0x04 o
  | .imcEccCorrectableErrors o => .event .imc evImcEccCorrectableErrors 0x00 o
  | .imcMajorModesRead o => .event .imc evImcMajorModes 0x01 o
  | .imcMajorModesWrite o => .event .imc evImcMajorModes 0x02 o
  | .imcMajorModesPartial o => .event .imc evImcMajorModes 0x04 o
  | .imcMajorModesIsoch o => .event .imc evImcMajorModes 0x08 o
  | .imcPowerChannelDlloff o => .event .imc evImcPowerChannelDlloff 0x00 o
  | .imcPowerChannelPpd o => .event .imc evImcPowerChannelPpd 0x00 o
  | .imcPowerCkeCyclesRank0 o => .event .imc evImcPowerCkeCycles 0x01 o
  | .imcPowerCkeCyclesRank1 o => .event .imc evImcPowerCkeCycles 0x02 o
  | .imcPowerCkeCyclesRank2 o => .event .imc evImcPowerCkeCycles 0x04 o
  | .imcPowerCkeCyclesRank3 o => .event .imc evImcPowerCkeCycles 0x08 o
  | .imcPowerCkeCyclesRank4 o => .event .imc evImcPowerCkeCycles 0x10 o
  | .imcPowerCkeCyclesRank5 o => .event .imc evImcPowerCkeCycles 0x20 o
  | .imcPowerCkeCyclesRank6 o => .event .imc evImcPowerCkeCycles 0x40 o
  | .imcPowerCkeCyclesRank7 o => .event .imc evImcPowerCkeCycles 0x80 o
  | .imcPowerCriticalThrottleCycles o => .event .imc evImcPowerCriticalThrottleCycles 0x00 o
  | .imcPowerPcuThrottling o => .event .imc evImcPowerPcuThrottling 0x00 o
  | .imcPowerSelfRefresh o => .event .imc evImcPowerSelfRefresh 0x00 o
  | .imcPowerThrottleCyclesRank0 o => .event .imc evImcPowerThrottleCycles 0x01 o
  | .imcPowerThrottleCyclesRank1 o => .event .imc evImcPowerThrottleCycles 0x02 o
  | .imcPowerThrottleCyclesRank2 o => .event .imc evImcPowerThrottleCycles 0x04 o
  | .imcPowerThrottleCyclesRank3 o => .event .imc evImcPowerThrottleCycles 0x08 o
  | .imcPowerThrottleCyclesRank4 o => .event .imc evImcPowerThrottleCycles 0x10 o
  | .imcPowerThrottleCyclesRank5 o => .event .imc evImcPowerThrottleCycles 0x20 o
  | .imcPowerThrottleCyclesRank6 o => .event .imc evImcPowerThrottleCycles 0x40 o
  | .imcPowerThrottleCyclesRank7 o => .event .imc evImcPowerThrottleCycles 0x80 o
  | .imcPreemptionRdPreemptRd o => .event .imc evImcPreemption 0x01 o
  | .imcPreemptionRdPreemptWr o => .event .imc evImcPreemption 0x02 o
  | .imcPreCountPageMiss o => .event .imc evImcPreCount 0x01 o
  | .imcPreCountPageClose o => .event .imc evImcPreCount 0x02 o
  | .imcPreCountRd o => .event .imc evImcPreCount 0x04 o
  | .imcPreCountWr o => .event .imc evImcPreCount 0x08 o
  | .imcPreCountByp o => .event .imc evImcPreCount 0x10 o
  | .imcRdCasPrioLow o => .event .imc evImcRdCasPrio 0x01 o
  | .imcRdCasPrioMed o => .event .imc evImcRdCasPrio 0x02 o
  | .imcRdCasPrioHigh o => .event .imc evImcRdCasPrio 0x04 o
  | .imcRdCasPrioPanic o => .event .imc evImcRdCasPrio 0x08 o
  | .imcRdCasRank0Bank0 o => .event .imc evImcRdCasRank0 0x00 o
  | .imcRdCasRank0Bank1 o => .event .imc evImcRdCasRank0 0x01 o
  | .imcRdCasRank0Bank2 o => .event .imc evImcRdCasRank0 0x02 o
  | .imcRdCasRank0Bank3 o => .event .imc evImcRdCasRank0 0x03 o
  | .imcRdCasRank0Bank4 o => .event .imc evImcRdCasRank0 0x04 o
  | .imcRdCasRank0Bank5 o => .event .imc evImcRdCasRank0 0x05 o
  | .imcRdCasRank0Bank6 o => .event .imc evImcRdCasRank0 0x06 o
  | .imcRdCasRank0Bank7 o => .event .imc evImcRdCasRank0 0x07 o
  | .imcRdCasRank0Bank8 o => .event .imc evImcRdCasRank0 0x08 o
  | .imcRdCasRank0Bank9 o => .event .imc evImcRdCasRank0 0x09 o
  | .imcRdCasRank0Bank10 o => .event .imc evImcRdCasRank0 0x0A o
  | .imcRdCasRank0Bank11 o => .event .imc evImcRdCasRank0 0x0B o
  | .imcRdCasRank0Bank12 o => .event .imc evImcRdCasRank0 0x0C o
  | .imcRdCasRank0Bank13 o => .event .imc evImcRdCasRank0 0x0D o
  | .imcRdCasRank0Bank14 o => .event .imc evImcRdCasRank0 0x0E o
  | .imcRdCasRank0Bank15 o => .event .imc evImcRdCasRank0 0x0F o
  | .imcRdCasRank0Allbanks o => .event .imc evImcRdCasRank0 0x10 o
  | .imcRdCasRank0Bankg0 o => .event .imc evImcRdCasRank0 0x11 o
  | .imcRdCasRank0Bankg1 o => .event .imc evImcRdCasRank0 0x12 o
  | .imcRdCasRank0Bankg2 o => .event .imc evImcRdCasRank0 0x13 o
  | .imcRdCasRank0Bankg3 o => .event .imc evImcRdCasRank0 0x14 o
  | .imcRdCasRank1Bank0 o => .event .imc evImcRdCasRank1 0x00 o
  | .imcRdCasRank1Bank1 o => .event .imc evImcRdCasRank1 0x01 o
  | .imcRdCasRank1Bank2 o => .event .imc evImcRdCasRank1 0x02 o
  | .imcRdCasRank1Bank3 o => .event .imc evImcRdCasRank1 0x03 o
  | .imcRdCasRank1Bank4 o => .event .imc evImcRdCasRank1 0x04 o
  | .imcRdCasRank1Bank5 o => .event .imc evImcRdCasRank1 0x05 o
  | .imcRdCasRank1Bank6 o => .event .imc evImcRdCasRank1 0x06 o
  | .imcRdCasRank1Bank7 o => .event .imc evImcRdCasRank1 0x07 o
  | .imcRdCasRank1Bank8 o => .event .imc evImcRdCasRank1 0x08 o
  | .imcRdCasRank1Bank9 o => .event .imc evImcRdCasRank1 0x09 o
  | .imcRdCasRank1Bank10 o => .event .imc evImcRdCasRank1 0x0A o
  | .imcRdCasRank1Bank11 o => .event .imc evImcRdCasRank1 0x0B o
  | .imcRdCasRank1Bank12 o => .event .imc evImcRdCasRank1 0x0C o
  | .imcRdCasRank1Bank13 o => .event .imc evImcRdCasRank1 0x0D o
  | .imcRdCasRank1Bank14 o => .event .imc evImcRdCasRank1 0x0E o
  | .imcRdCasRank1Bank15 o => .event .imc evImcRdCasRank1 0x0F o
  | .imcRdCasRank1Allbanks o => .event .imc evImcRdCasRank1 0x10 o
  | .imcRdCasRank1Bankg0 o => .event .imc evImcRdCasRank1 0x11 o
  | .imcRdCasRank1Bankg1 o => .event .imc evImcRdCasRank1 0x12 o
  | .imcRdCasRank1Bankg2 o => .event .imc evImcRdCasRank1 0x13 o
  | .imcRdCasRank1Bankg3 o => .event .imc evImcRdCasRank1 0x14 o
  | .imcRdCasRank2Bank0 o => .event .imc evImcRdCasRank2 0x00 o
  | .imcRdCasRank4Bank0 o => .event .imc evImcRdCasRank4 0x00 o
  | .imcRdCasRank4Bank1 o => .event .imc evImcRdCasRank4 0x01 o
  | .imcRdCasRank4Bank2 o => .event .imc evImcRdCasRank4 0x02 o
  | .imcRdCasRank4Bank3 o => .event .imc evImcRdCasRank4 0x03 o
  | .imcRdCasRank4Bank4 o => .event .imc evImcRdCasRank4 0x04 o
  | .imcRdCasRank4Bank5 o => .event .imc evImcRdCasRank4 0x05 o
  | .imcRdCasRank4Bank6 o => .event .imc evImcRdCasRank4 0x06 o
  | .imcRdCasRank4Bank7 o => .event .imc evImcRdCasRank4 0x07 o
  | .imcRdCasRank4Bank8 o => .event .imc evImcRdCasRank4 0x08 o
  | .imcRdCasRank4Bank9 o => .event .imc evImcRdCasRank4 0x09 o
  | .imcRdCasRank4Bank10 o => .event .imc evImcRdCasRank4 0x0A o
  | .imcRdCasRank4Bank11 o => .event .imc evImcRdCasRank4 0x0B o
  | .imcRdCasRank4Bank12 o => .event .imc evImcRdCasRank4 0x0C o
  | .imcRdCasRank4Bank13 o => .event .imc evImcRdCasRank4 0x0D o
  | .imcRdCasRank4Bank14 o => .event .imc evImcRdCasRank4 0x0E o
  | .imcRdCasRank4Bank15 o => .event .imc evImcRdCasRank4 0x0F o
  | .imcRdCasRank4Allbanks o => .event .imc evImcRdCasRank4 0x10 o
  | .imcRdCasRank4Bankg0 o => .event .imc evImcRdCasRank4 0x11 o
  | .imcRdCasRank4Bankg1 o => .event .imc evImcRdCasRank4 0x12 o
  | .imcRdCasRank4Bankg2 o => .event .imc evImcRdCasRank4 0x13 o
  | .imcRdCasRank4Bankg3 o => .event .imc evImcRdCasRank4 0x14 o
  | .imcRdCasRank5Bank0 o => .event .imc evImcRdCasRank5 0x00 o
  | .imcRdCasRank5Bank1 o => .event .imc evImcRdCasRank5 0x01 o
  | .imcRdCasRank5Bank2 o => .event .imc evImcRdCasRank5 0x02 o
  | .imcRdCasRank5Bank3 o => .event .imc evImcRdCasRank5 0x03 o
  | .imcRdCasRank5Bank4 o => .event .imc evImcRdCasRank5 0x04 o
  | .imcRdCasRank5Bank5 o => .event .imc evImcRdCasRank5 0x05 o
  | .imcRdCasRank5Bank6 o => .event .imc evImcRdCasRank5 0x06 o
  | .imcRdCasRank5Bank7 o => .event .imc evImcRdCasRank5 0x07 o
  | .imcRdCasRank5Bank8 o => .event .imc evImcRdCasRank5 0x08 o
  | .imcRdCasRank5Bank9 o => .event .imc evImcRdCasRank5 0x09 o
  | .imcRdCasRank5Bank10 o => .event .imc evImcRdCasRank5 0x0A o
  | .imcRdCasRank5Bank11 o => .event .imc evImcRdCasRank5 0x0B o
  | .imcRdCasRank5Bank12 o => .event .imc evImcRdCasRank5 0x0C o
  | .imcRdCasRank5Bank13 o => .event .imc evImcRdCasRank5 0x0D o
  | .imcRdCasRank5Bank14 o => .event .imc evImcRdCasRank5 0x0E o
  | .imcRdCasRank5Bank15 o => .event .imc evImcRdCasRank5 0x0F o
  | .imcRdCasRank5Allbanks o => .event .imc evImcRdCasRank5 0x10 o
  | .imcRdCasRank5Bankg0 o => .event .imc evImcRdCasRank5 0x11 o
  | .imcRdCasRank5Bankg1 o => .event .imc evImcRdCasRank5 0x12 o
  | .imcRdCasRank5Bankg2 o => .event .imc evImcRdCasRank5 0x13 o
  | .imcRdCasRank5Bankg3 o => .event .imc evImcRdCasRank5 0x14 o
  | .imcRdCasRank6Bank0 o => .event .imc evImcRdCasRank6 0x00 o
  | .imcRdCasRank6Bank1 o => .event .imc evImcRdCasRank6 0x01 o
  | .imcRdCasRank6Bank2 o => .event .imc evImcRdCasRank6 0x02 o
  | .imcRdCasRank6Bank3 o => .event .imc evImcRdCasRank6 0x03 o
  | .imcRdCasRank6Bank4 o => .event .imc evImcRdCasRank6 0x04 o
  | .imcRdCasRank6Bank5 o => .event .imc evImcRdCasRank6 0x05 o
  | .imcRdCasRank6Bank6 o => .event .imc evImcRdCasRank6 0x06 o
  | .imcRdCasRank6Bank7 o => .event .imc evImcRdCasRank6 0x07 o
  | .imcRdCasRank6Bank8 o => .event .imc evImcRdCasRank6 0x08 o
  | .imcRdCasRank6Bank9 o => .event .imc evImcRdCasRank6 0x09 o
  | .imcRdCasRank6Bank10 o => .event .imc evImcRdCasRank6 0x0A o
  | .imcRdCasRank6Bank11 o => .event .imc evImcRdCasRank6 0x0B o
  | .imcRdCasRank6Bank12 o => .event .imc evImcRdCasRank6 0x0C o
  | .imcRdCasRank6Bank13 o => .event .imc evImcRdCasRank6 0x0D o
  | .imcRdCasRank6Bank14 o => .event .imc evImcRdCasRank6 0x0E o
  | .imcRdCasRank6Bank15 o => .event .imc evImcRdCasRank6 0x0F o
  | .imcRdCasRank6Allbanks o => .event .imc evImcRdCasRank6 0x10 o
  | .imcRdCasRank6Bankg0 o => .event .imc evImcRdCasRank6 0x11 o
  | .imcRdCasRank6Bankg1 o => .event .imc evImcRdCasRank6 0x12 o
  | .imcRdCasRank6Bankg2 o => .event .imc evImcRdCasRank6 0x13 o
  | .imcRdCasRank6Bankg3 o => .event .imc evImcRdCasRank6 0x14 o
  | .imcRdCasRank7Bank0 o => .event .imc evImcRdCasRank7 0x00 o
  | .imcRdCasRank7Bank1 o => .event .imc evImcRdCasRank7 0x01 o
  | .imcRdCasRank7Bank2 o => .event .imc evImcRdCasRank7 0x02 o
  | .imcRdCasRank7Bank3 o => .event .imc evImcRdCasRank7 0x03 o
  | .imcRdCasRank7Bank4 o => .event .imc evImcRdCasRank7 0x04 o
  | .imcRdCasRank7Bank5 o => .event .imc evImcRdCasRank7 0x05 o
  | .imcRdCasRank7Bank6 o => .event .imc evImcRdCasRank7 0x06 o
  | .imcRdCasRank7Bank7 o => .event .imc evImcRdCasRank7 0x07 o
  | .imcRdCasRank7Bank8 o => .event .imc evImcRdCasRank7 0x08 o
  | .imcRdCasRank7Bank9 o => .event .imc evImcRdCasRank7 0x09 o
  | .imcRdCasRank7Bank10 o => .event .imc evImcRdCasRank7 0x0A o
  | .imcRdCasRank7Bank11 o => .event .imc evImcRdCasRank7 0x0B o
  | .imcRdCasRank7Bank12 o => .event .imc evImcRdCasRank7 0x0C o
  | .imcRdCasRank7Bank13 o => .event .imc evImcRdCasRank7 0x0D o
  | .imcRdCasRank7Bank14 o => .event .imc evImcRdCasRank7 0x0E o
  | .imcRdCasRank7Bank15 o => .event .imc evImcRdCasRank7 0x0F o
  | .imcRdCasRank7Allbanks o => .event .imc evImcRdCasRank7 0x10 o
  | .imcRdCasRank7Bankg0 o => .event .imc evImcRdCasRank7 0x11 o
  | .imcRdCasRank7Bankg1 o => .event .imc evImcRdCasRank7 0x12 o
  | .imcRdCasRank7Bankg2 o => .event .imc evImcRdCasRank7 0x13 o
  | .imcRdCasRank7Bankg3 o => .event .imc evImcRdCasRank7 0x14 o
  | .imcRpqCyclesNe o => .event .imc evImcRpqCyclesNe 0x00 o
  | .imcRpqInserts o => .event .imc evImcRpqInserts 0x00 o
  | .imcVmseMxbWrOccupancy o => .event .imc evImcVmseMxbWrOccupancy 0x00 o
  | .imcVmseWrPushWmm o => .event .imc evImcVmseWrPush 0x01 o
  | .imcVmseWrPushRmm o => .event .imc evImcVmseWrPush 0x02 o
  | .imcWmmToRmmLowThresh o => .event .imc evImcWmmToRmm 0x01 o
  | .imcWmmToRmmStarve o => .event .imc evImcWmmToRmm 0x02 o
  | .imcWmmToRmmVmseRetry o => .event .imc evImcWmmToRmm 0x04 o
  | .imcWpqCyclesFull o => .event .imc evImcWpqCyclesFull 0x00 o
  | .imcWpqCyclesNe o => .event .imc evImcWpqCyclesNe 0x00 o
  | .imcWpqReadHit o => .event .imc evImcWpqReadHit 0x00 o
  | .imcWpqWriteHit o => .event .imc evImcWpqWriteHit 0x00 o
  | .imcWrongMm o => .event .imc evImcWrongMm 0x00 o
  | .imcWrCasRank0Bank0 o => .event .imc evImcWrCasRank0 0x00 o
  | .imcWrCasRank0Bank1 o => .event .imc evImcWrCasRank0 0x01 o
  | .imcWrCasRank0Bank2 o => .event .imc evImcWrCasRank0 0x02 o
  | .imcWrCasRank0Bank3 o => .event .imc evImcWrCasRank0 0x03 o
  | .imcWrCasRank0Bank4 o => .event .imc evImcWrCasRank0 0x04 o
  | .imcWrCasRank0Bank5 o => .event .imc evImcWrCasRank0 0x05 o
  | .imcWrCasRank0Bank6 o => .event .imc evImcWrCasRank0 0x06 o
  | .imcWrCasRank0Bank7 o => .event .imc evImcWrCasRank0 0x07 o
  | .imcWrCasRank0Bank8 o => .event .imc evImcWrCasRank0 0x08 o
  | .imcWrCasRank0Bank9 o => .event .imc evImcWrCasRank0 0x09 o
  | .imcWrCasRank0Bank10 o => .event .imc evImcWrCasRank0 0x0A o
  | .imcWrCasRank0Bank11 o => .event .imc evImcWrCasRank0 0x0B o
  | .imcWrCasRank0Bank12 o => .event .imc evImcWrCasRank0 0x0C o
  | .imcWrCasRank0Bank13 o => .event .imc evImcWrCasRank0 0x0D o
  | .imcWrCasRank0Bank14 o => .event .imc evImcWrCasRank0 0x0E o
  | .imcWrCasRank0Bank15 o => .event .imc evImcWrCasRank0 0x0F o
  | .imcWrCasRank0Allbanks o => .event .imc evImcWrCasRank0 0x10 o
  | .imcWrCasRank0Bankg0 o => .event .imc evImcWrCasRank0 0x11 o
  | .imcWrCasRank0Bankg1 o => .event .imc evImcWrCasRank0 0x12 o
  | .imcWrCasRank0Bankg2 o => .event .imc evImcWrCasRank0 0x13 o
  | .imcWrCasRank0Bankg3 o => .event .imc evImcWrCasRank0 0x14 o
  | .imcWrCasRank1Bank0 o => .event .imc evImcWrCasRank1 0x00 o
  | .imcWrCasRank1Bank1 o => .event .imc evImcWrCasRank1 0x01 o
  | .imcWrCasRank1Bank2 o => .event .imc evImcWrCasRank1 0x02 o
  | .imcWrCasRank1Bank3 o => .event .imc evImcWrCasRank1 0x03 o
  | .imcWrCasRank1Bank4 o => .event .imc evImcWrCasRank1 0x04 o
  | .imcWrCasRank1Bank5 o => .event .imc evImcWrCasRank1 0x05 o
  | .imcWrCasRank1Bank6 o => .event .imc evImcWrCasRank1 0x06 o
  | .imcWrCasRank1Bank7 o => .event .imc evImcWrCasRank1 0x07 o
  | .imcWrCasRank1Bank8 o => .event .imc evImcWrCasRank1 0x08 o
  | .imcWrCasRank1Bank9 o => .event .imc evImcWrCasRank1 0x09 o
  | .imcWrCasRank1Bank10 o => .event .imc evImcWrCasRank1 0x0A o
  | .imcWrCasRank1Bank11 o => .event .imc evImcWrCasRank1 0x0B o
  | .imcWrCasRank1Bank12 o => .event .imc evImcWrCasRank1 0x0C o
  | .imcWrCasRank1Bank13 o => .event .imc evImcWrCasRank1 0x0D o
  | .imcWrCasRank1Bank14 o => .event .imc evImcWrCasRank1 0x0E o
  | .imcWrCasRank1Bank15 o => .event .imc evImcWrCasRank1 0x0F o
  | .imcWrCasRank1Allbanks o => .event .imc evImcWrCasRank1 0x10 o
  | .imcWrCasRank1Bankg0 o => .event .imc evImcWrCasRank1 0x11 o
  | .imcWrCasRank1Bankg1 o => .event .imc evImcWrCasRank1 0x12 o
  | .imcWrCasRank1Bankg2 o => .event .imc evImcWrCasRank1 0x13 o
  | .imcWrCasRank1Bankg3 o => .event .imc evImcWrCasRank1 0x14 o
  | .imcWrCasRank2 o => .event .imc evImcWrCasRank2 0x00 o
  | .imcWrCasRank3 o => .event .imc evImcWrCasRank3 0x00 o
  | .imcWrCasRank4Bank0 o => .event .imc evImcWrCasRank4 0x00 o
  | .imcWrCasRank4Bank1 o => .event .imc evImcWrCasRank4 0x01 o
  | .imcWrCasRank4Bank2 o => .event .imc evImcWrCasRank4 0x02 o
  | .imcWrCasRank4Bank3 o => .event .imc evImcWrCasRank4 0x03 o
  | .imcWrCasRank4Bank4 o => .event .imc evImcWrCasRank4 0x04 o
  | .imcWrCasRank4Bank5 o => .event .imc evImcWrCasRank4 0x05 o
  | .imcWrCasRank4Bank6 o => .event .imc evImcWrCasRank4 0x06 o
  | .imcWrCasRank4Bank7 o => .event .imc evImcWrCasRank4 0x07 o
  | .imcWrCasRank4Bank8 o => .event .imc evImcWrCasRank4 0x08 o
  | .imcWrCasRank4Bank9 o => .event .imc evImcWrCasRank4 0x09 o
  | .imcWrCasRank4Bank10 o => .event .imc evImcWrCasRank4 0x0A o
  | .imcWrCasRank4Bank11 o => .event .imc evImcWrCasRank4 0x0B o
  | .imcWrCasRank4Bank12 o => .event .imc evImcWrCasRank4 0x0C o
  | .imcWrCasRank4Bank13 o => .event .imc evImcWrCasRank4 0x0D o
  | .imcWrCasRank4Bank14 o => .event .imc evImcWrCasRank4 0x0E o
  | .imcWrCasRank4Bank15 o => .event .imc evImcWrCasRank4 0x0F o
  | .imcWrCasRank4Allbanks o => .event .imc evImcWrCasRank4 0x10 o
  | .imcWrCasRank4Bankg0 o => .event .imc evImcWrCasRank4 0x11 o
  | .imcWrCasRank4Bankg1 o => .event .imc evImcWrCasRank4 0x12 o
  | .imcWrCasRank4Bankg2 o => .event .imc evImcWrCasRank4 0x13 o
  | .imcWrCasRank4Bankg3 o => .event .imc evImcWrCasRank4 0x14 o
  | .imcWrCasRank5Bank0 o => .event .imc evImcWrCasRank5 0x00 o
  | .imcWrCasRank5Bank1 o => .event .imc evImcWrCasRank5 0x01 o
  | .imcWrCasRank5Bank2 o => .event .imc evImcWrCasRank5 0x02 o
  | .imcWrCasRank5Bank3 o => .event .imc evImcWrCasRank5 0x03 o
  | .imcWrCasRank5Bank4 o => .event .imc evImcWrCasRank5 0x04 o
  | .imcWrCasRank5Bank5 o => .event .imc evImcWrCasRank5 0x05 o
  | .imcWrCasRank5Bank6 o => .event .imc evImcWrCasRank5 0x06 o
  | .imcWrCasRank5Bank7 o => .event .imc evImcWrCasRank5 0x07 o
  | .imcWrCasRank5Bank8 o => .event .imc evImcWrCasRank5 0x08 o
  | .imcWrCasRank5Bank9 o => .event .imc evImcWrCasRank5 0x09 o
  | .imcWrCasRank5Bank10 o => .event .imc evImcWrCasRank5 0x0A o
  | .imcWrCasRank5Bank11 o => .event .imc evImcWrCasRank5 0x0B o
  | .imcWrCasRank5Bank12 o => .event .imc evImcWrCasRank5 0x0C o
  | .imcWrCasRank5Bank13 o => .event .imc evImcWrCasRank5 0x0D o
  | .imcWrCasRank5Bank14 o => .event .imc evImcWrCasRank5 0x0E o
  | .imcWrCasRank5Bank15 o => .event .imc evImcWrCasRank5 0x0F o
  | .imcWrCasRank5Allbanks o => .event .imc evImcWrCasRank5 0x10 o
  | .imcWrCasRank5Bankg0 o => .event .imc evImcWrCasRank5 0x11 o
  | .imcWrCasRank5Bankg1 o => .event .imc evImcWrCasRank5 0x12 o
  | .imcWrCasRank5Bankg2 o => .event .imc evImcWrCasRank5 0x13 o
  | .imcWrCasRank5Bankg3 o => .event .imc evImcWrCasRank5 0x14 o
  | .imcWrCasRank6Bank0 o => .event .imc evImcWrCasRank6 0x00 o
  | .imcWrCasRank6Bank1 o => .event .imc evImcWrCasRank6 0x01 o
  | .imcWrCasRank6Bank2 o => .event .imc evImcWrCasRank6 0x02 o
  | .imcWrCasRank6Bank3 o => .event .imc evImcWrCasRank6 0x03 o
  | .imcWrCasRank6Bank4 o => .event .imc evImcWrCasRank6 0x04 o
  | .imcWrCasRank6Bank5 o => .event .imc evImcWrCasRank6 0x05 o
  | .imcWrCasRank6Bank6 o => .event .imc evImcWrCasRank6 0x06 o
  | .imcWrCasRank6Bank7 o => .event .imc evImcWrCasRank6 0x07 o
  | .imcWrCasRank6Bank8 o => .event .imc evImcWrCasRank6 0x08 o
  | .imcWrCasRank6Bank9 o => .event .imc evImcWrCasRank6 0x09 o
  | .imcWrCasRank6Bank10 o => .event .imc evImcWrCasRank6 0x0A o
  | .imcWrCasRank6Bank11 o => .event .imc evImcWrCasRank6 0x0B o
  | .imcWrCasRank6Bank12 o => .event .imc evImcWrCasRank6 0x0C o
  | .imcWrCasRank6Bank13 o => .event .imc evImcWrCasRank6 0x0D o
  | .imcWrCasRank6Bank14 o => .event .imc evImcWrCasRank6 0x0E o
  | .imcWrCasRank6Bank15 o => .event .imc evImcWrCasRank6 0x0F o
  | .imcWrCasRank6Allbanks o => .event .imc evImcWrCasRank6 0x10 o
  | .imcWrCasRank6Bankg0 o => .event .imc evImcWrCasRank6 0x11 o
  | .imcWrCasRank6Bankg1 o => .event .imc evImcWrCasRank6 0x12 o
  | .imcWrCasRank6Bankg2 o => .event .imc evImcWrCasRank6 0x13 o
  | .imcWrCasRank6Bankg3 o => .event .imc evImcWrCasRank6 0x14 o
  | .imcWrCasRank7Bank0 o => .event .imc evImcWrCasRank7 0x00 o
  | .imcWrCasRank7Bank1 o => .event .imc evImcWrCasRank7 0x01 o
  | .imcWrCasRank7Bank2 o => .event .imc evImcWrCasRank7 0x02 o
  | .imcWrCasRank7Bank3 o => .event .imc evImcWrCasRank7 0x03 o
  | .imcWrCasRank7Bank4 o => .event .imc evImcWrCasRank7 0x04 o
  | .imcWrCasRank7Bank5 o => .event .imc evImcWrCasRank7 0x05 o
  | .imcWrCasRank7Bank6 o => .event .imc evImcWrCasRank7 0x06 o
  | .imcWrCasRank7Bank7 o => .event .imc evImcWrCasRank7 0x07 o
  | .imcWrCasRank7Bank8 o => .event .imc evImcWrCasRank7 0x08 o
  | .imcWrCasRank7Bank9 o => .event .imc evImcWrCasRank7 0x09 o
  | .imcWrCasRank7Bank10 o => .event .imc evImcWrCasRank7 0x0A o
  | .imcWrCasRank7Bank11 o => .event .imc evImcWrCasRank7 0x0B o
  | .imcWrCasRank7Bank12 o => .event .imc evImcWrCasRank7 0x0C o
  | .imcWrCasRank7Bank13 o => .event .imc evImcWrCasRank7 0x0D o
  | .imcWrCasRank7Bank14 o => .event .imc evImcWrCasRank7 0x0E o
  | .imcWrCasRank7Bank15 o => .event .imc evImcWrCasRank7 0x0F o
  | .imcWrCasRank7Allbanks o => .event .imc evImcWrCasRank7 0x10 o
  | .imcWrCasRank7Bankg0 o => .event .imc evImcWrCasRank7 0x11 o
  | .imcWrCasRank7Bankg1 o => .event .imc evImcWrCasRank7 0x12 o
  | .imcWrCasRank7Bankg2 o => .event .imc evImcWrCasRank7 0x13 o
  | .imcWrCasRank7Bankg3 o => .event .imc evImcWrCasRank7 0x14 o
  | .irpCacheTotalOccupancyAny o => .event .irp evIrpCacheTotalOccupancy 0x01 o
  | .irpCacheTotalOccupancySource o => .event .irp evIrpCacheTotalOccupancy 0x02 o
  | .irpClockticks o => .event .irp evIrpClockticks 0x00 o
  | .irpCoherentOpsPcirdcur o => .event .irp evIrpCoherentOps 0x01 o
  | .irpCoherentOpsCrd o => .event .irp evIrpCoherentOps 0x02 o
  | .irpCoherentOpsDrd o => .event .irp evIrpCoherentOps 0x04 o
  | .irpCoherentOpsRfo o => .event .irp evIrpCoherentOps 0x08 o
  | .irpCoherentOpsPcitom o => .event .irp evIrpCoherentOps 0x10 o
  | .irpCoherentOpsPcidcahint o => .event .irp evIrpCoherentOps 0x20 o
  | .irpCoherentOpsWbmtoi o => .event .irp evIrpCoherentOps 0x40 o
  | .irpCoherentOpsClflush o => .event .irp evIrpCoherentOps 0x80 o
  | .irpMisc0FastReq o => .event .irp evIrpMisc0 0x01 o
  | .irpMisc0FastRej o => .event .irp evIrpMisc0 0x02 o
  | .irpMisc02ndRdInsert o => .event .irp evIrpMisc0 0x04 o
  | .irpMisc02ndWrInsert o => .event .irp evIrpMisc0 0x08 o
  | .irpMisc02ndAtomicInsert o => .event .irp evIrpMisc0 0x10 o
  | .irpMisc0FastXfer o => .event .irp evIrpMisc0 0x20 o
  | .irpMisc0PfAckHint o => .event .irp evIrpMisc0 0x40 o
  | .irpMisc0PfTimeout o => .event .irp evIrpMisc0 0x80 o
  | .irpMisc1SlowI o => .event .irp evIrpMisc1 0x01 o
  | .irpMisc1SlowS o => .event .irp evIrpMisc1 0x02 o
  | .irpMisc1SlowE o => .event .irp evIrpMisc1 0x04 o
  | .irpMisc1SlowM o => .event .irp evIrpMisc1 0x08 o
  | .irpMisc1LostFwd o => .event .irp evIrpMisc1 0x10 o
  | .irpMisc1SecRcvdInvld o => .event .irp evIrpMisc1 0x20 o
  | .irpMisc1SecRcvdVld o => .event .irp evIrpMisc1 0x40 o
  | .irpMisc1DataThrottle o => .event .irp evIrpMisc1 0x80 o
  | .irpRxRAkInserts o => .event .irp evIrpRxRAkInserts 0x00 o
  | .irpRxRBlDrsCyclesFull o => .event .irp evIrpRxRBlDrsCyclesFull 0x00 o
  | .irpRxRBlDrsInserts o => .event .irp evIrpRxRBlDrsInserts 0x00 o
  | .irpRxRBlDrsOccupancy o => .event .irp evIrpRxRBlDrsOccupancy 0x00 o
  | .irpRxRBlNcbCyclesFull o => .event .irp evIrpRxRBlNcbCyclesFull 0x00 o
  | .irpRxRBlNcbInserts o => .event .irp evIrpRxRBlNcbInserts 0x00 o
  | .irpRxRBlNcbOccupancy o => .event .irp evIrpRxRBlNcbOccupancy 0x00 o
  | .irpRxRBlNcsCyclesFull o => .event .irp evIrpRxRBlNcsCyclesFull 0x00 o
  | .irpRxRBlNcsInserts o => .event .irp evIrpRxRBlNcsInserts 0x00 o
  | .irpRxRBlNcsOccupancy o => .event .irp evIrpRxRBlNcsOccupancy 0x00 o
  | .irpSnoopRespMiss o => .event .irp evIrpSnoopResp 0x01 o
  | .irpSnoopRespHitI o => .event .irp evIrpSnoopResp 0x02 o
  | .irpSnoopRespHitEs o => .event .irp evIrpSnoopResp 0x04 o
  | .irpSnoopRespHitM o => .event .irp evIrpSnoopResp 0x08 o
  | .irpSnoopRespSnpcode o => .event .irp evIrpSnoopResp 0x10 o
  | .irpSnoopRespSnpdata o => .event .irp evIrpSnoopResp 0x20 o
  | .irpSnoopRespSnpinv o => .event .irp evIrpSnoopResp 0x40 o
  | .irpTransactionsReads o => .event .irp evIrpTransactions 0x01 o
  | .irpTransactionsWrites o => .event .irp evIrpTransactions 0x02 o
  | .irpTransactionsRdPref o => .event .irp evIrpTransactions 0x04 o
  | .irpTransactionsWrPref o => .event .irp evIrpTransactions 0x08 o
  | .irpTransactionsAtomic o => .event .irp evIrpTransactions 0x10 o
  | .irpTransactionsOther o => .event .irp evIrpTransactions 0x20 o
  | .irpTransactionsOrderingq o => .event .irp evIrpTransactions 0x40 o
  | .irpTxRAdStallCreditCycles o => .event .irp evIrpTxRAdStallCreditCycles 0x00 o
  | .irpTxRBlStallCreditCycles o => .event .irp evIrpTxRBlStallCreditCycles 0x00 o
  | .irpTxRDataInsertsNcb o => .event .irp evIrpTxRDataInsertsNcb 0x00 o
  | .irpTxRDataInsertsNcs o => .event .irp evIrpTxRDataInsertsNcs 0x00 o
  | .irpTxRRequestOccupancy o => .event .irp evIrpTxRRequestOccupancy 0x00 o
  | .pcuClockticks o => .event .pcu evPcuClockticks 0x00 o
  | .pcuCore0TransitionCycles o => .event .pcu evPcuCore0TransitionCycles 0x00 o
  | .pcuCore10TransitionCycles o => .event .pcu evPcuCore10TransitionCycles 0x00 o
  | .pcuCore11TransitionCycles o => .event .pcu evPcuCore11TransitionCycles 0x00 o
  | .pcuCore12TransitionCycles o => .event .pcu evPcuCore12TransitionCycles 0x00 o
  | .pcuCore13TransitionCycles o => .event .pcu evPcuCore13TransitionCycles 0x00 o
  | .pcuCore14TransitionCycles o => .event .pcu evPcuCore14TransitionCycles 0x00 o
  | .pcuCore15TransitionCycles o => .event .pcu evPcuCore15TransitionCycles 0x00 o
  | .pcuCore16TransitionCycles o => .event .pcu evPcuCore16TransitionCycles 0x00 o
  | .pcuCore17TransitionCycles o => .event .pcu evPcuCore17TransitionCycles 0x00 o
  | .pcuCore1TransitionCycles o => .event .pcu evPcuCore1TransitionCycles 0x00 o
  | .pcuCore2TransitionCycles o => .event .pcu evPcuCore2TransitionCycles 0x00 o
  | .pcuCore3TransitionCycles o => .event .pcu evPcuCore3TransitionCycles 0x00 o
  | .pcuCore4TransitionCycles o => .event .pcu evPcuCore4TransitionCycles 0x00 o
  | .pcuCore5TransitionCycles o => .event .pcu evPcuCore5TransitionCycles 0x00 o
  | .pcuCore6TransitionCycles o => .event .pcu evPcuCore6TransitionCycles 0x00 o
  | .pcuCore7TransitionCycles o => .event .pcu evPcuCore7TransitionCycles 0x00 o
  | .pcuCore8TransitionCycles o => .event .pcu evPcuCore8TransitionCycles 0x00 o
  | .pcuCore9TransitionCycles o => .event .pcu evPcuCore9TransitionCycles 0x00 o
  | .pcuDemotionsCore0 o => .event .pcu evPcuDemotionsCore0 0x00 o
  | .pcuDemotionsCore1 o => .event .pcu evPcuDemotionsCore1 0x00 o
  | .pcuDemotionsCore10 o => .event .pcu evPcuDemotionsCore10 0x00 o
  | .pcuDemotionsCore11 o => .event .pcu evPcuDemotionsCore11 0x00 o
  | .pcuDemotionsCore12 o => .event .pcu evPcuDemotionsCore12 0x00 o
  | .pcuDemotionsCore13 o => .event .pcu evPcuDemotionsCore13 0x00 o
  | .pcuDemotionsCore14 o => .event .pcu evPcuDemotionsCore14 0x00 o
  | .pcuDemotionsCore15 o => .event .pcu evPcuDemotionsCore15 0x00 o
  | .pcuDemotionsCore16 o => .event .pcu evPcuDemotionsCore16 0x00 o
  | .pcuDemotionsCore17 o => .event .pcu evPcuDemotionsCore17 0x00 o
  | .pcuDemotionsCore2 o => .event .pcu evPcuDemotionsCore2 0x00 o
  | .pcuDemotionsCore3 o => .event .pcu evPcuDemotionsCore3 0x00 o
  | .pcuDemotionsCore4 o => .event .pcu evPcuDemotionsCore4 0x00 o
  | .pcuDemotionsCore5 o => .event .pcu evPcuDemotionsCore5 0x00 o
  | .pcuDemotionsCore6 o => .event .pcu evPcuDemotionsCore6 0x00 o
  | .pcuDemotionsCore7 o => .event .pcu evPcuDemotionsCore7 0x00 o
  | .pcuDemotionsCore8 o => .event .pcu evPcuDemotionsCore8 0x00 o
  | .pcuDemotionsCore9 o => .event .pcu evPcuDemotionsCore9 0x00 o
  | .pcuFreqBand0Cycles o => .event .pcu evPcuFreqBand0Cycles 0x00 o
  | .pcuFreqBand1Cycles o => .event .pcu evPcuFreqBand1Cycles 0x00 o
  | .pcuFreqBand2Cycles o => .event .pcu evPcuFreqBand2Cycles 0x00 o
  | .pcuFreqBand3Cycles o => .event .pcu evPcuFreqBand3Cycles 0x00 o
  | .pcuFreqMaxLimitThermalCycles o => .event .pcu evPcuFreqMaxLimitThermalCycles 0x00 o
  | .pcuFreqMaxOsCycles o => .event .pcu evPcuFreqMaxOsCycles 0x00 o
  | .pcuFreqMaxPowerCycles o => .event .pcu evPcuFreqMaxPowerCycles 0x00 o
  | .pcuFreqMinIoPCycles o => .event .pcu evPcuFreqMinIoPCycles 0x00 o
  | .pcuFreqTransCycles o => .event .pcu evPcuFreqTransCycles 0x00 o
  | .pcuMemoryPhaseSheddingCycles o => .event .pcu evPcuMemoryPhaseSheddingCycles 0x00 o
  | .pcuPkgResidencyC0Cycles o => .event .pcu evPcuPkgResidencyC0Cycles 0x00 o
  | .pcuPkgResidencyC1eCycles o => .event .pcu evPcuPkgResidencyC1eCycles 0x00 o
  | .pcuPkgResidencyC2eCycles o => .event .pcu evPcuPkgResidencyC2eCycles 0x00 o
  | .pcuPkgResidencyC3Cycles o => .event .pcu evPcuPkgResidencyC3Cycles 0x00 o
  | .pcuPkgResidencyC6Cycles o => .event .pcu evPcuPkgResidencyC6Cycles 0x00 o
  | .pcuPkgResidencyC7Cycles o => .event .pcu evPcuPkgResidencyC7Cycles 0x00 o
  | .pcuPowerStateOccupancyCoresC0 o => .event .pcu evPcuPowerStateOccupancy 0x40 o
  | .pcuPowerStateOccupancyCoresC3 o => .event .pcu evPcuPowerStateOccupancy 0x80 o
  | .pcuPowerStateOccupancyCoresC6 o => .event .pcu evPcuPowerStateOccupancy 0xC0 o
  | .pcuProchotExternalCycles o => .event .pcu evPcuProchotExternalCycles 0x00 o
  | .pcuProchotInternalCycles o => .event .pcu evPcuProchotInternalCycles 0x00 o
  | .pcuTotalTransitionCycles o => .event .pcu evPcuTotalTransitionCycles 0x00 o
  | .pcuUfsTransitionsRingGv o => .event .pcu evPcuUfsTransitionsRingGv 0x00 o
  | .pcuVrHotCycles o => .event .pcu evPcuVrHotCycles 0x00 o
  | .qpiClockticks o => .event .qpi evQpiClockticks 0x00 o
  | .qpiCtoCount o => .event .qpi evQpiCtoCount 0x00 o
  | .qpiDirect2coreSuccessRbtHit o => .event .qpi evQpiDirect2core 0x01 o
  | .qpiDirect2coreFailureCredits o => .event .qpi evQpiDirect2core 0x02 o
  | .qpiDirect2coreFailureRbtHit o => .event .qpi evQpiDirect2core 0x04 o
  | .qpiDirect2coreFailureCreditsRbt o => .event .qpi evQpiDirect2core 0x08 o
  | .qpiDirect2coreFailureMiss o => .event .qpi evQpiDirect2core 0x10 o
  | .qpiDirect2coreFailureCreditsMiss o => .event .qpi evQpiDirect2core 0x20 o
  | .qpiDirect2coreFailureRbtMiss o => .event .qpi evQpiDirect2core 0x40 o
  | .qpiDirect2coreFailureCreditsRbtMiss o => .event .qpi evQpiDirect2core 0x80 o
  | .qpiL1PowerCycles o => .event .qpi evQpiL1PowerCycles 0x00 o
  | .qpiRxL0PPowerCycles o => .event .qpi evQpiRxL0PPowerCycles 0x00 o
  | .qpiRxL0PowerCycles o => .event .qpi evQpiRxL0PowerCycles 0x00 o
  | .qpiRxLBypassed o => .event .qpi evQpiRxLBypassed 0x00 o
  | .qpiRxLCreditsConsumedVn0Drs o => .event .qpi evQpiRxLCreditsConsumedVn0 0x01 o
  | .qpiRxLCreditsConsumedVn0Ncb o => .event .qpi evQpiRxLCreditsConsumedVn0 0x02 o
  | .qpiRxLCreditsConsumedVn0Ncs o => .event .qpi evQpiRxLCreditsConsumedVn0 0x04 o
  | .qpiRxLCreditsConsumedVn0Hom o => .event .qpi evQpiRxLCreditsConsumedVn0 0x08 o
  | .qpiRxLCreditsConsumedVn0Snp o => .event .qpi evQpiRxLCreditsConsumedVn0 0x10 o
  | .qpiRxLCreditsConsumedVn0Ndr o => .event .qpi evQpiRxLCreditsConsumedVn0 0x20 o
  | .qpiRxLCreditsConsumedVn1Drs o => .event .qpi evQpiRxLCreditsConsumedVn1 0x01 o
  | .qpiRxLCreditsConsumedVn1Ncb o => .event .qpi evQpiRxLCreditsConsumedVn1 0x02 o
  | .qpiRxLCreditsConsumedVn1Ncs o => .event .qpi evQpiRxLCreditsConsumedVn1 0x04 o
  | .qpiRxLCreditsConsumedVn1Hom o => .event .qpi evQpiRxLCreditsConsumedVn1 0x08 o
  | .qpiRxLCreditsConsumedVn1Snp o => .event .qpi evQpiRxLCreditsConsumedVn1 0x10 o
  | .qpiRxLCreditsConsumedVn1Ndr o => .event .qpi evQpiRxLCreditsConsumedVn1 0x20 o
  | .qpiRxLCreditsConsumedVna o => .event .qpi evQpiRxLCreditsConsumedVna 0x00 o
  | .qpiRxLCyclesNe o => .event .qpi evQpiRxLCyclesNe 0x00 o
  | .qpiRxLFlitsG1Snp o => .event .qpi evQpiRxLFlitsG1 0x01 o
  | .qpiRxLFlitsG1HomReq o => .event .qpi evQpiRxLFlitsG1 0x02 o
  | .qpiRxLFlitsG1HomNonreq o => .event .qpi evQpiRxLFlitsG1 0x04 o
  | .qpiRxLFlitsG1Hom o => .event .qpi evQpiRxLFlitsG1 0x06 o
  | .qpiRxLFlitsG1DrsData o => .event .qpi evQpiRxLFlitsG1 0x08 o
  | .qpiRxLFlitsG1DrsNondata o => .event .qpi evQpiRxLFlitsG1 0x10 o
  | .qpiRxLFlitsG1Drs o => .event .qpi evQpiRxLFlitsG1 0x18 o
  | .qpiRxLFlitsG2NdrAd o => .event .qpi evQpiRxLFlitsG2 0x01 o
  | .qpiRxLFlitsG2NdrAk o => .event .qpi evQpiRxLFlitsG2 0x02 o
  | .qpiRxLFlitsG2NcbData o => .event .qpi evQpiRxLFlitsG2 0x04 o
  | .qpiRxLFlitsG2NcbNondata o => .event .qpi evQpiRxLFlitsG2 0x08 o
  | .qpiRxLFlitsG2Ncb o => .event .qpi evQpiRxLFlitsG2 0x0C o
  | .qpiRxLFlitsG2Ncs o => .event .qpi evQpiRxLFlitsG2 0x10 o
  | .qpiRxLInserts o => .event .qpi evQpiRxLInserts 0x00 o
  | .qpiRxLInsertsDrsVn0 o => .event .qpi evQpiRxLInsertsDrs 0x01 o
  | .qpiRxLInsertsDrsVn1 o => .event .qpi evQpiRxLInsertsDrs 0x02 o
  | .qpiRxLInsertsHomVn0 o => .event .qpi evQpiRxLInsertsHom 0x01 o
  | .qpiRxLInsertsHomVn1 o => .event .qpi evQpiRxLInsertsHom 0x02 o
  | .qpiRxLInsertsNcbVn0 o => .event .qpi evQpiRxLInsertsNcb 0x01 o
  | .qpiRxLInsertsNcbVn1 o => .event .qpi evQpiRxLInsertsNcb 0x02 o
  | .qpiRxLInsertsNcsVn0 o => .event .qpi evQpiRxLInsertsNcs 0x01 o
  | .qpiRxLInsertsNcsVn1 o => .event .qpi evQpiRxLInsertsNcs 0x02 o
  | .qpiRxLInsertsNdrVn0 o => .event .qpi evQpiRxLInsertsNdr 0x01 o
  | .qpiRxLInsertsNdrVn1 o => .event .qpi evQpiRxLInsertsNdr 0x02 o
  | .qpiRxLInsertsSnpVn0 o => .event .qpi evQpiRxLInsertsSnp 0x01 o
  | .qpiRxLInsertsSnpVn1 o => .event .qpi evQpiRxLInsertsSnp 0x02 o
  | .qpiRxLOccupancy o => .event .qpi evQpiRxLOccupancy 0x00 o
  | .qpiRxLOccupancyDrsVn0 o => .event .qpi evQpiRxLOccupancyDrs 0x01 o
  | .qpiRxLOccupancyDrsVn1 o => .event .qpi evQpiRxLOccupancyDrs 0x02 o
  | .qpiRxLOccupancyHomVn0 o => .event .qpi evQpiRxLOccupancyHom 0x01 o
  | .qpiRxLOccupancyHomVn1 o => .event .qpi evQpiRxLOccupancyHom 0x02 o
  | .qpiRxLOccupancyNcbVn0 o => .event .qpi evQpiRxLOccupancyNcb 0x01 o
  | .qpiRxLOccupancyNcbVn1 o => .event .qpi evQpiRxLOccupancyNcb 0x02 o
  | .qpiRxLOccupancyNcsVn0 o => .event .qpi evQpiRxLOccupancyNcs 0x01 o
  | .qpiRxLOccupancyNcsVn1 o => .event .qpi evQpiRxLOccupancyNcs 0x02 o
  | .qpiRxLOccupancyNdrVn0 o => .event .qpi evQpiRxLOccupancyNdr 0x01 o
  | .qpiRxLOccupancyNdrVn1 o => .event .qpi evQpiRxLOccupancyNdr 0x02 o
  | .qpiRxLOccupancySnpVn0 o => .event .qpi evQpiRxLOccupancySnp 0x01 o
  | .qpiRxLOccupancySnpVn1 o => .event .qpi evQpiRxLOccupancySnp 0x02 o
  | .qpiTxL0PPowerCycles o => .event .qpi evQpiTxL0PPowerCycles 0x00 o
  | .qpiTxL0PowerCycles o => .event .qpi evQpiTxL0PowerCycles 0x00 o
  | .qpiTxLBypassed o => .event .qpi evQpiTxLBypassed 0x00 o
  | .qpiTxLCyclesNe o => .event .qpi evQpiTxLCyclesNe 0x00 o
  | .qpiTxLFlitsG0Data o => .event .qpi evQpiTxLFlitsG0 0x02 o
  | .qpiTxLFlitsG0NonData o => .event .qpi evQpiTxLFlitsG0 0x04 o
  | .qpiTxLFlitsG1Snp o => .event .qpi evQpiTxLFlitsG1 0x01 o
  | .qpiTxLFlitsG1HomReq o => .event .qpi evQpiTxLFlitsG1 0x02 o
  | .qpiTxLFlitsG1HomNonreq o => .event .qpi evQpiTxLFlitsG1 0x04 o
  | .qpiTxLFlitsG1Hom o => .event .qpi evQpiTxLFlitsG1 0x06 o
  | .qpiTxLFlitsG1DrsData o => .event .qpi evQpiTxLFlitsG1 0x08 o
  | .qpiTxLFlitsG1DrsNondata o => .event .qpi evQpiTxLFlitsG1 0x10 o
  | .qpiTxLFlitsG1Drs o => .event .qpi evQpiTxLFlitsG1 0x18 o
  | .qpiTxLFlitsG2NdrAd o => .event .qpi evQpiTxLFlitsG2 0x01 o
  | .qpiTxLFlitsG2NdrAk o => .event .qpi evQpiTxLFlitsG2 0x02 o
  | .qpiTxLFlitsG2NcbData o => .event .qpi evQpiTxLFlitsG2 0x04 o
  | .qpiTxLFlitsG2NcbNondata o => .event .qpi evQpiTxLFlitsG2 0x08 o
  | .qpiTxLFlitsG2Ncb o => .event .qpi evQpiTxLFlitsG2 0x0C o
  | .qpiTxLFlitsG2Ncs o => .event .qpi evQpiTxLFlitsG2 0x10 o
  | .qpiTxLInserts o => .event .qpi evQpiTxLInserts 0x00 o
  | .qpiTxLOccupancy o => .event .qpi evQpiTxLOccupancy 0x00 o
  | .qpiTxRAdHomCreditAcquiredVn0 o => .event .qpi evQpiTxRAdHomCreditAcquired 0x01 o
  | .qpiTxRAdHomCreditAcquiredVn1 o => .event .qpi evQpiTxRAdHomCreditAcquired 0x02 o
  | .qpiTxRAdHomCreditOccupancyVn0 o => .event .qpi evQpiTxRAdHomCreditOccupancy 0x01 o
  | .qpiTxRAdHomCreditOccupancyVn1 o => .event .qpi evQpiTxRAdHomCreditOccupancy 0x02 o
  | .qpiTxRAdNdrCreditAcquiredVn0 o => .event .qpi evQpiTxRAdNdrCreditAcquired 0x01 o
  | .qpiTxRAdNdrCreditAcquiredVn1 o => .event .qpi evQpiTxRAdNdrCreditAcquired 0x02 o
  | .qpiTxRAdNdrCreditOccupancyVn0 o => .event .qpi evQpiTxRAdNdrCreditOccupancy 0x01 o
  | .qpiTxRAdNdrCreditOccupancyVn1 o => .event .qpi evQpiTxRAdNdrCreditOccupancy 0x02 o
  | .qpiTxRAdSnpCreditAcquiredVn0 o => .event .qpi evQpiTxRAdSnpCreditAcquired 0x01 o
  | .qpiTxRAdSnpCreditAcquiredVn1 o => .event .qpi evQpiTxRAdSnpCreditAcquired 0x02 o
  | .qpiTxRAdSnpCreditOccupancyVn0 o => .event .qpi evQpiTxRAdSnpCreditOccupancy 0x01 o
  | .qpiTxRAdSnpCreditOccupancyVn1 o => .event .qpi evQpiTxRAdSnpCreditOccupancy 0x02 o
  | .qpiTxRAkNdrCreditAcquired o => .event .qpi evQpiTxRAkNdrCreditAcquired 0x00 o
  | .qpiTxRAkNdrCreditOccupancy o => .event .qpi evQpiTxRAkNdrCreditOccupancy 0x00 o
  | .qpiTxRBlDrsCreditAcquiredVn0 o => .event .qpi evQpiTxRBlDrsCreditAcquired 0x01 o
  | .qpiTxRBlDrsCreditAcquiredVn1 o => .event .qpi evQpiTxRBlDrsCreditAcquired 0x02 o
  | .qpiTxRBlDrsCreditAcquiredVnShr o => .event .qpi evQpiTxRBlDrsCreditAcquired 0x04 o
  | .qpiTxRBlDrsCreditOccupancyVn0 o => .event .qpi evQpiTxRBlDrsCreditOccupancy 0x01 o
  | .qpiTxRBlDrsCreditOccupancyVn1 o => .event .qpi evQpiTxRBlDrsCreditOccupancy 0x02 o
  | .qpiTxRBlDrsCreditOccupancyVnShr o => .event .qpi evQpiTxRBlDrsCreditOccupancy 0x04 o
  | .qpiTxRBlNcbCreditAcquiredVn0 o => .event .qpi evQpiTxRBlNcbCreditAcquired 0x01 o
  | .qpiTxRBlNcbCreditAcquiredVn1 o => .event .qpi evQpiTxRBlNcbCreditAcquired 0x02 o
  | .qpiTxRBlNcbCreditOccupancyVn0 o => .event .qpi evQpiTxRBlNcbCreditOccupancy 0x01 o
  | .qpiTxRBlNcbCreditOccupancyVn1 o => .event .qpi evQpiTxRBlNcbCreditOccupancy 0x02 o
  | .qpiTxRBlNcsCreditAcquiredVn0 o => .event .qpi evQpiTxRBlNcsCreditAcquired 0x01 o
  | .qpiTxRBlNcsCreditAcquiredVn1 o => .event .qpi evQpiTxRBlNcsCreditAcquired 0x02 o
  | .qpiTxRBlNcsCreditOccupancyVn0 o => .event .qpi evQpiTxRBlNcsCreditOccupancy 0x01 o
  | .qpiTxRBlNcsCreditOccupancyVn1 o => .event .qpi evQpiTxRBlNcsCreditOccupancy 0x02 o
  | .qpiVnaCreditReturns o => .event .qpi evQpiVnaCreditReturns 0x00 o
  | .qpiVnaCreditReturnOccupancy o => .event .qpi evQpiVnaCreditReturnOccupancy 0x00 o
  | .r2PCIeClockticks o => .event .r2 evR2PCIeClockticks 0x00 o
  | .r2PCIeIioCreditPrqQpi0 o => .event .r2 evR2PCIeIioCredit 0x01 o
  | .r2PCIeIioCreditPrqQpi1 o => .event .r2 evR2PCIeIioCredit 0x02 o
  | .r2PCIeIioCreditIsochQpi0 o => .event .r2 evR2PCIeIioCredit 0x04 o
  | .r2PCIeIioCreditIsochQpi1 o => .event .r2 evR2PCIeIioCredit 0x08 o
  | .r2PCIeRingAdUsedCwEven o => .event .r2 evR2PCIeRingAdUsed 0x01 o
  | .r2PCIeRingAdUsedCwOdd o => .event .r2 evR2PCIeRingAdUsed 0x02 o
  | .r2PCIeRingAdUsedCw o => .event .r2 evR2PCIeRingAdUsed 0x03 o
  | .r2PCIeRingAdUsedCcwEven o => .event .r2 evR2PCIeRingAdUsed 0x04 o
  | .r2PCIeRingAdUsedCcwOdd o => .event .r2 evR2PCIeRingAdUsed 0x08 o
  | .r2PCIeRingAdUsedCcw o => .event .r2 evR2PCIeRingAdUsed 0x0C o
  | .r2PCIeRingAkBouncesUp o => .event .r2 evR2PCIeRingAkBounces 0x01 o
  | .r2PCIeRingAkBouncesDn o => .event .r2 evR2PCIeRingAkBounces 0x02 o
  | .r2PCIeRingAkUsedCwEven o => .event .r2 evR2PCIeRingAkUsed 0x01 o
  | .r2PCIeRingAkUsedCwOdd o => .event .r2 evR2PCIeRingAkUsed 0x02 o
  | .r2PCIeRingAkUsedCw o => .event .r2 evR2PCIeRingAkUsed 0x03 o
  | .r2PCIeRingAkUsedCcwEven o => .event .r2 evR2PCIeRingAkUsed 0x04 o
  | .r2PCIeRingAkUsedCcwOdd o => .event .r2 evR2PCIeRingAkUsed 0x08 o
  | .r2PCIeRingAkUsedCcw o => .event .r2 evR2PCIeRingAkUsed 0x0C o
  | .r2PCIeRingBlUsedCwEven o => .event .r2 evR2PCIeRingBlUsed 0x01 o
  | .r2PCIeRingBlUsedCwOdd o => .event .r2 evR2PCIeRingBlUsed 0x02 o
  | .r2PCIeRingBlUsedCw o => .event .r2 evR2PCIeRingBlUsed 0x03 o
  | .r2PCIeRingBlUsedCcwEven o => .event .r2 evR2PCIeRingBlUsed 0x04 o
  | .r2PCIeRingBlUsedCcwOdd o => .event .r2 evR2PCIeRingBlUsed 0x08 o
  | .r2PCIeRingBlUsedCcw o => .event .r2 evR2PCIeRingBlUsed 0x0C o
  | .r2PCIeRingIvUsedCw o => .event .r2 evR2PCIeRingIvUsed 0x03 o
  | .r2PCIeRingIvUsedCcw o => .event .r2 evR2PCIeRingIvUsed 0x0C o
  | .r2PCIeRingIvUsedAny o => .event .r2 evR2PCIeRingIvUsed 0x0F o
  | .r2PCIeRxRCyclesNeNcb o => .event .r2 evR2PCIeRxRCyclesNe 0x10 o
  | .r2PCIeRxRCyclesNeNcs o => .event .r2 evR2PCIeRxRCyclesNe 0x20 o
  | .r2PCIeRxRInsertsNcb o => .event .r2 evR2PCIeRxRInserts 0x10 o
  | .r2PCIeRxRInsertsNcs o => .event .r2 evR2PCIeRxRInserts 0x20 o
  | .r2PCIeRxROccupancyDrs o => .event .r2 evR2PCIeRxROccupancy 0x08 o
  | .r2PCIeSbo0CreditsAcquiredAd o => .event .r2 evR2PCIeSbo0CreditsAcquired 0x01 o
  | .r2PCIeSbo0CreditsAcquiredBl o => .event .r2 evR2PCIeSbo0CreditsAcquired 0x02 o
  | .r2PCIeStallNoSboCreditSbo0Ad o => .event .r2 evR2PCIeStallNoSboCredit 0x01 o
  | .r2PCIeStallNoSboCreditSbo1Ad o => .event .r2 evR2PCIeStallNoSboCredit 0x02 o
  | .r2PCIeStallNoSboCreditSbo0Bl o => .event .r2 evR2PCIeStallNoSboCredit 0x04 o
  | .r2PCIeStallNoSboCreditSbo1Bl o => .event .r2 evR2PCIeStallNoSboCredit 0x08 o
  | .r2PCIeTxRNackCwDnAd o => .event .r2 evR2PCIeTxRNackCw 0x01 o
  | .r2PCIeTxRNackCwDnBl o => .event .r2 evR2PCIeTxRNackCw 0x02 o
  | .r2PCIeTxRNackCwDnAk o => .event .r2 evR2PCIeTxRNackCw 0x04 o
  | .r2PCIeTxRNackCwUpAd o => .event .r2 evR2PCIeTxRNackCw 0x08 o
  | .r2PCIeTxRNackCwUpBl o => .event .r2 evR2PCIeTxRNackCw 0x10 o
  | .r2PCIeTxRNackCwUpAk o => .event .r2 evR2PCIeTxRNackCw 0x20 o
  | .r3qpiClockticks o => .event .r3 evR3qpiClockticks 0x00 o
  | .r3qpiCHiAdCreditsEmptyCbo8 o => .event .r3 evR3qpiCHiAdCreditsEmpty 0x01 o
  | .r3qpiCHiAdCreditsEmptyCb09 o => .event .r3 evR3qpiCHiAdCreditsEmpty 0x02 o
  | .r3qpiCHiAdCreditsEmptyCbo10 o => .event .r3 evR3qpiCHiAdCreditsEmpty 0x04 o
  | .r3qpiCHiAdCreditsEmptyCb011 o => .event .r3 evR3qpiCHiAdCreditsEmpty 0x08 o
  | .r3qpiCHiAdCreditsEmptyCbo12 o => .event .r3 evR3qpiCHiAdCreditsEmpty 0x10 o
  | .r3qpiCHiAdCreditsEmptyCbo13 o => .event .r3 evR3qpiCHiAdCreditsEmpty 0x20 o
  | .r3qpiCHiAdCreditsEmptyCbo1416 o => .event .r3 evR3qpiCHiAdCreditsEmpty 0x40 o
  | .r3qpiCHiAdCreditsEmptyCbo1517 o => .event .r3 evR3qpiCHiAdCreditsEmpty 0x80 o
  | .r3qpiCLoAdCreditsEmptyCbo0 o => .event .r3 evR3qpiCLoAdCreditsEmpty 0x01 o
  | .r3qpiCLoAdCreditsEmptyCbo1 o => .event .r3 evR3qpiCLoAdCreditsEmpty 0x02 o
  | .r3qpiCLoAdCreditsEmptyCbo2 o => .event .r3 evR3qpiCLoAdCreditsEmpty 0x04 o
  | .r3qpiCLoAdCreditsEmptyCbo3 o => .event .r3 evR3qpiCLoAdCreditsEmpty 0x08 o
  | .r3qpiCLoAdCreditsEmptyCb04 o => .event .r3 evR3qpiCLoAdCreditsEmpty 0x10 o
  | .r3qpiCLoAdCreditsEmptyCb05 o => .event .r3 evR3qpiCLoAdCreditsEmpty 0x20 o
  | .r3qpiCLoAdCreditsEmptyCb06 o => .event .r3 evR3qpiCLoAdCreditsEmpty 0x40 o
  | .r3qpiCLoAdCreditsEmptyCb07 o => .event .r3 evR3qpiCLoAdCreditsEmpty 0x80 o
  | .r3qpiHaR2BlCreditsEmptyHa0 o => .event .r3 evR3qpiHaR2BlCreditsEmpty 0x01 o
  | .r3qpiHaR2BlCreditsEmptyHa1 o => .event .r3 evR3qpiHaR2BlCreditsEmpty 0x02 o
  | .r3qpiHaR2BlCreditsEmptyR2Ncb o => .event .r3 evR3qpiHaR2BlCreditsEmpty 0x04 o
  | .r3qpiHaR2BlCreditsEmptyR2Ncs o => .event .r3 evR3qpiHaR2BlCreditsEmpty 0x08 o
  | .r3qpiQpi0AdCreditsEmptyVna o => .event .r3 evR3qpiQpi0AdCreditsEmpty 0x01 o
  | .r3qpiQpi0AdCreditsEmptyVn0Hom o => .event .r3 evR3qpiQpi0AdCreditsEmpty 0x02 o
  | .r3qpiQpi0AdCreditsEmptyVn0Snp o => .event .r3 evR3qpiQpi0AdCreditsEmpty 0x04 o
  | .r3qpiQpi0AdCreditsEmptyVn0Ndr o => .event .r3 evR3qpiQpi0AdCreditsEmpty 0x08 o
  | .r3qpiQpi0AdCreditsEmptyVn1Hom o => .event .r3 evR3qpiQpi0AdCreditsEmpty 0x10 o
  | .r3qpiQpi0AdCreditsEmptyVn1Snp o => .event .r3 evR3qpiQpi0AdCreditsEmpty 0x20 o
  | .r3qpiQpi0AdCreditsEmptyVn1Ndr o => .event .r3 evR3qpiQpi0AdCreditsEmpty 0x40 o
  | .r3qpiQpi0BlCreditsEmptyVna o => .event .r3 evR3qpiQpi0BlCreditsEmpty 0x01 o
  | .r3qpiQpi0BlCreditsEmptyVn1Hom o => .event .r3 evR3qpiQpi0BlCreditsEmpty 0x10 o
  | .r3qpiQpi0BlCreditsEmptyVn1Snp o => .event .r3 evR3qpiQpi0BlCreditsEmpty 0x20 o
  | .r3qpiQpi0BlCreditsEmptyVn1Ndr o => .event .r3 evR3qpiQpi0BlCreditsEmpty 0x40 o
  | .r3qpiQpi1AdCreditsEmptyVna o => .event .r3 evR3qpiQpi1AdCreditsEmpty 0x01 o
  | .r3qpiQpi1AdCreditsEmptyVn1Hom o => .event .r3 evR3qpiQpi1AdCreditsEmpty 0x10 o
  | .r3qpiQpi1AdCreditsEmptyVn1Snp o => .event .r3 evR3qpiQpi1AdCreditsEmpty 0x20 o
  | .r3qpiQpi1AdCreditsEmptyVn1Ndr o => .event .r3 evR3qpiQpi1AdCreditsEmpty 0x40 o
  | .r3qpiQpi1BlCreditsEmptyVna o => .event .r3 evR3qpiQpi1BlCreditsEmpty 0x01 o
  | .r3qpiQpi1BlCreditsEmptyVn0Hom o => .event .r3 evR3qpiQpi1BlCreditsEmpty 0x02 o
  | .r3qpiQpi1BlCreditsEmptyVn0Snp o => .event .r3 evR3qpiQpi1BlCreditsEmpty 0x04 o
  | .r3qpiQpi1BlCreditsEmptyVn0Ndr o => .event .r3 evR3qpiQpi1BlCreditsEmpty 0x08 o
  | .r3qpiQpi1BlCreditsEmptyVn1Hom o => .event .r3 evR3qpiQpi1BlCreditsEmpty 0x10 o
  | .r3qpiQpi1BlCreditsEmptyVn1Snp o => .event .r3 evR3qpiQpi1BlCreditsEmpty 0x20 o
  | .r3qpiQpi1BlCreditsEmptyVn1Ndr o => .event .r3 evR3qpiQpi1BlCreditsEmpty 0x40 o
  | .r3qpiRingAdUsedCwEven o => .event .r3 evR3qpiRingAdUsed 0x01 o
  | .r3qpiRingAdUsedCwOdd o => .event .r3 evR3qpiRingAdUsed 0x02 o
  | .r3qpiRingAdUsedCw o => .event .r3 evR3qpiRingAdUsed 0x03 o
  | .r3qpiRingAdUsedCcwEven o => .event .r3 evR3qpiRingAdUsed 0x04 o
  | .r3qpiRingAdUsedCcwOdd o => .event .r3 evR3qpiRingAdUsed 0x08 o
  | .r3qpiRingAdUsedCcw o => .event .r3 evR3qpiRingAdUsed 0x0C o
  | .r3qpiRingAkUsedCwEven o => .event .r3 evR3qpiRingAkUsed 0x01 o
  | .r3qpiRingAkUsedCwOdd o => .event .r3 evR3qpiRingAkUsed 0x02 o
  | .r3qpiRingAkUsedCw o => .event .r3 evR3qpiRingAkUsed 0x03 o
  | .r3qpiRingAkUsedCcwEven o => .event .r3 evR3qpiRingAkUsed 0x04 o
  | .r3qpiRingAkUsedCcwOdd o => .event .r3 evR3qpiRingAkUsed 0x08 o
  | .r3qpiRingAkUsedCcw o => .event .r3 evR3qpiRingAkUsed 0x0C o
  | .r3qpiRingBlUsedCwEven o => .event .r3 evR3qpiRingBlUsed 0x01 o
  | .r3qpiRingBlUsedCwOdd o => .event .r3 evR3qpiRingBlUsed 0x02 o
  | .r3qpiRingBlUsedCw o => .event .r3 evR3qpiRingBlUsed 0x03 o
  | .r3qpiRingBlUsedCcwEven o => .event .r3 evR3qpiRingBlUsed 0x04 o
  | .r3qpiRingBlUsedCcwOdd o => .event .r3 evR3qpiRingBlUsed 0x08 o
  | .r3qpiRingBlUsedCcw o => .event .r3 evR3qpiRingBlUsed 0x0C o
  | .r3qpiRingIvUsedCw o => .event .r3 evR3qpiRingIvUsed 0x03 o
  | .r3qpiRingIvUsedAny o => .event .r3 evR3qpiRingIvUsed 0x0F o
  | .r3qpiRingSinkStarvedAk o => .event .r3 evR3qpiRingSinkStarved 0x02 o
  | .r3qpiRxRCyclesNeHom o => .event .r3 evR3qpiRxRCyclesNe 0x01 o
  | .r3qpiRxRCyclesNeSnp o => .event .r3 evR3qpiRxRCyclesNe 0x02 o
  | .r3qpiRxRCyclesNeNdr o => .event .r3 evR3qpiRxRCyclesNe 0x04 o
  | .r3qpiRxRCyclesNeVn1Hom o => .event .r3 evR3qpiRxRCyclesNeVn1 0x01 o
  | .r3qpiRxRCyclesNeVn1Snp o => .event .r3 evR3qpiRxRCyclesNeVn1 0x02 o
  | .r3qpiRxRCyclesNeVn1Ndr o => .event .r3 evR3qpiRxRCyclesNeVn1 0x04 o
  | .r3qpiRxRCyclesNeVn1Drs o => .event .r3 evR3qpiRxRCyclesNeVn1 0x08 o
  | .r3qpiRxRCyclesNeVn1Ncb o => .event .r3 evR3qpiRxRCyclesNeVn1 0x10 o
  | .r3qpiRxRCyclesNeVn1Ncs o => .event .r3 evR3qpiRxRCyclesNeVn1 0x20 o
  | .r3qpiRxRInsertsHom o => .event .r3 evR3qpiRxRInserts 0x01 o
  | .r3qpiRxRInsertsSnp o => .event .r3 evR3qpiRxRInserts 0x02 o
  | .r3qpiRxRInsertsNdr o => .event .r3 evR3qpiRxRInserts 0x04 o
  | .r3qpiRxRInsertsDrs o => .event .r3 evR3qpiRxRInserts 0x08 o
  | .r3qpiRxRInsertsNcb o => .event .r3 evR3qpiRxRInserts 0x10 o
  | .r3qpiRxRInsertsNcs o => .event .r3 evR3qpiRxRInserts 0x20 o
  | .r3qpiRxRInsertsVn1Hom o => .event .r3 evR3qpiRxRInsertsVn1 0x01 o
  | .r3qpiRxRInsertsVn1Snp o => .event .r3 evR3qpiRxRInsertsVn1 0x02 o
  | .r3qpiRxRInsertsVn1Ndr o => .event .r3 evR3qpiRxRInsertsVn1 0x04 o
  | .r3qpiRxRInsertsVn1Drs o => .event .r3 evR3qpiRxRInsertsVn1 0x08 o
  | .r3qpiRxRInsertsVn1Ncb o => .event .r3 evR3qpiRxRInsertsVn1 0x10 o
  | .r3qpiRxRInsertsVn1Ncs o => .event .r3 evR3qpiRxRInsertsVn1 0x20 o
  | .r3qpiRxROccupancyVn1Hom o => .event .r3 evR3qpiRxROccupancyVn1 0x01 o
  | .r3qpiRxROccupancyVn1Snp o => .event .r3 evR3qpiRxROccupancyVn1 0x02 o
  | .r3qpiRxROccupancyVn1Ndr o => .event .r3 evR3qpiRxROccupancyVn1 0x04 o
  | .r3qpiRxROccupancyVn1Drs o => .event .r3 evR3qpiRxROccupancyVn1 0x08 o
  | .r3qpiRxROccupancyVn1Ncb o => .event .r3 evR3qpiRxROccupancyVn1 0x10 o
  | .r3qpiRxROccupancyVn1Ncs o => .event .r3 evR3qpiRxROccupancyVn1 0x20 o
  | .r3qpiSbo0CreditsAcquiredAd o => .event .r3 evR3qpiSbo0CreditsAcquired 0x01 o
  | .r3qpiSbo0CreditsAcquiredBl o => .event .r3 evR3qpiSbo0CreditsAcquired 0x02 o
  | .r3qpiSbo1CreditsAcquiredAd o => .event .r3 evR3qpiSbo1CreditsAcquired 0x01 o
  | .r3qpiSbo1CreditsAcquiredBl o => .event .r3 evR3qpiSbo1CreditsAcquired 0x02 o
  | .r3qpiStallNoSboCreditSbo0Ad o => .event .r3 evR3qpiStallNoSboCredit 0x01 o
  | .r3qpiStallNoSboCreditSbo1Ad o => .event .r3 evR3qpiStallNoSboCredit 0x02 o
  | .r3qpiStallNoSboCreditSbo0Bl o => .event .r3 evR3qpiStallNoSboCredit 0x04 o
  | .r3qpiStallNoSboCreditSbo1Bl o => .event .r3 evR3qpiStallNoSboCredit 0x08 o
  | .r3qpiTxRNackDnAd o => .event .r3 evR3qpiTxRNack 0x01 o
  | .r3qpiTxRNackDnBl o => .event .r3 evR3qpiTxRNack 0x02 o
  | .r3qpiTxRNackDnAk o => .event .r3 evR3qpiTxRNack 0x04 o
  | .r3qpiTxRNackUpAd o => .event .r3 evR3qpiTxRNack 0x08 o
  | .r3qpiTxRNackUpBl o => .event .r3 evR3qpiTxRNack 0x10 o
  | .r3qpiTxRNackUpAk o => .event .r3 evR3qpiTxRNack 0x20 o
  | .r3qpiVn0CreditsRejectHom o => .event .r3 evR3qpiVn0CreditsReject 0x01 o
  | .r3qpiVn0CreditsRejectSnp o => .event .r3 evR3qpiVn0CreditsReject 0x02 o
  | .r3qpiVn0CreditsRejectNdr o => .event .r3 evR3qpiVn0CreditsReject 0x04 o
  | .r3qpiVn0CreditsRejectDrs o => .event .r3 evR3qpiVn0CreditsReject 0x08 o
  | .r3qpiVn0CreditsRejectNcb o => .event .r3 evR3qpiVn0CreditsReject 0x10 o
  | .r3qpiVn0CreditsRejectNcs o => .event .r3 evR3qpiVn0CreditsReject 0x20 o
  | .r3qpiVn0CreditsUsedHom o => .event .r3 evR3qpiVn0CreditsUsed 0x01 o
  | .r3qpiVn0CreditsUsedSnp o => .event .r3 evR3qpiVn0CreditsUsed 0x02 o
  | .r3qpiVn0CreditsUsedNdr o => .event .r3 evR3qpiVn0CreditsUsed 0x04 o
  | .r3qpiVn0CreditsUsedDrs o => .event .r3 evR3qpiVn0CreditsUsed 0x08 o
  | .r3qpiVn0CreditsUsedNcb o => .event .r3 evR3qpiVn0CreditsUsed 0x10 o
  | .r3qpiVn0CreditsUsedNcs o => .event .r3 evR3qpiVn0CreditsUsed 0x20 o
  | .r3qpiVn1CreditsRejectHom o => .event .r3 evR3qpiVn1CreditsReject 0x01 o
  | .r3qpiVn1CreditsRejectSnp o => .event .r3 evR3qpiVn1CreditsReject 0x02 o
  | .r3qpiVn1CreditsRejectNdr o => .event .r3 evR3qpiVn1CreditsReject 0x04 o
  | .r3qpiVn1CreditsRejectDrs o => .event .r3 evR3qpiVn1CreditsReject 0x08 o
  | .r3qpiVn1CreditsRejectNcb o => .event .r3 evR3qpiVn1CreditsReject 0x10 o
  | .r3qpiVn1CreditsRejectNcs o => .event .r3 evR3qpiVn1CreditsReject 0x20 o
  | .r3qpiVn1CreditsUsedHom o => .event .r3 evR3qpiVn1CreditsUsed 0x01 o
  | .r3qpiVn1CreditsUsedSnp o => .event .r3 evR3qpiVn1CreditsUsed 0x02 o
  | .r3qpiVn1CreditsUsedNdr o => .event .r3 evR3qpiVn1CreditsUsed 0x04 o
  | .r3qpiVn1CreditsUsedDrs o => .event .r3 evR3qpiVn1CreditsUsed 0x08 o
  | .r3qpiVn1CreditsUsedNcb o => .event .r3 evR3qpiVn1CreditsUsed 0x10 o
  | .r3qpiVn1CreditsUsedNcs o => .event .r3 evR3qpiVn1CreditsUsed 0x20 o
  | .r3qpiVnaCreditsAcquiredAd o => .event .r3 evR3qpiVnaCreditsAcquired 0x01 o
  | .r3qpiVnaCreditsAcquiredBl o => .event .r3 evR3qpiVnaCreditsAcquired 0x04 o
  | .r3qpiVnaCreditsRejectHom o => .event .r3 evR3qpiVnaCreditsReject 0x01 o
  | .r3qpiVnaCreditsRejectSnp o => .event .r3 evR3qpiVnaCreditsReject 0x02 o
  | .r3qpiVnaCreditsRejectNdr o => .event .r3 evR3qpiVnaCreditsReject 0x04 o
  | .r3qpiVnaCreditsRejectDrs o => .event .r3 evR3qpiVnaCreditsReject 0x08 o
  | .r3qpiVnaCreditsRejectNcb o => .event .r3 evR3qpiVnaCreditsReject 0x10 o
  | .r3qpiVnaCreditsRejectNcs o => .event .r3 evR3qpiVnaCreditsReject 0x20 o
  | .uMsrPmonGlobalCtl a => .msr 0x700 .globalCtl a
  | .uMsrPmonGlobalStatus a => .msr 0x701 .globalStatus a
  | .uMsrPmonGlobalConfig a => .msr 0x702 .globalConfig a
  | .uMsrPmonUclkFixedCtl a => .msr 0x703 (.fixedCtl .ubox) a
  | .uMsrPmonUclkFixedCtr a => .msr 0x704 (.fixedCtr .ubox) a
  | .uMsrPmonCtl0 a => .msr 0x705 (.ctl .ubox 0) a
  | .uMsrPmonCtl1 a => .msr 0x706 (.ctl .ubox 1) a
  | .uMsrPmonBoxStatus a => .msr 0x708 (.boxStatus .ubox) a
  | .uMsrPmonCtr0 a => .msr 0x709 (.ctr .ubox 0) a
  | .uMsrPmonCtr1 a => .msr 0x70A (.ctr .ubox 1) a
  | .c0MsrPmonBoxCtl a => .msr 0xE00 (.boxCtl (.cbo 0)) a
  | .c0MsrPmonCtl0 a => .msr 0xE01 (.ctl (.cbo 0) 0) a
  | .c0MsrPmonCtl1 a => .msr 0xE02 (.ctl (.cbo 0) 1) a
  | .c0MsrPmonCtl2 a => .msr 0xE03 (.ctl (.cbo 0) 2) a
  | .c0MsrPmonCtl3 a => .msr 0xE04 (.ctl (.cbo 0) 3) a
  | .c0MsrPmonBoxFilter0 a => .msr 0xE05 (.cboFilter0 0) a
  | .c0MsrPmonBoxFilter1 a => .msr 0xE06 (.cboFilter1 0) a
  | .c0MsrPmonBoxStatus a => .msr 0xE07 (.boxStatus (.cbo 0)) a
  | .c0MsrPmonCtr0 a => .msr 0xE08 (.ctr (.cbo 0) 0) a
  | .c0MsrPmonCtr1 a => .msr 0xE09 (.ctr (.cbo 0) 1) a
  | .c0MsrPmonCtr2 a => .msr 0xE0A (.ctr (.cbo 0) 2) a
  | .c0MsrPmonCtr3 a => .msr 0xE0B (.ctr (.cbo 0) 3) a
  | .c1MsrPmonBoxCtl a => .msr 0xE10 (.boxCtl (.cbo 1)) a
  | .c1MsrPmonCtl0 a => .msr 0xE11 (.ctl (.cbo 1) 0) a
  | .c1MsrPmonCtl1 a => .msr 0xE12 (.ctl (.cbo 1) 1) a
  | .c1MsrPmonCtl2 a => .msr 0xE13 (.ctl (.cbo 1) 2) a
  | .c1MsrPmonCtl3 a => .msr 0xE14 (.ctl (.cbo 1) 3) a
  | .c1MsrPmonBoxFilter0 a => .msr 0xE15 (.cboFilter0 1) a
  | .c1MsrPmonBoxFilter1 a => .msr 0xE16 (.cboFilter1 1) a
  | .c1MsrPmonBoxStatus a => .msr 0xE17 (.boxStatus (.cbo 1)) a
  | .c1MsrPmonCtr0 a => .msr 0xE18 (.ctr (.cbo 1) 0) a
  | .c1MsrPmonCtr1 a => .msr 0xE19 (.ctr (.cbo 1) 1) a
  | .c1MsrPmonCtr2 a => .msr 0xE1A (.ctr (.cbo 1) 2) a
  | .c1MsrPmonCtr3 a => .msr 0xE1B (.ctr (.cbo 1) 3) a
  | .c2MsrPmonBoxCtl a => .msr 0xE20 (.boxCtl (.cbo 2)) a
  | .c2MsrPmonCtl0 a => .msr 0xE21 (.ctl (.cbo 2) 0) a
  | .c2MsrPmonCtl1 a => .msr 0xE22 (.ctl (.cbo 2) 1) a
  | .c2MsrPmonCtl2 a => .msr 0xE23 (.ctl (.cbo 2) 2) a
  | .c2MsrPmonCtl3 a => .msr 0xE24 (.ctl (.cbo 2) 3) a
  | .c2MsrPmonBoxFilter0 a => .msr 0xE25 (.cboFilter0 2) a
  | .c2MsrPmonBoxFilter1 a => .msr 0xE26 (.cboFilter1 2) a
  | .c2MsrPmonBoxStatus a => .msr 0xE27 (.boxStatus (.cbo 2)) a
  | .c2MsrPmonCtr0 a => .msr 0xE28 (.ctr (.cbo 2) 0) a
  | .c2MsrPmonCtr1 a => .msr 0xE29 (.ctr (.cbo 2) 1) a
  | .c2MsrPmonCtr2 a => .msr 0xE2A (.ctr (.cbo 2) 2) a
  | .c2MsrPmonCtr3 a => .msr 0xE2B (.ctr (.cbo 2) 3) a
  | .c3MsrPmonBoxCtl a => .msr 0xE30 (.boxCtl (.cbo 3)) a
  | .c3MsrPmonCtl0 a => .msr 0xE31 (.ctl (.cbo 3) 0) a
  | .c3MsrPmonCtl1 a => .msr 0xE32 (.ctl (.cbo 3) 1) a
  | .c3MsrPmonCtl2 a => .msr 0xE33 (.ctl (.cbo 3) 2) a
  | .c3MsrPmonCtl3 a => .msr 0xE34 (.ctl (.cbo 3) 3) a
  | .c3MsrPmonBoxFilter0 a => .msr 0xE35 (.cboFilter0 3) a
  | .c3MsrPmonBoxFilter1 a => .msr 0xE36 (.cboFilter1 3) a
  | .c3MsrPmonBoxStatus a => .msr 0xE37 (.boxStatus (.cbo 3)) a
  | .c3MsrPmonCtr0 a => .msr 0xE38 (.ctr (.cbo 3) 0) a
  | .c3MsrPmonCtr1 a => .msr 0xE39 (.ctr (.cbo 3) 1) a
  | .c3MsrPmonCtr2 a => .msr 0xE3A (.ctr (.cbo 3) 2) a
  | .c3MsrPmonCtr3 a => .msr 0xE3B (.ctr (.cbo 3) 3) a
  | .c4MsrPmonBoxCtl a => .msr 0xE40 (.boxCtl (.cbo 4)) a
  | .c4MsrPmonCtl0 a => .msr 0xE41 (.ctl (.cbo 4) 0) a
  | .c4MsrPmonCtl1 a => .msr 0xE42 (.ctl (.cbo 4) 1) a
  | .c4MsrPmonCtl2 a => .msr 0xE43 (.ctl (.cbo 4) 2) a
  | .c4MsrPmonCtl3 a => .msr 0xE44 (.ctl (.cbo 4) 3) a
  | .c4MsrPmonBoxFilter0 a => .msr 0xE45 (.cboFilter0 4) a
  | .c4MsrPmonBoxFilter1 a => .msr 0xE46 (.cboFilter1 4) a
  | .c4MsrPmonBoxStatus a => .msr 0xE47 (.boxStatus (.cbo 4)) a
  | .c4MsrPmonCtr0 a => .msr 0xE48 (.ctr (.cbo 4) 0) a
  | .c4MsrPmonCtr1 a => .msr 0xE49 (.ctr (.cbo 4) 1) a
  | .c4MsrPmonCtr2 a => .msr 0xE4A (.ctr (.cbo 4) 2) a
  | .c4MsrPmonCtr3 a => .msr 0xE4B (.ctr (.cbo 4) 3) a
  | .c5MsrPmonBoxCtl a => .msr 0xE50 (.boxCtl (.cbo 5)) a
  | .c5MsrPmonCtl0 a => .msr 0xE51 (.ctl (.cbo 5) 0) a
  | .c5MsrPmonCtl1 a => .msr 0xE52 (.ctl (.cbo 5) 1) a
  | .c5MsrPmonCtl2 a => .msr 0xE53 (.ctl (.cbo 5) 2) a
  | .c5MsrPmonCtl3 a => .msr 0xE54 (.ctl (.cbo 5) 3) a
  | .c5MsrPmonBoxFilter0 a => .msr 0xE55 (.cboFilter0 5) a
  | .c5MsrPmonBoxFilter1 a => .msr 0xE56 (.cboFilter1 5) a
  | .c5MsrPmonBoxStatus a => .msr 0xE57 (.boxStatus (.cbo 5)) a
  | .c5MsrPmonCtr0 a => .msr 0xE58 (.ctr (.cbo 5) 0) a
  | .c5MsrPmonCtr1 a => .msr 0xE59 (.ctr (.cbo 5) 1) a
  | .c5MsrPmonCtr2 a => .msr 0xE5A (.ctr (.cbo 5) 2) a
  | .c5MsrPmonCtr3 a => .msr 0xE5B (.ctr (.cbo 5) 3) a
  | .c6MsrPmonBoxCtl a => .msr 0xE60 (.boxCtl (.cbo 6)) a
  | .c6MsrPmonCtl0 a => .msr 0xE61 (.ctl (.cbo 6) 0) a
  | .c6MsrPmonCtl1 a => .msr 0xE62 (.ctl (.cbo 6) 1) a
  | .c6MsrPmonCtl2 a => .msr 0xE63 (.ctl (.cbo 6) 2) a
  | .c6MsrPmonCtl3 a => .msr 0xE64 (.ctl (.cbo 6) 3) a
  | .c6MsrPmonBoxFilter0 a => .msr 0xE65 (.cboFilter0 6) a
  | .c6MsrPmonBoxFilter1 a => .msr 0xE66 (.cboFilter1 6) a
  | .c6MsrPmonBoxStatus a => .msr 0xE67 (.boxStatus (.cbo 6)) a
  | .c6MsrPmonCtr0 a => .msr 0xE68 (.ctr (.cbo 6) 0) a
  | .c6MsrPmonCtr1 a => .msr 0xE69 (.ctr (.cbo 6) 1) a
  | .c6MsrPmonCtr2 a => .msr 0xE6A (.ctr (.cbo 6) 2) a
  | .c6MsrPmonCtr3 a => .msr 0xE6B (.ctr (.cbo 6) 3) a
  | .c7MsrPmonBoxCtl a => .msr 0xE70 (.boxCtl (.cbo 7)) a
  | .c7MsrPmonCtl0 a => .msr 0xE71 (.ctl (.cbo 7) 0) a
  | .c7MsrPmonCtl1 a => .msr 0xE72 (.ctl (.cbo 7) 1) a
  | .c7MsrPmonCtl2 a => .msr 0xE73 (.ctl (.cbo 7) 2) a
  | .c7MsrPmonCtl3 a => .msr 0xE74 (.ctl (.cbo 7) 3) a
  | .c7MsrPmonBoxFilter0 a => .msr 0xE75 (.cboFilter0 7) a
  | .c7MsrPmonBoxFilter1 a => .msr 0xE76 (.cboFilter1 7) a
  | .c7MsrPmonBoxStatus a => .msr 0xE77 (.boxStatus (.cbo 7)) a
  | .c7MsrPmonCtr0 a => .msr 0xE78 (.ctr (.cbo 7) 0) a
  | .c7MsrPmonCtr1 a => .msr 0xE79 (.ctr (.cbo 7) 1) a
  | .c7MsrPmonCtr2 a => .msr 0xE7A (.ctr (.cbo 7) 2) a
  | .c7MsrPmonCtr3 a => .msr 0xE7B (.ctr (.cbo 7) 3) a
  | .c8MsrPmonBoxCtl a => .msr 0xE80 (.boxCtl (.cbo 8)) a
  | .c8MsrPmonCtl0 a => .msr 0xE81 (.ctl (.cbo 8) 0) a
  | .c8MsrPmonCtl1 a => .msr 0xE82 (.ctl (.cbo 8) 1) a
  | .c8MsrPmonCtl2 a => .msr 0xE83 (.ctl (.cbo 8) 2) a
  | .c8MsrPmonCtl3 a => .msr 0xE84 (.ctl (.cbo 8) 3) a
  | .c8MsrPmonBoxFilter0 a => .msr 0xE85 (.cboFilter0 8) a
  | .c8MsrPmonBoxFilter1 a => .msr 0xE86 (.cboFilter1 8) a
  | .c8MsrPmonBoxStatus a => .msr 0xE87 (.boxStatus (.cbo 8)) a
  | .c8MsrPmonCtr0 a => .msr 0xE88 (.ctr (.cbo 8) 0) a
  | .c8MsrPmonCtr1 a => .msr 0xE89 (.ctr (.cbo 8) 1) a
  | .c8MsrPmonCtr2 a => .msr 0xE8A (.ctr (.cbo 8) 2) a
  | .c8MsrPmonCtr3 a => .msr 0xE8B (.ctr (.cbo 8) 3) a
  | .c9MsrPmonBoxCtl a => .msr 0xE90 (.boxCtl (.cbo 9)) a
  | .c9MsrPmonCtl0 a => .msr 0xE91 (.ctl (.cbo 9) 0) a
  | .c9MsrPmonCtl1 a => .msr 0xE92 (.ctl (.cbo 9) 1) a
  | .c9MsrPmonCtl2 a => .msr 0xE93 (.ctl (.cbo 9) 2) a
  | .c9MsrPmonCtl3 a => .msr 0xE94 (.ctl (.cbo 9) 3) a
  | .c9MsrPmonBoxFilter0 a => .msr 0xE95 (.cboFilter0 9) a
  | .c9MsrPmonBoxFilter1 a => .msr 0xE96 (.cboFilter1 9) a
  | .c9MsrPmonBoxStatus a => .msr 0xE97 (.boxStatus (.cbo 9)) a
  | .c9MsrPmonCtr0 a => .msr 0xE98 (.ctr (.cbo 9) 0) a
  | .c9MsrPmonCtr1 a => .msr 0xE99 (.ctr (.cbo 9) 1) a
  | .c9MsrPmonCtr2 a => .msr 0xE9A (.ctr (.cbo 9) 2) a
  | .c9MsrPmonCtr3 a => .msr 0xE9B (.ctr (.cbo 9) 3) a
  | .c10MsrPmonBoxCtl a => .msr 0xEA0 (.boxCtl (.cbo 10)) a
  | .c10MsrPmonCtl0 a => .msr 0xEA1 (.ctl (.cbo 10) 0) a
  | .c10MsrPmonCtl1 a => .msr 0xEA2 (.ctl (.cbo 10) 1) a
  | .c10MsrPmonCtl2 a => .msr 0xEA3 (.ctl (.cbo 10) 2) a
  | .c10MsrPmonCtl3 a => .msr 0xEA4 (.ctl (.cbo 10) 3) a
  | .c10MsrPmonBoxFilter0 a => .msr 0xEA5 (.cboFilter0 10) a
  | .c10MsrPmonBoxFilter1 a => .msr 0xEA6 (.cboFilter1 10) a
  | .c10MsrPmonBoxStatus a => .msr 0xEA7 (.boxStatus (.cbo 10)) a
  | .c10MsrPmonCtr0 a => .msr 0xEA8 (.ctr (.cbo 10) 0) a
  | .c10MsrPmonCtr1 a => .msr 0xEA9 (.ctr (.cbo 10) 1) a
  | .c10MsrPmonCtr2 a => .msr 0xEAA (.ctr (.cbo 10) 2) a
  | .c10MsrPmonCtr3 a => .msr 0xEAB (.ctr (.cbo 10) 3) a
  | .c11MsrPmonBoxCtl a => .msr 0xEB0 (.boxCtl (.cbo 11)) a
  | .c11MsrPmonCtl0 a => .msr 0xEB1 (.ctl (.cbo 11) 0) a
  | .c11MsrPmonCtl1 a => .msr 0xEB2 (.ctl (.cbo 11) 1) a
  | .c11MsrPmonCtl2 a => .msr 0xEB3 (.ctl (.cbo 11) 2) a
  | .c11MsrPmonCtl3 a => .msr 0xEB4 (.ctl (.cbo 11) 3) a
  | .c11MsrPmonBoxFilter0 a => .msr 0xEB5 (.cboFilter0 11) a
  | .c11MsrPmonBoxFilter1 a => .msr 0xEB6 (.cboFilter1 11) a
  | .c11MsrPmonBoxStatus a => .msr 0xEB7 (.boxStatus (.cbo 11)) a
  | .c11MsrPmonCtr0 a => .msr 0xEB8 (.ctr (.cbo 11) 0) a
  | .c11MsrPmonCtr1 a => .msr 0xEB9 (.ctr (.cbo 11) 1) a
  | .c11MsrPmonCtr2 a => .msr 0xEBA (.ctr (.cbo 11) 2) a
  | .c11MsrPmonCtr3 a => .msr 0xEBB (.ctr (.cbo 11) 3) a
  | .c12MsrPmonBoxCtl a => .msr 0xEC0 (.boxCtl (.cbo 12)) a
  | .c12MsrPmonCtl0 a => .msr 0xEC1 (.ctl (.cbo 12) 0) a
  | .c12MsrPmonCtl1 a => .msr 0xEC2 (.ctl (.cbo 12) 1) a
  | .c12MsrPmonCtl2 a => .msr 0xEC3 (.ctl (.cbo 12) 2) a
  | .c12MsrPmonCtl3 a => .msr 0xEC4 (.ctl (.cbo 12) 3) a
  | .c12MsrPmonBoxFilter0 a => .msr 0xEC5 (.cboFilter0 12) a
  | .c12MsrPmonBoxFilter1 a => .msr 0xEC6 (.cboFilter1 12) a
  | .c12MsrPmonBoxStatus a => .msr 0xEC7 (.boxStatus (.cbo 12)) a
  | .c12MsrPmonCtr0 a => .msr 0xEC8 (.ctr (.cbo 12) 0) a
  | .c12MsrPmonCtr1 a => .msr 0xEC9 (.ctr (.cbo 12) 1) a
  | .c12MsrPmonCtr2 a => .msr 0xECA (.ctr (.cbo 12) 2) a
  | .c12MsrPmonCtr3 a => .msr 0xECB (.ctr (.cbo 12) 3) a
  | .c13MsrPmonBoxCtl a => .msr 0xED0 (.boxCtl (.cbo 13)) a
  | .c13MsrPmonCtl0 a => .msr 0xED1 (.ctl (.cbo 13) 0) a
  | .c13MsrPmonCtl1 a => .msr 0xED2 (.ctl (.cbo 13) 1) a
  | .c13MsrPmonCtl2 a => .msr 0xED3 (.ctl (.cbo 13) 2) a
  | .c13MsrPmonCtl3 a => .msr 0xED4 (.ctl (.cbo 13) 3) a
  | .c13MsrPmonBoxFilter0 a => .msr 0xED5 (.cboFilter0 13) a
  | .c13MsrPmonBoxFilter1 a => .msr 0xED6 (.cboFilter1 13) a
  | .c13MsrPmonBoxStatus a => .msr 0xED7 (.boxStatus (.cbo 13)) a
  | .c13MsrPmonCtr0 a => .msr 0xED8 (.ctr (.cbo 13) 0) a
  | .c13MsrPmonCtr1 a => .msr 0xED9 (.ctr (.cbo 13) 1) a
  | .c13MsrPmonCtr2 a => .msr 0xEDA (.ctr (.cbo 13) 2) a
  | .c13MsrPmonCtr3 a => .msr 0xEDB (.ctr (.cbo 13) 3) a
  | .c14MsrPmonBoxCtl a => .msr 0xEE0 (.boxCtl (.cbo 14)) a
  | .c14MsrPmonCtl0 a => .msr 0xEE1 (.ctl (.cbo 14) 0) a
  | .c14MsrPmonCtl1 a => .msr 0xEE2 (.ctl (.cbo 14) 1) a
  | .c14MsrPmonCtl2 a => .msr 0xEE3 (.ctl (.cbo 14) 2) a
  | .c14MsrPmonCtl3 a => .msr 0xEE4 (.ctl (.cbo 14) 3) a
  | .c14MsrPmonBoxFilter0 a => .msr 0xEE5 (.cboFilter0 14) a
  | .c14MsrPmonBoxFilter1 a => .msr 0xEE6 (.cboFilter1 14) a
  | .c14MsrPmonBoxStatus a => .msr 0xEE7 (.boxStatus (.cbo 14)) a
  | .c14MsrPmonCtr0 a => .msr 0xEE8 (.ctr (.cbo 14) 0) a
  | .c14MsrPmonCtr1 a => .msr 0xEE9 (.ctr (.cbo 14) 1) a
  | .c14MsrPmonCtr2 a => .msr 0xEEA (.ctr (.cbo 14) 2) a
  | .c14MsrPmonCtr3 a => .msr 0xEEB (.ctr (.cbo 14) 3) a
  | .c15MsrPmonBoxCtl a => .msr 0xEF0 (.boxCtl (.cbo 15)) a
  | .c15MsrPmonCtl0 a => .msr 0xEF1 (.ctl (.cbo 15) 0) a
  | .c15MsrPmonCtl1 a => .msr 0xEF2 (.ctl (.cbo 15) 1) a
  | .c15MsrPmonCtl2 a => .msr 0xEF3 (.ctl (.cbo 15) 2) a
  | .c15MsrPmonCtl3 a => .msr 0xEF4 (.ctl (.cbo 15) 3) a
  | .c15MsrPmonBoxFilter0 a => .msr 0xEF5 (.cboFilter0 15) a
  | .c15MsrPmonBoxFilter1 a => .msr 0xEF6 (.cboFilter1 15) a
  | .c15MsrPmonBoxStatus a => .msr 0xEF7 (.boxStatus (.cbo 15)) a
  | .c15MsrPmonCtr0 a => .msr 0xEF8 (.ctr (.cbo 15) 0) a
  | .c15MsrPmonCtr1 a => .msr 0xEF9 (.ctr (.cbo 15) 1) a
  | .c15MsrPmonCtr2 a => .msr 0xEFA (.ctr (.cbo 15) 2) a
  | .c15MsrPmonCtr3 a => .msr 0xEFB (.ctr (.cbo 15) 3) a
  | .c16MsrPmonBoxCtl a => .msr 0xF00 (.boxCtl (.cbo 16)) a
  | .c16MsrPmonCtl0 a => .msr 0xF01 (.ctl (.cbo 16) 0) a
  | .c16MsrPmonCtl1 a => .msr 0xF02 (.ctl (.cbo 16) 1) a
  | .c16MsrPmonCtl2 a => .msr 0xF03 (.ctl (.cbo 16) 2) a
  | .c16MsrPmonCtl3 a => .msr 0xF04 (.ctl (.cbo 16) 3) a
  | .c16MsrPmonBoxFilter0 a => .msr 0xF05 (.cboFilter0 16) a
  | .c16MsrPmonBoxFilter1 a => .msr 0xF06 (.cboFilter1 16) a
  | .c16MsrPmonBoxStatus a => .msr 0xF07 (.boxStatus (.cbo 16)) a
  | .c16MsrPmonCtr0 a => .msr 0xF08 (.ctr (.cbo 16) 0) a
  | .c16MsrPmonCtr1 a => .msr 0xF09 (.ctr (.cbo 16) 1) a
  | .c16MsrPmonCtr2 a => .msr 0xF0A (.ctr (.cbo 16) 2) a
  | .c16MsrPmonCtr3 a => .msr 0xF0B (.ctr (.cbo 16) 3) a
  | .c17MsrPmonBoxCtl a => .msr 0xF10 (.boxCtl (.cbo 17)) a
  | .c17MsrPmonCtl0 a => .msr 0xF11 (.ctl (.cbo 17) 0) a
  | .c17MsrPmonCtl1 a => .msr 0xF12 (.ctl (.cbo 17) 1) a
  | .c17MsrPmonCtl2 a => .msr 0xF13 (.ctl (.cbo 17) 2) a
  | .c17MsrPmonCtl3 a => .msr 0xF14 (.ctl (.cbo 17) 3) a
  | .c17MsrPmonBoxFilter0 a => .msr 0xF15 (.cboFilter0 17) a
  | .c17MsrPmonBoxFilter1 a => .msr 0xF16 (.cboFilter1 17) a
  | .c17MsrPmonBoxStatus a => .msr 0xF17 (.boxStatus (.cbo 17)) a
  | .c17MsrPmonCtr0 a => .msr 0xF18 (.ctr (.cbo 17) 0) a
  | .c17MsrPmonCtr1 a => .msr 0xF19 (.ctr (.cbo 17) 1) a
  | .c17MsrPmonCtr2 a => .msr 0xF1A (.ctr (.cbo 17) 2) a
  | .c17MsrPmonCtr3 a => .msr 0xF1B (.ctr (.cbo 17) 3) a
  | .s0MsrPmonBoxCtl a => .msr 0x720 (.boxCtl (.sbo 0)) a
  | .s0MsrPmonCtl0 a => .msr 0x721 (.ctl (.sbo 0) 0) a
  | .s0MsrPmonCtl1 a => .msr 0x722 (.ctl (.sbo 0) 1) a
  | .s0MsrPmonCtl2 a => .msr 0x723 (.ctl (.sbo 0) 2) a
  | .s0MsrPmonCtl3 a => .msr 0x724 (.ctl (.sbo 0) 3) a
  | .s0MsrPmonBoxStatus a => .msr 0x725 (.boxStatus (.sbo 0)) a
  | .s0MsrPmonCtr0 a => .msr 0x726 (.ctr (.sbo 0) 0) a
  | .s0MsrPmonCtr1 a => .msr 0x727 (.ctr (.sbo 0) 1) a
  | .s0MsrPmonCtr2 a => .msr 0x728 (.ctr (.sbo 0) 2) a
  | .s0MsrPmonCtr3 a => .msr 0x729 (.ctr (.sbo 0) 3) a
  | .s1MsrPmonBoxCtl a => .msr 0x72A (.boxCtl (.sbo 1)) a
  | .s1MsrPmonCtl0 a => .msr 0x72B (.ctl (.sbo 1) 0) a
  | .s1MsrPmonCtl1 a => .msr 0x72C (.ctl (.sbo 1) 1) a
  | .s1MsrPmonCtl2 a => .msr 0x72D (.ctl (.sbo 1) 2) a
  | .s1MsrPmonCtl3 a => .msr 0x72E (.ctl (.sbo 1) 3) a
  | .s1MsrPmonBoxStatus a => .msr 0x72F (.boxStatus (.sbo 1)) a
  | .s1MsrPmonCtr0 a => .msr 0x730 (.ctr (.sbo 1) 0) a
  | .s1MsrPmonCtr1 a => .msr 0x731 (.ctr (.sbo 1) 1) a
  | .s1MsrPmonCtr2 a => .msr 0x732 (.ctr (.sbo 1) 2) a
  | .s1MsrPmonCtr3 a => .msr 0x733 (.ctr (.sbo 1) 3) a
  | .s2MsrPmonBoxCtl a => .msr 0x734 (.boxCtl (.sbo 2)) a
  | .s2MsrPmonCtl0 a => .msr 0x735 (.ctl (.sbo 2) 0) a
  | .s2MsrPmonCtl1 a => .msr 0x736 (.ctl (.sbo 2) 1) a
  | .s2MsrPmonCtl2 a => .msr 0x737 (.ctl (.sbo 2) 2) a
  | .s2MsrPmonCtl3 a => .msr 0x738 (.ctl (.sbo 2) 3) a
  | .s2MsrPmonBoxStatus a => .msr 0x739 (.boxStatus (.sbo 2)) a
  | .s2MsrPmonCtr0 a => .msr 0x73A (.ctr (.sbo 2) 0) a
  | .s2MsrPmonCtr1 a => .msr 0x73B (.ctr (.sbo 2) 1) a
  | .s2MsrPmonCtr2 a => .msr 0x73C (.ctr (.sbo 2) 2) a
  | .s2MsrPmonCtr3 a => .msr 0x73D (.ctr (.sbo 2) 3) a
  | .s3MsrPmonBoxCtl a => .msr 0x73E (.boxCtl (.sbo 3)) a
  | .s3MsrPmonCtl0 a => .msr 0x73F (.ctl (.sbo 3) 0) a
  | .s3MsrPmonCtl1 a => .msr 0x740 (.ctl (.sbo 3) 1) a
  | .s3MsrPmonCtl2 a => .msr 0x741 (.ctl (.sbo 3) 2) a
  | .s3MsrPmonCtl3 a => .msr 0x742 (.ctl (.sbo 3) 3) a
  | .s3MsrPmonBoxStatus a => .msr 0x743 (.boxStatus (.sbo 3)) a
  | .s3MsrPmonCtr0 a => .msr 0x744 (.ctr (.sbo 3) 0) a
  | .s3MsrPmonCtr1 a => .msr 0x745 (.ctr (.sbo 3) 1) a
  | .s3MsrPmonCtr2 a => .msr 0x746 (.ctr (.sbo 3) 2) a
  | .s3MsrPmonCtr3 a => .msr 0x747 (.ctr (.sbo 3) 3) a
  | .pcuMsrPmonBoxCtl a => .msr 0x710 (.boxCtl .pcu) a
  | .pcuMsrPmonCtl0 a => .msr 0x711 (.ctl .pcu 0) a
  | .pcuMsrPmonCtl1 a => .msr 0x712 (.ctl .pcu 1) a
  | .pcuMsrPmonCtl2 a => .msr 0x713 (.ctl .pcu 2) a
  | .pcuMsrPmonCtl3 a => .msr 0x714 (.ctl .pcu 3) a
  | .pcuMsrPmonBoxFilter a => .msr 0x715 .pcuFilter a
  | .pcuMsrPmonBoxStatus a => .msr 0x716 (.boxStatus .pcu) a
  | .pcuMsrPmonCtr0 a => .msr 0x717 (.ctr .pcu 0) a
  | .pcuMsrPmonCtr1 a => .msr 0x718 (.ctr .pcu 1) a
  | .pcuMsrPmonCtr2 a => .msr 0x719 (.ctr .pcu 2) a
  | .pcuMsrPmonCtr3 a => .msr 0x71A (.ctr .pcu 3) a
  | .pcuMsrCoreCc6Ctr a => .msr 0x3FD (.pcuFree .cc6) a
  | .pcuMsrCoreCc3Ctr a => .msr 0x3FC (.pcuFree .cc3) a
  | .pcuMsrCorePc2Ctr a => .msr 0x60D (.pcuFree .pc2) a
  | .pcuMsrCorePc3Ctr a => .msr 0x3F8 (.pcuFree .pc3) a
  | .ha0PciPmonBoxStatus a => .cfg 0x910F8 (.boxStatus (.ha 0)) a
  | .ha0PciPmonBoxCtl a => .cfg 0x910F4 (.boxCtl (.ha 0)) a
  | .ha0PciPmonCtl0 a => .cfg 0x910D8 (.ctl (.ha 0) 0) a
  | .ha0PciPmonCtl1 a => .cfg 0x910DC (.ctl (.ha 0) 1) a
  | .ha0PciPmonCtl2 a => .cfg 0x910E0 (.ctl (.ha 0) 2) a
  | .ha0PciPmonCtl3 a => .cfg 0x910E4 (.ctl (.ha 0) 3) a
  | .ha0PciPmonCtr0 a => .cfg 0x910A0 (.ctr (.ha 0) 0) a
  | .ha0PciPmonCtr1 a => .cfg 0x910A8 (.ctr (.ha 0) 1) a
  | .ha0PciPmonCtr2 a => .cfg 0x910B0 (.ctr (.ha 0) 2) a
  | .ha0PciPmonCtr3 a => .cfg 0x910B8 (.ctr (.ha 0) 3) a
  | .ha0PciPmonBoxOpcodematch a => .cfg 0x91048 (.haOpcodeMatch 0) a
  | .ha0PciPmonBoxAddrmatch1 a => .cfg 0x91044 (.haAddrMatch1 0) a
  | .ha0PciPmonBoxAddrmatch0 a => .cfg 0x91040 (.haAddrMatch0 0) a
  | .ha1PciPmonBoxStatus a => .cfg 0x950F8 (.boxStatus (.ha 1)) a
  | .ha1PciPmonBoxCtl a => .cfg 0x950F4 (.boxCtl (.ha 1)) a
  | .ha1PciPmonCtl0 a => .cfg 0x950D8 (.ctl (.ha 1) 0) a
  | .ha1PciPmonCtl1 a => .cfg 0x950DC (.ctl (.ha 1) 1) a
  | .ha1PciPmonCtl2 a => .cfg 0x950E0 (.ctl (.ha 1) 2) a
  | .ha1PciPmonCtl3 a => .cfg 0x950E4 (.ctl (.ha 1) 3) a
  | .ha1PciPmonCtr0 a => .cfg 0x950A0 (.ctr (.ha 1) 0) a
  | .ha1PciPmonCtr1 a => .cfg 0x950A8 (.ctr (.ha 1) 1) a
  | .ha1PciPmonCtr2 a => .cfg 0x950B0 (.ctr (.ha 1) 2) a
  | .ha1PciPmonCtr3 a => .cfg 0x950B8 (.ctr (.ha 1) 3) a
  | .ha1PciPmonBoxOpcodematch a => .cfg 0x95048 (.haOpcodeMatch 1) a
  | .ha1PciPmonBoxAddrmatch1 a => .cfg 0x95044 (.haAddrMatch1 1) a
  | .ha1PciPmonBoxAddrmatch0 a => .cfg 0x95040 (.haAddrMatch0 1) a
  | .mc0Ch0PciPmonBoxStatus a => .cfg 0xA00F8 (.boxStatus (.imc 0)) a
  | .mc0Ch0PciPmonBoxCtl a => .cfg 0xA00F4 (.boxCtl (.imc 0)) a
  | .mc0Ch0PciPmonCtl0 a => .cfg 0xA00D8 (.ctl (.imc 0) 0) a
  | .mc0Ch0PciPmonCtl1 a => .cfg 0xA00DC (.ctl (.imc 0) 1) a
  | .mc0Ch0PciPmonCtl2 a => .cfg 0xA00E0 (.ctl (.imc 0) 2) a
  | .mc0Ch0PciPmonCtl3 a => .cfg 0xA00E4 (.ctl (.imc 0) 3) a
  | .mc0Ch0PciPmonCtr0 a => .cfg 0xA00A0 (.ctr (.imc 0) 0) a
  | .mc0Ch0PciPmonCtr1 a => .cfg 0xA00A8 (.ctr (.imc 0) 1) a
  | .mc0Ch0PciPmonCtr2 a => .cfg 0xA00B0 (.ctr (.imc 0) 2) a
  | .mc0Ch0PciPmonCtr3 a => .cfg 0xA00B8 (.ctr (.imc 0) 3) a
  | .mc0Ch0PciPmonFixedCtl a => .cfg 0xA00F0 (.fixedCtl (.imc 0)) a
  | .mc0Ch0PciPmonFixedCtr a => .cfg 0xA00D0 (.fixedCtr (.imc 0)) a
  | .mc0Ch1PciPmonBoxStatus a => .cfg 0xA10F8 (.boxStatus (.imc 1)) a
  | .mc0Ch1PciPmonBoxCtl a => .cfg 0xA10F4 (.boxCtl (.imc 1)) a
  | .mc0Ch1PciPmonCtl0 a => .cfg 0xA10D8 (.ctl (.imc 1) 0) a
  | .mc0Ch1PciPmonCtl1 a => .cfg 0xA10DC (.ctl (.imc 1) 1) a
  | .mc0Ch1PciPmonCtl2 a => .cfg 0xA10E0 (.ctl (.imc 1) 2) a
  | .mc0Ch1PciPmonCtl3 a => .cfg 0xA10E4 (.ctl (.imc 1) 3) a
  | .mc0Ch1PciPmonCtr0 a => .cfg 0xA10A0 (.ctr (.imc 1) 0) a
  | .mc0Ch1PciPmonCtr1 a => .cfg 0xA10A8 (.ctr (.imc 1) 1) a
  | .mc0Ch1PciPmonCtr2 a => .cfg 0xA10B0 (.ctr (.imc 1) 2) a
  | .mc0Ch1PciPmonCtr3 a => .cfg 0xA10B8 (.ctr (.imc 1) 3) a
  | .mc0Ch1PciPmonFixedCtl a => .cfg 0xA10F0 (.fixedCtl (.imc 1)) a
  | .mc0Ch1PciPmonFixedCtr a => .cfg 0xA10D0 (.fixedCtr (.imc 1)) a
  | .mc0Ch2PciPmonBoxStatus a => .cfg 0xA80F8 (.boxStatus (.imc 2)) a
  | .mc0Ch2PciPmonBoxCtl a => .cfg 0xA80F4 (.boxCtl (.imc 2)) a
  | .mc0Ch2PciPmonCtl0 a => .cfg 0xA80D8 (.ctl (.imc 2) 0) a
  | .mc0Ch2PciPmonCtl1 a => .cfg 0xA80DC (.ctl (.imc 2) 1) a
  | .mc0Ch2PciPmonCtl2 a => .cfg 0xA80E0 (.ctl (.imc 2) 2) a
  | .mc0Ch2PciPmonCtl3 a => .cfg 0xA80E4 (.ctl (.imc 2) 3) a
  | .mc0Ch2PciPmonCtr0 a => .cfg 0xA80A0 (.ctr (.imc 2) 0) a
  | .mc0Ch2PciPmonCtr1 a => .cfg 0xA80A8 (.ctr (.imc 2) 1) a
  | .mc0Ch2PciPmonCtr2 a => .cfg 0xA80B0 (.ctr (.imc 2) 2) a
  | .mc0Ch2PciPmonCtr3 a => .cfg 0xA80B8 (.ctr (.imc 2) 3) a
  | .mc0Ch2PciPmonFixedCtl a => .cfg 0xA80F0 (.fixedCtl (.imc 2)) a
  | .mc0Ch2PciPmonFixedCtr a => .cfg 0xA80D0 (.fixedCtr (.imc 2)) a
  | .mc0Ch3PciPmonBoxStatus a => .cfg 0xA90F8 (.boxStatus (.imc 3)) a
  | .mc0Ch3PciPmonBoxCtl a => .cfg 0xA90F4 (.boxCtl (.imc 3)) a
  | .mc0Ch3PciPmonCtl0 a => .cfg 0xA90D8 (.ctl (.imc 3) 0) a
  | .mc0Ch3PciPmonCtl1 a => .cfg 0xA90DC (.ctl (.imc 3) 1) a
  | .mc0Ch3PciPmonCtl2 a => .cfg 0xA90E0 (.ctl (.imc 3) 2) a
  | .mc0Ch3PciPmonCtl3 a => .cfg 0xA90E4 (.ctl (.imc 3) 3) a
  | .mc0Ch3PciPmonCtr0 a => .cfg 0xA90A0 (.ctr (.imc 3) 0) a
  | .mc0Ch3PciPmonCtr1 a => .cfg 0xA90A8 (.ctr (.imc 3) 1) a
  | .mc0Ch3PciPmonCtr2 a => .cfg 0xA90B0 (.ctr (.imc 3) 2) a
  | .mc0Ch3PciPmonCtr3 a => .cfg 0xA90B8 (.ctr (.imc 3) 3) a
  | .mc0Ch3PciPmonFixedCtl a => .cfg 0xA90F0 (.fixedCtl (.imc 3)) a
  | .mc0Ch3PciPmonFixedCtr a => .cfg 0xA90D0 (.fixedCtr (.imc 3)) a
  | .mc1Ch0PciPmonBoxStatus a => .cfg 0xB80F8 (.boxStatus (.imc 4)) a
  | .mc1Ch0PciPmonBoxCtl a => .cfg 0xB80F4 (.boxCtl (.imc 4)) a
  | .mc1Ch0PciPmonCtl0 a => .cfg 0xB80D8 (.ctl (.imc 4) 0) a
  | .mc1Ch0PciPmonCtl1 a => .cfg 0xB80DC (.ctl (.imc 4) 1) a
  | .mc1Ch0PciPmonCtl2 a => .cfg 0xB80E0 (.ctl (.imc 4) 2) a
  | .mc1Ch0PciPmonCtl3 a => .cfg 0xB80E4 (.ctl (.imc 4) 3) a
  | .mc1Ch0PciPmonCtr0 a => .cfg 0xB80A0 (.ctr (.imc 4) 0) a
  | .mc1Ch0PciPmonCtr1 a => .cfg 0xB80A8 (.ctr (.imc 4) 1) a
  | .mc1Ch0PciPmonCtr2 a => .cfg 0xB80B0 (.ctr (.imc 4) 2) a
  | .mc1Ch0PciPmonCtr3 a => .cfg 0xB80B8 (.ctr (.imc 4) 3) a
  | .mc1Ch0PciPmonFixedCtl a => .cfg 0xB80F0 (.fixedCtl (.imc 4)) a
  | .mc1Ch0PciPmonFixedCtr a => .cfg 0xB80D0 (.fixedCtr (.imc 4)) a
  | .mc1Ch1PciPmonBoxStatus a => .cfg 0xB90F8 (.boxStatus (.imc 5)) a
  | .mc1Ch1PciPmonBoxCtl a => .cfg 0xB90F4 (.boxCtl (.imc 5)) a
  | .mc1Ch1PciPmonCtl0 a => .cfg 0xB90D8 (.ctl (.imc 5) 0) a
  | .mc1Ch1PciPmonCtl1 a => .cfg 0xB90DC (.ctl (.imc 5) 1) a
  | .mc1Ch1PciPmonCtl2 a => .cfg 0xB90E0 (.ctl (.imc 5) 2) a
  | .mc1Ch1PciPmonCtl3 a => .cfg 0xB90E4 (.ctl (.imc 5) 3) a
  | .mc1Ch1PciPmonCtr0 a => .cfg 0xB90A0 (.ctr (.imc 5) 0) a
  | .mc1Ch1PciPmonCtr1 a => .cfg 0xB90A8 (.ctr (.imc 5) 1) a
  | .mc1Ch1PciPmonCtr2 a => .cfg 0xB90B0 (.ctr (.imc 5) 2) a
  | .mc1Ch1PciPmonCtr3 a => .cfg 0xB90B8 (.ctr (.imc 5) 3) a
  | .mc1Ch1PciPmonFixedCtl a => .cfg 0xB90F0 (.fixedCtl (.imc 5)) a
  | .mc1Ch1PciPmonFixedCtr a => .cfg 0xB90D0 (.fixedCtr (.imc 5)) a
  | .mc1Ch2PciPmonBoxStatus a => .cfg 0xC00F8 (.boxStatus (.imc 6)) a
  | .mc1Ch2PciPmonBoxCtl a => .cfg 0xC00F4 (.boxCtl (.imc 6)) a
  | .mc1Ch2PciPmonCtl0 a => .cfg 0xC00D8 (.ctl (.imc 6) 0) a
  | .mc1Ch2PciPmonCtl1 a => .cfg 0xC00DC (.ctl (.imc 6) 1) a
  | .mc1Ch2PciPmonCtl2 a => .cfg 0xC00E0 (.ctl (.imc 6) 2) a
  | .mc1Ch2PciPmonCtl3 a => .cfg 0xC00E4 (.ctl (.imc 6) 3) a
  | .mc1Ch2PciPmonCtr0 a => .cfg 0xC00A0 (.ctr (.imc 6) 0) a
  | .mc1Ch2PciPmonCtr1 a => .cfg 0xC00A8 (.ctr (.imc 6) 1) a
  | .mc1Ch2PciPmonCtr2 a => .cfg 0xC00B0 (.ctr (.imc 6) 2) a
  | .mc1Ch2PciPmonCtr3 a => .cfg 0xC00B8 (.ctr (.imc 6) 3) a
  | .mc1Ch2PciPmonFixedCtl a => .cfg 0xC00F0 (.fixedCtl (.imc 6)) a
  | .mc1Ch2PciPmonFixedCtr a => .cfg 0xC00D0 (.fixedCtr (.imc 6)) a
  | .mc1Ch3PciPmonBoxStatus a => .cfg 0xC10F8 (.boxStatus (.imc 7)) a
  | .mc1Ch3PciPmonBoxCtl a => .cfg 0xC10F4 (.boxCtl (.imc 7)) a
  | .mc1Ch3PciPmonCtl0 a => .cfg 0xC10D8 (.ctl (.imc 7) 0) a
  | .mc1Ch3PciPmonCtl1 a => .cfg 0xC10DC (.ctl (.imc 7) 1) a
  | .mc1Ch3PciPmonCtl2 a => .cfg 0xC10E0 (.ctl (.imc 7) 2) a
  | .mc1Ch3PciPmonCtl3 a => .cfg 0xC10E4 (.ctl (.imc 7) 3) a
  | .mc1Ch3PciPmonCtr0 a => .cfg 0xC10A0 (.ctr (.imc 7) 0) a
  | .mc1Ch3PciPmonCtr1 a => .cfg 0xC10A8 (.ctr (.imc 7) 1) a
  | .mc1Ch3PciPmonCtr2 a => .cfg 0xC10B0 (.ctr (.imc 7) 2) a
  | .mc1Ch3PciPmonCtr3 a => .cfg 0xC10B8 (.ctr (.imc 7) 3) a
  | .mc1Ch3PciPmonFixedCtl a => .cfg 0xC10F0 (.fixedCtl (.imc 7)) a
  | .mc1Ch3PciPmonFixedCtr a => .cfg 0xC10D0 (.fixedCtr (.imc 7)) a
  | .irpPciPmonBoxStatus a => .cfg 0x2E0F8 (.boxStatus .irp) a
  | .irpPciPmonBoxCtl a => .cfg 0x2E0F4 (.boxCtl .irp) a
  | .irp0PciPmonCtl0 a => .cfg 0x2E0D8 (.ctl .irp 0) a
  | .irp0PciPmonCtl1 a => .cfg 0x2E0DC (.ctl .irp 1) a
  | .irp1PciPmonCtl0 a => .cfg 0x2E0E0 (.ctl .irp 2) a
  | .irp1PciPmonCtl1 a => .cfg 0x2E0E4 (.ctl .irp 3) a
  | .irp0PciPmonCtr0 a => .cfg 0x2E0A0 (.ctr .irp 0) a
  | .irp0PciPmonCtr1 a => .cfg 0x2E0A8 (.ctr .irp 1) a
  | .irp1PciPmonCtr0 a => .cfg 0x2E0B0 (.ctr .irp 2) a
  | .irp1PciPmonCtr1 a => .cfg 0x2E0B8 (.ctr .irp 3) a
  | .qP0PciPmonBoxStatus a => .cfg 0x420F8 (.boxStatus (.qpi 0)) a
  | .qP0PciPmonBoxCtl a => .cfg 0x420F4 (.boxCtl (.qpi 0)) a
  | .qP0PciPmonCtl0 a => .cfg 0x420D8 (.ctl (.qpi 0) 0) a
  | .qP0PciPmonCtl1 a => .cfg 0x420DC (.ctl (.qpi 0) 1) a
  | .qP0PciPmonCtl2 a => .cfg 0x420E0 (.ctl (.qpi 0) 2) a
  | .qP0PciPmonCtl3 a => .cfg 0x420E4 (.ctl (.qpi 0) 3) a
  | .qP0PciPmonCtr0 a => .cfg 0x420A0 (.ctr (.qpi 0) 0) a
  | .qP0PciPmonCtr1 a => .cfg 0x420A8 (.ctr (.qpi 0) 1) a
  | .qP0PciPmonCtr2 a => .cfg 0x420B0 (.ctr (.qpi 0) 2) a
  | .qP0PciPmonCtr3 a => .cfg 0x420B8 (.ctr (.qpi 0) 3) a
  | .qP0PciPmonLinkLlr a => .cfg 0x420D0 (.qpiLlr 0) a
  | .qP0PciPmonLinkIdle a => .cfg 0x420C8 (.qpiIdle 0) a
  | .qP0PciPmonRxPktMask1 a => .cfg 0x4623C (.qpiPkt 0 .rxMask1) a
  | .qP0PciPmonRxPktMask0 a => .cfg 0x46238 (.qpiPkt 0 .rxMask0) a
  | .qP0PciPmonRxPktMatch1 a => .cfg 0x4622C (.qpiPkt 0 .rxMatch1) a
  | .qP0PciPmonRxPktMatch0 a => .cfg 0x46228 (.qpiPkt 0 .rxMatch0) a
  | .qP0PciPmonTxPktMask1 a => .cfg 0x46214 (.qpiPkt 0 .txMask1) a
  | .qP0PciPmonTxPktMask0 a => .cfg 0x46210 (.qpiPkt 0 .txMask0) a
  | .qP0PciPmonTxPktMatch1 a => .cfg 0x46204 (.qpiPkt 0 .txMatch1) a
  | .qP0PciPmonTxPktMatch0 a => .cfg 0x46200 (.qpiPkt 0 .txMatch0) a
  | .qP1PciPmonBoxStatus a => .cfg 0x4A0F8 (.boxStatus (.qpi 1)) a
  | .qP1PciPmonBoxCtl a => .cfg 0x4A0F4 (.boxCtl (.qpi 1)) a
  | .qP1PciPmonCtl0 a => .cfg 0x4A0D8 (.ctl (.qpi 1) 0) a
  | .qP1PciPmonCtl1 a => .cfg 0x4A0DC (.ctl (.qpi 1) 1) a
  | .qP1PciPmonCtl2 a => .cfg 0x4A0E0 (.ctl (.qpi 1) 2) a
  | .qP1PciPmonCtl3 a => .cfg 0x4A0E4 (.ctl (.qpi 1) 3) a
  | .qP1PciPmonCtr0 a => .cfg 0x4A0A0 (.ctr (.qpi 1) 0) a
  | .qP1PciPmonCtr1 a => .cfg 0x4A0A8 (.ctr (.qpi 1) 1) a
  | .qP1PciPmonCtr2 a => .cfg 0x4A0B0 (.ctr (.qpi 1) 2) a
  | .qP1PciPmonCtr3 a => .cfg 0x4A0B8 (.ctr (.qpi 1) 3) a
  | .qP1PciPmonLinkLlr a => .cfg 0x4A0D0 (.qpiLlr 1) a
  | .qP1PciPmonLinkIdle a => .cfg 0x4A0C8 (.qpiIdle 1) a
  | .qP1PciPmonRxPktMask1 a => .cfg 0x4E23C (.qpiPkt 1 .rxMask1) a
  | .qP1PciPmonRxPktMask0 a => .cfg 0x4E238 (.qpiPkt 1 .rxMask0) a
  | .qP1PciPmonRxPktMatch1 a => .cfg 0x4E22C (.qpiPkt 1 .rxMatch1) a
  | .qP1PciPmonRxPktMatch0 a => .cfg 0x4E228 (.qpiPkt 1 .rxMatch0) a
  | .qP1PciPmonTxPktMask1 a => .cfg 0x4E214 (.qpiPkt 1 .txMask1) a
  | .qP1PciPmonTxPktMask0 a => .cfg 0x4E210 (.qpiPkt 1 .txMask0) a
  | .qP1PciPmonTxPktMatch1 a => .cfg 0x4E204 (.qpiPkt 1 .txMatch1) a
  | .qP1PciPmonTxPktMatch0 a => .cfg 0x4E200 (.qpiPkt 1 .txMatch0) a
  | .qP2PciPmonBoxStatus a => .cfg 0x520F8 (.boxStatus (.qpi 2)) a
  | .qP2PciPmonBoxCtl a => .cfg 0x520F4 (.boxCtl (.qpi 2)) a
  | .qP2PciPmonCtl0 a => .cfg 0x520D8 (.ctl (.qpi 2) 0) a
  | .qP2PciPmonCtl1 a => .cfg 0x520DC (.ctl (.qpi 2) 1) a
  | .qP2PciPmonCtl2 a => .cfg 0x520E0 (.ctl (.qpi 2) 2) a
  | .qP2PciPmonCtl3 a => .cfg 0x520E4 (.ctl (.qpi 2) 3) a
  | .qP2PciPmonCtr0 a => .cfg 0x520A0 (.ctr (.qpi 2) 0) a
  | .qP2PciPmonCtr1 a => .cfg 0x520A8 (.ctr (.qpi 2) 1) a
  | .qP2PciPmonCtr2 a => .cfg 0x520B0 (.ctr (.qpi 2) 2) a
  | .qP2PciPmonCtr3 a => .cfg 0x520B8 (.ctr (.qpi 2) 3) a
  | .qP2PciPmonLinkLlr a => .cfg 0x520D0 (.qpiLlr 2) a
  | .qP2PciPmonLinkIdle a => .cfg 0x520C8 (.qpiIdle 2) a
  | .qP2PciPmonRxPktMask1 a => .cfg 0x5623C (.qpiPkt 2 .rxMask1) a
  | .qP2PciPmonRxPktMask0 a => .cfg 0x56238 (.qpiPkt 2 .rxMask0) a
  | .qP2PciPmonRxPktMatch1 a => .cfg 0x5622C (.qpiPkt 2 .rxMatch1) a
  | .qP2PciPmonRxPktMatch0 a => .cfg 0x56228 (.qpiPkt 2 .rxMatch0) a
  | .qP2PciPmonTxPktMask1 a => .cfg 0x56214 (.qpiPkt 2 .txMask1) a
  | .qP2PciPmonTxPktMask0 a => .cfg 0x56210 (.qpiPkt 2 .txMask0) a
  | .qP2PciPmonTxPktMatch1 a => .cfg 0x56204 (.qpiPkt 2 .txMatch1) a
  | .qP2PciPmonTxPktMatch0 a => .cfg 0x56200 (.qpiPkt 2 .txMatch0) a
  | .qpi0RateStatus a => .cfg 0x400D4 (.qpiRate false) a
  | .qpi1RateStatus a => .cfg 0x500D4 (.qpiRate true) a
  | .r2PciPmonBoxStatus a => .cfg 0x810F8 (.boxStatus .r2) a
  | .r2PciPmonBoxCtl a => .cfg 0x810F4 (.boxCtl .r2) a
  | .r2PciPmonCtl0 a => .cfg 0x810D8 (.ctl .r2 0) a
  | .r2PciPmonCtl1 a => .cfg 0x810DC (.ctl .r2 1) a
  | .r2PciPmonCtl2 a => .cfg 0x810E0 (.ctl .r2 2) a
  | .r2PciPmonCtl3 a => .cfg 0x810E4 (.ctl .r2 3) a
  | .r2PciPmonCtr0 a => .cfg 0x810A0 (.ctr .r2 0) a
  | .r2PciPmonCtr1 a => .cfg 0x810A8 (.ctr .r2 1) a
  | .r2PciPmonCtr2 a => .cfg 0x810B0 (.ctr .r2 2) a
  | .r2PciPmonCtr3 a => .cfg 0x810B8 (.ctr .r2 3) a
  | .r3L0PciPmonBoxStatus a => .cfg 0x590F8 (.boxStatus (.r3 0)) a
  | .r3L0PciPmonBoxCtl a => .cfg 0x590F4 (.boxCtl (.r3 0)) a
  | .r3L0PciPmonCtl0 a => .cfg 0x590D8 (.ctl (.r3 0) 0) a
  | .r3L0PciPmonCtl1 a => .cfg 0x590DC (.ctl (.r3 0) 1) a
  | .r3L0PciPmonCtl2 a => .cfg 0x590E0 (.ctl (.r3 0) 2) a
  | .r3L0PciPmonCtr0 a => .cfg 0x590A0 (.ctr (.r3 0) 0) a
  | .r3L0PciPmonCtr1 a => .cfg 0x590A8 (.ctr (.r3 0) 1) a
  | .r3L0PciPmonCtr2 a => .cfg 0x590B0 (.ctr (.r3 0) 2) a
  | .r3L1PciPmonBoxStatus a => .cfg 0x5A0F8 (.boxStatus (.r3 1)) a
  | .r3L1PciPmonBoxCtl a => .cfg 0x5A0F4 (.boxCtl (.r3 1)) a
  | .r3L1PciPmonCtl0 a => .cfg 0x5A0D8 (.ctl (.r3 1) 0) a
  | .r3L1PciPmonCtl1 a => .cfg 0x5A0DC (.ctl (.r3 1) 1) a
  | .r3L1PciPmonCtl2 a => .cfg 0x5A0E0 (.ctl (.r3 1) 2) a
  | .r3L1PciPmonCtr0 a => .cfg 0x5A0A0 (.ctr (.r3 1) 0) a
  | .r3L1PciPmonCtr1 a => .cfg 0x5A0A8 (.ctr (.r3 1) 1) a
  | .r3L1PciPmonCtr2 a => .cfg 0x5A0B0 (.ctr (.r3 1) 2) a
  | .r3L2PciPmonBoxStatus a => .cfg 0x5D0F8 (.boxStatus (.r3 2)) a
  | .r3L2PciPmonBoxCtl a => .cfg 0x5D0F4 (.boxCtl (.r3 2)) a
  | .r3L2PciPmonCtl0 a => .cfg 0x5D0D8 (.ctl (.r3 2) 0) a
  | .r3L2PciPmonCtl1 a => .cfg 0x5D0DC (.ctl (.r3 2) 1) a
  | .r3L2PciPmonCtl2 a => .cfg 0x5D0E0 (.ctl (.r3 2) 2) a
  | .r3L2PciPmonCtr0 a => .cfg 0x5D0A0 (.ctr (.r3 2) 0) a
  | .r3L2PciPmonCtr1 a => .cfg 0x5D0A8 (.ctr (.r3 2) 1) a
  | .r3L2PciPmonCtr2 a => .cfg 0x5D0B0 (.ctr (.r3 2) 2) a

end Sys2Proof
end

