-- ==== Sys2Proof/WellFormed.lean ====
section
/-! DEFINITION. Which instructions are well formed: every operand has a value its control word or command can hold, and
an event row is the one that names its unit mask value. -/

namespace Sys2Proof

open Machine

/-- The kinds whose control word has an ov_en bit at 20 (30_encoding.md R151 to R154). -/
def Kind.hasOvEn : Kind → Bool
  | .cbo | .sbo => false
  | _ => true

/-- The kinds whose control word has tid_en at bit 19. -/
def Kind.hasTidEn : Kind → Bool
  | .cbo | .sbo => true
  | _ => false

/-- The kinds whose thresh field is 5 bits (30_encoding.md R161). -/
def Kind.shortThresh : Kind → Bool
  | .ubox | .pcu => true
  | _ => false

/-- Check 1: the control fields exist in the kind's format and fit it. -/
def CtlOps.fits (k : Kind) (c : CtlOps) : Bool :=
  (!k.shortThresh || decide (c.thresh.toNat < 32)) && (k.hasOvEn || !c.ovEn) && (k.hasTidEn || !c.tidEn) &&
    (k == .pcu || !(c.occInvert || c.occEdge)) && (k != .pcu || c.extra &&& 0x3F == 0)

/-- Check 2: invert and edge_det (in the PCU's occupancy events occ_invert and occ_edge_det too) are used with a
threshold only (40_global_ubox.md R208). -/
def CtlOps.threshOk (k : Kind) (code : BitVec 8) (c : CtlOps) : Bool :=
  c.thresh != 0 || !(c.invert || c.edge || (k == .pcu && code.getLsbD 7 && (c.occInvert || c.occEdge)))

/-- Checks 3 and 4: the extra unit mask bits are not the row's own, and the row is the one that names the unit mask
value (30_encoding.md R157, R163). -/
def Event.names (e : Event) (base extra : BitVec 8) : Bool :=
  base &&& extra == 0 && e.pick (base ||| extra) == some base

/-- An instruction is well formed. Check 5: only a two-dword register has an upper half (20_memory.md R103). -/
def Instr.wf (i : Instr) : Bool :=
  match i.view with
  | .event k e base o => o.ctl.fits k && o.ctl.threshOk k e.code && Event.names e base o.ctl.extra
  | .msr _ _ _ => true
  | .cfg _ r a => r.twoDwords || !a.high

end Sys2Proof
end

