-- ==== Sys2Proof/Decode.lean ====
section
/-! DEFINITION. The decoder, total on any bytes, and the encoder. Two streams are decoded: a counter's control word, in
the context of its box (30_encoding.md R150 to R165), and a host command, four little-endian dwords: an address, an
operation and a 64-bit value (the layout of a command is the model's, log 2; the addresses are the table's, R182). -/

namespace Sys2Proof

open Machine

/- Lean's compiler cannot build constructors numbered beyond 244 that carry fields (a limit of its object format), so what
builds an `Instr` is noncomputable; the kernel evaluates it as any other definition. -/
noncomputable section

/-! ### Bytes -/

/-- The four bytes of a dword, the low one first (20_memory.md R105; log 2). -/
def bytesOf (w : Word) : List Byte :=
  [w.extractLsb' 0 8, w.extractLsb' 8 8, w.extractLsb' 16 8, w.extractLsb' 24 8]

/-- The dword of four bytes, the low one first. -/
def wordOf (b0 b1 b2 b3 : Byte) : Word := b3 ++ b2 ++ b1 ++ b0

/-! ### Control words (30_encoding.md R151 to R154, R156) -/

/-- A control word cut at the bit positions all four formats share. -/
structure CtlWord where
  /-- bits 31:24 -/
  top : BitVec 8
  /-- bit 23 -/
  invert : Bool
  /-- bit 22 -/
  en : Bool
  /-- bit 21: ev_sel_ext or reserved -/
  b21 : Bool
  /-- bit 20: ov_en or reserved -/
  b20 : Bool
  /-- bit 19: tid_en or ignored -/
  b19 : Bool
  /-- bit 18 -/
  edge : Bool
  /-- bits 17:16: rst and a reserved bit, neither stored -/
  low : BitVec 2
  /-- bits 15:8; occ_sel in the PCU's two high ones -/
  umask : BitVec 8
  /-- bits 7:0 -/
  code : BitVec 8
  deriving DecidableEq, Repr, Inhabited

/-- Cut a control word. -/
def CtlWord.unpack (w : Word) : CtlWord where
  top := w.extractLsb' 24 8
  invert := w.getLsbD 23
  en := w.getLsbD 22
  b21 := w.getLsbD 21
  b20 := w.getLsbD 20
  b19 := w.getLsbD 19
  edge := w.getLsbD 18
  low := w.extractLsb' 16 2
  umask := w.extractLsb' 8 8
  code := w.extractLsb' 0 8

/-- Assemble a control word. -/
def CtlWord.pack (c : CtlWord) : Word :=
  c.top ++ BitVec.ofBool c.invert ++ BitVec.ofBool c.en ++ BitVec.ofBool c.b21 ++ BitVec.ofBool c.b20 ++
    BitVec.ofBool c.b19 ++ BitVec.ofBool c.edge ++ c.low ++ c.umask ++ c.code

/-- The kinds with an event select extension bit (30_encoding.md R153, R154). -/
def Kind.hasExt : Kind → Bool
  | .pcu | .qpi => true
  | _ => false

/-- A word a control register of the kind can hold: no reserved, ignored or write-only bit is 1. -/
def CtlWord.stored (k : Kind) (c : CtlWord) : Bool :=
  c.low == 0 && (k.hasExt || !c.b21) && (k.hasOvEn || !c.b20) && (k.hasTidEn || !c.b19) &&
    (k != .ubox || c.top &&& 0xE0 == 0) && (k != .pcu || (c.top &&& 0x20 == 0 && c.umask &&& 0x3F == 0))

/-- thresh: in the UBox and the PCU only its 5 bits (30_encoding.md R161). -/
def CtlWord.thresh (k : Kind) (c : CtlWord) : BitVec 8 := if k.shortThresh then c.top &&& 0x1F else c.top

/-- The control fields of a word, the unit mask cut off at the bits of the row `base`. -/
def CtlWord.ops (k : Kind) (base : BitVec 8) (c : CtlWord) : CtlOps where
  thresh := c.thresh k
  invert := c.invert
  en := c.en
  ovEn := c.b20
  tidEn := c.b19
  edge := c.edge
  occInvert := k == .pcu && c.top.getLsbD 6
  occEdge := k == .pcu && c.top.getLsbD 7
  extra := c.umask &&& ~~~base

/-- The word of an event code, a row and the control fields. -/
def CtlOps.word (k : Kind) (code : BitVec 8) (ext : Bool) (base : BitVec 8) (c : CtlOps) : CtlWord where
  top := if k == .pcu then BitVec.ofBool c.occEdge ++ BitVec.ofBool c.occInvert ++ c.thresh.extractLsb' 0 6 else c.thresh
  invert := c.invert
  en := c.en
  b21 := ext
  b20 := c.ovEn
  b19 := c.tidEn
  edge := c.edge
  low := 0
  umask := base ||| c.extra
  code := code

/-! ### The tables -/

/-- The events of one kind, each with the constructor of every row, named by the row's base. -/
abbrev EventTable (k : Kind) := List (Event × List (BitVec 8 × (EvOp k → Instr)))

/-- The events of the UBox and the constructor of each of their rows. -/
def uboxEvents : EventTable .ubox := [
  (evUBoxEventMsg, [(0x08, .uBoxEventMsgDoorbellRcvd)]),
  (evUBoxPholdCycles, [(0x01, .uBoxPholdCyclesAssertToAck)]),
  (evUBoxRacuRequests, [(0x00, .uBoxRacuRequests)])]

/-- The events of the CBo and the constructor of each of their rows. -/
def cboEvents : EventTable .cbo := [
  (evCBoClockticks, [(0x00, .cBoClockticks)]),
  (evCBoTxRInserts, [(0x01, .cBoTxRInsertsAdCache), (0x02, .cBoTxRInsertsAkCache), (0x04, .cBoTxRInsertsBlCache),
    (0x08, .cBoTxRInsertsIvCache), (0x10, .cBoTxRInsertsAdCore), (0x20, .cBoTxRInsertsAkCore),
    (0x40, .cBoTxRInsertsBlCore)]),
  (evCBoTxRAdsUsed, [(0x01, .cBoTxRAdsUsedAd), (0x02, .cBoTxRAdsUsedAk), (0x04, .cBoTxRAdsUsedBl)]),
  (evCBoRingBounces, [(0x01, .cBoRingBouncesAd), (0x02, .cBoRingBouncesAk), (0x04, .cBoRingBouncesBl),
    (0x10, .cBoRingBouncesIv)]),
  (evCBoRingSrcThrtl, [(0x00, .cBoRingSrcThrtl)]),
  (evCBoFastAsserted, [(0x00, .cBoFastAsserted)]),
  (evCBoBounceControl, [(0x00, .cBoBounceControl)]),
  (evCBoRxROccupancy, [(0x01, .cBoRxROccupancyIrq), (0x02, .cBoRxROccupancyIrqRej), (0x04, .cBoRxROccupancyIpq),
    (0x20, .cBoRxROccupancyPrqRej)]),
  (evCBoRxRExtStarved, [(0x01, .cBoRxRExtStarvedIrq), (0x02, .cBoRxRExtStarvedIpq), (0x04, .cBoRxRExtStarvedPrq),
    (0x08, .cBoRxRExtStarvedIsmqBids)]),
  (evCBoRxRInserts, [(0x01, .cBoRxRInsertsIrq), (0x02, .cBoRxRInsertsIrqRej), (0x04, .cBoRxRInsertsIpq),
    (0x10, .cBoRxRInsertsPrq), (0x20, .cBoRxRInsertsPrqRej)]),
  (evCBoRingAdUsed, [(0x03, .cBoRingAdUsedUp), (0x0C, .cBoRingAdUsedDown), (0x0F, .cBoRingAdUsedAll),
    (0x01, .cBoRingAdUsedUpEven), (0x02, .cBoRingAdUsedUpOdd), (0x04, .cBoRingAdUsedDownEven),
    (0x08, .cBoRingAdUsedDownOdd)]),
  (evCBoRingAkUsed, [(0x03, .cBoRingAkUsedUp), (0x0C, .cBoRingAkUsedDown), (0x0F, .cBoRingAkUsedAll),
    (0x01, .cBoRingAkUsedUpEven), (0x02, .cBoRingAkUsedUpOdd), (0x04, .cBoRingAkUsedDownEven),
    (0x08, .cBoRingAkUsedDownOdd)]),
  (evCBoRingBlUsed, [(0x03, .cBoRingBlUsedUp), (0x0C, .cBoRingBlUsedDown), (0x0F, .cBoRingBlUsedAll),
    (0x01, .cBoRingBlUsedUpEven), (0x02, .cBoRingBlUsedUpOdd), (0x04, .cBoRingBlUsedDownEven),
    (0x08, .cBoRingBlUsedDownOdd)]),
  (evCBoRingIvUsed, [(0x03, .cBoRingIvUsedUp), (0x0C, .cBoRingIvUsedDn), (0x0F, .cBoRingIvUsedAny),
    (0xCC, .cBoRingIvUsedDown)]),
  (evCBoCounter0Occupancy, [(0x00, .cBoCounter0Occupancy)]),
  (evCBoRxRIpqRetry2, [(0x01, .cBoRxRIpqRetry2AdSbo), (0x40, .cBoRxRIpqRetry2Target)]),
  (evCBoRxRIrqRetry2, [(0x01, .cBoRxRIrqRetry2AdSbo), (0x02, .cBoRxRIrqRetry2BlSbo),
    (0x40, .cBoRxRIrqRetry2Target)]),
  (evCBoRxRIsmqRetry2, [(0x01, .cBoRxRIsmqRetry2AdSbo), (0x02, .cBoRxRIsmqRetry2BlSbo),
    (0x40, .cBoRxRIsmqRetry2Target)]),
  (evCBoRxRIpqRetry, [(0x01, .cBoRxRIpqRetryAny), (0x02, .cBoRxRIpqRetryFull),
    (0x04, .cBoRxRIpqRetryAddrConflict), (0x10, .cBoRxRIpqRetryQpiCredits)]),
  (evCBoRxRIrqRetry, [(0x01, .cBoRxRIrqRetryAny), (0x02, .cBoRxRIrqRetryFull),
    (0x04, .cBoRxRIrqRetryAddrConflict), (0x08, .cBoRxRIrqRetryRtid), (0x10, .cBoRxRIrqRetryQpiCredits),
    (0x20, .cBoRxRIrqRetryIioCredits), (0x40, .cBoRxRIrqRetryNid)]),
  (evCBoRxRIsmqRetry, [(0x01, .cBoRxRIsmqRetryAny), (0x02, .cBoRxRIsmqRetryFull), (0x08, .cBoRxRIsmqRetryRtid),
    (0x10, .cBoRxRIsmqRetryQpiCredits), (0x20, .cBoRxRIsmqRetryIioCredits), (0x40, .cBoRxRIsmqRetryNid),
    (0x80, .cBoRxRIsmqRetryWbCredits)]),
  (evCBoLlcLookup, [(0x03, .cBoLlcLookupDataRead), (0x05, .cBoLlcLookupWrite), (0x09, .cBoLlcLookupRemoteSnoop),
    (0x11, .cBoLlcLookupAny), (0x21, .cBoLlcLookupRead), (0x41, .cBoLlcLookupNid)]),
  (evCBoTorInserts, [(0x01, .cBoTorInsertsOpcode), (0x03, .cBoTorInsertsMissOpcode),
    (0x04, .cBoTorInsertsEviction), (0x08, .cBoTorInsertsAll), (0x10, .cBoTorInsertsWb),
    (0x21, .cBoTorInsertsLocalOpcode), (0x23, .cBoTorInsertsMissLocalOpcode), (0x28, .cBoTorInsertsLocal),
    (0x2A, .cBoTorInsertsMissLocal), (0x41, .cBoTorInsertsNidOpcode), (0x43, .cBoTorInsertsNidMissOpcode),
    (0x44, .cBoTorInsertsNidEviction), (0x48, .cBoTorInsertsNidAll), (0x4A, .cBoTorInsertsNidMissAll),
    (0x50, .cBoTorInsertsNidWb), (0x81, .cBoTorInsertsRemoteOpcode), (0x83, .cBoTorInsertsMissRemoteOpcode),
    (0x88, .cBoTorInsertsRemote), (0x8A, .cBoTorInsertsMissRemote)]),
  (evCBoTorOccupancy, [(0x01, .cBoTorOccupancyOpcode), (0x03, .cBoTorOccupancyMissOpcode),
    (0x04, .cBoTorOccupancyEviction), (0x08, .cBoTorOccupancyAll), (0x0A, .cBoTorOccupancyMissAll),
    (0x10, .cBoTorOccupancyWb), (0x21, .cBoTorOccupancyLocalOpcode), (0x23, .cBoTorOccupancyMissLocalOpcode),
    (0x28, .cBoTorOccupancyLocal), (0x2A, .cBoTorOccupancyMissLocal), (0x41, .cBoTorOccupancyNidOpcode),
    (0x43, .cBoTorOccupancyNidMissOpcode), (0x44, .cBoTorOccupancyNidEviction), (0x48, .cBoTorOccupancyNidAll),
    (0x4A, .cBoTorOccupancyNidMissAll), (0x50, .cBoTorOccupancyNidWb), (0x81, .cBoTorOccupancyRemoteOpcode),
    (0x83, .cBoTorOccupancyMissRemoteOpcode), (0x88, .cBoTorOccupancyRemote),
    (0x8A, .cBoTorOccupancyMissRemote)]),
  (evCBoLlcVictims, [(0x01, .cBoLlcVictimsMState), (0x02, .cBoLlcVictimsEState), (0x04, .cBoLlcVictimsIState),
    (0x08, .cBoLlcVictimsFState), (0x10, .cBoLlcVictimsMiss), (0x40, .cBoLlcVictimsNid)]),
  (evCBoMisc, [(0x01, .cBoMiscRspiWasFse), (0x02, .cBoMiscWcAliasing), (0x04, .cBoMiscStarted),
    (0x08, .cBoMiscRfoHitS), (0x10, .cBoMiscCvzeroPrefetchVictim), (0x20, .cBoMiscCvzeroPrefetchMiss)]),
  (evCBoSboCreditsAcquired, [(0x01, .cBoSboCreditsAcquiredAd), (0x02, .cBoSboCreditsAcquiredBl)]),
  (evCBoSboCreditOccupancy, [(0x01, .cBoSboCreditOccupancyAd), (0x02, .cBoSboCreditOccupancyBl)])]

/-- The events of the SBo and the constructor of each of their rows. -/
def sboEvents : EventTable .sbo := [
  (evSBoClockticks, [(0x00, .sBoClockticks)]),
  (evSBoTxROccupancy, [(0x01, .sBoTxROccupancyAdCrd), (0x02, .sBoTxROccupancyAdBnc),
    (0x04, .sBoTxROccupancyBlCrd), (0x08, .sBoTxROccupancyBlBnc), (0x10, .sBoTxROccupancyAk),
    (0x20, .sBoTxROccupancyIv)]),
  (evSBoTxRInserts, [(0x01, .sBoTxRInsertsAdCrd), (0x02, .sBoTxRInsertsAdBnc), (0x04, .sBoTxRInsertsBlCrd),
    (0x08, .sBoTxRInsertsBlBnc), (0x10, .sBoTxRInsertsAk), (0x20, .sBoTxRInsertsIv)]),
  (evSBoTxRAdsUsed, [(0x01, .sBoTxRAdsUsedAd), (0x02, .sBoTxRAdsUsedAk), (0x04, .sBoTxRAdsUsedBl)]),
  (evSBoRingBounces, [(0x01, .sBoRingBouncesAdCache), (0x02, .sBoRingBouncesAkCore),
    (0x04, .sBoRingBouncesBlCore), (0x08, .sBoRingBouncesIvCore)]),
  (evSBoFastAsserted, [(0x00, .sBoFastAsserted)]),
  (evSBoBounceControl, [(0x00, .sBoBounceControl)]),
  (evSBoRxROccupancy, [(0x01, .sBoRxROccupancyAdCrd), (0x02, .sBoRxROccupancyAdBnc),
    (0x04, .sBoRxROccupancyBlCrd), (0x08, .sBoRxROccupancyBlBnc), (0x10, .sBoRxROccupancyAk),
    (0x20, .sBoRxROccupancyIv)]),
  (evSBoRxRBypass, [(0x01, .sBoRxRBypassAdCrd), (0x02, .sBoRxRBypassAdBnc), (0x04, .sBoRxRBypassBlCrd),
    (0x08, .sBoRxRBypassBlBnc), (0x10, .sBoRxRBypassAk), (0x20, .sBoRxRBypassIv)]),
  (evSBoRxRInserts, [(0x01, .sBoRxRInsertsAdCrd), (0x02, .sBoRxRInsertsAdBnc), (0x04, .sBoRxRInsertsBlCrd),
    (0x08, .sBoRxRInsertsBlBnc), (0x10, .sBoRxRInsertsAk), (0x20, .sBoRxRInsertsIv)]),
  (evSBoRingAdUsed, [(0x03, .sBoRingAdUsedUp), (0x0C, .sBoRingAdUsedDown), (0x01, .sBoRingAdUsedUpEven),
    (0x02, .sBoRingAdUsedUpOdd), (0x04, .sBoRingAdUsedDownEven), (0x08, .sBoRingAdUsedDownOdd)]),
  (evSBoRingAkUsed, [(0x03, .sBoRingAkUsedUp), (0x0C, .sBoRingAkUsedDown), (0x01, .sBoRingAkUsedUpEven),
    (0x02, .sBoRingAkUsedUpOdd), (0x04, .sBoRingAkUsedDownEven), (0x08, .sBoRingAkUsedDownOdd)]),
  (evSBoRingBlUsed, [(0x03, .sBoRingBlUsedUp), (0x0C, .sBoRingBlUsedDown), (0x01, .sBoRingBlUsedUpEven),
    (0x02, .sBoRingBlUsedUpOdd), (0x04, .sBoRingBlUsedDownEven), (0x08, .sBoRingBlUsedDownOdd)]),
  (evSBoRingIvUsed, [(0x03, .sBoRingIvUsedUp), (0x0C, .sBoRingIvUsedDn)])]

/-- The events of the HA and the constructor of each of their rows. Piece 1 of 2. -/
def haEvents0 : EventTable .ha := [
  (evHaClockticks, [(0x00, .haClockticks)]),
  (evHaRequests, [(0x03, .haRequestsReads), (0x0C, .haRequestsWrites), (0x01, .haRequestsReadsLocal),
    (0x02, .haRequestsReadsRemote), (0x04, .haRequestsWritesLocal), (0x08, .haRequestsWritesRemote),
    (0x10, .haRequestsInvitoeLocal), (0x20, .haRequestsInvitoeRemote)]),
  (evHaTrackerCyclesFull, [(0x01, .haTrackerCyclesFullGp), (0x02, .haTrackerCyclesFullAll)]),
  (evHaTrackerCyclesNe, [(0x03, .haTrackerCyclesNeAll), (0x01, .haTrackerCyclesNeLocal),
    (0x02, .haTrackerCyclesNeRemote)]),
  (evHaTrackerOccupancy, [(0x04, .haTrackerOccupancyReadsLocal), (0x08, .haTrackerOccupancyReadsRemote),
    (0x10, .haTrackerOccupancyWritesLocal), (0x20, .haTrackerOccupancyWritesRemote),
    (0x40, .haTrackerOccupancyInvitoeLocal), (0x80, .haTrackerOccupancyInvitoeRemote)]),
  (evHaTrackerPendingOccupancy, [(0x01, .haTrackerPendingOccupancyLocal),
    (0x02, .haTrackerPendingOccupancyRemote)]),
  (evHaSnoopCyclesNe, [(0x03, .haSnoopCyclesNeAll), (0x01, .haSnoopCyclesNeLocal),
    (0x02, .haSnoopCyclesNeRemote)]),
  (evHaSnoopOccupancy, [(0x01, .haSnoopOccupancyLocal), (0x02, .haSnoopOccupancyRemote)]),
  (evHaSnoopsRspAfterData, [(0x01, .haSnoopsRspAfterDataLocal), (0x02, .haSnoopsRspAfterDataRemote)]),
  (evHaConflictCycles, [(0x00, .haConflictCycles)]),
  (evHaDirectoryLookup, [(0x01, .haDirectoryLookupSnp), (0x02, .haDirectoryLookupNoSnp)]),
  (evHaDirectoryUpdate, [(0x03, .haDirectoryUpdateAny), (0x01, .haDirectoryUpdateSet),
    (0x02, .haDirectoryUpdateClear)]),
  (evHaTxRAk, [(0x00, .haTxRAk)]),
  (evHaTxRBl, [(0x01, .haTxRBlDrsCache), (0x02, .haTxRBlDrsCore), (0x04, .haTxRBlDrsQpi)]),
  (evHaDirect2coreCount, [(0x00, .haDirect2coreCount)]),
  (evHaDirect2coreCyclesDisabled, [(0x00, .haDirect2coreCyclesDisabled)]),
  (evHaDirect2coreTxnOverride, [(0x00, .haDirect2coreTxnOverride)]),
  (evHaBypassImc, [(0x01, .haBypassImcTaken), (0x02, .haBypassImcNotTaken)]),
  (evHaRpqCyclesNoRegCredits, [(0x01, .haRpqCyclesNoRegCreditsChn0), (0x02, .haRpqCyclesNoRegCreditsChn1),
    (0x04, .haRpqCyclesNoRegCreditsChn2), (0x08, .haRpqCyclesNoRegCreditsChn3)]),
  (evHaImcReads, [(0x01, .haImcReadsNormal)]),
  (evHaWpqCyclesNoRegCredits, [(0x01, .haWpqCyclesNoRegCreditsChn0), (0x02, .haWpqCyclesNoRegCreditsChn1),
    (0x04, .haWpqCyclesNoRegCreditsChn2), (0x08, .haWpqCyclesNoRegCreditsChn3)]),
  (evHaImcWrites, [(0x0F, .haImcWritesAll), (0x01, .haImcWritesFull), (0x02, .haImcWritesPartial),
    (0x04, .haImcWritesFullIsoch), (0x08, .haImcWritesPartialIsoch)]),
  (evHaTadRequestsG0, [(0x01, .haTadRequestsG0Region0), (0x02, .haTadRequestsG0Region1),
    (0x04, .haTadRequestsG0Region2), (0x08, .haTadRequestsG0Region3), (0x10, .haTadRequestsG0Region4),
    (0x20, .haTadRequestsG0Region5), (0x40, .haTadRequestsG0Region6), (0x80, .haTadRequestsG0Region7)]),
  (evHaTadRequestsG1, [(0x01, .haTadRequestsG1Region8), (0x02, .haTadRequestsG1Region9),
    (0x04, .haTadRequestsG1Region10), (0x08, .haTadRequestsG1Region11)]),
  (evHaImcRetry, [(0x00, .haImcRetry)]),
  (evHaAddrOpcMatch, [(0x03, .haAddrOpcMatchFilt), (0x01, .haAddrOpcMatchAddr), (0x02, .haAddrOpcMatchOpc),
    (0x04, .haAddrOpcMatchAd), (0x08, .haAddrOpcMatchBl), (0x10, .haAddrOpcMatchAk)]),
  (evHaSnoopResp, [(0x01, .haSnoopRespRspi), (0x02, .haSnoopRespRsps), (0x04, .haSnoopRespRspifwd),
    (0x08, .haSnoopRespRspsfwd), (0x10, .haSnoopRespRspWb), (0x20, .haSnoopRespRspFwdWb),
    (0x40, .haSnoopRespRspcnflct)]),
  (evHaIgrNoCreditCycles, [(0x01, .haIgrNoCreditCyclesAdQpi0), (0x02, .haIgrNoCreditCyclesAdQpi1),
    (0x04, .haIgrNoCreditCyclesBlQpi0), (0x08, .haIgrNoCreditCyclesBlQpi1), (0x10, .haIgrNoCreditCyclesAdQpi2),
    (0x20, .haIgrNoCreditCyclesBlQpi2)]),
  (evHaTxRAdCyclesFull, [(0x03, .haTxRAdCyclesFullAll), (0x01, .haTxRAdCyclesFullSched0),
    (0x02, .haTxRAdCyclesFullSched1)]),
  (evHaTxRAkCyclesFull, [(0x03, .haTxRAkCyclesFullAll), (0x01, .haTxRAkCyclesFullSched0),
    (0x02, .haTxRAkCyclesFullSched1)])]

/-- The events of the HA and the constructor of each of their rows. Piece 2 of 2. -/
def haEvents1 : EventTable .ha := [
  (evHaTxRBlOccupancy, [(0x00, .haTxRBlOccupancy)]),
  (evHaTxRBlCyclesFull, [(0x03, .haTxRBlCyclesFullAll), (0x01, .haTxRBlCyclesFullSched0),
    (0x02, .haTxRBlCyclesFullSched1)]),
  (evHaRingAdUsed, [(0x03, .haRingAdUsedCw), (0x0C, .haRingAdUsedCcw), (0x01, .haRingAdUsedCwEven),
    (0x02, .haRingAdUsedCwOdd), (0x04, .haRingAdUsedCcwEven), (0x08, .haRingAdUsedCcwOdd)]),
  (evHaRingAkUsed, [(0x03, .haRingAkUsedCw), (0x0C, .haRingAkUsedCcw), (0x01, .haRingAkUsedCwEven),
    (0x02, .haRingAkUsedCwOdd), (0x04, .haRingAkUsedCcwEven), (0x08, .haRingAkUsedCcwOdd)]),
  (evHaRingBlUsed, [(0x03, .haRingBlUsedCw), (0x0C, .haRingBlUsedCcw), (0x01, .haRingBlUsedCwEven),
    (0x02, .haRingBlUsedCwOdd), (0x04, .haRingBlUsedCcwEven), (0x08, .haRingBlUsedCcwOdd)]),
  (evHaDirectoryLatOpt, [(0x00, .haDirectoryLatOpt)]),
  (evHaBtCyclesNe, [(0x00, .haBtCyclesNe)]),
  (evHaBtOccupancy, [(0x00, .haBtOccupancy)]),
  (evHaOsb, [(0x02, .haOsbReadsLocal), (0x04, .haOsbInvitoeLocal), (0x08, .haOsbRemote), (0x10, .haOsbCancelled),
    (0x20, .haOsbReadsLocalUseful), (0x40, .haOsbRemoteUseful)]),
  (evHaOsbEdr, [(0x01, .haOsbEdrAll), (0x02, .haOsbEdrReadsLocalI), (0x04, .haOsbEdrReadsRemoteI),
    (0x08, .haOsbEdrReadsLocalS), (0x10, .haOsbEdrReadsRemoteS)]),
  (evHaSnpRespRecvLocal, [(0x01, .haSnpRespRecvLocalRspi), (0x02, .haSnpRespRecvLocalRsps),
    (0x04, .haSnpRespRecvLocalRspifwd), (0x08, .haSnpRespRecvLocalRspsfwd), (0x10, .haSnpRespRecvLocalRSPxWB),
    (0x20, .haSnpRespRecvLocalRSPxFWDxWB), (0x40, .haSnpRespRecvLocalRspcnflct),
    (0x80, .haSnpRespRecvLocalOther)]),
  (evHaSbo0CreditsAcquired, [(0x01, .haSbo0CreditsAcquiredAd), (0x02, .haSbo0CreditsAcquiredBl)]),
  (evHaSbo1CreditsAcquired, [(0x01, .haSbo1CreditsAcquiredAd), (0x02, .haSbo1CreditsAcquiredBl)]),
  (evHaSbo0CreditOccupancy, [(0x01, .haSbo0CreditOccupancyAd), (0x02, .haSbo0CreditOccupancyBl)]),
  (evHaSbo1CreditOccupancy, [(0x01, .haSbo1CreditOccupancyAd), (0x02, .haSbo1CreditOccupancyBl)]),
  (evHaStallNoSboCredit, [(0x01, .haStallNoSboCreditSbo0Ad), (0x02, .haStallNoSboCreditSbo1Ad),
    (0x04, .haStallNoSboCreditSbo0Bl), (0x08, .haStallNoSboCreditSb01Bl)]),
  (evHaTxRStarved, [(0x01, .haTxRStarvedAk), (0x02, .haTxRStarvedBl)]),
  (evHaHitmeLookup, [(0x0F, .haHitmeLookupHom), (0x26, .haHitmeLookupInvals), (0x70, .haHitmeLookupAllocs),
    (0xFF, .haHitmeLookupAll), (0x01, .haHitmeLookupReadOrInvitoe), (0x02, .haHitmeLookupWbmtoi),
    (0x04, .haHitmeLookupAckcnfltwbi), (0x08, .haHitmeLookupWbmtoeOrS), (0x10, .haHitmeLookupRspfwdiRemote),
    (0x20, .haHitmeLookupRspfwdiLocal), (0x40, .haHitmeLookupRspfwds), (0x80, .haHitmeLookupRsp)]),
  (evHaHitmeHit, [(0x0F, .haHitmeHitHom), (0x26, .haHitmeHitInvals), (0x42, .haHitmeHitEvicts),
    (0x70, .haHitmeHitAllocs), (0xFF, .haHitmeHitAll), (0x01, .haHitmeHitReadOrInvitoe),
    (0x02, .haHitmeHitWbmtoi), (0x04, .haHitmeHitAckcnfltwbi), (0x08, .haHitmeHitWbmtoeOrS),
    (0x10, .haHitmeHitRspfwdiRemote), (0x20, .haHitmeHitRspfwdiLocal), (0x40, .haHitmeHitRspfwds),
    (0x80, .haHitmeHitRsp)]),
  (evHaHitmeHitPvBitsSet, [(0x0F, .haHitmeHitPvBitsSetHom), (0xFF, .haHitmeHitPvBitsSetAll),
    (0x01, .haHitmeHitPvBitsSetReadOrInvitoe), (0x02, .haHitmeHitPvBitsSetWbmtoi),
    (0x04, .haHitmeHitPvBitsSetAckcnfltwbi), (0x08, .haHitmeHitPvBitsSetWbmtoeOrS),
    (0x10, .haHitmeHitPvBitsSetRspfwdiRemote), (0x20, .haHitmeHitPvBitsSetRspfwdiLocal),
    (0x40, .haHitmeHitPvBitsSetRspfwds), (0x80, .haHitmeHitPvBitsSetRsp)])]

/-- The events of the HA and the constructor of each of their rows. -/
def haEvents : EventTable .ha :=
  haEvents0 ++ haEvents1

/-- The events of the IMC and the constructor of each of their rows. Piece 1 of 2. -/
def imcEvents0 : EventTable .imc := [
  (evImcDclockticks, [(0x00, .imcDclockticks)]),
  (evImcActCount, [(0x01, .imcActCountRd), (0x02, .imcActCountWr), (0x08, .imcActCountByp)]),
  (evImcPreCount, [(0x01, .imcPreCountPageMiss), (0x02, .imcPreCountPageClose), (0x04, .imcPreCountRd),
    (0x08, .imcPreCountWr), (0x10, .imcPreCountByp)]),
  (evImcCasCount, [(0x03, .imcCasCountRd), (0x0C, .imcCasCountWr), (0x0F, .imcCasCountAll),
    (0x01, .imcCasCountRdReg), (0x02, .imcCasCountRdUnderfill), (0x04, .imcCasCountWrWmm),
    (0x08, .imcCasCountWrRmm), (0x10, .imcCasCountRdWmm), (0x20, .imcCasCountRdRmm)]),
  (evImcDramRefresh, [(0x02, .imcDramRefreshPanic), (0x04, .imcDramRefreshHigh)]),
  (evImcDramPreAll, [(0x00, .imcDramPreAll)]),
  (evImcMajorModes, [(0x01, .imcMajorModesRead), (0x02, .imcMajorModesWrite), (0x04, .imcMajorModesPartial),
    (0x08, .imcMajorModesIsoch)]),
  (evImcPreemption, [(0x01, .imcPreemptionRdPreemptRd), (0x02, .imcPreemptionRdPreemptWr)]),
  (evImcEccCorrectableErrors, [(0x00, .imcEccCorrectableErrors)]),
  (evImcRpqInserts, [(0x00, .imcRpqInserts)]),
  (evImcRpqCyclesNe, [(0x00, .imcRpqCyclesNe)]),
  (evImcWpqCyclesNe, [(0x00, .imcWpqCyclesNe)]),
  (evImcWpqCyclesFull, [(0x00, .imcWpqCyclesFull)]),
  (evImcWpqReadHit, [(0x00, .imcWpqReadHit)]),
  (evImcWpqWriteHit, [(0x00, .imcWpqWriteHit)]),
  (evImcPowerThrottleCycles, [(0x01, .imcPowerThrottleCyclesRank0), (0x02, .imcPowerThrottleCyclesRank1),
    (0x04, .imcPowerThrottleCyclesRank2), (0x08, .imcPowerThrottleCyclesRank3),
    (0x10, .imcPowerThrottleCyclesRank4), (0x20, .imcPowerThrottleCyclesRank5),
    (0x40, .imcPowerThrottleCyclesRank6), (0x80, .imcPowerThrottleCyclesRank7)]),
  (evImcPowerPcuThrottling, [(0x00, .imcPowerPcuThrottling)]),
  (evImcPowerSelfRefresh, [(0x00, .imcPowerSelfRefresh)]),
  (evImcPowerCkeCycles, [(0x01, .imcPowerCkeCyclesRank0), (0x02, .imcPowerCkeCyclesRank1),
    (0x04, .imcPowerCkeCyclesRank2), (0x08, .imcPowerCkeCyclesRank3), (0x10, .imcPowerCkeCyclesRank4),
    (0x20, .imcPowerCkeCyclesRank5), (0x40, .imcPowerCkeCyclesRank6), (0x80, .imcPowerCkeCyclesRank7)]),
  (evImcPowerChannelDlloff, [(0x00, .imcPowerChannelDlloff)]),
  (evImcPowerChannelPpd, [(0x00, .imcPowerChannelPpd)]),
  (evImcPowerCriticalThrottleCycles, [(0x00, .imcPowerCriticalThrottleCycles)]),
  (evImcVmseWrPush, [(0x01, .imcVmseWrPushWmm), (0x02, .imcVmseWrPushRmm)]),
  (evImcVmseMxbWrOccupancy, [(0x00, .imcVmseMxbWrOccupancy)]),
  (evImcRdCasPrio, [(0x01, .imcRdCasPrioLow), (0x02, .imcRdCasPrioMed), (0x04, .imcRdCasPrioHigh),
    (0x08, .imcRdCasPrioPanic)]),
  (evImcBypCmds, [(0x01, .imcBypCmdsAct), (0x02, .imcBypCmdsCas), (0x04, .imcBypCmdsPre)]),
  (evImcRdCasRank0, [(0x00, .imcRdCasRank0Bank0), (0x01, .imcRdCasRank0Bank1), (0x02, .imcRdCasRank0Bank2),
    (0x03, .imcRdCasRank0Bank3), (0x04, .imcRdCasRank0Bank4), (0x05, .imcRdCasRank0Bank5),
    (0x06, .imcRdCasRank0Bank6), (0x07, .imcRdCasRank0Bank7), (0x08, .imcRdCasRank0Bank8),
    (0x09, .imcRdCasRank0Bank9), (0x0A, .imcRdCasRank0Bank10), (0x0B, .imcRdCasRank0Bank11),
    (0x0C, .imcRdCasRank0Bank12), (0x0D, .imcRdCasRank0Bank13), (0x0E, .imcRdCasRank0Bank14),
    (0x0F, .imcRdCasRank0Bank15), (0x10, .imcRdCasRank0Allbanks), (0x11, .imcRdCasRank0Bankg0),
    (0x12, .imcRdCasRank0Bankg1), (0x13, .imcRdCasRank0Bankg2), (0x14, .imcRdCasRank0Bankg3)]),
  (evImcRdCasRank1, [(0x00, .imcRdCasRank1Bank0), (0x01, .imcRdCasRank1Bank1), (0x02, .imcRdCasRank1Bank2),
    (0x03, .imcRdCasRank1Bank3), (0x04, .imcRdCasRank1Bank4), (0x05, .imcRdCasRank1Bank5),
    (0x06, .imcRdCasRank1Bank6), (0x07, .imcRdCasRank1Bank7), (0x08, .imcRdCasRank1Bank8),
    (0x09, .imcRdCasRank1Bank9), (0x0A, .imcRdCasRank1Bank10), (0x0B, .imcRdCasRank1Bank11),
    (0x0C, .imcRdCasRank1Bank12), (0x0D, .imcRdCasRank1Bank13), (0x0E, .imcRdCasRank1Bank14),
    (0x0F, .imcRdCasRank1Bank15), (0x10, .imcRdCasRank1Allbanks), (0x11, .imcRdCasRank1Bankg0),
    (0x12, .imcRdCasRank1Bankg1), (0x13, .imcRdCasRank1Bankg2), (0x14, .imcRdCasRank1Bankg3)]),
  (evImcRdCasRank2, [(0x00, .imcRdCasRank2Bank0)]),
  (evImcRdCasRank4, [(0x00, .imcRdCasRank4Bank0), (0x01, .imcRdCasRank4Bank1), (0x02, .imcRdCasRank4Bank2),
    (0x03, .imcRdCasRank4Bank3), (0x04, .imcRdCasRank4Bank4), (0x05, .imcRdCasRank4Bank5),
    (0x06, .imcRdCasRank4Bank6), (0x07, .imcRdCasRank4Bank7), (0x08, .imcRdCasRank4Bank8),
    (0x09, .imcRdCasRank4Bank9), (0x0A, .imcRdCasRank4Bank10), (0x0B, .imcRdCasRank4Bank11),
    (0x0C, .imcRdCasRank4Bank12), (0x0D, .imcRdCasRank4Bank13), (0x0E, .imcRdCasRank4Bank14),
    (0x0F, .imcRdCasRank4Bank15), (0x10, .imcRdCasRank4Allbanks), (0x11, .imcRdCasRank4Bankg0),
    (0x12, .imcRdCasRank4Bankg1), (0x13, .imcRdCasRank4Bankg2), (0x14, .imcRdCasRank4Bankg3)])]

/-- The events of the IMC and the constructor of each of their rows. Piece 2 of 2. -/
def imcEvents1 : EventTable .imc := [
  (evImcRdCasRank5, [(0x00, .imcRdCasRank5Bank0), (0x01, .imcRdCasRank5Bank1), (0x02, .imcRdCasRank5Bank2),
    (0x03, .imcRdCasRank5Bank3), (0x04, .imcRdCasRank5Bank4), (0x05, .imcRdCasRank5Bank5),
    (0x06, .imcRdCasRank5Bank6), (0x07, .imcRdCasRank5Bank7), (0x08, .imcRdCasRank5Bank8),
    (0x09, .imcRdCasRank5Bank9), (0x0A, .imcRdCasRank5Bank10), (0x0B, .imcRdCasRank5Bank11),
    (0x0C, .imcRdCasRank5Bank12), (0x0D, .imcRdCasRank5Bank13), (0x0E, .imcRdCasRank5Bank14),
    (0x0F, .imcRdCasRank5Bank15), (0x10, .imcRdCasRank5Allbanks), (0x11, .imcRdCasRank5Bankg0),
    (0x12, .imcRdCasRank5Bankg1), (0x13, .imcRdCasRank5Bankg2), (0x14, .imcRdCasRank5Bankg3)]),
  (evImcRdCasRank6, [(0x00, .imcRdCasRank6Bank0), (0x01, .imcRdCasRank6Bank1), (0x02, .imcRdCasRank6Bank2),
    (0x03, .imcRdCasRank6Bank3), (0x04, .imcRdCasRank6Bank4), (0x05, .imcRdCasRank6Bank5),
    (0x06, .imcRdCasRank6Bank6), (0x07, .imcRdCasRank6Bank7), (0x08, .imcRdCasRank6Bank8),
    (0x09, .imcRdCasRank6Bank9), (0x0A, .imcRdCasRank6Bank10), (0x0B, .imcRdCasRank6Bank11),
    (0x0C, .imcRdCasRank6Bank12), (0x0D, .imcRdCasRank6Bank13), (0x0E, .imcRdCasRank6Bank14),
    (0x0F, .imcRdCasRank6Bank15), (0x10, .imcRdCasRank6Allbanks), (0x11, .imcRdCasRank6Bankg0),
    (0x12, .imcRdCasRank6Bankg1), (0x13, .imcRdCasRank6Bankg2), (0x14, .imcRdCasRank6Bankg3)]),
  (evImcRdCasRank7, [(0x00, .imcRdCasRank7Bank0), (0x01, .imcRdCasRank7Bank1), (0x02, .imcRdCasRank7Bank2),
    (0x03, .imcRdCasRank7Bank3), (0x04, .imcRdCasRank7Bank4), (0x05, .imcRdCasRank7Bank5),
    (0x06, .imcRdCasRank7Bank6), (0x07, .imcRdCasRank7Bank7), (0x08, .imcRdCasRank7Bank8),
    (0x09, .imcRdCasRank7Bank9), (0x0A, .imcRdCasRank7Bank10), (0x0B, .imcRdCasRank7Bank11),
    (0x0C, .imcRdCasRank7Bank12), (0x0D, .imcRdCasRank7Bank13), (0x0E, .imcRdCasRank7Bank14),
    (0x0F, .imcRdCasRank7Bank15), (0x10, .imcRdCasRank7Allbanks), (0x11, .imcRdCasRank7Bankg0),
    (0x12, .imcRdCasRank7Bankg1), (0x13, .imcRdCasRank7Bankg2), (0x14, .imcRdCasRank7Bankg3)]),
  (evImcWrCasRank0, [(0x00, .imcWrCasRank0Bank0), (0x01, .imcWrCasRank0Bank1), (0x02, .imcWrCasRank0Bank2),
    (0x03, .imcWrCasRank0Bank3), (0x04, .imcWrCasRank0Bank4), (0x05, .imcWrCasRank0Bank5),
    (0x06, .imcWrCasRank0Bank6), (0x07, .imcWrCasRank0Bank7), (0x08, .imcWrCasRank0Bank8),
    (0x09, .imcWrCasRank0Bank9), (0x0A, .imcWrCasRank0Bank10), (0x0B, .imcWrCasRank0Bank11),
    (0x0C, .imcWrCasRank0Bank12), (0x0D, .imcWrCasRank0Bank13), (0x0E, .imcWrCasRank0Bank14),
    (0x0F, .imcWrCasRank0Bank15), (0x10, .imcWrCasRank0Allbanks), (0x11, .imcWrCasRank0Bankg0),
    (0x12, .imcWrCasRank0Bankg1), (0x13, .imcWrCasRank0Bankg2), (0x14, .imcWrCasRank0Bankg3)]),
  (evImcWrCasRank1, [(0x00, .imcWrCasRank1Bank0), (0x01, .imcWrCasRank1Bank1), (0x02, .imcWrCasRank1Bank2),
    (0x03, .imcWrCasRank1Bank3), (0x04, .imcWrCasRank1Bank4), (0x05, .imcWrCasRank1Bank5),
    (0x06, .imcWrCasRank1Bank6), (0x07, .imcWrCasRank1Bank7), (0x08, .imcWrCasRank1Bank8),
    (0x09, .imcWrCasRank1Bank9), (0x0A, .imcWrCasRank1Bank10), (0x0B, .imcWrCasRank1Bank11),
    (0x0C, .imcWrCasRank1Bank12), (0x0D, .imcWrCasRank1Bank13), (0x0E, .imcWrCasRank1Bank14),
    (0x0F, .imcWrCasRank1Bank15), (0x10, .imcWrCasRank1Allbanks), (0x11, .imcWrCasRank1Bankg0),
    (0x12, .imcWrCasRank1Bankg1), (0x13, .imcWrCasRank1Bankg2), (0x14, .imcWrCasRank1Bankg3)]),
  (evImcWrCasRank2, [(0x00, .imcWrCasRank2)]),
  (evImcWrCasRank3, [(0x00, .imcWrCasRank3)]),
  (evImcWrCasRank4, [(0x00, .imcWrCasRank4Bank0), (0x01, .imcWrCasRank4Bank1), (0x02, .imcWrCasRank4Bank2),
    (0x03, .imcWrCasRank4Bank3), (0x04, .imcWrCasRank4Bank4), (0x05, .imcWrCasRank4Bank5),
    (0x06, .imcWrCasRank4Bank6), (0x07, .imcWrCasRank4Bank7), (0x08, .imcWrCasRank4Bank8),
    (0x09, .imcWrCasRank4Bank9), (0x0A, .imcWrCasRank4Bank10), (0x0B, .imcWrCasRank4Bank11),
    (0x0C, .imcWrCasRank4Bank12), (0x0D, .imcWrCasRank4Bank13), (0x0E, .imcWrCasRank4Bank14),
    (0x0F, .imcWrCasRank4Bank15), (0x10, .imcWrCasRank4Allbanks), (0x11, .imcWrCasRank4Bankg0),
    (0x12, .imcWrCasRank4Bankg1), (0x13, .imcWrCasRank4Bankg2), (0x14, .imcWrCasRank4Bankg3)]),
  (evImcWrCasRank5, [(0x00, .imcWrCasRank5Bank0), (0x01, .imcWrCasRank5Bank1), (0x02, .imcWrCasRank5Bank2),
    (0x03, .imcWrCasRank5Bank3), (0x04, .imcWrCasRank5Bank4), (0x05, .imcWrCasRank5Bank5),
    (0x06, .imcWrCasRank5Bank6), (0x07, .imcWrCasRank5Bank7), (0x08, .imcWrCasRank5Bank8),
    (0x09, .imcWrCasRank5Bank9), (0x0A, .imcWrCasRank5Bank10), (0x0B, .imcWrCasRank5Bank11),
    (0x0C, .imcWrCasRank5Bank12), (0x0D, .imcWrCasRank5Bank13), (0x0E, .imcWrCasRank5Bank14),
    (0x0F, .imcWrCasRank5Bank15), (0x10, .imcWrCasRank5Allbanks), (0x11, .imcWrCasRank5Bankg0),
    (0x12, .imcWrCasRank5Bankg1), (0x13, .imcWrCasRank5Bankg2), (0x14, .imcWrCasRank5Bankg3)]),
  (evImcWrCasRank6, [(0x00, .imcWrCasRank6Bank0), (0x01, .imcWrCasRank6Bank1), (0x02, .imcWrCasRank6Bank2),
    (0x03, .imcWrCasRank6Bank3), (0x04, .imcWrCasRank6Bank4), (0x05, .imcWrCasRank6Bank5),
    (0x06, .imcWrCasRank6Bank6), (0x07, .imcWrCasRank6Bank7), (0x08, .imcWrCasRank6Bank8),
    (0x09, .imcWrCasRank6Bank9), (0x0A, .imcWrCasRank6Bank10), (0x0B, .imcWrCasRank6Bank11),
    (0x0C, .imcWrCasRank6Bank12), (0x0D, .imcWrCasRank6Bank13), (0x0E, .imcWrCasRank6Bank14),
    (0x0F, .imcWrCasRank6Bank15), (0x10, .imcWrCasRank6Allbanks), (0x11, .imcWrCasRank6Bankg0),
    (0x12, .imcWrCasRank6Bankg1), (0x13, .imcWrCasRank6Bankg2), (0x14, .imcWrCasRank6Bankg3)]),
  (evImcWrCasRank7, [(0x00, .imcWrCasRank7Bank0), (0x01, .imcWrCasRank7Bank1), (0x02, .imcWrCasRank7Bank2),
    (0x03, .imcWrCasRank7Bank3), (0x04, .imcWrCasRank7Bank4), (0x05, .imcWrCasRank7Bank5),
    (0x06, .imcWrCasRank7Bank6), (0x07, .imcWrCasRank7Bank7), (0x08, .imcWrCasRank7Bank8),
    (0x09, .imcWrCasRank7Bank9), (0x0A, .imcWrCasRank7Bank10), (0x0B, .imcWrCasRank7Bank11),
    (0x0C, .imcWrCasRank7Bank12), (0x0D, .imcWrCasRank7Bank13), (0x0E, .imcWrCasRank7Bank14),
    (0x0F, .imcWrCasRank7Bank15), (0x10, .imcWrCasRank7Allbanks), (0x11, .imcWrCasRank7Bankg0),
    (0x12, .imcWrCasRank7Bankg1), (0x13, .imcWrCasRank7Bankg2), (0x14, .imcWrCasRank7Bankg3)]),
  (evImcWmmToRmm, [(0x01, .imcWmmToRmmLowThresh), (0x02, .imcWmmToRmmStarve), (0x04, .imcWmmToRmmVmseRetry)]),
  (evImcWrongMm, [(0x00, .imcWrongMm)])]

/-- The events of the IMC and the constructor of each of their rows. -/
def imcEvents : EventTable .imc :=
  imcEvents0 ++ imcEvents1

/-- The events of the IRP and the constructor of each of their rows. -/
def irpEvents : EventTable .irp := [
  (evIrpClockticks, [(0x00, .irpClockticks)]),
  (evIrpRxRBlDrsInserts, [(0x00, .irpRxRBlDrsInserts)]),
  (evIrpRxRBlNcbInserts, [(0x00, .irpRxRBlNcbInserts)]),
  (evIrpRxRBlNcsInserts, [(0x00, .irpRxRBlNcsInserts)]),
  (evIrpRxRBlDrsCyclesFull, [(0x00, .irpRxRBlDrsCyclesFull)]),
  (evIrpRxRBlNcbCyclesFull, [(0x00, .irpRxRBlNcbCyclesFull)]),
  (evIrpRxRBlNcsCyclesFull, [(0x00, .irpRxRBlNcsCyclesFull)]),
  (evIrpRxRBlDrsOccupancy, [(0x00, .irpRxRBlDrsOccupancy)]),
  (evIrpRxRBlNcbOccupancy, [(0x00, .irpRxRBlNcbOccupancy)]),
  (evIrpRxRBlNcsOccupancy, [(0x00, .irpRxRBlNcsOccupancy)]),
  (evIrpRxRAkInserts, [(0x00, .irpRxRAkInserts)]),
  (evIrpTxRRequestOccupancy, [(0x00, .irpTxRRequestOccupancy)]),
  (evIrpTxRDataInsertsNcb, [(0x00, .irpTxRDataInsertsNcb)]),
  (evIrpTxRDataInsertsNcs, [(0x00, .irpTxRDataInsertsNcs)]),
  (evIrpCacheTotalOccupancy, [(0x01, .irpCacheTotalOccupancyAny), (0x02, .irpCacheTotalOccupancySource)]),
  (evIrpCoherentOps, [(0x01, .irpCoherentOpsPcirdcur), (0x02, .irpCoherentOpsCrd), (0x04, .irpCoherentOpsDrd),
    (0x08, .irpCoherentOpsRfo), (0x10, .irpCoherentOpsPcitom), (0x20, .irpCoherentOpsPcidcahint),
    (0x40, .irpCoherentOpsWbmtoi), (0x80, .irpCoherentOpsClflush)]),
  (evIrpMisc0, [(0x01, .irpMisc0FastReq), (0x02, .irpMisc0FastRej), (0x04, .irpMisc02ndRdInsert),
    (0x08, .irpMisc02ndWrInsert), (0x10, .irpMisc02ndAtomicInsert), (0x20, .irpMisc0FastXfer),
    (0x40, .irpMisc0PfAckHint), (0x80, .irpMisc0PfTimeout)]),
  (evIrpMisc1, [(0x01, .irpMisc1SlowI), (0x02, .irpMisc1SlowS), (0x04, .irpMisc1SlowE), (0x08, .irpMisc1SlowM),
    (0x10, .irpMisc1LostFwd), (0x20, .irpMisc1SecRcvdInvld), (0x40, .irpMisc1SecRcvdVld),
    (0x80, .irpMisc1DataThrottle)]),
  (evIrpTransactions, [(0x01, .irpTransactionsReads), (0x02, .irpTransactionsWrites),
    (0x04, .irpTransactionsRdPref), (0x08, .irpTransactionsWrPref), (0x10, .irpTransactionsAtomic),
    (0x20, .irpTransactionsOther), (0x40, .irpTransactionsOrderingq)]),
  (evIrpSnoopResp, [(0x01, .irpSnoopRespMiss), (0x02, .irpSnoopRespHitI), (0x04, .irpSnoopRespHitEs),
    (0x08, .irpSnoopRespHitM), (0x10, .irpSnoopRespSnpcode), (0x20, .irpSnoopRespSnpdata),
    (0x40, .irpSnoopRespSnpinv)]),
  (evIrpTxRAdStallCreditCycles, [(0x00, .irpTxRAdStallCreditCycles)]),
  (evIrpTxRBlStallCreditCycles, [(0x00, .irpTxRBlStallCreditCycles)])]

/-- The events of the PCU and the constructor of each of their rows. Piece 1 of 2. -/
def pcuEvents0 : EventTable .pcu := [
  (evPcuClockticks, [(0x00, .pcuClockticks)]),
  (evPcuFreqMaxLimitThermalCycles, [(0x00, .pcuFreqMaxLimitThermalCycles)]),
  (evPcuFreqMaxPowerCycles, [(0x00, .pcuFreqMaxPowerCycles)]),
  (evPcuFreqMaxOsCycles, [(0x00, .pcuFreqMaxOsCycles)]),
  (evPcuProchotInternalCycles, [(0x00, .pcuProchotInternalCycles)]),
  (evPcuProchotExternalCycles, [(0x00, .pcuProchotExternalCycles)]),
  (evPcuFreqBand0Cycles, [(0x00, .pcuFreqBand0Cycles)]),
  (evPcuFreqBand1Cycles, [(0x00, .pcuFreqBand1Cycles)]),
  (evPcuFreqBand2Cycles, [(0x00, .pcuFreqBand2Cycles)]),
  (evPcuFreqBand3Cycles, [(0x00, .pcuFreqBand3Cycles)]),
  (evPcuPkgResidencyC0Cycles, [(0x00, .pcuPkgResidencyC0Cycles)]),
  (evPcuPkgResidencyC2eCycles, [(0x00, .pcuPkgResidencyC2eCycles)]),
  (evPcuPkgResidencyC3Cycles, [(0x00, .pcuPkgResidencyC3Cycles)]),
  (evPcuPkgResidencyC6Cycles, [(0x00, .pcuPkgResidencyC6Cycles)]),
  (evPcuPkgResidencyC7Cycles, [(0x00, .pcuPkgResidencyC7Cycles)]),
  (evPcuMemoryPhaseSheddingCycles, [(0x00, .pcuMemoryPhaseSheddingCycles)]),
  (evPcuDemotionsCore0, [(0x00, .pcuDemotionsCore0)]),
  (evPcuDemotionsCore1, [(0x00, .pcuDemotionsCore1)]),
  (evPcuDemotionsCore2, [(0x00, .pcuDemotionsCore2)]),
  (evPcuDemotionsCore3, [(0x00, .pcuDemotionsCore3)]),
  (evPcuDemotionsCore4, [(0x00, .pcuDemotionsCore4)]),
  (evPcuDemotionsCore5, [(0x00, .pcuDemotionsCore5)]),
  (evPcuDemotionsCore6, [(0x00, .pcuDemotionsCore6)]),
  (evPcuDemotionsCore7, [(0x00, .pcuDemotionsCore7)]),
  (evPcuDemotionsCore8, [(0x00, .pcuDemotionsCore8)]),
  (evPcuDemotionsCore9, [(0x00, .pcuDemotionsCore9)]),
  (evPcuDemotionsCore10, [(0x00, .pcuDemotionsCore10)]),
  (evPcuDemotionsCore11, [(0x00, .pcuDemotionsCore11)]),
  (evPcuDemotionsCore12, [(0x00, .pcuDemotionsCore12)]),
  (evPcuDemotionsCore13, [(0x00, .pcuDemotionsCore13)])]

/-- The events of the PCU and the constructor of each of their rows. Piece 2 of 2. -/
def pcuEvents1 : EventTable .pcu := [
  (evPcuDemotionsCore14, [(0x00, .pcuDemotionsCore14)]),
  (evPcuDemotionsCore15, [(0x00, .pcuDemotionsCore15)]),
  (evPcuDemotionsCore16, [(0x00, .pcuDemotionsCore16)]),
  (evPcuDemotionsCore17, [(0x00, .pcuDemotionsCore17)]),
  (evPcuVrHotCycles, [(0x00, .pcuVrHotCycles)]),
  (evPcuPkgResidencyC1eCycles, [(0x00, .pcuPkgResidencyC1eCycles)]),
  (evPcuCore0TransitionCycles, [(0x00, .pcuCore0TransitionCycles)]),
  (evPcuCore1TransitionCycles, [(0x00, .pcuCore1TransitionCycles)]),
  (evPcuCore2TransitionCycles, [(0x00, .pcuCore2TransitionCycles)]),
  (evPcuCore3TransitionCycles, [(0x00, .pcuCore3TransitionCycles)]),
  (evPcuCore4TransitionCycles, [(0x00, .pcuCore4TransitionCycles)]),
  (evPcuCore5TransitionCycles, [(0x00, .pcuCore5TransitionCycles)]),
  (evPcuCore6TransitionCycles, [(0x00, .pcuCore6TransitionCycles)]),
  (evPcuCore7TransitionCycles, [(0x00, .pcuCore7TransitionCycles)]),
  (evPcuCore8TransitionCycles, [(0x00, .pcuCore8TransitionCycles)]),
  (evPcuCore9TransitionCycles, [(0x00, .pcuCore9TransitionCycles)]),
  (evPcuCore10TransitionCycles, [(0x00, .pcuCore10TransitionCycles)]),
  (evPcuCore11TransitionCycles, [(0x00, .pcuCore11TransitionCycles)]),
  (evPcuCore12TransitionCycles, [(0x00, .pcuCore12TransitionCycles)]),
  (evPcuCore13TransitionCycles, [(0x00, .pcuCore13TransitionCycles)]),
  (evPcuCore14TransitionCycles, [(0x00, .pcuCore14TransitionCycles)]),
  (evPcuCore15TransitionCycles, [(0x00, .pcuCore15TransitionCycles)]),
  (evPcuCore16TransitionCycles, [(0x00, .pcuCore16TransitionCycles)]),
  (evPcuCore17TransitionCycles, [(0x00, .pcuCore17TransitionCycles)]),
  (evPcuTotalTransitionCycles, [(0x00, .pcuTotalTransitionCycles)]),
  (evPcuFreqMinIoPCycles, [(0x00, .pcuFreqMinIoPCycles)]),
  (evPcuFreqTransCycles, [(0x00, .pcuFreqTransCycles)]),
  (evPcuUfsTransitionsRingGv, [(0x00, .pcuUfsTransitionsRingGv)]),
  (evPcuPowerStateOccupancy, [(0x40, .pcuPowerStateOccupancyCoresC0), (0x80, .pcuPowerStateOccupancyCoresC3),
    (0xC0, .pcuPowerStateOccupancyCoresC6)])]

/-- The events of the PCU and the constructor of each of their rows. -/
def pcuEvents : EventTable .pcu :=
  pcuEvents0 ++ pcuEvents1

/-- The events of the QPI and the constructor of each of their rows. Piece 1 of 2. -/
def qpiEvents0 : EventTable .qpi := [
  (evQpiTxLFlitsG0, [(0x02, .qpiTxLFlitsG0Data), (0x04, .qpiTxLFlitsG0NonData)]),
  (evQpiTxLInserts, [(0x00, .qpiTxLInserts)]),
  (evQpiTxLBypassed, [(0x00, .qpiTxLBypassed)]),
  (evQpiTxLCyclesNe, [(0x00, .qpiTxLCyclesNe)]),
  (evQpiTxLOccupancy, [(0x00, .qpiTxLOccupancy)]),
  (evQpiRxLInserts, [(0x00, .qpiRxLInserts)]),
  (evQpiRxLBypassed, [(0x00, .qpiRxLBypassed)]),
  (evQpiRxLCyclesNe, [(0x00, .qpiRxLCyclesNe)]),
  (evQpiRxLOccupancy, [(0x00, .qpiRxLOccupancy)]),
  (evQpiTxL0PowerCycles, [(0x00, .qpiTxL0PowerCycles)]),
  (evQpiTxL0PPowerCycles, [(0x00, .qpiTxL0PPowerCycles)]),
  (evQpiRxL0PowerCycles, [(0x00, .qpiRxL0PowerCycles)]),
  (evQpiRxL0PPowerCycles, [(0x00, .qpiRxL0PPowerCycles)]),
  (evQpiL1PowerCycles, [(0x00, .qpiL1PowerCycles)]),
  (evQpiDirect2core, [(0x01, .qpiDirect2coreSuccessRbtHit), (0x02, .qpiDirect2coreFailureCredits),
    (0x04, .qpiDirect2coreFailureRbtHit), (0x08, .qpiDirect2coreFailureCreditsRbt),
    (0x10, .qpiDirect2coreFailureMiss), (0x20, .qpiDirect2coreFailureCreditsMiss),
    (0x40, .qpiDirect2coreFailureRbtMiss), (0x80, .qpiDirect2coreFailureCreditsRbtMiss)]),
  (evQpiClockticks, [(0x00, .qpiClockticks)]),
  (evQpiTxLFlitsG1, [(0x01, .qpiTxLFlitsG1Snp), (0x02, .qpiTxLFlitsG1HomReq), (0x04, .qpiTxLFlitsG1HomNonreq),
    (0x06, .qpiTxLFlitsG1Hom), (0x08, .qpiTxLFlitsG1DrsData), (0x10, .qpiTxLFlitsG1DrsNondata),
    (0x18, .qpiTxLFlitsG1Drs)]),
  (evQpiTxLFlitsG2, [(0x01, .qpiTxLFlitsG2NdrAd), (0x02, .qpiTxLFlitsG2NdrAk), (0x04, .qpiTxLFlitsG2NcbData),
    (0x08, .qpiTxLFlitsG2NcbNondata), (0x0C, .qpiTxLFlitsG2Ncb), (0x10, .qpiTxLFlitsG2Ncs)]),
  (evQpiRxLFlitsG1, [(0x01, .qpiRxLFlitsG1Snp), (0x02, .qpiRxLFlitsG1HomReq), (0x04, .qpiRxLFlitsG1HomNonreq),
    (0x06, .qpiRxLFlitsG1Hom), (0x08, .qpiRxLFlitsG1DrsData), (0x10, .qpiRxLFlitsG1DrsNondata),
    (0x18, .qpiRxLFlitsG1Drs)]),
  (evQpiRxLFlitsG2, [(0x01, .qpiRxLFlitsG2NdrAd), (0x02, .qpiRxLFlitsG2NdrAk), (0x04, .qpiRxLFlitsG2NcbData),
    (0x08, .qpiRxLFlitsG2NcbNondata), (0x0C, .qpiRxLFlitsG2Ncb), (0x10, .qpiRxLFlitsG2Ncs)]),
  (evQpiRxLInsertsDrs, [(0x01, .qpiRxLInsertsDrsVn0), (0x02, .qpiRxLInsertsDrsVn1)]),
  (evQpiRxLInsertsNcb, [(0x01, .qpiRxLInsertsNcbVn0), (0x02, .qpiRxLInsertsNcbVn1)]),
  (evQpiRxLInsertsNcs, [(0x01, .qpiRxLInsertsNcsVn0), (0x02, .qpiRxLInsertsNcsVn1)]),
  (evQpiRxLInsertsHom, [(0x01, .qpiRxLInsertsHomVn0), (0x02, .qpiRxLInsertsHomVn1)]),
  (evQpiRxLInsertsSnp, [(0x01, .qpiRxLInsertsSnpVn0), (0x02, .qpiRxLInsertsSnpVn1)]),
  (evQpiRxLInsertsNdr, [(0x01, .qpiRxLInsertsNdrVn0), (0x02, .qpiRxLInsertsNdrVn1)]),
  (evQpiRxLOccupancyDrs, [(0x01, .qpiRxLOccupancyDrsVn0), (0x02, .qpiRxLOccupancyDrsVn1)]),
  (evQpiRxLOccupancyNcb, [(0x01, .qpiRxLOccupancyNcbVn0), (0x02, .qpiRxLOccupancyNcbVn1)]),
  (evQpiRxLOccupancyNcs, [(0x01, .qpiRxLOccupancyNcsVn0), (0x02, .qpiRxLOccupancyNcsVn1)]),
  (evQpiRxLOccupancyHom, [(0x01, .qpiRxLOccupancyHomVn0), (0x02, .qpiRxLOccupancyHomVn1)])]

/-- The events of the QPI and the constructor of each of their rows. Piece 2 of 2. -/
def qpiEvents1 : EventTable .qpi := [
  (evQpiRxLOccupancySnp, [(0x01, .qpiRxLOccupancySnpVn0), (0x02, .qpiRxLOccupancySnpVn1)]),
  (evQpiRxLOccupancyNdr, [(0x01, .qpiRxLOccupancyNdrVn0), (0x02, .qpiRxLOccupancyNdrVn1)]),
  (evQpiVnaCreditReturnOccupancy, [(0x00, .qpiVnaCreditReturnOccupancy)]),
  (evQpiVnaCreditReturns, [(0x00, .qpiVnaCreditReturns)]),
  (evQpiRxLCreditsConsumedVna, [(0x00, .qpiRxLCreditsConsumedVna)]),
  (evQpiRxLCreditsConsumedVn0, [(0x01, .qpiRxLCreditsConsumedVn0Drs), (0x02, .qpiRxLCreditsConsumedVn0Ncb),
    (0x04, .qpiRxLCreditsConsumedVn0Ncs), (0x08, .qpiRxLCreditsConsumedVn0Hom),
    (0x10, .qpiRxLCreditsConsumedVn0Snp), (0x20, .qpiRxLCreditsConsumedVn0Ndr)]),
  (evQpiTxRBlDrsCreditOccupancy, [(0x01, .qpiTxRBlDrsCreditOccupancyVn0), (0x02, .qpiTxRBlDrsCreditOccupancyVn1),
    (0x04, .qpiTxRBlDrsCreditOccupancyVnShr)]),
  (evQpiTxRBlNcbCreditOccupancy, [(0x01, .qpiTxRBlNcbCreditOccupancyVn0), (0x02, .qpiTxRBlNcbCreditOccupancyVn1)]),
  (evQpiTxRBlNcsCreditOccupancy, [(0x01, .qpiTxRBlNcsCreditOccupancyVn0), (0x02, .qpiTxRBlNcsCreditOccupancyVn1)]),
  (evQpiTxRAdHomCreditOccupancy, [(0x01, .qpiTxRAdHomCreditOccupancyVn0), (0x02, .qpiTxRAdHomCreditOccupancyVn1)]),
  (evQpiTxRAdSnpCreditOccupancy, [(0x01, .qpiTxRAdSnpCreditOccupancyVn0), (0x02, .qpiTxRAdSnpCreditOccupancyVn1)]),
  (evQpiTxRAdNdrCreditOccupancy, [(0x01, .qpiTxRAdNdrCreditOccupancyVn0), (0x02, .qpiTxRAdNdrCreditOccupancyVn1)]),
  (evQpiTxRAkNdrCreditOccupancy, [(0x00, .qpiTxRAkNdrCreditOccupancy)]),
  (evQpiTxRAdHomCreditAcquired, [(0x01, .qpiTxRAdHomCreditAcquiredVn0), (0x02, .qpiTxRAdHomCreditAcquiredVn1)]),
  (evQpiTxRAdSnpCreditAcquired, [(0x01, .qpiTxRAdSnpCreditAcquiredVn0), (0x02, .qpiTxRAdSnpCreditAcquiredVn1)]),
  (evQpiTxRAdNdrCreditAcquired, [(0x01, .qpiTxRAdNdrCreditAcquiredVn0), (0x02, .qpiTxRAdNdrCreditAcquiredVn1)]),
  (evQpiTxRAkNdrCreditAcquired, [(0x00, .qpiTxRAkNdrCreditAcquired)]),
  (evQpiTxRBlDrsCreditAcquired, [(0x01, .qpiTxRBlDrsCreditAcquiredVn0), (0x02, .qpiTxRBlDrsCreditAcquiredVn1),
    (0x04, .qpiTxRBlDrsCreditAcquiredVnShr)]),
  (evQpiTxRBlNcbCreditAcquired, [(0x01, .qpiTxRBlNcbCreditAcquiredVn0), (0x02, .qpiTxRBlNcbCreditAcquiredVn1)]),
  (evQpiTxRBlNcsCreditAcquired, [(0x01, .qpiTxRBlNcsCreditAcquiredVn0), (0x02, .qpiTxRBlNcsCreditAcquiredVn1)]),
  (evQpiCtoCount, [(0x00, .qpiCtoCount)]),
  (evQpiRxLCreditsConsumedVn1, [(0x01, .qpiRxLCreditsConsumedVn1Drs), (0x02, .qpiRxLCreditsConsumedVn1Ncb),
    (0x04, .qpiRxLCreditsConsumedVn1Ncs), (0x08, .qpiRxLCreditsConsumedVn1Hom),
    (0x10, .qpiRxLCreditsConsumedVn1Snp), (0x20, .qpiRxLCreditsConsumedVn1Ndr)])]

/-- The events of the QPI and the constructor of each of their rows. -/
def qpiEvents : EventTable .qpi :=
  qpiEvents0 ++ qpiEvents1

/-- The events of the R2PCIe and the constructor of each of their rows. -/
def r2Events : EventTable .r2 := [
  (evR2PCIeClockticks, [(0x00, .r2PCIeClockticks)]),
  (evR2PCIeRingAdUsed, [(0x03, .r2PCIeRingAdUsedCw), (0x0C, .r2PCIeRingAdUsedCcw),
    (0x01, .r2PCIeRingAdUsedCwEven), (0x02, .r2PCIeRingAdUsedCwOdd), (0x04, .r2PCIeRingAdUsedCcwEven),
    (0x08, .r2PCIeRingAdUsedCcwOdd)]),
  (evR2PCIeRingAkUsed, [(0x03, .r2PCIeRingAkUsedCw), (0x0C, .r2PCIeRingAkUsedCcw),
    (0x01, .r2PCIeRingAkUsedCwEven), (0x02, .r2PCIeRingAkUsedCwOdd), (0x04, .r2PCIeRingAkUsedCcwEven),
    (0x08, .r2PCIeRingAkUsedCcwOdd)]),
  (evR2PCIeRingBlUsed, [(0x03, .r2PCIeRingBlUsedCw), (0x0C, .r2PCIeRingBlUsedCcw),
    (0x01, .r2PCIeRingBlUsedCwEven), (0x02, .r2PCIeRingBlUsedCwOdd), (0x04, .r2PCIeRingBlUsedCcwEven),
    (0x08, .r2PCIeRingBlUsedCcwOdd)]),
  (evR2PCIeRingIvUsed, [(0x03, .r2PCIeRingIvUsedCw), (0x0C, .r2PCIeRingIvUsedCcw), (0x0F, .r2PCIeRingIvUsedAny)]),
  (evR2PCIeRxRCyclesNe, [(0x10, .r2PCIeRxRCyclesNeNcb), (0x20, .r2PCIeRxRCyclesNeNcs)]),
  (evR2PCIeRxRInserts, [(0x10, .r2PCIeRxRInsertsNcb), (0x20, .r2PCIeRxRInsertsNcs)]),
  (evR2PCIeRingAkBounces, [(0x01, .r2PCIeRingAkBouncesUp), (0x02, .r2PCIeRingAkBouncesDn)]),
  (evR2PCIeRxROccupancy, [(0x08, .r2PCIeRxROccupancyDrs)]),
  (evR2PCIeTxRNackCw, [(0x01, .r2PCIeTxRNackCwDnAd), (0x02, .r2PCIeTxRNackCwDnBl), (0x04, .r2PCIeTxRNackCwDnAk),
    (0x08, .r2PCIeTxRNackCwUpAd), (0x10, .r2PCIeTxRNackCwUpBl), (0x20, .r2PCIeTxRNackCwUpAk)]),
  (evR2PCIeSbo0CreditsAcquired, [(0x01, .r2PCIeSbo0CreditsAcquiredAd), (0x02, .r2PCIeSbo0CreditsAcquiredBl)]),
  (evR2PCIeStallNoSboCredit, [(0x01, .r2PCIeStallNoSboCreditSbo0Ad), (0x02, .r2PCIeStallNoSboCreditSbo1Ad),
    (0x04, .r2PCIeStallNoSboCreditSbo0Bl), (0x08, .r2PCIeStallNoSboCreditSbo1Bl)]),
  (evR2PCIeIioCredit, [(0x01, .r2PCIeIioCreditPrqQpi0), (0x02, .r2PCIeIioCreditPrqQpi1),
    (0x04, .r2PCIeIioCreditIsochQpi0), (0x08, .r2PCIeIioCreditIsochQpi1)])]

/-- The events of the R3QPI and the constructor of each of their rows. -/
def r3Events : EventTable .r3 := [
  (evR3qpiClockticks, [(0x00, .r3qpiClockticks)]),
  (evR3qpiRingAdUsed, [(0x03, .r3qpiRingAdUsedCw), (0x0C, .r3qpiRingAdUsedCcw), (0x01, .r3qpiRingAdUsedCwEven),
    (0x02, .r3qpiRingAdUsedCwOdd), (0x04, .r3qpiRingAdUsedCcwEven), (0x08, .r3qpiRingAdUsedCcwOdd)]),
  (evR3qpiRingAkUsed, [(0x03, .r3qpiRingAkUsedCw), (0x0C, .r3qpiRingAkUsedCcw), (0x01, .r3qpiRingAkUsedCwEven),
    (0x02, .r3qpiRingAkUsedCwOdd), (0x04, .r3qpiRingAkUsedCcwEven), (0x08, .r3qpiRingAkUsedCcwOdd)]),
  (evR3qpiRingBlUsed, [(0x03, .r3qpiRingBlUsedCw), (0x0C, .r3qpiRingBlUsedCcw), (0x01, .r3qpiRingBlUsedCwEven),
    (0x02, .r3qpiRingBlUsedCwOdd), (0x04, .r3qpiRingBlUsedCcwEven), (0x08, .r3qpiRingBlUsedCcwOdd)]),
  (evR3qpiRingIvUsed, [(0x03, .r3qpiRingIvUsedCw), (0x0F, .r3qpiRingIvUsedAny)]),
  (evR3qpiRingSinkStarved, [(0x02, .r3qpiRingSinkStarvedAk)]),
  (evR3qpiRxRCyclesNe, [(0x01, .r3qpiRxRCyclesNeHom), (0x02, .r3qpiRxRCyclesNeSnp), (0x04, .r3qpiRxRCyclesNeNdr)]),
  (evR3qpiRxRInserts, [(0x01, .r3qpiRxRInsertsHom), (0x02, .r3qpiRxRInsertsSnp), (0x04, .r3qpiRxRInsertsNdr),
    (0x08, .r3qpiRxRInsertsDrs), (0x10, .r3qpiRxRInsertsNcb), (0x20, .r3qpiRxRInsertsNcs)]),
  (evR3qpiRxROccupancyVn1, [(0x01, .r3qpiRxROccupancyVn1Hom), (0x02, .r3qpiRxROccupancyVn1Snp),
    (0x04, .r3qpiRxROccupancyVn1Ndr), (0x08, .r3qpiRxROccupancyVn1Drs), (0x10, .r3qpiRxROccupancyVn1Ncb),
    (0x20, .r3qpiRxROccupancyVn1Ncs)]),
  (evR3qpiRxRCyclesNeVn1, [(0x01, .r3qpiRxRCyclesNeVn1Hom), (0x02, .r3qpiRxRCyclesNeVn1Snp),
    (0x04, .r3qpiRxRCyclesNeVn1Ndr), (0x08, .r3qpiRxRCyclesNeVn1Drs), (0x10, .r3qpiRxRCyclesNeVn1Ncb),
    (0x20, .r3qpiRxRCyclesNeVn1Ncs)]),
  (evR3qpiRxRInsertsVn1, [(0x01, .r3qpiRxRInsertsVn1Hom), (0x02, .r3qpiRxRInsertsVn1Snp),
    (0x04, .r3qpiRxRInsertsVn1Ndr), (0x08, .r3qpiRxRInsertsVn1Drs), (0x10, .r3qpiRxRInsertsVn1Ncb),
    (0x20, .r3qpiRxRInsertsVn1Ncs)]),
  (evR3qpiCHiAdCreditsEmpty, [(0x01, .r3qpiCHiAdCreditsEmptyCbo8), (0x02, .r3qpiCHiAdCreditsEmptyCb09),
    (0x04, .r3qpiCHiAdCreditsEmptyCbo10), (0x08, .r3qpiCHiAdCreditsEmptyCb011),
    (0x10, .r3qpiCHiAdCreditsEmptyCbo12), (0x20, .r3qpiCHiAdCreditsEmptyCbo13),
    (0x40, .r3qpiCHiAdCreditsEmptyCbo1416), (0x80, .r3qpiCHiAdCreditsEmptyCbo1517)]),
  (evR3qpiQpi0AdCreditsEmpty, [(0x01, .r3qpiQpi0AdCreditsEmptyVna), (0x02, .r3qpiQpi0AdCreditsEmptyVn0Hom),
    (0x04, .r3qpiQpi0AdCreditsEmptyVn0Snp), (0x08, .r3qpiQpi0AdCreditsEmptyVn0Ndr),
    (0x10, .r3qpiQpi0AdCreditsEmptyVn1Hom), (0x20, .r3qpiQpi0AdCreditsEmptyVn1Snp),
    (0x40, .r3qpiQpi0AdCreditsEmptyVn1Ndr)]),
  (evR3qpiQpi0BlCreditsEmpty, [(0x01, .r3qpiQpi0BlCreditsEmptyVna), (0x10, .r3qpiQpi0BlCreditsEmptyVn1Hom),
    (0x20, .r3qpiQpi0BlCreditsEmptyVn1Snp), (0x40, .r3qpiQpi0BlCreditsEmptyVn1Ndr)]),
  (evR3qpiCLoAdCreditsEmpty, [(0x01, .r3qpiCLoAdCreditsEmptyCbo0), (0x02, .r3qpiCLoAdCreditsEmptyCbo1),
    (0x04, .r3qpiCLoAdCreditsEmptyCbo2), (0x08, .r3qpiCLoAdCreditsEmptyCbo3),
    (0x10, .r3qpiCLoAdCreditsEmptyCb04), (0x20, .r3qpiCLoAdCreditsEmptyCb05),
    (0x40, .r3qpiCLoAdCreditsEmptyCb06), (0x80, .r3qpiCLoAdCreditsEmptyCb07)]),
  (evR3qpiTxRNack, [(0x01, .r3qpiTxRNackDnAd), (0x02, .r3qpiTxRNackDnBl), (0x04, .r3qpiTxRNackDnAk),
    (0x08, .r3qpiTxRNackUpAd), (0x10, .r3qpiTxRNackUpBl), (0x20, .r3qpiTxRNackUpAk)]),
  (evR3qpiSbo0CreditsAcquired, [(0x01, .r3qpiSbo0CreditsAcquiredAd), (0x02, .r3qpiSbo0CreditsAcquiredBl)]),
  (evR3qpiSbo1CreditsAcquired, [(0x01, .r3qpiSbo1CreditsAcquiredAd), (0x02, .r3qpiSbo1CreditsAcquiredBl)]),
  (evR3qpiStallNoSboCredit, [(0x01, .r3qpiStallNoSboCreditSbo0Ad), (0x02, .r3qpiStallNoSboCreditSbo1Ad),
    (0x04, .r3qpiStallNoSboCreditSbo0Bl), (0x08, .r3qpiStallNoSboCreditSbo1Bl)]),
  (evR3qpiHaR2BlCreditsEmpty, [(0x01, .r3qpiHaR2BlCreditsEmptyHa0), (0x02, .r3qpiHaR2BlCreditsEmptyHa1),
    (0x04, .r3qpiHaR2BlCreditsEmptyR2Ncb), (0x08, .r3qpiHaR2BlCreditsEmptyR2Ncs)]),
  (evR3qpiQpi1AdCreditsEmpty, [(0x01, .r3qpiQpi1AdCreditsEmptyVna), (0x10, .r3qpiQpi1AdCreditsEmptyVn1Hom),
    (0x20, .r3qpiQpi1AdCreditsEmptyVn1Snp), (0x40, .r3qpiQpi1AdCreditsEmptyVn1Ndr)]),
  (evR3qpiQpi1BlCreditsEmpty, [(0x01, .r3qpiQpi1BlCreditsEmptyVna), (0x02, .r3qpiQpi1BlCreditsEmptyVn0Hom),
    (0x04, .r3qpiQpi1BlCreditsEmptyVn0Snp), (0x08, .r3qpiQpi1BlCreditsEmptyVn0Ndr),
    (0x10, .r3qpiQpi1BlCreditsEmptyVn1Hom), (0x20, .r3qpiQpi1BlCreditsEmptyVn1Snp),
    (0x40, .r3qpiQpi1BlCreditsEmptyVn1Ndr)]),
  (evR3qpiVnaCreditsAcquired, [(0x01, .r3qpiVnaCreditsAcquiredAd), (0x04, .r3qpiVnaCreditsAcquiredBl)]),
  (evR3qpiVnaCreditsReject, [(0x01, .r3qpiVnaCreditsRejectHom), (0x02, .r3qpiVnaCreditsRejectSnp),
    (0x04, .r3qpiVnaCreditsRejectNdr), (0x08, .r3qpiVnaCreditsRejectDrs), (0x10, .r3qpiVnaCreditsRejectNcb),
    (0x20, .r3qpiVnaCreditsRejectNcs)]),
  (evR3qpiVn0CreditsUsed, [(0x01, .r3qpiVn0CreditsUsedHom), (0x02, .r3qpiVn0CreditsUsedSnp),
    (0x04, .r3qpiVn0CreditsUsedNdr), (0x08, .r3qpiVn0CreditsUsedDrs), (0x10, .r3qpiVn0CreditsUsedNcb),
    (0x20, .r3qpiVn0CreditsUsedNcs)]),
  (evR3qpiVn0CreditsReject, [(0x01, .r3qpiVn0CreditsRejectHom), (0x02, .r3qpiVn0CreditsRejectSnp),
    (0x04, .r3qpiVn0CreditsRejectNdr), (0x08, .r3qpiVn0CreditsRejectDrs), (0x10, .r3qpiVn0CreditsRejectNcb),
    (0x20, .r3qpiVn0CreditsRejectNcs)]),
  (evR3qpiVn1CreditsUsed, [(0x01, .r3qpiVn1CreditsUsedHom), (0x02, .r3qpiVn1CreditsUsedSnp),
    (0x04, .r3qpiVn1CreditsUsedNdr), (0x08, .r3qpiVn1CreditsUsedDrs), (0x10, .r3qpiVn1CreditsUsedNcb),
    (0x20, .r3qpiVn1CreditsUsedNcs)]),
  (evR3qpiVn1CreditsReject, [(0x01, .r3qpiVn1CreditsRejectHom), (0x02, .r3qpiVn1CreditsRejectSnp),
    (0x04, .r3qpiVn1CreditsRejectNdr), (0x08, .r3qpiVn1CreditsRejectDrs), (0x10, .r3qpiVn1CreditsRejectNcb),
    (0x20, .r3qpiVn1CreditsRejectNcs)])]

/-- The events a box of kind `k` lists (30_encoding.md R172 to R181). -/
def eventTable : (k : Kind) → EventTable k
  | .ubox => uboxEvents
  | .cbo => cboEvents
  | .sbo => sboEvents
  | .ha => haEvents
  | .imc => imcEvents
  | .irp => irpEvents
  | .pcu => pcuEvents
  | .qpi => qpiEvents
  | .r2 => r2Events
  | .r3 => r3Events

/-- The MSR addresses (20_memory.md R101). Piece 1 of 6. -/
def msrTable0 : List (Nat × (MsrAccess → Instr)) := [
  (0x700, .uMsrPmonGlobalCtl),
  (0x701, .uMsrPmonGlobalStatus),
  (0x702, .uMsrPmonGlobalConfig),
  (0x703, .uMsrPmonUclkFixedCtl),
  (0x704, .uMsrPmonUclkFixedCtr),
  (0x705, .uMsrPmonCtl0),
  (0x706, .uMsrPmonCtl1),
  (0x708, .uMsrPmonBoxStatus),
  (0x709, .uMsrPmonCtr0),
  (0x70A, .uMsrPmonCtr1),
  (0xE00, .c0MsrPmonBoxCtl),
  (0xE01, .c0MsrPmonCtl0),
  (0xE02, .c0MsrPmonCtl1),
  (0xE03, .c0MsrPmonCtl2),
  (0xE04, .c0MsrPmonCtl3),
  (0xE05, .c0MsrPmonBoxFilter0),
  (0xE06, .c0MsrPmonBoxFilter1),
  (0xE07, .c0MsrPmonBoxStatus),
  (0xE08, .c0MsrPmonCtr0),
  (0xE09, .c0MsrPmonCtr1),
  (0xE0A, .c0MsrPmonCtr2),
  (0xE0B, .c0MsrPmonCtr3),
  (0xE10, .c1MsrPmonBoxCtl),
  (0xE11, .c1MsrPmonCtl0),
  (0xE12, .c1MsrPmonCtl1),
  (0xE13, .c1MsrPmonCtl2),
  (0xE14, .c1MsrPmonCtl3),
  (0xE15, .c1MsrPmonBoxFilter0),
  (0xE16, .c1MsrPmonBoxFilter1),
  (0xE17, .c1MsrPmonBoxStatus),
  (0xE18, .c1MsrPmonCtr0),
  (0xE19, .c1MsrPmonCtr1),
  (0xE1A, .c1MsrPmonCtr2),
  (0xE1B, .c1MsrPmonCtr3),
  (0xE20, .c2MsrPmonBoxCtl),
  (0xE21, .c2MsrPmonCtl0),
  (0xE22, .c2MsrPmonCtl1),
  (0xE23, .c2MsrPmonCtl2),
  (0xE24, .c2MsrPmonCtl3),
  (0xE25, .c2MsrPmonBoxFilter0),
  (0xE26, .c2MsrPmonBoxFilter1),
  (0xE27, .c2MsrPmonBoxStatus),
  (0xE28, .c2MsrPmonCtr0),
  (0xE29, .c2MsrPmonCtr1),
  (0xE2A, .c2MsrPmonCtr2),
  (0xE2B, .c2MsrPmonCtr3),
  (0xE30, .c3MsrPmonBoxCtl),
  (0xE31, .c3MsrPmonCtl0)]

/-- The MSR addresses (20_memory.md R101). Piece 2 of 6. -/
def msrTable1 : List (Nat × (MsrAccess → Instr)) := [
  (0xE32, .c3MsrPmonCtl1),
  (0xE33, .c3MsrPmonCtl2),
  (0xE34, .c3MsrPmonCtl3),
  (0xE35, .c3MsrPmonBoxFilter0),
  (0xE36, .c3MsrPmonBoxFilter1),
  (0xE37, .c3MsrPmonBoxStatus),
  (0xE38, .c3MsrPmonCtr0),
  (0xE39, .c3MsrPmonCtr1),
  (0xE3A, .c3MsrPmonCtr2),
  (0xE3B, .c3MsrPmonCtr3),
  (0xE40, .c4MsrPmonBoxCtl),
  (0xE41, .c4MsrPmonCtl0),
  (0xE42, .c4MsrPmonCtl1),
  (0xE43, .c4MsrPmonCtl2),
  (0xE44, .c4MsrPmonCtl3),
  (0xE45, .c4MsrPmonBoxFilter0),
  (0xE46, .c4MsrPmonBoxFilter1),
  (0xE47, .c4MsrPmonBoxStatus),
  (0xE48, .c4MsrPmonCtr0),
  (0xE49, .c4MsrPmonCtr1),
  (0xE4A, .c4MsrPmonCtr2),
  (0xE4B, .c4MsrPmonCtr3),
  (0xE50, .c5MsrPmonBoxCtl),
  (0xE51, .c5MsrPmonCtl0),
  (0xE52, .c5MsrPmonCtl1),
  (0xE53, .c5MsrPmonCtl2),
  (0xE54, .c5MsrPmonCtl3),
  (0xE55, .c5MsrPmonBoxFilter0),
  (0xE56, .c5MsrPmonBoxFilter1),
  (0xE57, .c5MsrPmonBoxStatus),
  (0xE58, .c5MsrPmonCtr0),
  (0xE59, .c5MsrPmonCtr1),
  (0xE5A, .c5MsrPmonCtr2),
  (0xE5B, .c5MsrPmonCtr3),
  (0xE60, .c6MsrPmonBoxCtl),
  (0xE61, .c6MsrPmonCtl0),
  (0xE62, .c6MsrPmonCtl1),
  (0xE63, .c6MsrPmonCtl2),
  (0xE64, .c6MsrPmonCtl3),
  (0xE65, .c6MsrPmonBoxFilter0),
  (0xE66, .c6MsrPmonBoxFilter1),
  (0xE67, .c6MsrPmonBoxStatus),
  (0xE68, .c6MsrPmonCtr0),
  (0xE69, .c6MsrPmonCtr1),
  (0xE6A, .c6MsrPmonCtr2),
  (0xE6B, .c6MsrPmonCtr3),
  (0xE70, .c7MsrPmonBoxCtl),
  (0xE71, .c7MsrPmonCtl0)]

/-- The MSR addresses (20_memory.md R101). Piece 3 of 6. -/
def msrTable2 : List (Nat × (MsrAccess → Instr)) := [
  (0xE72, .c7MsrPmonCtl1),
  (0xE73, .c7MsrPmonCtl2),
  (0xE74, .c7MsrPmonCtl3),
  (0xE75, .c7MsrPmonBoxFilter0),
  (0xE76, .c7MsrPmonBoxFilter1),
  (0xE77, .c7MsrPmonBoxStatus),
  (0xE78, .c7MsrPmonCtr0),
  (0xE79, .c7MsrPmonCtr1),
  (0xE7A, .c7MsrPmonCtr2),
  (0xE7B, .c7MsrPmonCtr3),
  (0xE80, .c8MsrPmonBoxCtl),
  (0xE81, .c8MsrPmonCtl0),
  (0xE82, .c8MsrPmonCtl1),
  (0xE83, .c8MsrPmonCtl2),
  (0xE84, .c8MsrPmonCtl3),
  (0xE85, .c8MsrPmonBoxFilter0),
  (0xE86, .c8MsrPmonBoxFilter1),
  (0xE87, .c8MsrPmonBoxStatus),
  (0xE88, .c8MsrPmonCtr0),
  (0xE89, .c8MsrPmonCtr1),
  (0xE8A, .c8MsrPmonCtr2),
  (0xE8B, .c8MsrPmonCtr3),
  (0xE90, .c9MsrPmonBoxCtl),
  (0xE91, .c9MsrPmonCtl0),
  (0xE92, .c9MsrPmonCtl1),
  (0xE93, .c9MsrPmonCtl2),
  (0xE94, .c9MsrPmonCtl3),
  (0xE95, .c9MsrPmonBoxFilter0),
  (0xE96, .c9MsrPmonBoxFilter1),
  (0xE97, .c9MsrPmonBoxStatus),
  (0xE98, .c9MsrPmonCtr0),
  (0xE99, .c9MsrPmonCtr1),
  (0xE9A, .c9MsrPmonCtr2),
  (0xE9B, .c9MsrPmonCtr3),
  (0xEA0, .c10MsrPmonBoxCtl),
  (0xEA1, .c10MsrPmonCtl0),
  (0xEA2, .c10MsrPmonCtl1),
  (0xEA3, .c10MsrPmonCtl2),
  (0xEA4, .c10MsrPmonCtl3),
  (0xEA5, .c10MsrPmonBoxFilter0),
  (0xEA6, .c10MsrPmonBoxFilter1),
  (0xEA7, .c10MsrPmonBoxStatus),
  (0xEA8, .c10MsrPmonCtr0),
  (0xEA9, .c10MsrPmonCtr1),
  (0xEAA, .c10MsrPmonCtr2),
  (0xEAB, .c10MsrPmonCtr3),
  (0xEB0, .c11MsrPmonBoxCtl),
  (0xEB1, .c11MsrPmonCtl0)]

/-- The MSR addresses (20_memory.md R101). Piece 4 of 6. -/
def msrTable3 : List (Nat × (MsrAccess → Instr)) := [
  (0xEB2, .c11MsrPmonCtl1),
  (0xEB3, .c11MsrPmonCtl2),
  (0xEB4, .c11MsrPmonCtl3),
  (0xEB5, .c11MsrPmonBoxFilter0),
  (0xEB6, .c11MsrPmonBoxFilter1),
  (0xEB7, .c11MsrPmonBoxStatus),
  (0xEB8, .c11MsrPmonCtr0),
  (0xEB9, .c11MsrPmonCtr1),
  (0xEBA, .c11MsrPmonCtr2),
  (0xEBB, .c11MsrPmonCtr3),
  (0xEC0, .c12MsrPmonBoxCtl),
  (0xEC1, .c12MsrPmonCtl0),
  (0xEC2, .c12MsrPmonCtl1),
  (0xEC3, .c12MsrPmonCtl2),
  (0xEC4, .c12MsrPmonCtl3),
  (0xEC5, .c12MsrPmonBoxFilter0),
  (0xEC6, .c12MsrPmonBoxFilter1),
  (0xEC7, .c12MsrPmonBoxStatus),
  (0xEC8, .c12MsrPmonCtr0),
  (0xEC9, .c12MsrPmonCtr1),
  (0xECA, .c12MsrPmonCtr2),
  (0xECB, .c12MsrPmonCtr3),
  (0xED0, .c13MsrPmonBoxCtl),
  (0xED1, .c13MsrPmonCtl0),
  (0xED2, .c13MsrPmonCtl1),
  (0xED3, .c13MsrPmonCtl2),
  (0xED4, .c13MsrPmonCtl3),
  (0xED5, .c13MsrPmonBoxFilter0),
  (0xED6, .c13MsrPmonBoxFilter1),
  (0xED7, .c13MsrPmonBoxStatus),
  (0xED8, .c13MsrPmonCtr0),
  (0xED9, .c13MsrPmonCtr1),
  (0xEDA, .c13MsrPmonCtr2),
  (0xEDB, .c13MsrPmonCtr3),
  (0xEE0, .c14MsrPmonBoxCtl),
  (0xEE1, .c14MsrPmonCtl0),
  (0xEE2, .c14MsrPmonCtl1),
  (0xEE3, .c14MsrPmonCtl2),
  (0xEE4, .c14MsrPmonCtl3),
  (0xEE5, .c14MsrPmonBoxFilter0),
  (0xEE6, .c14MsrPmonBoxFilter1),
  (0xEE7, .c14MsrPmonBoxStatus),
  (0xEE8, .c14MsrPmonCtr0),
  (0xEE9, .c14MsrPmonCtr1),
  (0xEEA, .c14MsrPmonCtr2),
  (0xEEB, .c14MsrPmonCtr3),
  (0xEF0, .c15MsrPmonBoxCtl),
  (0xEF1, .c15MsrPmonCtl0)]

/-- The MSR addresses (20_memory.md R101). Piece 5 of 6. -/
def msrTable4 : List (Nat × (MsrAccess → Instr)) := [
  (0xEF2, .c15MsrPmonCtl1),
  (0xEF3, .c15MsrPmonCtl2),
  (0xEF4, .c15MsrPmonCtl3),
  (0xEF5, .c15MsrPmonBoxFilter0),
  (0xEF6, .c15MsrPmonBoxFilter1),
  (0xEF7, .c15MsrPmonBoxStatus),
  (0xEF8, .c15MsrPmonCtr0),
  (0xEF9, .c15MsrPmonCtr1),
  (0xEFA, .c15MsrPmonCtr2),
  (0xEFB, .c15MsrPmonCtr3),
  (0xF00, .c16MsrPmonBoxCtl),
  (0xF01, .c16MsrPmonCtl0),
  (0xF02, .c16MsrPmonCtl1),
  (0xF03, .c16MsrPmonCtl2),
  (0xF04, .c16MsrPmonCtl3),
  (0xF05, .c16MsrPmonBoxFilter0),
  (0xF06, .c16MsrPmonBoxFilter1),
  (0xF07, .c16MsrPmonBoxStatus),
  (0xF08, .c16MsrPmonCtr0),
  (0xF09, .c16MsrPmonCtr1),
  (0xF0A, .c16MsrPmonCtr2),
  (0xF0B, .c16MsrPmonCtr3),
  (0xF10, .c17MsrPmonBoxCtl),
  (0xF11, .c17MsrPmonCtl0),
  (0xF12, .c17MsrPmonCtl1),
  (0xF13, .c17MsrPmonCtl2),
  (0xF14, .c17MsrPmonCtl3),
  (0xF15, .c17MsrPmonBoxFilter0),
  (0xF16, .c17MsrPmonBoxFilter1),
  (0xF17, .c17MsrPmonBoxStatus),
  (0xF18, .c17MsrPmonCtr0),
  (0xF19, .c17MsrPmonCtr1),
  (0xF1A, .c17MsrPmonCtr2),
  (0xF1B, .c17MsrPmonCtr3),
  (0x720, .s0MsrPmonBoxCtl),
  (0x721, .s0MsrPmonCtl0),
  (0x722, .s0MsrPmonCtl1),
  (0x723, .s0MsrPmonCtl2),
  (0x724, .s0MsrPmonCtl3),
  (0x725, .s0MsrPmonBoxStatus),
  (0x726, .s0MsrPmonCtr0),
  (0x727, .s0MsrPmonCtr1),
  (0x728, .s0MsrPmonCtr2),
  (0x729, .s0MsrPmonCtr3),
  (0x72A, .s1MsrPmonBoxCtl),
  (0x72B, .s1MsrPmonCtl0),
  (0x72C, .s1MsrPmonCtl1),
  (0x72D, .s1MsrPmonCtl2)]

/-- The MSR addresses (20_memory.md R101). Piece 6 of 6. -/
def msrTable5 : List (Nat × (MsrAccess → Instr)) := [
  (0x72E, .s1MsrPmonCtl3),
  (0x72F, .s1MsrPmonBoxStatus),
  (0x730, .s1MsrPmonCtr0),
  (0x731, .s1MsrPmonCtr1),
  (0x732, .s1MsrPmonCtr2),
  (0x733, .s1MsrPmonCtr3),
  (0x734, .s2MsrPmonBoxCtl),
  (0x735, .s2MsrPmonCtl0),
  (0x736, .s2MsrPmonCtl1),
  (0x737, .s2MsrPmonCtl2),
  (0x738, .s2MsrPmonCtl3),
  (0x739, .s2MsrPmonBoxStatus),
  (0x73A, .s2MsrPmonCtr0),
  (0x73B, .s2MsrPmonCtr1),
  (0x73C, .s2MsrPmonCtr2),
  (0x73D, .s2MsrPmonCtr3),
  (0x73E, .s3MsrPmonBoxCtl),
  (0x73F, .s3MsrPmonCtl0),
  (0x740, .s3MsrPmonCtl1),
  (0x741, .s3MsrPmonCtl2),
  (0x742, .s3MsrPmonCtl3),
  (0x743, .s3MsrPmonBoxStatus),
  (0x744, .s3MsrPmonCtr0),
  (0x745, .s3MsrPmonCtr1),
  (0x746, .s3MsrPmonCtr2),
  (0x747, .s3MsrPmonCtr3),
  (0x710, .pcuMsrPmonBoxCtl),
  (0x711, .pcuMsrPmonCtl0),
  (0x712, .pcuMsrPmonCtl1),
  (0x713, .pcuMsrPmonCtl2),
  (0x714, .pcuMsrPmonCtl3),
  (0x715, .pcuMsrPmonBoxFilter),
  (0x716, .pcuMsrPmonBoxStatus),
  (0x717, .pcuMsrPmonCtr0),
  (0x718, .pcuMsrPmonCtr1),
  (0x719, .pcuMsrPmonCtr2),
  (0x71A, .pcuMsrPmonCtr3),
  (0x3FD, .pcuMsrCoreCc6Ctr),
  (0x3FC, .pcuMsrCoreCc3Ctr),
  (0x60D, .pcuMsrCorePc2Ctr),
  (0x3F8, .pcuMsrCorePc3Ctr)]

/-- The MSR addresses (20_memory.md R101). -/
def msrTable : List (Nat × (MsrAccess → Instr)) :=
  msrTable0 ++ msrTable1 ++ msrTable2 ++ msrTable3 ++ msrTable4 ++ msrTable5

/-- The PCICFG addresses, with whether the register is two dwords (20_memory.md R102, R103). Piece 1 of 5. -/
def cfgTable0 : List (Nat × Bool × (CfgAccess → Instr)) := [
  (0x910F8, false, .ha0PciPmonBoxStatus),
  (0x910F4, false, .ha0PciPmonBoxCtl),
  (0x910D8, false, .ha0PciPmonCtl0),
  (0x910DC, false, .ha0PciPmonCtl1),
  (0x910E0, false, .ha0PciPmonCtl2),
  (0x910E4, false, .ha0PciPmonCtl3),
  (0x910A0, true, .ha0PciPmonCtr0),
  (0x910A8, true, .ha0PciPmonCtr1),
  (0x910B0, true, .ha0PciPmonCtr2),
  (0x910B8, true, .ha0PciPmonCtr3),
  (0x91048, false, .ha0PciPmonBoxOpcodematch),
  (0x91044, false, .ha0PciPmonBoxAddrmatch1),
  (0x91040, false, .ha0PciPmonBoxAddrmatch0),
  (0x950F8, false, .ha1PciPmonBoxStatus),
  (0x950F4, false, .ha1PciPmonBoxCtl),
  (0x950D8, false, .ha1PciPmonCtl0),
  (0x950DC, false, .ha1PciPmonCtl1),
  (0x950E0, false, .ha1PciPmonCtl2),
  (0x950E4, false, .ha1PciPmonCtl3),
  (0x950A0, true, .ha1PciPmonCtr0),
  (0x950A8, true, .ha1PciPmonCtr1),
  (0x950B0, true, .ha1PciPmonCtr2),
  (0x950B8, true, .ha1PciPmonCtr3),
  (0x95048, false, .ha1PciPmonBoxOpcodematch),
  (0x95044, false, .ha1PciPmonBoxAddrmatch1),
  (0x95040, false, .ha1PciPmonBoxAddrmatch0),
  (0xA00F8, false, .mc0Ch0PciPmonBoxStatus),
  (0xA00F4, false, .mc0Ch0PciPmonBoxCtl),
  (0xA00D8, false, .mc0Ch0PciPmonCtl0),
  (0xA00DC, false, .mc0Ch0PciPmonCtl1),
  (0xA00E0, false, .mc0Ch0PciPmonCtl2),
  (0xA00E4, false, .mc0Ch0PciPmonCtl3),
  (0xA00A0, true, .mc0Ch0PciPmonCtr0),
  (0xA00A8, true, .mc0Ch0PciPmonCtr1),
  (0xA00B0, true, .mc0Ch0PciPmonCtr2),
  (0xA00B8, true, .mc0Ch0PciPmonCtr3),
  (0xA00F0, false, .mc0Ch0PciPmonFixedCtl),
  (0xA00D0, true, .mc0Ch0PciPmonFixedCtr),
  (0xA10F8, false, .mc0Ch1PciPmonBoxStatus),
  (0xA10F4, false, .mc0Ch1PciPmonBoxCtl),
  (0xA10D8, false, .mc0Ch1PciPmonCtl0),
  (0xA10DC, false, .mc0Ch1PciPmonCtl1),
  (0xA10E0, false, .mc0Ch1PciPmonCtl2),
  (0xA10E4, false, .mc0Ch1PciPmonCtl3),
  (0xA10A0, true, .mc0Ch1PciPmonCtr0),
  (0xA10A8, true, .mc0Ch1PciPmonCtr1),
  (0xA10B0, true, .mc0Ch1PciPmonCtr2),
  (0xA10B8, true, .mc0Ch1PciPmonCtr3)]

/-- The PCICFG addresses, with whether the register is two dwords (20_memory.md R102, R103). Piece 2 of 5. -/
def cfgTable1 : List (Nat × Bool × (CfgAccess → Instr)) := [
  (0xA10F0, false, .mc0Ch1PciPmonFixedCtl),
  (0xA10D0, true, .mc0Ch1PciPmonFixedCtr),
  (0xA80F8, false, .mc0Ch2PciPmonBoxStatus),
  (0xA80F4, false, .mc0Ch2PciPmonBoxCtl),
  (0xA80D8, false, .mc0Ch2PciPmonCtl0),
  (0xA80DC, false, .mc0Ch2PciPmonCtl1),
  (0xA80E0, false, .mc0Ch2PciPmonCtl2),
  (0xA80E4, false, .mc0Ch2PciPmonCtl3),
  (0xA80A0, true, .mc0Ch2PciPmonCtr0),
  (0xA80A8, true, .mc0Ch2PciPmonCtr1),
  (0xA80B0, true, .mc0Ch2PciPmonCtr2),
  (0xA80B8, true, .mc0Ch2PciPmonCtr3),
  (0xA80F0, false, .mc0Ch2PciPmonFixedCtl),
  (0xA80D0, true, .mc0Ch2PciPmonFixedCtr),
  (0xA90F8, false, .mc0Ch3PciPmonBoxStatus),
  (0xA90F4, false, .mc0Ch3PciPmonBoxCtl),
  (0xA90D8, false, .mc0Ch3PciPmonCtl0),
  (0xA90DC, false, .mc0Ch3PciPmonCtl1),
  (0xA90E0, false, .mc0Ch3PciPmonCtl2),
  (0xA90E4, false, .mc0Ch3PciPmonCtl3),
  (0xA90A0, true, .mc0Ch3PciPmonCtr0),
  (0xA90A8, true, .mc0Ch3PciPmonCtr1),
  (0xA90B0, true, .mc0Ch3PciPmonCtr2),
  (0xA90B8, true, .mc0Ch3PciPmonCtr3),
  (0xA90F0, false, .mc0Ch3PciPmonFixedCtl),
  (0xA90D0, true, .mc0Ch3PciPmonFixedCtr),
  (0xB80F8, false, .mc1Ch0PciPmonBoxStatus),
  (0xB80F4, false, .mc1Ch0PciPmonBoxCtl),
  (0xB80D8, false, .mc1Ch0PciPmonCtl0),
  (0xB80DC, false, .mc1Ch0PciPmonCtl1),
  (0xB80E0, false, .mc1Ch0PciPmonCtl2),
  (0xB80E4, false, .mc1Ch0PciPmonCtl3),
  (0xB80A0, true, .mc1Ch0PciPmonCtr0),
  (0xB80A8, true, .mc1Ch0PciPmonCtr1),
  (0xB80B0, true, .mc1Ch0PciPmonCtr2),
  (0xB80B8, true, .mc1Ch0PciPmonCtr3),
  (0xB80F0, false, .mc1Ch0PciPmonFixedCtl),
  (0xB80D0, true, .mc1Ch0PciPmonFixedCtr),
  (0xB90F8, false, .mc1Ch1PciPmonBoxStatus),
  (0xB90F4, false, .mc1Ch1PciPmonBoxCtl),
  (0xB90D8, false, .mc1Ch1PciPmonCtl0),
  (0xB90DC, false, .mc1Ch1PciPmonCtl1),
  (0xB90E0, false, .mc1Ch1PciPmonCtl2),
  (0xB90E4, false, .mc1Ch1PciPmonCtl3),
  (0xB90A0, true, .mc1Ch1PciPmonCtr0),
  (0xB90A8, true, .mc1Ch1PciPmonCtr1),
  (0xB90B0, true, .mc1Ch1PciPmonCtr2),
  (0xB90B8, true, .mc1Ch1PciPmonCtr3)]

/-- The PCICFG addresses, with whether the register is two dwords (20_memory.md R102, R103). Piece 3 of 5. -/
def cfgTable2 : List (Nat × Bool × (CfgAccess → Instr)) := [
  (0xB90F0, false, .mc1Ch1PciPmonFixedCtl),
  (0xB90D0, true, .mc1Ch1PciPmonFixedCtr),
  (0xC00F8, false, .mc1Ch2PciPmonBoxStatus),
  (0xC00F4, false, .mc1Ch2PciPmonBoxCtl),
  (0xC00D8, false, .mc1Ch2PciPmonCtl0),
  (0xC00DC, false, .mc1Ch2PciPmonCtl1),
  (0xC00E0, false, .mc1Ch2PciPmonCtl2),
  (0xC00E4, false, .mc1Ch2PciPmonCtl3),
  (0xC00A0, true, .mc1Ch2PciPmonCtr0),
  (0xC00A8, true, .mc1Ch2PciPmonCtr1),
  (0xC00B0, true, .mc1Ch2PciPmonCtr2),
  (0xC00B8, true, .mc1Ch2PciPmonCtr3),
  (0xC00F0, false, .mc1Ch2PciPmonFixedCtl),
  (0xC00D0, true, .mc1Ch2PciPmonFixedCtr),
  (0xC10F8, false, .mc1Ch3PciPmonBoxStatus),
  (0xC10F4, false, .mc1Ch3PciPmonBoxCtl),
  (0xC10D8, false, .mc1Ch3PciPmonCtl0),
  (0xC10DC, false, .mc1Ch3PciPmonCtl1),
  (0xC10E0, false, .mc1Ch3PciPmonCtl2),
  (0xC10E4, false, .mc1Ch3PciPmonCtl3),
  (0xC10A0, true, .mc1Ch3PciPmonCtr0),
  (0xC10A8, true, .mc1Ch3PciPmonCtr1),
  (0xC10B0, true, .mc1Ch3PciPmonCtr2),
  (0xC10B8, true, .mc1Ch3PciPmonCtr3),
  (0xC10F0, false, .mc1Ch3PciPmonFixedCtl),
  (0xC10D0, true, .mc1Ch3PciPmonFixedCtr),
  (0x2E0F8, false, .irpPciPmonBoxStatus),
  (0x2E0F4, false, .irpPciPmonBoxCtl),
  (0x2E0D8, false, .irp0PciPmonCtl0),
  (0x2E0DC, false, .irp0PciPmonCtl1),
  (0x2E0E0, false, .irp1PciPmonCtl0),
  (0x2E0E4, false, .irp1PciPmonCtl1),
  (0x2E0A0, true, .irp0PciPmonCtr0),
  (0x2E0A8, true, .irp0PciPmonCtr1),
  (0x2E0B0, true, .irp1PciPmonCtr0),
  (0x2E0B8, true, .irp1PciPmonCtr1),
  (0x420F8, false, .qP0PciPmonBoxStatus),
  (0x420F4, false, .qP0PciPmonBoxCtl),
  (0x420D8, false, .qP0PciPmonCtl0),
  (0x420DC, false, .qP0PciPmonCtl1),
  (0x420E0, false, .qP0PciPmonCtl2),
  (0x420E4, false, .qP0PciPmonCtl3),
  (0x420A0, true, .qP0PciPmonCtr0),
  (0x420A8, true, .qP0PciPmonCtr1),
  (0x420B0, true, .qP0PciPmonCtr2),
  (0x420B8, true, .qP0PciPmonCtr3),
  (0x420D0, false, .qP0PciPmonLinkLlr),
  (0x420C8, false, .qP0PciPmonLinkIdle)]

/-- The PCICFG addresses, with whether the register is two dwords (20_memory.md R102, R103). Piece 4 of 5. -/
def cfgTable3 : List (Nat × Bool × (CfgAccess → Instr)) := [
  (0x4623C, false, .qP0PciPmonRxPktMask1),
  (0x46238, false, .qP0PciPmonRxPktMask0),
  (0x4622C, false, .qP0PciPmonRxPktMatch1),
  (0x46228, false, .qP0PciPmonRxPktMatch0),
  (0x46214, false, .qP0PciPmonTxPktMask1),
  (0x46210, false, .qP0PciPmonTxPktMask0),
  (0x46204, false, .qP0PciPmonTxPktMatch1),
  (0x46200, false, .qP0PciPmonTxPktMatch0),
  (0x4A0F8, false, .qP1PciPmonBoxStatus),
  (0x4A0F4, false, .qP1PciPmonBoxCtl),
  (0x4A0D8, false, .qP1PciPmonCtl0),
  (0x4A0DC, false, .qP1PciPmonCtl1),
  (0x4A0E0, false, .qP1PciPmonCtl2),
  (0x4A0E4, false, .qP1PciPmonCtl3),
  (0x4A0A0, true, .qP1PciPmonCtr0),
  (0x4A0A8, true, .qP1PciPmonCtr1),
  (0x4A0B0, true, .qP1PciPmonCtr2),
  (0x4A0B8, true, .qP1PciPmonCtr3),
  (0x4A0D0, false, .qP1PciPmonLinkLlr),
  (0x4A0C8, false, .qP1PciPmonLinkIdle),
  (0x4E23C, false, .qP1PciPmonRxPktMask1),
  (0x4E238, false, .qP1PciPmonRxPktMask0),
  (0x4E22C, false, .qP1PciPmonRxPktMatch1),
  (0x4E228, false, .qP1PciPmonRxPktMatch0),
  (0x4E214, false, .qP1PciPmonTxPktMask1),
  (0x4E210, false, .qP1PciPmonTxPktMask0),
  (0x4E204, false, .qP1PciPmonTxPktMatch1),
  (0x4E200, false, .qP1PciPmonTxPktMatch0),
  (0x520F8, false, .qP2PciPmonBoxStatus),
  (0x520F4, false, .qP2PciPmonBoxCtl),
  (0x520D8, false, .qP2PciPmonCtl0),
  (0x520DC, false, .qP2PciPmonCtl1),
  (0x520E0, false, .qP2PciPmonCtl2),
  (0x520E4, false, .qP2PciPmonCtl3),
  (0x520A0, true, .qP2PciPmonCtr0),
  (0x520A8, true, .qP2PciPmonCtr1),
  (0x520B0, true, .qP2PciPmonCtr2),
  (0x520B8, true, .qP2PciPmonCtr3),
  (0x520D0, false, .qP2PciPmonLinkLlr),
  (0x520C8, false, .qP2PciPmonLinkIdle),
  (0x5623C, false, .qP2PciPmonRxPktMask1),
  (0x56238, false, .qP2PciPmonRxPktMask0),
  (0x5622C, false, .qP2PciPmonRxPktMatch1),
  (0x56228, false, .qP2PciPmonRxPktMatch0),
  (0x56214, false, .qP2PciPmonTxPktMask1),
  (0x56210, false, .qP2PciPmonTxPktMask0),
  (0x56204, false, .qP2PciPmonTxPktMatch1),
  (0x56200, false, .qP2PciPmonTxPktMatch0)]

/-- The PCICFG addresses, with whether the register is two dwords (20_memory.md R102, R103). Piece 5 of 5. -/
def cfgTable4 : List (Nat × Bool × (CfgAccess → Instr)) := [
  (0x400D4, false, .qpi0RateStatus),
  (0x500D4, false, .qpi1RateStatus),
  (0x810F8, false, .r2PciPmonBoxStatus),
  (0x810F4, false, .r2PciPmonBoxCtl),
  (0x810D8, false, .r2PciPmonCtl0),
  (0x810DC, false, .r2PciPmonCtl1),
  (0x810E0, false, .r2PciPmonCtl2),
  (0x810E4, false, .r2PciPmonCtl3),
  (0x810A0, true, .r2PciPmonCtr0),
  (0x810A8, true, .r2PciPmonCtr1),
  (0x810B0, true, .r2PciPmonCtr2),
  (0x810B8, true, .r2PciPmonCtr3),
  (0x590F8, false, .r3L0PciPmonBoxStatus),
  (0x590F4, false, .r3L0PciPmonBoxCtl),
  (0x590D8, false, .r3L0PciPmonCtl0),
  (0x590DC, false, .r3L0PciPmonCtl1),
  (0x590E0, false, .r3L0PciPmonCtl2),
  (0x590A0, true, .r3L0PciPmonCtr0),
  (0x590A8, true, .r3L0PciPmonCtr1),
  (0x590B0, true, .r3L0PciPmonCtr2),
  (0x5A0F8, false, .r3L1PciPmonBoxStatus),
  (0x5A0F4, false, .r3L1PciPmonBoxCtl),
  (0x5A0D8, false, .r3L1PciPmonCtl0),
  (0x5A0DC, false, .r3L1PciPmonCtl1),
  (0x5A0E0, false, .r3L1PciPmonCtl2),
  (0x5A0A0, true, .r3L1PciPmonCtr0),
  (0x5A0A8, true, .r3L1PciPmonCtr1),
  (0x5A0B0, true, .r3L1PciPmonCtr2),
  (0x5D0F8, false, .r3L2PciPmonBoxStatus),
  (0x5D0F4, false, .r3L2PciPmonBoxCtl),
  (0x5D0D8, false, .r3L2PciPmonCtl0),
  (0x5D0DC, false, .r3L2PciPmonCtl1),
  (0x5D0E0, false, .r3L2PciPmonCtl2),
  (0x5D0A0, true, .r3L2PciPmonCtr0),
  (0x5D0A8, true, .r3L2PciPmonCtr1),
  (0x5D0B0, true, .r3L2PciPmonCtr2)]

/-- The PCICFG addresses, with whether the register is two dwords (20_memory.md R102, R103). -/
def cfgTable : List (Nat × Bool × (CfgAccess → Instr)) :=
  cfgTable0 ++ cfgTable1 ++ cfgTable2 ++ cfgTable3 ++ cfgTable4

/-- Every PMON PCI function: the address of its offset 0, a register of it, its device id (10_state.md R47 to R87). -/
def functionTable : List (Nat × Reg × BitVec 16) := [
  (0x91000, .boxCtl (.ha 0), 0x2F30),
  (0x95000, .boxCtl (.ha 1), 0x2F38),
  (0xA0000, .boxCtl (.imc 0), 0x2FB4),
  (0xA1000, .boxCtl (.imc 1), 0x2FB5),
  (0xA8000, .boxCtl (.imc 2), 0x2FB0),
  (0xA9000, .boxCtl (.imc 3), 0x2FB1),
  (0xB8000, .boxCtl (.imc 4), 0x2FD4),
  (0xB9000, .boxCtl (.imc 5), 0x2FD5),
  (0xC0000, .boxCtl (.imc 6), 0x2FD0),
  (0xC1000, .boxCtl (.imc 7), 0x2FD1),
  (0x2E000, .boxCtl .irp, 0x2F39),
  (0x42000, .boxCtl (.qpi 0), 0x2F32),
  (0x4A000, .boxCtl (.qpi 1), 0x2F33),
  (0x52000, .boxCtl (.qpi 2), 0x2F3A),
  (0x46000, .qpiPkt 0 .rxMatch0, 0x2F86),
  (0x4E000, .qpiPkt 1 .rxMatch0, 0x2F96),
  (0x56000, .qpiPkt 2 .rxMatch0, 0x2F46),
  (0x40000, .qpiRate false, 0x2F80),
  (0x50000, .qpiRate true, 0x2F40),
  (0x81000, .boxCtl .r2, 0x2F34),
  (0x59000, .boxCtl (.r3 0), 0x2F36),
  (0x5A000, .boxCtl (.r3 1), 0x2F37),
  (0x5D000, .boxCtl (.r3 2), 0x2F3E)]

/-! ### The decoder -/

/-- Why bytes are no instruction. -/
inductive Reject where
  /-- too few or too many bytes -/
  | truncated
  /-- a host command with a bit set that no operation defines -/
  | malformed
  /-- a misaligned PCICFG offset, or an access that is not one whole MSR or dword (20_memory.md R104) -/
  | accessSize
  /-- no register has this address (20_memory.md R101, R102) -/
  | unmapped
  /-- offset 0 of a PMON function, which is no row of the table (20_memory.md R110) -/
  | identification (bus : BitVec 8) (fn : Nat) (write : Bool)
  /-- a control word with a reserved, ignored or write-only bit set: no control register holds it -/
  | reservedBits
  /-- an event code the box does not list (30_encoding.md R163) -/
  | unlistedCode
  /-- a unit mask that selects no listed row (30_encoding.md R163) -/
  | unlistedUmask
  deriving DecidableEq, Repr, Inhabited

/-- Where the bytes come from. -/
inductive Slot where
  /-- the host; `irpAlt` is the parameter IRP_CTR_OFFSETS (90_conflicts.md C2) -/
  | host (irpAlt : Bool)
  /-- the control register of counter `i` of the `n`-th box of kind `k` -/
  | counter (k : Kind) (n : Fin k.insts) (i : Fin k.ctrs)
  deriving DecidableEq, Repr

/-- Decode a control word in the context of its box and counter. -/
def decodeCtl (k : Kind) (n : Fin k.insts) (i : Fin k.ctrs) (w : Word) : Except Reject Instr :=
  let c := CtlWord.unpack w
  if !c.stored k then .error .reservedBits
  else
    match (eventTable k).find? (fun p => p.1.code == c.code && p.1.ext == c.b21) with
    | none => .error .unlistedCode
    | some p =>
      match p.1.pick c.umask with
      | none => .error .unlistedUmask
      | some base =>
        match p.2.lookup base with
        | none => .error .unlistedUmask
        | some mk => .ok (mk ⟨n, i, c.ops k base⟩)

/-- The default offset of the dword an IRP counter offset names when IRP_CTR_OFFSETS = (A0, B0, B8, C0); `none` where
that setting has no register. Other addresses are unchanged. -/
def irpUnalt (a : Nat) : Option Nat :=
  match a with
  | 0x2E0A8 | 0x2E0AC => none
  | 0x2E0B0 | 0x2E0B4 | 0x2E0B8 | 0x2E0BC | 0x2E0C0 | 0x2E0C4 => some (a - 8)
  | _ => some a

/-- The inverse: where that setting puts the register whose default address is `a`. -/
def irpAlt (a : Nat) : Nat :=
  match a with
  | 0x2E0A8 | 0x2E0B0 | 0x2E0B8 => a + 8
  | _ => a

/-- Decode an MSR access. -/
def decodeMsr (addr : Nat) (write : Bool) (v : Quad) : Except Reject Instr :=
  match msrTable.lookup addr with
  | none => .error .unmapped
  | some mk => .ok (mk (if write then .write v else .read))

/-- Decode a PCICFG access to the dword at `addr` = device <<< 15 + function <<< 12 + offset. -/
def decodeCfg (alt : Bool) (bus : BitVec 8) (addr : Nat) (write : Bool) (v : Word) : Except Reject Instr :=
  if addr % 4 ≠ 0 then .error .accessSize
  else if (functionTable.lookup addr).isSome then .error (.identification bus addr write)
  else
    match if alt then irpUnalt addr else some addr with
    | none => .error .unmapped
    | some a =>
      match cfgTable.lookup a with
      | some p => .ok (p.2 ⟨bus, false, if write then .write v else .read⟩)
      | none =>
        match cfgTable.lookup (a - 4) with
        | some (true, mk) => .ok (mk ⟨bus, true, if write then .write v else .read⟩)
        | _ => .error .unmapped

/-- Decode a host command of four dwords. The address dword holds an MSR number, or bus <<< 20 + device <<< 15 +
function <<< 12 + offset. The operation dword: bit 0 write; bits 2:1 the space (0 as the opcode table numbers its rows,
where a PCICFG address names device 1 or more; 1 MSR; 2 PCICFG); bits 7:4 the access size (0 a whole MSR or one
dword). -/
def decodeCommand (alt : Bool) (addr op lo hi : Word) : Except Reject Instr :=
  if op &&& 0xFFFFFF08 ≠ 0 ∨ op.extractLsb' 1 2 = 3 then .error .malformed
  else if op.extractLsb' 4 4 ≠ 0 then .error .accessSize
  else if op.extractLsb' 1 2 = 2 ∨ (op.extractLsb' 1 2 = 0 ∧ 0x8000 ≤ addr.toNat) then
    if addr.extractLsb' 28 4 ≠ 0 then .error .malformed
    else decodeCfg alt (addr.extractLsb' 20 8) (addr.extractLsb' 0 20).toNat (op.getLsbD 0) lo
  else decodeMsr addr.toNat (op.getLsbD 0) (hi ++ lo)

/-- The decoder: four bytes of a control register, or the sixteen of a host command. -/
def decode (sl : Slot) (bytes : List Byte) : Except Reject Instr :=
  match sl, bytes with
  | .counter k n i, [b0, b1, b2, b3] => decodeCtl k n i (wordOf b0 b1 b2 b3)
  | .host alt, [a0, a1, a2, a3, o0, o1, o2, o3, l0, l1, l2, l3, h0, h1, h2, h3] =>
    decodeCommand alt (wordOf a0 a1 a2 a3) (wordOf o0 o1 o2 o3) (wordOf l0 l1 l2 l3) (wordOf h0 h1 h2 h3)
  | _, _ => .error .truncated

/-! ### The encoder -/

/-- Where an instruction is decoded from. -/
def Instr.slot (alt : Bool) (i : Instr) : Slot :=
  match i.view with
  | .event k _ _ o => .counter k o.inst o.ctr
  | .msr _ _ _ | .cfg _ _ _ => .host alt

/-- The operation dword of an access. -/
def opWord (write : Bool) : Word := if write then 1 else 0

/-- The words of an instruction. -/
def encodeWords (alt : Bool) (i : Instr) : List Word :=
  match i.view with
  | .event k e base o => [(o.ctl.word k e.code e.ext base).pack]
  | .msr addr _ a =>
    match a with
    | .read => [BitVec.ofNat 32 addr, opWord false, 0, 0]
    | .write v => [BitVec.ofNat 32 addr, opWord true, v.extractLsb' 0 32, v.extractLsb' 32 32]
  | .cfg addr _ a =>
    let at' := BitVec.ofNat 20 ((if alt then irpAlt addr else addr) + if a.high then 4 else 0)
    match a.op with
    | .read => [(0 : BitVec 4) ++ a.bus ++ at', opWord false, 0, 0]
    | .write v => [(0 : BitVec 4) ++ a.bus ++ at', opWord true, v, 0]

/-- The encoder: the bytes of an instruction. -/
def encode (alt : Bool) (i : Instr) : List Byte := (encodeWords alt i).flatMap bytesOf

/-! ### The host's numbering of the opcode table -/

/-- How many whole bytes the opcode table gives an instruction's row. -/
def Instr.tableBytes (i : Instr) : Nat :=
  match i.view with
  | .event k e _ _ => if k.hasExt then 3 else if e.rows.any (fun r => r.sel == .any) then 1 else 2
  | .msr _ _ _ => 4
  | .cfg _ _ _ => 3

/-- The first box of a kind. -/
def Kind.firstInst (k : Kind) : Fin k.insts := ⟨0, by cases k <;> decide⟩

/-- Counter 0 of a box. -/
def Kind.firstCtr (k : Kind) : Fin k.ctrs := ⟨0, by cases k <;> decide⟩

/-- The streams a table word may stand in, tried in this order (log 5): a host command, then the control register of
counter 0 of the first box of each kind. -/
def tableSlots : List Slot :=
  .host false ::
    [.ubox, .cbo, .ha, .imc, .sbo, .irp, .r2, .r3, .qpi, .pcu].map (fun k => .counter k k.firstInst k.firstCtr)

/-- What a stream's decoder reads from a table word. -/
def decodeInSlot (sl : Slot) (w : Nat) : Option Instr :=
  match sl with
  | .host _ => (decode sl (bytesOf (BitVec.ofNat 32 w) ++ List.replicate 12 0)).toOption
  | .counter _ _ _ => (decode sl (bytesOf (BitVec.ofNat 32 w))).toOption

/-- The stream a table word is read in: the first whose row has the same number of bytes, else the first that decodes
it. The table's words of different boxes overlap, and a word alone does not name its box. -/
def tableSlot (nbits w : Nat) : Option Slot :=
  match tableSlots.find? (fun sl => (decodeInSlot sl w).any (fun i => i.tableBytes * 8 == nbits)) with
  | some sl => some sl
  | none => tableSlots.find? (fun sl => (decodeInSlot sl w).isSome)

/-- The instruction the decoder reads from a row's word as spec/opcode_table.json numbers its bits. -/
def decodeTableWord (nbits w : Nat) : Option Instr :=
  match tableSlot nbits w with
  | some sl => decodeInSlot sl w
  | none => none

end

end Sys2Proof
end

