-- ==== Sys2Proof/Machine/State.lean ====
section
/-! DEFINITION. The state of the uncore PMON hardware of one socket (10_state.md), the reasons a step can stop, and the
state after reset. There is no byte-addressed memory and no program counter (20_memory.md R100, 10_state.md R24). -/

namespace Sys2Proof.Machine

/-- The hardware defines no fault: no operation faults, no agent is stuck, no access hangs (60_exceptions.md R1000). -/
inductive Fault where
  deriving DecidableEq, Repr

/-- Where the spec declines a host access (60_exceptions.md R1001). A refused access changes nothing. All are safe: the
model stops where the spec says nothing of what the hardware does. -/
inductive Refusal where
  /-- An instruction without a meaning yet. No arm uses it. Safe. -/
  | notModelled (mnemonic : String)
  /-- `access_size`, raised by the decoder for a PCICFG offset that is no multiple of 4 or an access that is not one
  dword, and for host bytes of another length. Safe. -/
  | accessSize
  /-- `unmapped`, raised by the decoder and by an access on another bus than BUS. Safe. -/
  | unmapped
  /-- `absent_box`, raised by an access to an instance the part lacks. Safe. -/
  | absentBox
  /-- `reserved_nonzero`, raised by a write to a field marked "SW must write to 0 else behavior is undefined". Safe. -/
  | reservedNonzero
  /-- `read_only`, raised by a write to a free-running PCU counter or to QPI_RATE_STATUS. Safe. -/
  | readOnly
  /-- `thresh_zero`, raised by a control write that shapes the event with thresh = 0. Safe. -/
  | threshZero
  /-- `freeze_and_unfreeze`, raised by a write of U_MSR_PMON_GLOBAL_CTL with both action bits. Safe. -/
  | freezeAndUnfreeze
  deriving DecidableEq, Repr

/-- One generic counter with its control register and hidden latches. -/
structure CtrUnit where
  /-- `*_PMON_CTLi`, the stored fields (10_state.md R31 to R90) -/
  ctl : Word
  /-- `*_PMON_CTRi`, event_count (R32 to R91) -/
  ctr : Counter
  /-- `PREV` (R94). `none` is the spec's "holds no value". -/
  prev : Option Bool
  /-- `OPREV` of a PCU counter (R94) -/
  oprev : Option Bool
  /-- `DW` of an SBo, R2PCIe or R3QPI control register (R95). `none` is the spec's own value. -/
  dw : Option Word
  /-- The control register has taken hold (R95) -/
  settled : Bool
  /-- `QRST` of a QPI control register (R96) -/
  qrst : Bool
  deriving DecidableEq, Repr

/-- One PMON block. Every block has the same fields; a box uses the ones it has. -/
structure Blk where
  u0 : CtrUnit
  u1 : CtrUnit
  u2 : CtrUnit
  u3 : CtrUnit
  /-- `*_PMON_BOX_STATUS.ov`, at most 5 bits (40_global_ubox.md R210) -/
  ov : BitVec 5
  /-- `BFRZ` (10_state.md R93) -/
  bfrz : Bool
  /-- `GFRZ_seen` (20_memory.md R116) -/
  gseen : Option Bool
  /-- `U_MSR_PMON_UCLK_FIXED_CTL`, `MC_CHy_PCI_PMON_FIXED_CTL` (R33, R59) -/
  fixCtl : Word
  /-- `U_MSR_PMON_UCLK_FIXED_CTR`, `MC_CHy_PCI_PMON_FIXED_CTR` (R34, R60) -/
  fixCtr : Counter
  deriving DecidableEq, Repr

/-- Output events: the hardware tells the cores something (40_global_ubox.md R228, 60_exceptions.md R1008). -/
inductive Signal where
  | wake (cores : BitVec 18)
  | pmi (cores : BitVec 18)
  deriving DecidableEq, Repr

/-- The eight match and mask registers of a QPI port (10_state.md R78, R79). -/
structure PktRegs where
  rxMatch0 : Word
  rxMatch1 : Word
  rxMask0 : Word
  rxMask1 : Word
  txMatch0 : Word
  txMatch1 : Word
  txMask0 : Word
  txMask1 : Word
  deriving DecidableEq, Repr

/-- A clock cycle of a box in progress: counters below `next` have had their step (40_global_ubox.md R215). -/
structure Run where
  box : BoxId
  next : Nat
  deriving DecidableEq, Repr

/-- The machine. -/
structure State where
  /-- The parameters of the part, fixed for its life (70_reset_and_hazards.md R1040). -/
  cfg : Params
  /-- U_MSR_PMON_GLOBAL_CTL.wk_on_pmi (10_state.md R27) -/
  wkOnPmi : Bool
  /-- U_MSR_PMON_GLOBAL_CTL.pmi_core_sel (R27) -/
  pmiCoreSel : BitVec 18
  /-- U_MSR_PMON_GLOBAL_STATUS (R28) -/
  status : Quad
  /-- U_MSR_PMON_GLOBAL_CONFIG.num_c (R29) -/
  numC : BitVec 5
  /-- `GFRZ` (R92); `none` is the spec's "no value" (70_reset_and_hazards.md R1041) -/
  gfrz : Option Bool
  /-- `PEND` (R98): the messages in flight, each the global status bits it names -/
  pend : List Quad
  ubox : Blk
  cbo : Vector Blk 18
  sbo : Vector Blk 4
  ha : Vector Blk 2
  imc : Vector Blk 8
  irp : Blk
  pcu : Blk
  qpi : Vector Blk 3
  r2 : Blk
  r3 : Vector Blk 3
  /-- Cn_MSR_PMON_BOX_FILTER0 (R40) -/
  cboFilter0 : Vector Word 18
  /-- Cn_MSR_PMON_BOX_FILTER1 (R41) -/
  cboFilter1 : Vector Word 18
  /-- HAn_PCI_PMON_BOX_OPCODEMATCH (R52) -/
  haOpcodeMatch : Vector Word 2
  /-- HAn_PCI_PMON_BOX_ADDRMATCH1 (R53) -/
  haAddrMatch1 : Vector Word 2
  /-- HAn_PCI_PMON_BOX_ADDRMATCH0 (R54) -/
  haAddrMatch0 : Vector Word 2
  /-- PCU_MSR_PMON_BOX_FILTER (R71) -/
  pcuFilter : Word
  /-- `EFFBAND` (R97); `none` is the spec's "no value" -/
  effband : Vector (Option (BitVec 8)) 4
  /-- PCU_MSR_CORE_CC6_CTR, CC3, PC2 and PC3 (R72) -/
  cc6 : Quad
  cc3 : Quad
  pc2 : Quad
  pc3 : Quad
  /-- Q_Py_PCI_PMON_{RX,TX}_PKT_{MATCH,MASK}{0,1} (R78, R79) -/
  qpiPkt : Vector PktRegs 3
  /-- Q_Py_PCI_PMON_LINK_IDLE (R81) -/
  qpiIdle : Vector Word 3
  /-- Q_Py_PCI_PMON_LINK_LLR (R81) -/
  qpiLlr : Vector Word 3
  /-- The model's: what the host's last read returned. -/
  hostRead : Option Quad
  /-- The model's: the output events so far, oldest first. -/
  out : List Signal
  /-- The model's: how many environment values have been drawn (00_scope.md R10). -/
  draws : Nat
  /-- The model's: the time stamp of the next box cycle. -/
  time : Nat
  /-- The model's: who moves next; empty leaves it to `Config.schedule` (20_memory.md R111). -/
  agenda : List Turn
  /-- The model's: the box cycle in progress. -/
  run : Option Run
  deriving DecidableEq, Repr

/-- A generic counter after reset (70_reset_and_hazards.md R1042). -/
def CtrUnit.reset : CtrUnit where
  ctl := 0
  ctr := 0
  prev := none
  oprev := none
  dw := none
  settled := true
  qrst := false

/-- A block after reset (70_reset_and_hazards.md R1042). -/
def Blk.reset : Blk where
  u0 := .reset
  u1 := .reset
  u2 := .reset
  u3 := .reset
  ov := 0
  bfrz := false
  gseen := none
  fixCtl := 0
  fixCtr := 0

/-- A port's match and mask registers after reset. -/
def PktRegs.reset : PktRegs where
  rxMatch0 := 0
  rxMatch1 := 0
  rxMask0 := 0
  rxMask1 := 0
  txMatch0 := 0
  txMatch1 := 0
  txMask0 := 0
  txMask1 := 0

/-- The machine right after the hardware reset (70_reset_and_hazards.md R1040 to R1043): every register 0 but num_c, the
latches GFRZ, PREV, OPREV and EFFBAND without a value. -/
def State.reset : State where
  cfg := .default
  wkOnPmi := false
  pmiCoreSel := 0
  status := 0
  numC := 18
  gfrz := none
  pend := []
  ubox := .reset
  cbo := .replicate 18 .reset
  sbo := .replicate 4 .reset
  ha := .replicate 2 .reset
  imc := .replicate 8 .reset
  irp := .reset
  pcu := .reset
  qpi := .replicate 3 .reset
  r2 := .reset
  r3 := .replicate 3 .reset
  cboFilter0 := .replicate 18 0
  cboFilter1 := .replicate 18 0
  haOpcodeMatch := .replicate 2 0
  haAddrMatch1 := .replicate 2 0
  haAddrMatch0 := .replicate 2 0
  pcuFilter := 0
  effband := .replicate 4 none
  cc6 := 0
  cc3 := 0
  pc2 := 0
  pc3 := 0
  qpiPkt := .replicate 3 .reset
  qpiIdle := .replicate 3 0
  qpiLlr := .replicate 3 0
  hostRead := none
  out := []
  draws := 0
  time := 0
  agenda := []
  run := none

end Sys2Proof.Machine
end

