-- ==== Sys2Proof/Machine/Ops.lean ====
section
/-! DEFINITION. The named operations over blocks and counters, the draws of the environment, the overflow message and
its delivery (the one interrupt, 60_exceptions.md R1005), and the hardware reset. -/

namespace Sys2Proof

/-! ### What a part has -/

/-- The instance exists on this part (00_scope.md R7, 20_memory.md R107). -/
def BoxId.present (p : Params) (b : BoxId) : Bool :=
  match b with
  | .ubox | .irp | .pcu | .r2 => true
  | .cbo n => decide (n.val < p.nCbo)
  | .sbo n => decide (n.val < p.nSbo)
  | .ha n => decide (n.val < p.nHa)
  | .imc n => decide (n.val / 4 < p.nImc ∧ n.val % 4 < if n.val < 4 then p.nCh0 else p.nCh1)
  | .qpi n => decide (n.val < p.nQpiPort)
  | .r3 n => decide (n.val < p.nR3Link)

/-- W, the width of the box's generic counters (40_global_ubox.md R218). -/
def BoxId.width (p : Params) (b : BoxId) : Nat :=
  match b with
  | .r3 _ => p.r3Width
  | _ => 48

/-- The boxes whose control registers need two writes (10_state.md R95). -/
def BoxId.doubleWrite (b : BoxId) : Bool :=
  match b with
  | .sbo _ | .r2 | .r3 _ => true
  | _ => false

/-- The bits of U_MSR_PMON_GLOBAL_STATUS a box's overflow message names (40_global_ubox.md R226); 0 for the CBo and the
SBo, which send none (R217). -/
def BoxId.globalBits (b : BoxId) : Quad :=
  match b with
  | .ubox => 0x2
  | .pcu => 0x4
  | .ha 0 => 0x200000
  | .ha 1 => 0x400000
  | .imc n => if n.val < 4 then 0x800000 else 0x1000000
  | .qpi n => if n.val < 2 then 0x2000000 else 0x4000000
  | .r3 n => if n.val < 2 then 0x808000000 else 0x810000000
  | .r2 => 0x20000000
  | .irp => 0x400000000
  | .cbo _ | .sbo _ => 0

/-- The box status bit of generic counter `i` (40_global_ubox.md R216; the IMC's bit 0 is its fixed counter, 44_imc.md
R502). -/
def BoxId.ovIndex (b : BoxId) (i : Fin 4) : Nat :=
  match b with
  | .imc _ => i.val + 1
  | _ => i.val

/-- The cores the part has, as a mask (60_exceptions.md R1008). -/
def Params.coreMask (p : Params) : BitVec 18 := BitVec.ofNat 18 (2 ^ p.nCore - 1)

end Sys2Proof

namespace Sys2Proof.Machine

/-! ### Updates of single fields -/

/-- Replace how many values have been drawn. -/
def State.setDraws (s : State) (v : Nat) : State := { s with draws := v }

/-- Replace the messages in flight. -/
def State.setPend (s : State) (v : List Quad) : State := { s with pend := v }

/-- Replace the output events. -/
def State.setOut (s : State) (v : List Signal) : State := { s with out := v }

/-- Replace what the last read returned. -/
def State.setHostRead (s : State) (v : Option Quad) : State := { s with hostRead := v }

/-- Replace who moves next. -/
def State.setAgenda (s : State) (v : List Turn) : State := { s with agenda := v }

/-- Replace the time stamp. -/
def State.setTime (s : State) (v : Nat) : State := { s with time := v }

/-- Replace the box cycle in progress. -/
def State.setRun (s : State) (v : Option Run) : State := { s with run := v }

/-! ### Blocks and counters -/

/-- Counter `i` of a block. -/
def Blk.unit (x : Blk) (i : Fin 4) : CtrUnit :=
  match i with
  | 0 => x.u0
  | 1 => x.u1
  | 2 => x.u2
  | 3 => x.u3

/-- Replace counter `i` of a block. -/
def Blk.setUnit (x : Blk) (i : Fin 4) (u : CtrUnit) : Blk :=
  match i with
  | 0 => { x with u0 := u }
  | 1 => { x with u1 := u }
  | 2 => { x with u2 := u }
  | 3 => { x with u3 := u }

/-- Replace the overflow bits of a block. -/
def Blk.setOv (x : Blk) (v : BitVec 5) : Blk := { x with ov := v }

/-- Change every counter of a block. -/
def Blk.mapUnits (f : CtrUnit → CtrUnit) (x : Blk) : Blk :=
  { x with u0 := f x.u0, u1 := f x.u1, u2 := f x.u2, u3 := f x.u3 }

/-- A box's block. -/
def State.blk (s : State) (b : BoxId) : Blk :=
  match b with
  | .ubox => s.ubox
  | .cbo n => s.cbo[n]
  | .sbo n => s.sbo[n]
  | .ha n => s.ha[n]
  | .imc n => s.imc[n]
  | .irp => s.irp
  | .pcu => s.pcu
  | .qpi p => s.qpi[p]
  | .r2 => s.r2
  | .r3 l => s.r3[l]

/-- Replace a box's block. -/
def State.setBlk (s : State) (b : BoxId) (x : Blk) : State :=
  match b with
  | .ubox => { s with ubox := x }
  | .cbo n => { s with cbo := s.cbo.set n x }
  | .sbo n => { s with sbo := s.sbo.set n x }
  | .ha n => { s with ha := s.ha.set n x }
  | .imc n => { s with imc := s.imc.set n x }
  | .irp => { s with irp := x }
  | .pcu => { s with pcu := x }
  | .qpi p => { s with qpi := s.qpi.set p x }
  | .r2 => { s with r2 := x }
  | .r3 l => { s with r3 := s.r3.set l x }

/-- Counter `i` of box `b`. -/
def State.unit (s : State) (b : BoxId) (i : Fin 4) : CtrUnit := (s.blk b).unit i

/-- Replace counter `i` of box `b`. -/
def State.setUnit (s : State) (b : BoxId) (i : Fin 4) (u : CtrUnit) : State := s.setBlk b ((s.blk b).setUnit i u)

/-- A PCU free-running counter. -/
def State.pcuFree (s : State) (c : FreeRun) : Quad :=
  match c with
  | .cc6 => s.cc6
  | .cc3 => s.cc3
  | .pc2 => s.pc2
  | .pc3 => s.pc3

/-- A match or mask register of a port. -/
def PktRegs.get (x : PktRegs) (r : PktReg) : Word :=
  match r with
  | .rxMatch0 => x.rxMatch0
  | .rxMatch1 => x.rxMatch1
  | .rxMask0 => x.rxMask0
  | .rxMask1 => x.rxMask1
  | .txMatch0 => x.txMatch0
  | .txMatch1 => x.txMatch1
  | .txMask0 => x.txMask0
  | .txMask1 => x.txMask1

/-- Store a match or mask register. -/
def PktRegs.set (x : PktRegs) (r : PktReg) (w : Word) : PktRegs :=
  match r with
  | .rxMatch0 => { x with rxMatch0 := w }
  | .rxMatch1 => { x with rxMatch1 := w }
  | .rxMask0 => { x with rxMask0 := w }
  | .rxMask1 => { x with rxMask1 := w }
  | .txMatch0 => { x with txMatch0 := w }
  | .txMatch1 => { x with txMatch1 := w }
  | .txMask0 => { x with txMask0 := w }
  | .txMask1 => { x with txMask1 := w }

/-! ### Draws (00_scope.md R10) -/

/-- `draw({0..n})`: a value the environment chooses, a fresh one at each use. -/
def State.draw (s : State) (n : Nat) : Nat × State :=
  (Config.draw s.draws % (n + 1), s.setDraws (s.draws + 1))

/-- `draw({true, false})`. -/
def State.drawBool (s : State) : Bool × State :=
  (Config.draw s.draws % 2 == 1, s.setDraws (s.draws + 1))

/-! ### The global freeze (40_global_ubox.md R219) -/

/-- What box `b` sees of GFRZ. -/
def State.freezeSeen (s : State) (b : BoxId) : Option Bool :=
  if s.cfg.propEventual then (s.blk b).gseen else s.gfrz

/-- `frozen_global(b)`: a draw while the latch holds no value (70_reset_and_hazards.md R1041). -/
def frozenGlobal (b : BoxId) (s : State) : Bool × State :=
  match s.freezeSeen b with
  | some g => (g, s)
  | none => s.drawBool

/-! ### The overflow message (40_global_ubox.md R216, R217, R231) -/

/-- `send_overflow_message`: PEND gains a message. A box without a bit of U_MSR_PMON_GLOBAL_STATUS sends none. -/
def sendMessage (bits : Quad) (s : State) : State :=
  if bits = 0 then s else s.setPend (s.pend ++ [bits])

/-- Status bit `n` of box `b` is set on an overflow, and a message naming `bits` is sent if `ovEn`: for certain when that
status bit and all of `bits` were 0 just before, else as the environment draws (R231). -/
def reportOverflow (b : BoxId) (n : Nat) (ovEn : Bool) (s : State) : State :=
  let x := s.blk b
  let s' := s.setBlk b (x.setOv (x.ov ||| BitVec.ofNat 5 (2 ^ n)))
  if ovEn && b.globalBits != 0 then
    if x.ov.getLsbD n || s.status &&& b.globalBits != 0 then
      if s'.drawBool.1 then sendMessage b.globalBits s'.drawBool.2 else s'.drawBool.2
    else sendMessage b.globalBits s'
  else s'

/-! ### Taking the interrupt: delivery of a message (40_global_ubox.md R226 to R228) -/

/-- An output to a set of cores; an empty set is no signal at all (60_exceptions.md R1008). -/
def emit (f : BitVec 18 → Signal) (cores : BitVec 18) (s : State) : State :=
  if cores = 0 then s else s.setOut (s.out ++ [f cores])

/-- `send_pmi()` (40_global_ubox.md R228, 60_exceptions.md R1008). -/
def sendPmi (s : State) : State :=
  if s.pmiCoreSel = 0 then s
  else
    let m := s.pmiCoreSel &&& s.cfg.coreMask
    let asleep := Config.asleep s.draws
    let s' := s.setDraws (s.draws + 1)
    if s.wkOnPmi then emit .pmi m (emit .wake (m &&& asleep) s') else emit .pmi (m &&& ~~~asleep) s'

/-- `receive(bits)`: the global status records the sender, the socket freezes, the PMI goes out. -/
def receive (bits : Quad) (s : State) : State :=
  sendPmi { s with status := s.status ||| bits, gfrz := some true }

/-- One delivery step: message `k` of PEND reaches the UBox. -/
def deliver (k : Nat) (s : State) : State :=
  match s.pend[k]? with
  | none => s
  | some bits => receive bits (s.setPend (s.pend.eraseIdx k))

/-! ### Other events of the platform -/

/-- A frequency transition: EFFBAND takes the filter's bytes (10_state.md R97). -/
def frequencyTransition (s : State) : State :=
  { s with effband := #v[some (s.pcuFilter.extractLsb' 0 8), some (s.pcuFilter.extractLsb' 8 8),
      some (s.pcuFilter.extractLsb' 16 8), some (s.pcuFilter.extractLsb' 24 8)] }

/-- Box `b`'s copy of the global freeze catches up (20_memory.md R116). -/
def seeFreeze (b : BoxId) (s : State) : State := s.setBlk b { s.blk b with gseen := s.gfrz }

/-- The hardware reset (70_reset_and_hazards.md R1040): every register and latch as at reset. The parameters stay, and
the model's own record of the environment and of the outputs goes on. -/
def hardwareReset (s : State) : State :=
  { State.reset with
    cfg := s.cfg, hostRead := s.hostRead, out := s.out, draws := s.draws, time := s.time, agenda := s.agenda }

end Sys2Proof.Machine
end

