-- ==== Sys2Proof/Machine/Flags.lean ====
section
/-! DEFINITION. From a raw increment to the counter and its overflow bit: threshold and invert, edge detect, the count
step, and when a counter counts (40_global_ubox.md R213 to R219, 46_pcu.md R656). -/

namespace Sys2Proof.Machine

/-- `stage_thresh` (40_global_ubox.md R213): the raw increment itself when thresh is 0, else the comparison's bit. -/
def stageThresh (thresh : BitVec 8) (invert : Bool) (raw : Nat) : Nat ⊕ Bool :=
  if thresh = 0 then .inl raw
  else if invert then .inr (decide (raw < thresh.toNat))
  else .inr (decide (thresh.toNat ≤ raw))

/-- The comparison of `stage_edge` (R214): 1 on a false to true step; without a previous sample a true bit may or may
not be an edge. -/
def risingEdge (prev : Option Bool) (c : Bool) (s : State) : Nat × State :=
  match prev with
  | some p => (if !p && c then 1 else 0, s)
  | none => if c then s.draw 1 else (0, s)

/-- `stage_edge` with the latch PREV (R214). -/
def stageEdge (b : BoxId) (i : Fin 4) (c : Bool) (s : State) : Nat × State :=
  let u := s.unit b i
  risingEdge u.prev c (s.setUnit b i { u with prev := some c })

/-- The edge stage of a PCU occupancy event, with the latch OPREV (46_pcu.md R656). -/
def stageOccEdge (b : BoxId) (i : Fin 4) (c : Bool) (s : State) : Nat × State :=
  let u := s.unit b i
  risingEdge u.oprev c (s.setUnit b i { u with oprev := some c })

/-- The PCU's occupancy events (ev_sel[7] = 1) are shaped by occ_invert and occ_edge_det (46_pcu.md R655). -/
def occShaped (b : BoxId) (code : BitVec 8) : Bool := b.kind == .pcu && code.getLsbD 7

/-- On counters 1 to 3 of a CBo an addend above 1 is drawn from 1 up to it (41_cbo.md R272). -/
def spread (b : BoxId) (i : Fin 4) (a : Nat) (s : State) : Nat × State :=
  if b.kind == .cbo && i != 0 && decide (1 < a) then (1 + (s.draw (a - 1)).1, (s.draw (a - 1)).2) else (a, s)

/-- The addend `a` of the count step (R215): the threshold stage, then the edge stage. -/
def addend (b : BoxId) (i : Fin 4) (code : BitVec 8) (c : CtlOps) (raw : Nat) (s : State) : Nat × State :=
  if occShaped b code then
    match stageThresh c.thresh c.occInvert raw with
    | .inl n => (n, s)
    | .inr t => if c.occEdge then stageOccEdge b i t s else (t.toNat, s)
  else
    match stageThresh c.thresh c.invert raw with
    | .inl n => spread b i n s
    | .inr t => if c.edge then stageEdge b i t s else (t.toNat, s)

/-- `CTRi <- (CTRi + a) mod 2^W`, and the overflow when a carry leaves bit W - 1 (R215, R216). -/
def addTo (b : BoxId) (i : Fin 4) (ovEn : Bool) (a : Nat) (s : State) : State :=
  let u := s.unit b i
  let total := u.ctr.toNat + a
  let s' := s.setUnit b i { u with ctr := BitVec.ofNat 48 (total % 2 ^ b.width s.cfg) }
  if 2 ^ b.width s.cfg ≤ total then reportOverflow b (b.ovIndex i) ovEn s' else s'

/-- A cycle in which the counter does not count leaves the edge detector without a sample (R215, 10_state.md R94). -/
def forgetSample (b : BoxId) (i : Fin 4) (s : State) : State :=
  s.setUnit b i { s.unit b i with prev := none, oprev := none }

/-- The levels of the enable hierarchy below the global freeze: the counter's en, the box freeze (the UBox has none),
and a QPI port's sticky reset (R219). -/
def locallyEnabled (b : BoxId) (i : Fin 4) (en : Bool) (s : State) : Bool :=
  en && (b == .ubox || !(s.blk b).bfrz) && !(s.unit b i).qrst

/-- `counting(b, i)` (R219). -/
def counting (b : BoxId) (i : Fin 4) (en : Bool) (s : State) : Bool × State :=
  if locallyEnabled b i en s then (!(frozenGlobal b s).1, (frozenGlobal b s).2) else (false, s)

/-- A counter that counts: raw increment, stages, sum (R215). While the control register is unsettled nothing it holds
has a known effect, so the addend and whether an overflow is reported are draws (10_state.md R95,
70_reset_and_hazards.md R1051, log 8). -/
def countEnabled (b : BoxId) (i : Fin 4) (code : BitVec 8) (c : CtlOps) (raw : State → Nat × State) (s : State) : State :=
  if (s.unit b i).settled then
    let r := raw s
    let a := addend b i code c r.1 r.2
    addTo b i c.ovEn a.1 a.2
  else
    let d := s.draw s.cfg.rawBound
    let m := d.2.drawBool
    addTo b i m.1 d.1 (forgetSample b i m.2)

/-- The count step of one generic counter in one cycle of its box (R215). -/
def countStep (b : BoxId) (i : Fin 4) (code : BitVec 8) (c : CtlOps) (raw : State → Nat × State) (s : State) : State :=
  let g := counting b i c.en s
  if g.1 then countEnabled b i code c raw g.2 else forgetSample b i g.2

end Sys2Proof.Machine
end

