-- ==== Sys2Proof/Machine/Operands.lean ====
section
/-! DEFINITION. What a counter's control word selects: the raw increment of every event under its unit mask, filters and
counter restriction (00_scope.md R12, 30_encoding.md R157, R163, R164, and the rules of each box). -/

namespace Sys2Proof.Machine

/-! ### Occurrences under a unit mask -/

/-- An occurrence belongs to a selected row that `ok` accepts; an exact row stands alone (log 37). A row that qualifies the others by the node id (NID, TARGET,
WB_CREDITS) is one more row joined to them: the monotone law of 00_scope.md R12 lets it narrow nothing (log 35). -/
def Event.covers (e : Event) (u : BitVec 8) (ok : Row → Bool) (o : Occ) : Bool :=
  match e.alone u with
  | some r => o.rows.contains r.sel.base && ok r
  | none => e.rows.any (fun r => r.sel.selected u && o.rows.contains r.sel.base && ok r)

/-- How many occurrences pass, at most MaxInc (41_cbo.md R276). -/
def Event.count (e : Event) (pass : Occ → Bool) (l : List Occ) : Nat := min e.maxInc (l.countP pass)

/-- The set of an IRP counter: IRP0 or IRP1 (45_irp.md R601); 0 elsewhere. -/
def counterSet (b : BoxId) (i : Fin 4) : Nat := if b.kind == .irp then i.val / 2 else 0

/-- The occurrences of a filtered event in this cycle. -/
def State.occurrences (s : State) (b : BoxId) (i : Fin 4) (e : Event) : List Occ :=
  Config.occ b (counterSet b i) e.code9 s.time

/-! ### The CBo filters (41_cbo.md R276 to R281) -/

/-- The opcodes of the source's Table 2-20 (R281). -/
def opcodeTable : List (BitVec 9) :=
  [0x180, 0x181, 0x182, 0x187, 0x18C, 0x18D, 0x18F, 0x190, 0x191, 0x192, 0x193, 0x194, 0x19C, 0x19E, 0x1C4, 0x1C5, 0x1C8,
    0x1E4, 0x1E5, 0x1E6]

/-- Cn_MSR_PMON_BOX_FILTER1.opc -/
def filterOpc (f1 : Word) : BitVec 9 := f1.extractLsb' 20 9

/-- The thread filter (R278). -/
def passTid (tidEn : Bool) (f0 : Word) (o : Occ) : Bool := !tidEn || o.tid == f0.extractLsb' 0 6

/-- The node filter (R279): bit k of nid passes target node k. -/
def passNid (f1 : Word) (o : Occ) : Bool := f1.getLsbD o.nid.toNat

/-- The opcode filter with nc and isoc (R280). -/
def passOpc (f1 : Word) (o : Occ) : Bool :=
  o.opc == filterOpc f1 && (!f1.getLsbD 30 || o.nonCoherent) && (!f1.getLsbD 31 || o.isoc)

/-- The filter fields a row reads (R276). -/
def passRow (f1 : Word) (o : Occ) (r : Row) : Bool := (!r.nid || passNid f1 o) && (!r.opc || passOpc f1 o)

/-- The bit of a line state in FILTER0.state, relative to bit 17 (R277). -/
def LineState.bit (l : LineState) : Nat :=
  match l with
  | .i => 0
  | .s => 1
  | .e => 2
  | .m => 3
  | .f => 4

/-- The state filter (R277). -/
def passState (f0 : Word) (o : Occ) : Bool := f0.getLsbD (17 + LineState.bit o.line)

/-- A selected row reads the opcode filter. -/
def Event.readsOpc (e : Event) (u : BitVec 8) : Bool := e.rows.any (fun r => r.sel.selected u && r.opc)

/-- The raw increment of a CBo event under the thread, node and opcode filters; an opcode outside the table makes it a
draw (R280). -/
def rawCbo (n : Fin 18) (e : Event) (u : BitVec 8) (tidEn : Bool) (s : State) : Nat × State :=
  if e.readsOpc u && !opcodeTable.contains (filterOpc s.cboFilter1[n]) then s.draw e.maxInc
  else
    (e.count (fun o => e.covers u (passRow s.cboFilter1[n] o) o && passTid tidEn s.cboFilter0[n] o)
      (s.occurrences (.cbo n) 0 e), s)

/-- LLC_LOOKUP (R277): nothing without unit mask bit 0 or with state = 0. The state bits 5 and 6 match no lookup
(DESIGN CHOICE, unsafe: 90_conflicts.md C11 followed over R277's draw; log 39). -/
def rawLookup (n : Fin 18) (e : Event) (u : BitVec 8) (tidEn : Bool) (s : State) : Nat :=
  let f0 := s.cboFilter0[n]
  if !u.getLsbD 0 || f0.extractLsb' 17 7 == 0 then 0
  else
    e.count (fun o => e.covers u (passRow s.cboFilter1[n] o) o && passTid tidEn f0 o && passState f0 o)
      (s.occurrences (.cbo n) 0 e)

/-- The occupancy events of counter 0 (41_cbo.md R272). -/
def occupancyEvents : List Event := [evCBoRxROccupancy, evCBoTorOccupancy, evCBoSboCreditOccupancy]

/-- COUNTER0_OCCUPANCY (R273): what counter 0's control register selects, before its threshold stage. -/
def rawCounter0 (n : Fin 18) (s : State) : Nat × State :=
  let w := (s.unit (.cbo n) 0).ctl
  match occupancyEvents.find? (fun e => e.code == w.extractLsb' 0 8 && e.listed (w.extractLsb' 8 8)) with
  | some e => rawCbo n e (w.extractLsb' 8 8) (w.getLsbD 19) s
  | none => s.draw 20

/-! ### The packets of this hardware (49_packet_matching.md R971 to R974) -/

/-- The opcodes of each message class HOM0, HOM1, NDR, SNP, NCS, NCB and DRS, with SnpDataMigratory at 1010
(90_conflicts.md C24). Those the tables mark as not on this family are among them (log 38). -/
def packetOpcodes : List (BitVec 4 × List (BitVec 4)) := [
  (0x0, [0x0, 0x1, 0x2, 0x3, 0x4, 0x5, 0x6, 0x7, 0x8, 0x9, 0xA, 0xC, 0xD, 0xE, 0xF]),
  (0x1, [0x0, 0x1, 0x4, 0x6, 0x7, 0x8, 0x9, 0xA, 0xB, 0xC, 0xD, 0xE]),
  (0x2, [0x0, 0x1, 0x4, 0x5, 0x8, 0x9, 0xA, 0xB, 0xC]),
  (0x3, [0x0, 0x1, 0x2, 0x4, 0x5, 0x8, 0xA, 0xF]),
  (0x4, [0x0, 0x1, 0x3, 0x4, 0x5, 0x7, 0x9, 0xB, 0xC, 0xD]),
  (0xC, [0x0, 0x1, 0x8, 0x9, 0xA, 0xB, 0xC, 0xD, 0xE, 0xF]),
  (0xE, [0x0, 0x1, 0x2, 0x3, 0x4, 0x5, 0x6, 0x7, 0x8, 0xA, 0xB])]

/-- A packet of this hardware can have this class and opcode; no packet carries another pair (93_implementation_defined.md
1.4). -/
def carriesOpcode (mc opc : BitVec 4) : Bool := packetOpcodes.any (fun c => c.1 == mc && c.2.contains opc)

/-- A packet of this hardware: a listed opcode, and where RDS means something (DRS, opcodes 0 to 2) one of its five states
(47_qpi.md R757). -/
def Packet.carried (p : Packet) : Bool :=
  carriesOpcode p.mc p.opc &&
    (!(p.mc == 0xE && decide (p.opc.toNat ≤ 2)) || [(0x8 : BitVec 4), 0x4, 0x2, 0x1, 0x0].contains p.rds)

/-! ### The HA address and opcode match (43_ha.md R404) -/

/-- The cache-line address of a packet, bits 45:6. An NDR response has none (R404; its class code: 49_packet_matching.md
R971). -/
def packetAddress (o : Occ) : Option (BitVec 40) := if o.cls == 0x2 then none else o.addr

/-- `addr_hit`. A packet without an address gives none. -/
def addrHit (a1 a0 : Word) (o : Occ) : Bool :=
  packetAddress o == some (a1.extractLsb' 0 14 ++ a0.extractLsb' 6 26)

/-- `opc_hit`: the class is HOM0, HOM1, NDR or SNP, whose 2-bit code is the low two bits of its code (R403), and the
opcode one that a packet of that class carries (logs 20 and 38). -/
def opcHit (m : Word) (o : Occ) : Bool :=
  carriesOpcode o.cls o.pktOpc && o.cls.extractLsb' 2 2 == 0 &&
    o.cls.extractLsb' 0 2 == m.extractLsb' 4 2 && o.pktOpc == m.extractLsb' 0 4

/-- A selected row AD, BL or AK counts the packet. These rows depend on OPCODEMATCH only and are left to the environment
(R404): a free value for each row, cycle, packet and value of opc (DEDUCED, safe; log 41). -/
def ringHit (n : Fin 2) (u : BitVec 8) (s : State) (o : Occ) : Bool :=
  ([0x04, 0x08, 0x10] : List (BitVec 8)).any
    (fun r => u &&& r == r && Config.haRing n s.time r (s.haOpcodeMatch[n].extractLsb' 0 6) o)

/-- A packet ADDR_OPC_MATCH counts. Unit mask 0x03 is FILT, the conjunction. The match registers act only through this event,
which no counter selects after reset: so the match is off there (70_reset_and_hazards.md R1043(d)), and R404's
equalities hold for every value of the registers, 0 among them (DEDUCED, unsafe; log 40). -/
def passMatch (n : Fin 2) (u : BitVec 8) (s : State) (o : Occ) : Bool :=
  let a := addrHit s.haAddrMatch1[n] s.haAddrMatch0[n] o
  let c := opcHit s.haOpcodeMatch[n] o
  if u == 0x03 then a && c else u.getLsbD 0 && a || u.getLsbD 1 && c || ringHit n u s o

/-! ### The IRP's combination rules (45_irp.md R604, R605) -/

/-- TRANSACTIONS: some selected type of bits 5:0, and with bit 6 the selected queue. -/
def passTransaction (u : BitVec 8) (q : BitVec 5) (o : Occ) : Bool :=
  evIrpTransactions.covers (u &&& 0x3F) (fun _ => true) o && (!u.getLsbD 6 || o.queue == q)

/-- SNOOP_RESP: some selected response of bits 3:0 and some selected snoop of bits 6:4. -/
def passSnoop (u : BitVec 8) (o : Occ) : Bool :=
  evIrpSnoopResp.covers (u &&& 0x0F) (fun _ => true) o && evIrpSnoopResp.covers (u &&& 0x70) (fun _ => true) o

/-- CACHE_TOTAL_OCCUPANCY: SOURCE keeps of ANY the selected queue. -/
def passCache (u : BitVec 8) (q : BitVec 5) (o : Occ) : Bool := o.rows.contains 0x01 && (u != 0x02 || o.queue == q)

/-! ### The PCU (46_pcu.md R656) -/

/-- FREQ_BANDk_CYCLES: 0 in a transition, a draw while EFFBAND has no value, else ratio(t) >= EFFBAND[k]. -/
def rawBand (k : Fin 4) (s : State) : Nat × State :=
  if Config.inTransition s.time then (0, s)
  else
    match s.effband[k] with
    | none => s.draw 1
    | some v => (if v.toNat ≤ Config.ratio s.time then 1 else 0, s)

/-! ### The QPI packet match (47_qpi.md R757, R759) -/

/-- `word0(p)`. -/
def Packet.word0 (p : Packet) : Word :=
  p.rnid.extractLsb' 4 1 ++ (0 : BitVec 13) ++ p.dnid ++ p.mc ++ p.opc ++ p.vnw ++ (0 : BitVec 3)

/-- `word1(p)`. -/
def Packet.word1 (p : Packet) : Word := (0 : BitVec 12) ++ p.rds ++ (0 : BitVec 12) ++ p.rnid.extractLsb' 0 4

/-- The four registers of one direction: match 0, match 1, mask 0, mask 1. -/
def PktRegs.side (x : PktRegs) (rx : Bool) : Word × Word × Word × Word :=
  if rx then (x.rxMatch0, x.rxMatch1, x.rxMask0, x.rxMask1) else (x.txMatch0, x.txMatch1, x.txMask0, x.txMask1)

/-- `matches(y, d, p)`: every bit the masks compare agrees. -/
def Packet.hits (p : Packet) (x : PktRegs) : Bool :=
  let m := x.side p.rx
  (Packet.word0 p ^^^ m.1) &&& m.2.2.1 == 0 && (Packet.word1 p ^^^ m.2.1) &&& m.2.2.2 == 0

/-- What one slot adds to CTO_COUNT in this cycle: 1 for a packet of this hardware that matches, whose RDS field is the
environment's where the packet has none (R757, log 21). -/
def rawSlot (p : Fin 3) (second : Bool) (s : State) : Nat :=
  match Config.slot p second s.time with
  | none => 0
  | some k => if Packet.carried k && Packet.hits k s.qpiPkt[p] then 1 else 0

/-- CTO_COUNT: both slots (47_qpi.md R759). -/
def rawCto (p : Fin 3) (s : State) : Nat := rawSlot p false s + rawSlot p true s

/-! ### The raw increment -/

/-- The counter may count the event (30_encoding.md R164); CONFLICT_CYCLES has one counter, a parameter (90_conflicts.md
C23). -/
def Event.allows (e : Event) (p : Params) (i : Fin 4) : Bool :=
  if e.kind == .haConflict then i.val == (if p.haConflictOne then 1 else 0) else e.ctrs.getLsbD i.val

/-- The raw increment of a listed unit mask value on a counter that may count the event. -/
def rawListed (b : BoxId) (i : Fin 4) (e : Event) (u : BitVec 8) (tidEn : Bool) (s : State) : Nat × State :=
  let env := s.occurrences b i e
  let plain := e.increment (Config.inc b (counterSet b i) e.code9 s.time) u
  match e.kind, b with
  | .clock, _ => (1, s)
  | .cbo, .cbo n => rawCbo n e u tidEn s
  | .llcLookup, .cbo n => (rawLookup n e u tidEn s, s)
  | .counter0Occupancy, .cbo n => rawCounter0 n s
  | .haMatch, .ha n => (e.count (passMatch n u s) env, s)
  | .irpTransactions, _ => (e.count (passTransaction u s.cfg.irpOrderingQ) env, s)
  | .irpSnoopResp, _ => (e.count (passSnoop u) env, s)
  | .irpCache, _ => (e.count (passCache u s.cfg.irpOrderingQ) env, s)
  | .freqBand k, _ => rawBand k s
  | .perCore n, _ => (if n < s.cfg.nCore then plain else 0, s)
  | .qpiCto, .qpi p => (rawCto p s, s)
  | _, _ => (plain, s)

/-- The unit masks whose increment the spec gives as 0 although they are not listed: of UBox code 0 (40_global_ubox.md
R236), of the IRP's TRANSACTIONS without a request type and SNOOP_RESP without a bit in each group (45_irp.md R605), of
LLC_LOOKUP without unit mask bit 0 or without a state (41_cbo.md R277). -/
def countsNothing (b : BoxId) (code u : BitVec 8) (s : State) : Bool :=
  match b with
  | .ubox => code == 0x00
  | .irp => code == 0x16 && u &&& 0x3F == 0 || code == 0x17 && (u &&& 0x0F == 0 || u &&& 0x70 == 0)
  | .cbo n => code == 0x34 && (!u.getLsbD 0 || s.cboFilter0[n].extractLsb' 17 7 == 0)
  | _ => false

/-- The raw increment of any other unit mask value that is not listed: a draw (30_encoding.md R163). So it is at unit mask
0 of an event with bit rows only, where 00_scope.md R12 would have 0 (log 36). -/
def rawUnlisted (b : BoxId) (code u : BitVec 8) (s : State) : Nat × State :=
  if countsNothing b code u s then (0, s) else s.draw s.cfg.rawBound

/-- `inc(b, code, u, t)` on counter `i` (40_global_ubox.md R212): a draw outside the listed unit masks and counters
(30_encoding.md R163, R164). -/
def rawIncrement (b : BoxId) (i : Fin 4) (e : Event) (u : BitVec 8) (tidEn : Bool) (s : State) : Nat × State :=
  if e.listed u && Event.allows e s.cfg i then rawListed b i e u tidEn s else rawUnlisted b e.code u s

/-- One cycle of the counter an event row's operands name, its control word selecting the row (40_global_ubox.md R215,
R249). -/
def countEvent {k : Kind} (e : Event) (base : BitVec 8) (o : EvOp k) (s : State) : Host.Outcome State Fault Refusal :=
  .next (countStep (k.box o.inst) (k.unit o.ctr) e.code o.ctl
    (rawIncrement (k.box o.inst) (k.unit o.ctr) e (base ||| o.ctl.extra) o.ctl.tidEn) s)

end Sys2Proof.Machine
end

