-- ==== Sys2Proof/Machine/Access.lean ====
section
/-! DEFINITION. The host's accesses: what a register reads, which writes are declined, what a write does, by register
class (40_global_ubox.md R200 to R211, R225, R229, R230; layouts in 10_state.md). -/

namespace Sys2Proof.Machine

/-! ### Layouts (30_encoding.md R151 to R154, R165) -/

/-- The stored fields of a counter control register. -/
def ctlStored (k : Kind) : Word :=
  match k with
  | .ubox => 0x1FD4FFFF
  | .cbo | .sbo => 0xFFCCFFFF
  | .ha | .imc | .irp | .r2 | .r3 => 0xFFD4FFFF
  | .pcu => 0xDFF4C0FF
  | .qpi => 0xFFF4FFFF

/-- The bits of a counter control register that must be written 0. -/
def ctlMustZero (k : Kind) : Word :=
  match k with
  | .ubox | .ha | .imc | .irp | .r2 | .r3 => 0x00210000
  | .cbo | .sbo => 0x00310000
  | .pcu => 0x20000000
  | .qpi => 0x00010000

/-- The thresh field of a control word: 5 bits in the UBox and the PCU (30_encoding.md R161). -/
def threshField (k : Kind) (v : Word) : BitVec 8 :=
  if k.shortThresh then (v.extractLsb' 24 5).setWidth 8 else v.extractLsb' 24 8

/-- The bit of a box status register that must be written 0 (40_global_ubox.md R210). -/
def statusMustZero (k : Kind) : Word :=
  match k with
  | .ha | .qpi => 0x10
  | .imc => 0x20
  | .r3 => 0x8
  | _ => 0

/-- The ov field of a box status register (R210). -/
def ovMask (k : Kind) : BitVec 5 :=
  match k with
  | .ubox => 0x03
  | .imc => 0x1F
  | .r3 => 0x07
  | _ => 0x0F

/-- OVMASK, the defined bits of U_MSR_PMON_GLOBAL_STATUS (R229). -/
def globalOvMask : Quad := 0x0000000C3FE00007

/-- The stored fields of a match or mask register (10_state.md R78, R79). -/
def PktReg.stored (r : PktReg) : Word :=
  match r with
  | .rxMatch0 | .rxMask0 | .txMatch0 | .txMask0 => 0x8003FFF8
  | .rxMatch1 | .rxMask1 | .txMatch1 | .txMask1 => 0x000F000F

/-- The box control register has the field at bits 17:16 (10_state.md R22). -/
def hasRsvOne (k : Kind) : Bool :=
  match k with
  | .r2 | .r3 => false
  | _ => true

/-- The register exists on this part (40_global_ubox.md R207). -/
def Reg.present (p : Params) (r : Reg) : Bool :=
  match r with
  | .globalCtl | .globalStatus | .globalConfig | .pcuFilter | .pcuFree _ => true
  | .fixedCtl b | .fixedCtr b | .ctl b _ | .ctr b _ | .boxCtl b | .boxStatus b => b.present p
  | .cboFilter0 n | .cboFilter1 n => (BoxId.cbo n).present p
  | .haOpcodeMatch n | .haAddrMatch1 n | .haAddrMatch0 n => (BoxId.ha n).present p
  | .qpiPkt n _ | .qpiIdle n | .qpiLlr n => (BoxId.qpi n).present p
  | .qpiRate second => if second then (BoxId.qpi 2).present p else true

/-- The register is 64 bits: a counter, U_MSR_PMON_GLOBAL_STATUS, a PCU free-running counter (10_state.md R25). Of the
others bits 63:32 must be written 0. -/
def Reg.wide (r : Reg) : Bool :=
  match r with
  | .ctr _ _ | .fixedCtr _ | .globalStatus | .pcuFree _ => true
  | _ => false

/-- The register is read-only (60_exceptions.md R1001). -/
def Reg.readOnly (r : Reg) : Bool :=
  match r with
  | .pcuFree _ | .qpiRate _ => true
  | _ => false

/-- The bits that must be written 0 (R205). -/
def Reg.mustZero (r : Reg) : Word :=
  match r with
  | .globalCtl => 0x18000000
  | .fixedCtl _ => 0x00200000
  | .ctl b _ => ctlMustZero b.kind
  | .boxStatus b => statusMustZero b.kind
  | .cboFilter0 _ => 0xFF01FFC0
  | .cboFilter1 _ => 0x20000000
  | .qpiPkt _ .rxMatch0 | .qpiPkt _ .rxMask0 | .qpiPkt _ .txMatch0 | .qpiPkt _ .txMask0 => 0x7FFC0007
  | .qpiPkt _ .rxMatch1 | .qpiPkt _ .rxMask1 | .qpiPkt _ .txMatch1 | .qpiPkt _ .txMask1 => 0xFFF0FFF0
  | _ => 0

/-- `check_reserved` fails (R205): a must-be-0 bit is 1, or bits 17:16 of a box control register are not
BOXCTL_RSV_ONE. -/
def Reg.reservedBad (p : Params) (r : Reg) (w : Word) : Bool :=
  w &&& r.mustZero != 0 ||
    match r with
    | .boxCtl b => hasRsvOne b.kind && w.extractLsb' 16 2 != p.boxCtlOne
    | _ => false

/-- A control write shapes the event although thresh is 0 (R208). The IMC's fixed control has no thresh field. -/
def Reg.threshZero (r : Reg) (w : Word) : Bool :=
  match r with
  | .ctl b _ =>
    threshField b.kind w == 0 && (w.getLsbD 23 || w.getLsbD 18 ||
      (b.kind == .pcu && w.getLsbD 7 && (w.getLsbD 30 || w.getLsbD 31)))
  | .fixedCtl (.imc _) => w.getLsbD 23
  | _ => false

/-- frz_all and unfrz_all in one write (R225). -/
def Reg.bothActions (r : Reg) (w : Word) : Bool :=
  match r with
  | .globalCtl => w.getLsbD 31 && w.getLsbD 29
  | _ => false

/-- The checks of a write, in the order of 60_exceptions.md R1002. -/
def writeCheck (p : Params) (r : Reg) (v : Quad) : Option Refusal :=
  let w := v.extractLsb' 0 32
  if !r.wide && v.extractLsb' 32 32 != 0 then some .reservedNonzero
  else if r.readOnly then some .readOnly
  else if r.reservedBad p w then some .reservedNonzero
  else if r.threshZero w then some .threshZero
  else if r.bothActions w then some .freezeAndUnfreeze
  else none

/-! ### Reads (R204) -/

/-- What a read of the whole register returns. Write-only, reserved and ignored fields read 0. -/
def readReg (r : Reg) (s : State) : Quad :=
  match r with
  | .globalCtl => (0 : BitVec 33) ++ BitVec.ofBool s.wkOnPmi ++ (0 : BitVec 12) ++ s.pmiCoreSel
  | .globalStatus => s.status
  | .globalConfig => s.numC.setWidth 64
  | .fixedCtl b => (s.blk b).fixCtl.setWidth 64
  | .fixedCtr b => (s.blk b).fixCtr.setWidth 64
  | .ctl b i => (s.unit b i).ctl.setWidth 64
  | .ctr b i => (s.unit b i).ctr.setWidth 64
  | .boxCtl _ => 0
  | .boxStatus b => (s.blk b).ov.setWidth 64
  | .cboFilter0 n => s.cboFilter0[n].setWidth 64
  | .cboFilter1 n => s.cboFilter1[n].setWidth 64
  | .pcuFilter => s.pcuFilter.setWidth 64
  | .pcuFree c => s.pcuFree c
  | .haOpcodeMatch n => s.haOpcodeMatch[n].setWidth 64
  | .haAddrMatch1 n => s.haAddrMatch1[n].setWidth 64
  | .haAddrMatch0 n => s.haAddrMatch0[n].setWidth 64
  | .qpiPkt p r => (s.qpiPkt[p].get r).setWidth 64
  | .qpiIdle p => s.qpiIdle[p].setWidth 64
  | .qpiLlr p => s.qpiLlr[p].setWidth 64
  | .qpiRate _ => s.cfg.qpiRate.setWidth 64

/-! ### Writes -/

/-- A write to a register of a double-write box breaks every pending pair but the written control's own
(10_state.md R95). -/
def breakPairs (b : BoxId) (x : Blk) : Blk :=
  if b.doubleWrite then x.mapUnits (fun u => { u with dw := none }) else x

/-- Write-up to the boxes that double-write: `DW` and `settled` of the written control register (R95). -/
def CtrUnit.latchWrite (b : BoxId) (w : Word) (u : CtrUnit) : CtrUnit :=
  if b.doubleWrite then
    { u with
      dw := some w
      settled := match u.dw with
        | none => false
        | some old => (old ^^^ w) &&& 0xFFBFFFFF == 0 }
  else u

/-- The stored fields, the reset bit and the edge latches of a control write (R208; the QPI's rst is sticky,
47_qpi.md R755). -/
def CtrUnit.storeCtl (b : BoxId) (w : Word) (u : CtrUnit) : CtrUnit :=
  { u with
    ctl := w &&& ctlStored b.kind
    ctr := if w.getLsbD 17 then 0 else u.ctr
    qrst := if b.kind == .qpi then w.getLsbD 17 else u.qrst
    prev := none
    oprev := none }

/-- Write of a counter control register (R208). -/
def writeCtl (b : BoxId) (i : Fin 4) (w : Word) (s : State) : State :=
  let x := s.blk b
  s.setBlk b ((breakPairs b x).setUnit i (((x.unit i).latchWrite b w).storeCtl b w))

/-- Write of a fixed counter's control register (R208): en and ov_en are stored, the IMC's rst clears the counter. -/
def writeFixedCtl (b : BoxId) (w : Word) (s : State) : State :=
  let x := s.blk b
  s.setBlk b { x with
    fixCtl := w &&& 0x00500000
    fixCtr := if b.kind == .imc && w.getLsbD 19 then 0 else x.fixCtr }

/-- `rst_ctrl` on one counter: its control register is reset and settled (R209). -/
def CtrUnit.clearCtl (u : CtrUnit) : CtrUnit :=
  { u with ctl := 0, prev := none, oprev := none, dw := none, settled := true, qrst := false }

/-- Write of a box control register (R209): rst_ctrl, then rst_ctrs, then the freeze latch. -/
def writeBoxCtl (b : BoxId) (w : Word) (s : State) : State :=
  let x := breakPairs b (s.blk b)
  let x := if w.getLsbD 0 then x.mapUnits CtrUnit.clearCtl else x
  let x := if w.getLsbD 1 then x.mapUnits (fun u => { u with ctr := 0 }) else x
  s.setBlk b { x with bfrz := w.getLsbD 8 }

/-- Write of a box status register (R210): writing 1 clears. -/
def writeBoxStatus (b : BoxId) (w : Word) (s : State) : State :=
  let x := breakPairs b (s.blk b)
  s.setBlk b { x with ov := x.ov &&& ~~~(w.extractLsb' 0 5 &&& ovMask b.kind) }

/-- The low W bits of a counter write (R211). -/
def cutCounter (width : Nat) (v : Quad) : Counter := BitVec.ofNat 48 (v.toNat % 2 ^ width)

/-- Write of a counter (R211). -/
def writeCtr (b : BoxId) (i : Fin 4) (v : Quad) (s : State) : State :=
  let x := breakPairs b (s.blk b)
  s.setBlk b (x.setUnit i { x.unit i with ctr := cutCounter (b.width s.cfg) v })

/-- Write of a fixed counter (R211). -/
def writeFixedCtr (b : BoxId) (v : Quad) (s : State) : State :=
  s.setBlk b { s.blk b with fixCtr := cutCounter 48 v }

/-- Write of U_MSR_PMON_GLOBAL_CTL (R225). -/
def writeGlobalCtl (w : Word) (s : State) : State :=
  { s with
    wkOnPmi := w.getLsbD 30
    pmiCoreSel := w.extractLsb' 0 18
    gfrz := if w.getLsbD 31 then some true else if w.getLsbD 29 then some false else s.gfrz }

/-- EFFBAND[k] after a filter write: the old or the new threshold (46_pcu.md R656). A threshold that has no value gains one
at a frequency transition only (10_state.md R97, 70_reset_and_hazards.md R1041; log 19). -/
def drawBand (k : Fin 4) (new : BitVec 8) (s : State) : State :=
  match s.effband[k] with
  | none => s
  | some _ => if s.drawBool.1 then { s.drawBool.2 with effband := s.effband.set k (some new) } else s.drawBool.2

/-- Write of PCU_MSR_PMON_BOX_FILTER (46_pcu.md R656). -/
def writePcuFilter (w : Word) (s : State) : State :=
  drawBand 3 (w.extractLsb' 24 8) (drawBand 2 (w.extractLsb' 16 8) (drawBand 1 (w.extractLsb' 8 8)
    (drawBand 0 (w.extractLsb' 0 8) { s with pcuFilter := w })))

/-- What an accepted write does, by register class (R201, R203). -/
def storeReg (r : Reg) (v : Quad) (s : State) : State :=
  let w := v.extractLsb' 0 32
  match r with
  | .globalCtl => writeGlobalCtl w s
  | .globalStatus => { s with status := s.status &&& ~~~(v &&& globalOvMask) }
  | .globalConfig => { s with numC := w.extractLsb' 0 5 }
  | .fixedCtl b => writeFixedCtl b w s
  | .fixedCtr b => writeFixedCtr b v s
  | .ctl b i => writeCtl b i w s
  | .ctr b i => writeCtr b i v s
  | .boxCtl b => writeBoxCtl b w s
  | .boxStatus b => writeBoxStatus b w s
  | .cboFilter0 n => { s with cboFilter0 := s.cboFilter0.set n (w &&& 0x00FE003F) }
  | .cboFilter1 n => { s with cboFilter1 := s.cboFilter1.set n (w &&& 0xDFF0FFFF) }
  | .pcuFilter => writePcuFilter w s
  | .haOpcodeMatch n => { s with haOpcodeMatch := s.haOpcodeMatch.set n (w &&& 0x0000003F) }
  | .haAddrMatch1 n => { s with haAddrMatch1 := s.haAddrMatch1.set n (w &&& 0x00003FFF) }
  | .haAddrMatch0 n => { s with haAddrMatch0 := s.haAddrMatch0.set n (w &&& 0xFFFFFFC0) }
  | .qpiPkt p r => { s with qpiPkt := s.qpiPkt.set p (s.qpiPkt[p].set r (w &&& r.stored)) }
  | .qpiIdle p => { s with qpiIdle := s.qpiIdle.set p w }
  | .qpiLlr p => { s with qpiLlr := s.qpiLlr.set p w }
  | .pcuFree _ | .qpiRate _ => s

/-- The checks, then the effect. -/
def writeReg (r : Reg) (v : Quad) (s : State) : Host.Outcome State Fault Refusal :=
  match writeCheck s.cfg r v with
  | some why => .refused why
  | none => .next (storeReg r v s)

/-- RDMSR and WRMSR of a mapped register (R200, R201). -/
def accessMsr (r : Reg) (a : MsrAccess) (s : State) : Host.Outcome State Fault Refusal :=
  if r.present s.cfg then
    match a with
    | .read => .next (s.setHostRead (some (readReg r s)))
    | .write v => writeReg r v s
  else .refused .absentBox

/-- The dword of a register a PCICFG access reads: the lower one, or of a two-dword counter the upper (R202). -/
def readDword (r : Reg) (high : Bool) (s : State) : Word :=
  if high then (readReg r s).extractLsb' 32 32 else (readReg r s).extractLsb' 0 32

/-- The 64-bit value a dword write stores: of a two-dword counter the other half stays (R203). -/
def mergeDword (r : Reg) (high : Bool) (w : Word) (s : State) : Quad :=
  if r.twoDwords then
    if high then w ++ (readReg r s).extractLsb' 0 32 else (readReg r s).extractLsb' 32 32 ++ w
  else w.setWidth 64

/-- CFGRD and CFGWR of a mapped register (R202, R203). -/
def accessCfg (r : Reg) (a : CfgAccess) (s : State) : Host.Outcome State Fault Refusal :=
  if a.bus ≠ s.cfg.bus then .refused .unmapped
  else if r.present s.cfg then
    match a.op with
    | .read => .next (s.setHostRead (some ((readDword r a.high s).setWidth 64)))
    | .write w => writeReg r (mergeDword r a.high w s) s
  else .refused .absentBox

end Sys2Proof.Machine
end

