-- ==== Sys2Proof/Machine/Cycle.lean ====
section
/-! DEFINITION. What stands around an instruction: a box's clock cycle (40_global_ubox.md R215), control words that are
no row of the table (30_encoding.md R163), the fixed and free-running counters, the platform's turns, and what the host
is told when its bytes are no row. -/

namespace Sys2Proof

/-- The instance number of a box within its kind. -/
def BoxId.inst (b : BoxId) : Fin b.kind.insts :=
  match b with
  | .ubox => ⟨0, by decide⟩
  | .cbo n => n
  | .sbo n => n
  | .ha n => n
  | .imc n => n
  | .irp => ⟨0, by decide⟩
  | .pcu => ⟨0, by decide⟩
  | .qpi p => p
  | .r2 => ⟨0, by decide⟩
  | .r3 l => l

end Sys2Proof

namespace Sys2Proof.Machine

/-! ### Control words that name no row (30_encoding.md R163) -/

/-- The count step of a counter whose control word names no row. -/
def countUnlisted (b : BoxId) (i : Fin 4) (s : State) : State :=
  let w := (s.unit b i).ctl
  let c := CtlWord.unpack w
  countStep b i c.code (c.ops b.kind 0) (rawUnlisted b c.code c.umask) s

/-! ### The fixed and free-running counters -/

/-- The UBox fixed counter (40_global_ubox.md R234). Its overflow sends the message whatever ov_u_fixed holds, as R234's
pseudocode has it; R231's draw is not taken (DESIGN CHOICE, unsafe; log 42). -/
def fixedStepU (s : State) : State :=
  let x := s.blk .ubox
  if x.fixCtl.getLsbD 22 then
    let f := frozenGlobal .ubox s
    if f.1 then f.2
    else
      let s' := f.2.setBlk .ubox { x with fixCtr := x.fixCtr + 1 }
      if x.fixCtr.toNat + 1 = 2 ^ 48 ∧ x.fixCtl.getLsbD 20 then sendMessage 0x1 s' else s'
  else s

/-- The fixed counter of an IMC channel (44_imc.md R503, R504). -/
def fixedStepMc (b : BoxId) (s : State) : State :=
  let x := s.blk b
  if x.fixCtl.getLsbD 22 && !x.bfrz then
    let f := frozenGlobal b s
    if f.1 then f.2
    else
      let s' := f.2.setBlk b { x with fixCtr := x.fixCtr + 1 }
      if x.fixCtr.toNat + 1 = 2 ^ 48 then reportOverflow b 0 (x.fixCtl.getLsbD 20) s' else s'
  else s

/-- The PCU free-running counters (46_pcu.md R659): no enable, no freeze, no overflow. -/
def freeRunningStep (s : State) : State :=
  { s with
    cc6 := if Config.freeRun .cc6 s.time then s.cc6 + 1 else s.cc6
    cc3 := if Config.freeRun .cc3 s.time then s.cc3 + 1 else s.cc3
    pc2 := if Config.freeRun .pc2 s.time then s.pc2 + 1 else s.pc2
    pc3 := if Config.freeRun .pc3 s.time then s.pc3 + 1 else s.pc3 }

/-- The QPI free-running counters (47_qpi.md R760). -/
def linkStep (p : Fin 3) (s : State) : State :=
  { s with
    qpiIdle := if Config.rxIdle p s.time then s.qpiIdle.set p (s.qpiIdle[p] + 1) else s.qpiIdle
    qpiLlr := if Config.rxLlr p s.time then s.qpiLlr.set p (s.qpiLlr[p] + 1) else s.qpiLlr }

/-- The counters of a box beside the generic ones (R215). -/
def otherCounters (b : BoxId) (s : State) : State :=
  match b with
  | .ubox => fixedStepU s
  | .imc n => fixedStepMc (.imc n) s
  | .pcu => freeRunningStep s
  | .qpi p => linkStep p s
  | .cbo _ | .sbo _ | .ha _ | .irp | .r2 | .r3 _ => s

/-! ### A cycle of a box -/

/-- A QPI counter under its sticky reset is cleared in every cycle (47_qpi.md R755). -/
def CtrUnit.holdReset (u : CtrUnit) : CtrUnit := if u.qrst then { u with ctr := 0 } else u

/-- A cycle of box `b` begins. -/
def startCycle (b : BoxId) (s : State) : State :=
  if b.present s.cfg then
    (s.setBlk b (if b.kind == .qpi then (s.blk b).mapUnits CtrUnit.holdReset else s.blk b)).setRun (some ⟨b, 0⟩)
  else s

/-- The next counter of the cycle is due. -/
def advance (r : Run) (s : State) : State := s.setRun (some { r with next := r.next + 1 })

/-- The cycle ends: the other counters step, and time goes on. -/
def finishCycle (b : BoxId) (s : State) : State :=
  let s' := otherCounters b s
  (s'.setTime (s'.time + 1)).setRun none

/-- An outcome whose next state is changed. -/
def mapNext (f : State → State) (o : Host.Outcome State Fault Refusal) : Host.Outcome State Fault Refusal :=
  match o with
  | .next s => .next (f s)
  | .fault r => .fault r
  | .refused r => .refused r

/-! ### Turns (20_memory.md R111) -/

/-- Whose turn it is, and the state without that turn. -/
def nextTurn (s : State) : Turn × State :=
  match s.agenda with
  | t :: rest => (t, s.setAgenda rest)
  | [] => (Config.schedule s.draws, s.setDraws (s.draws + 1))

/-- A turn that is not the host's. -/
def platformTurn (t : Turn) (s : State) : State :=
  match t with
  | .host _ => s
  | .clock b => startCycle b s
  | .deliver k => deliver k s
  | .frequency => frequencyTransition s
  | .seen b => seeFreeze b s
  | .reset => hardwareReset s

/-- The value of a PMON function's offset 0 (20_memory.md R110). -/
def identification (device : BitVec 16) : Word := device ++ (0x8086 : BitVec 16)

/-- Offset 0 of a PMON function: the bus and the box are checked, a read returns the identification, a write is
ignored. -/
def accessIdentification (bus : BitVec 8) (addr : Nat) (write : Bool) (s : State) : Host.Outcome State Fault Refusal :=
  match functionTable.lookup addr with
  | none => .refused .unmapped
  | some p =>
    if bus ≠ s.cfg.bus then .refused .unmapped
    else if !p.1.present s.cfg then .refused .absentBox
    else if write then .next s
    else .next (s.setHostRead (some ((identification p.2).setWidth 64)))

/-- Host bytes that are no row of the table. -/
def declined (e : Reject) (s : State) : Host.Outcome State Fault Refusal :=
  match e with
  | .identification bus addr write => accessIdentification bus addr write s
  | .truncated | .malformed | .accessSize => .refused .accessSize
  | .unmapped | .reservedBits | .unlistedCode | .unlistedUmask => .refused .unmapped

/-- A table word placed where the next step fetches: a host command, or the control register of a counter whose turn it
is. -/
def placeWord (sl : Option Slot) (w : Nat) (s : State) : State :=
  match sl with
  | some (.counter k n i) =>
    let b := k.box n
    (s.setUnit b (k.unit i) { s.unit b (k.unit i) with ctl := BitVec.ofNat 32 w }).setRun (some ⟨b, i.val⟩)
  | _ =>
    (s.setRun none).setAgenda (.host (bytesOf (BitVec.ofNat 32 w) ++ List.replicate 12 0) :: s.agenda)

end Sys2Proof.Machine
end

