-- ==== Sys2Proof/Machine/CBo.lean ====
section
/-! DEFINITION. The CBo events: each row is one cycle of a counter whose control word selects it (40_global_ubox.md R215, R249). -/

namespace Sys2Proof.Machine

/-- CBo.BOUNCE_CONTROL (R290) -/
def execCBoBounceControl (o : EvOp .cbo) (s : State) : Host.Outcome State Fault Refusal :=
  countEvent evCBoBounceControl 0x00 o s

/-- CBo.CLOCKTICKS (R291) -/
def execCBoClockticks (o : EvOp .cbo) (s : State) : Host.Outcome State Fault Refusal :=
  countEvent evCBoClockticks 0x00 o s

/-- CBo.COUNTER0_OCCUPANCY (R292) -/
def execCBoCounter0Occupancy (o : EvOp .cbo) (s : State) : Host.Outcome State Fault Refusal :=
  countEvent evCBoCounter0Occupancy 0x00 o s

/-- CBo.FAST_ASSERTED (R293) -/
def execCBoFastAsserted (o : EvOp .cbo) (s : State) : Host.Outcome State Fault Refusal :=
  countEvent evCBoFastAsserted 0x00 o s

/-- CBo.LLC_LOOKUP.DATA_READ (R294) -/
def execCBoLlcLookupDataRead (o : EvOp .cbo) (s : State) : Host.Outcome State Fault Refusal :=
  countEvent evCBoLlcLookup 0x03 o s

/-- CBo.LLC_LOOKUP.WRITE (R294) -/
def execCBoLlcLookupWrite (o : EvOp .cbo) (s : State) : Host.Outcome State Fault Refusal :=
  countEvent evCBoLlcLookup 0x05 o s

/-- CBo.LLC_LOOKUP.REMOTE_SNOOP (R294) -/
def execCBoLlcLookupRemoteSnoop (o : EvOp .cbo) (s : State) : Host.Outcome State Fault Refusal :=
  countEvent evCBoLlcLookup 0x09 o s

/-- CBo.LLC_LOOKUP.ANY (R294) -/
def execCBoLlcLookupAny (o : EvOp .cbo) (s : State) : Host.Outcome State Fault Refusal :=
  countEvent evCBoLlcLookup 0x11 o s

/-- CBo.LLC_LOOKUP.READ (R294) -/
def execCBoLlcLookupRead (o : EvOp .cbo) (s : State) : Host.Outcome State Fault Refusal :=
  countEvent evCBoLlcLookup 0x21 o s

/-- CBo.LLC_LOOKUP.NID (R294) -/
def execCBoLlcLookupNid (o : EvOp .cbo) (s : State) : Host.Outcome State Fault Refusal :=
  countEvent evCBoLlcLookup 0x41 o s

/-- CBo.LLC_VICTIMS.M_STATE (R295) -/
def execCBoLlcVictimsMState (o : EvOp .cbo) (s : State) : Host.Outcome State Fault Refusal :=
  countEvent evCBoLlcVictims 0x01 o s

/-- CBo.LLC_VICTIMS.E_STATE (R295) -/
def execCBoLlcVictimsEState (o : EvOp .cbo) (s : State) : Host.Outcome State Fault Refusal :=
  countEvent evCBoLlcVictims 0x02 o s

/-- CBo.LLC_VICTIMS.I_STATE (R295) -/
def execCBoLlcVictimsIState (o : EvOp .cbo) (s : State) : Host.Outcome State Fault Refusal :=
  countEvent evCBoLlcVictims 0x04 o s

/-- CBo.LLC_VICTIMS.F_STATE (R295) -/
def execCBoLlcVictimsFState (o : EvOp .cbo) (s : State) : Host.Outcome State Fault Refusal :=
  countEvent evCBoLlcVictims 0x08 o s

/-- CBo.LLC_VICTIMS.MISS (R295) -/
def execCBoLlcVictimsMiss (o : EvOp .cbo) (s : State) : Host.Outcome State Fault Refusal :=
  countEvent evCBoLlcVictims 0x10 o s

/-- CBo.LLC_VICTIMS.NID (R295) -/
def execCBoLlcVictimsNid (o : EvOp .cbo) (s : State) : Host.Outcome State Fault Refusal :=
  countEvent evCBoLlcVictims 0x40 o s

/-- CBo.MISC.RSPI_WAS_FSE (R296) -/
def execCBoMiscRspiWasFse (o : EvOp .cbo) (s : State) : Host.Outcome State Fault Refusal :=
  countEvent evCBoMisc 0x01 o s

/-- CBo.MISC.WC_ALIASING (R296) -/
def execCBoMiscWcAliasing (o : EvOp .cbo) (s : State) : Host.Outcome State Fault Refusal :=
  countEvent evCBoMisc 0x02 o s

/-- CBo.MISC.STARTED (R296) -/
def execCBoMiscStarted (o : EvOp .cbo) (s : State) : Host.Outcome State Fault Refusal :=
  countEvent evCBoMisc 0x04 o s

/-- CBo.MISC.RFO_HIT_S (R296) -/
def execCBoMiscRfoHitS (o : EvOp .cbo) (s : State) : Host.Outcome State Fault Refusal :=
  countEvent evCBoMisc 0x08 o s

/-- CBo.MISC.CVZERO_PREFETCH_VICTIM (R296) -/
def execCBoMiscCvzeroPrefetchVictim (o : EvOp .cbo) (s : State) : Host.Outcome State Fault Refusal :=
  countEvent evCBoMisc 0x10 o s

/-- CBo.MISC.CVZERO_PREFETCH_MISS (R296) -/
def execCBoMiscCvzeroPrefetchMiss (o : EvOp .cbo) (s : State) : Host.Outcome State Fault Refusal :=
  countEvent evCBoMisc 0x20 o s

/-- CBo.RING_AD_USED.UP_EVEN (R297) -/
def execCBoRingAdUsedUpEven (o : EvOp .cbo) (s : State) : Host.Outcome State Fault Refusal :=
  countEvent evCBoRingAdUsed 0x01 o s

/-- CBo.RING_AD_USED.UP_ODD (R297) -/
def execCBoRingAdUsedUpOdd (o : EvOp .cbo) (s : State) : Host.Outcome State Fault Refusal :=
  countEvent evCBoRingAdUsed 0x02 o s

/-- CBo.RING_AD_USED.UP (R297) -/
def execCBoRingAdUsedUp (o : EvOp .cbo) (s : State) : Host.Outcome State Fault Refusal :=
  countEvent evCBoRingAdUsed 0x03 o s

/-- CBo.RING_AD_USED.DOWN_EVEN (R297) -/
def execCBoRingAdUsedDownEven (o : EvOp .cbo) (s : State) : Host.Outcome State Fault Refusal :=
  countEvent evCBoRingAdUsed 0x04 o s

/-- CBo.RING_AD_USED.DOWN_ODD (R297) -/
def execCBoRingAdUsedDownOdd (o : EvOp .cbo) (s : State) : Host.Outcome State Fault Refusal :=
  countEvent evCBoRingAdUsed 0x08 o s

/-- CBo.RING_AD_USED.DOWN (R297) -/
def execCBoRingAdUsedDown (o : EvOp .cbo) (s : State) : Host.Outcome State Fault Refusal :=
  countEvent evCBoRingAdUsed 0x0C o s

/-- CBo.RING_AD_USED.ALL (R297) -/
def execCBoRingAdUsedAll (o : EvOp .cbo) (s : State) : Host.Outcome State Fault Refusal :=
  countEvent evCBoRingAdUsed 0x0F o s

/-- CBo.RING_AK_USED.UP_EVEN (R298) -/
def execCBoRingAkUsedUpEven (o : EvOp .cbo) (s : State) : Host.Outcome State Fault Refusal :=
  countEvent evCBoRingAkUsed 0x01 o s

/-- CBo.RING_AK_USED.UP_ODD (R298) -/
def execCBoRingAkUsedUpOdd (o : EvOp .cbo) (s : State) : Host.Outcome State Fault Refusal :=
  countEvent evCBoRingAkUsed 0x02 o s

/-- CBo.RING_AK_USED.UP (R298) -/
def execCBoRingAkUsedUp (o : EvOp .cbo) (s : State) : Host.Outcome State Fault Refusal :=
  countEvent evCBoRingAkUsed 0x03 o s

/-- CBo.RING_AK_USED.DOWN_EVEN (R298) -/
def execCBoRingAkUsedDownEven (o : EvOp .cbo) (s : State) : Host.Outcome State Fault Refusal :=
  countEvent evCBoRingAkUsed 0x04 o s

/-- CBo.RING_AK_USED.DOWN_ODD (R298) -/
def execCBoRingAkUsedDownOdd (o : EvOp .cbo) (s : State) : Host.Outcome State Fault Refusal :=
  countEvent evCBoRingAkUsed 0x08 o s

/-- CBo.RING_AK_USED.DOWN (R298) -/
def execCBoRingAkUsedDown (o : EvOp .cbo) (s : State) : Host.Outcome State Fault Refusal :=
  countEvent evCBoRingAkUsed 0x0C o s

/-- CBo.RING_AK_USED.ALL (R298) -/
def execCBoRingAkUsedAll (o : EvOp .cbo) (s : State) : Host.Outcome State Fault Refusal :=
  countEvent evCBoRingAkUsed 0x0F o s

/-- CBo.RING_BL_USED.UP_EVEN (R299) -/
def execCBoRingBlUsedUpEven (o : EvOp .cbo) (s : State) : Host.Outcome State Fault Refusal :=
  countEvent evCBoRingBlUsed 0x01 o s

/-- CBo.RING_BL_USED.UP_ODD (R299) -/
def execCBoRingBlUsedUpOdd (o : EvOp .cbo) (s : State) : Host.Outcome State Fault Refusal :=
  countEvent evCBoRingBlUsed 0x02 o s

/-- CBo.RING_BL_USED.UP (R299) -/
def execCBoRingBlUsedUp (o : EvOp .cbo) (s : State) : Host.Outcome State Fault Refusal :=
  countEvent evCBoRingBlUsed 0x03 o s

/-- CBo.RING_BL_USED.DOWN_EVEN (R299) -/
def execCBoRingBlUsedDownEven (o : EvOp .cbo) (s : State) : Host.Outcome State Fault Refusal :=
  countEvent evCBoRingBlUsed 0x04 o s

/-- CBo.RING_BL_USED.DOWN_ODD (R299) -/
def execCBoRingBlUsedDownOdd (o : EvOp .cbo) (s : State) : Host.Outcome State Fault Refusal :=
  countEvent evCBoRingBlUsed 0x08 o s

/-- CBo.RING_BL_USED.DOWN (R299) -/
def execCBoRingBlUsedDown (o : EvOp .cbo) (s : State) : Host.Outcome State Fault Refusal :=
  countEvent evCBoRingBlUsed 0x0C o s

/-- CBo.RING_BL_USED.ALL (R299) -/
def execCBoRingBlUsedAll (o : EvOp .cbo) (s : State) : Host.Outcome State Fault Refusal :=
  countEvent evCBoRingBlUsed 0x0F o s

/-- CBo.RING_BOUNCES.AD (R300) -/
def execCBoRingBouncesAd (o : EvOp .cbo) (s : State) : Host.Outcome State Fault Refusal :=
  countEvent evCBoRingBounces 0x01 o s

/-- CBo.RING_BOUNCES.AK (R300) -/
def execCBoRingBouncesAk (o : EvOp .cbo) (s : State) : Host.Outcome State Fault Refusal :=
  countEvent evCBoRingBounces 0x02 o s

/-- CBo.RING_BOUNCES.BL (R300) -/
def execCBoRingBouncesBl (o : EvOp .cbo) (s : State) : Host.Outcome State Fault Refusal :=
  countEvent evCBoRingBounces 0x04 o s

/-- CBo.RING_BOUNCES.IV (R300) -/
def execCBoRingBouncesIv (o : EvOp .cbo) (s : State) : Host.Outcome State Fault Refusal :=
  countEvent evCBoRingBounces 0x10 o s

/-- CBo.RING_IV_USED.UP (R301) -/
def execCBoRingIvUsedUp (o : EvOp .cbo) (s : State) : Host.Outcome State Fault Refusal :=
  countEvent evCBoRingIvUsed 0x03 o s

/-- CBo.RING_IV_USED.DN (R301) -/
def execCBoRingIvUsedDn (o : EvOp .cbo) (s : State) : Host.Outcome State Fault Refusal :=
  countEvent evCBoRingIvUsed 0x0C o s

/-- CBo.RING_IV_USED.ANY (R301) -/
def execCBoRingIvUsedAny (o : EvOp .cbo) (s : State) : Host.Outcome State Fault Refusal :=
  countEvent evCBoRingIvUsed 0x0F o s

/-- CBo.RING_IV_USED.DOWN (R301) -/
def execCBoRingIvUsedDown (o : EvOp .cbo) (s : State) : Host.Outcome State Fault Refusal :=
  countEvent evCBoRingIvUsed 0xCC o s

/-- CBo.RING_SRC_THRTL (R302) -/
def execCBoRingSrcThrtl (o : EvOp .cbo) (s : State) : Host.Outcome State Fault Refusal :=
  countEvent evCBoRingSrcThrtl 0x00 o s

/-- CBo.RxR_EXT_STARVED.IRQ (R303) -/
def execCBoRxRExtStarvedIrq (o : EvOp .cbo) (s : State) : Host.Outcome State Fault Refusal :=
  countEvent evCBoRxRExtStarved 0x01 o s

/-- CBo.RxR_EXT_STARVED.IPQ (R303) -/
def execCBoRxRExtStarvedIpq (o : EvOp .cbo) (s : State) : Host.Outcome State Fault Refusal :=
  countEvent evCBoRxRExtStarved 0x02 o s

/-- CBo.RxR_EXT_STARVED.PRQ (R303) -/
def execCBoRxRExtStarvedPrq (o : EvOp .cbo) (s : State) : Host.Outcome State Fault Refusal :=
  countEvent evCBoRxRExtStarved 0x04 o s

/-- CBo.RxR_EXT_STARVED.ISMQ_BIDS (R303) -/
def execCBoRxRExtStarvedIsmqBids (o : EvOp .cbo) (s : State) : Host.Outcome State Fault Refusal :=
  countEvent evCBoRxRExtStarved 0x08 o s

/-- CBo.RxR_INSERTS.IRQ (R304) -/
def execCBoRxRInsertsIrq (o : EvOp .cbo) (s : State) : Host.Outcome State Fault Refusal :=
  countEvent evCBoRxRInserts 0x01 o s

/-- CBo.RxR_INSERTS.IRQ_REJ (R304) -/
def execCBoRxRInsertsIrqRej (o : EvOp .cbo) (s : State) : Host.Outcome State Fault Refusal :=
  countEvent evCBoRxRInserts 0x02 o s

/-- CBo.RxR_INSERTS.IPQ (R304) -/
def execCBoRxRInsertsIpq (o : EvOp .cbo) (s : State) : Host.Outcome State Fault Refusal :=
  countEvent evCBoRxRInserts 0x04 o s

/-- CBo.RxR_INSERTS.PRQ (R304) -/
def execCBoRxRInsertsPrq (o : EvOp .cbo) (s : State) : Host.Outcome State Fault Refusal :=
  countEvent evCBoRxRInserts 0x10 o s

/-- CBo.RxR_INSERTS.PRQ_REJ (R304) -/
def execCBoRxRInsertsPrqRej (o : EvOp .cbo) (s : State) : Host.Outcome State Fault Refusal :=
  countEvent evCBoRxRInserts 0x20 o s

/-- CBo.RxR_IPQ_RETRY.ANY (R305) -/
def execCBoRxRIpqRetryAny (o : EvOp .cbo) (s : State) : Host.Outcome State Fault Refusal :=
  countEvent evCBoRxRIpqRetry 0x01 o s

/-- CBo.RxR_IPQ_RETRY.FULL (R305) -/
def execCBoRxRIpqRetryFull (o : EvOp .cbo) (s : State) : Host.Outcome State Fault Refusal :=
  countEvent evCBoRxRIpqRetry 0x02 o s

/-- CBo.RxR_IPQ_RETRY.ADDR_CONFLICT (R305) -/
def execCBoRxRIpqRetryAddrConflict (o : EvOp .cbo) (s : State) : Host.Outcome State Fault Refusal :=
  countEvent evCBoRxRIpqRetry 0x04 o s

/-- CBo.RxR_IPQ_RETRY.QPI_CREDITS (R305) -/
def execCBoRxRIpqRetryQpiCredits (o : EvOp .cbo) (s : State) : Host.Outcome State Fault Refusal :=
  countEvent evCBoRxRIpqRetry 0x10 o s

/-- CBo.RxR_IPQ_RETRY2.AD_SBO (R306) -/
def execCBoRxRIpqRetry2AdSbo (o : EvOp .cbo) (s : State) : Host.Outcome State Fault Refusal :=
  countEvent evCBoRxRIpqRetry2 0x01 o s

/-- CBo.RxR_IPQ_RETRY2.TARGET (R306) -/
def execCBoRxRIpqRetry2Target (o : EvOp .cbo) (s : State) : Host.Outcome State Fault Refusal :=
  countEvent evCBoRxRIpqRetry2 0x40 o s

/-- CBo.RxR_IRQ_RETRY.ANY (R307) -/
def execCBoRxRIrqRetryAny (o : EvOp .cbo) (s : State) : Host.Outcome State Fault Refusal :=
  countEvent evCBoRxRIrqRetry 0x01 o s

/-- CBo.RxR_IRQ_RETRY.FULL (R307) -/
def execCBoRxRIrqRetryFull (o : EvOp .cbo) (s : State) : Host.Outcome State Fault Refusal :=
  countEvent evCBoRxRIrqRetry 0x02 o s

/-- CBo.RxR_IRQ_RETRY.ADDR_CONFLICT (R307) -/
def execCBoRxRIrqRetryAddrConflict (o : EvOp .cbo) (s : State) : Host.Outcome State Fault Refusal :=
  countEvent evCBoRxRIrqRetry 0x04 o s

/-- CBo.RxR_IRQ_RETRY.RTID (R307) -/
def execCBoRxRIrqRetryRtid (o : EvOp .cbo) (s : State) : Host.Outcome State Fault Refusal :=
  countEvent evCBoRxRIrqRetry 0x08 o s

/-- CBo.RxR_IRQ_RETRY.QPI_CREDITS (R307) -/
def execCBoRxRIrqRetryQpiCredits (o : EvOp .cbo) (s : State) : Host.Outcome State Fault Refusal :=
  countEvent evCBoRxRIrqRetry 0x10 o s

/-- CBo.RxR_IRQ_RETRY.IIO_CREDITS (R307) -/
def execCBoRxRIrqRetryIioCredits (o : EvOp .cbo) (s : State) : Host.Outcome State Fault Refusal :=
  countEvent evCBoRxRIrqRetry 0x20 o s

/-- CBo.RxR_IRQ_RETRY.NID (R307) -/
def execCBoRxRIrqRetryNid (o : EvOp .cbo) (s : State) : Host.Outcome State Fault Refusal :=
  countEvent evCBoRxRIrqRetry 0x40 o s

/-- CBo.RxR_IRQ_RETRY2.AD_SBO (R308) -/
def execCBoRxRIrqRetry2AdSbo (o : EvOp .cbo) (s : State) : Host.Outcome State Fault Refusal :=
  countEvent evCBoRxRIrqRetry2 0x01 o s

/-- CBo.RxR_IRQ_RETRY2.BL_SBO (R308) -/
def execCBoRxRIrqRetry2BlSbo (o : EvOp .cbo) (s : State) : Host.Outcome State Fault Refusal :=
  countEvent evCBoRxRIrqRetry2 0x02 o s

/-- CBo.RxR_IRQ_RETRY2.TARGET (R308) -/
def execCBoRxRIrqRetry2Target (o : EvOp .cbo) (s : State) : Host.Outcome State Fault Refusal :=
  countEvent evCBoRxRIrqRetry2 0x40 o s

/-- CBo.RxR_ISMQ_RETRY.ANY (R309) -/
def execCBoRxRIsmqRetryAny (o : EvOp .cbo) (s : State) : Host.Outcome State Fault Refusal :=
  countEvent evCBoRxRIsmqRetry 0x01 o s

/-- CBo.RxR_ISMQ_RETRY.FULL (R309) -/
def execCBoRxRIsmqRetryFull (o : EvOp .cbo) (s : State) : Host.Outcome State Fault Refusal :=
  countEvent evCBoRxRIsmqRetry 0x02 o s

/-- CBo.RxR_ISMQ_RETRY.RTID (R309) -/
def execCBoRxRIsmqRetryRtid (o : EvOp .cbo) (s : State) : Host.Outcome State Fault Refusal :=
  countEvent evCBoRxRIsmqRetry 0x08 o s

/-- CBo.RxR_ISMQ_RETRY.QPI_CREDITS (R309) -/
def execCBoRxRIsmqRetryQpiCredits (o : EvOp .cbo) (s : State) : Host.Outcome State Fault Refusal :=
  countEvent evCBoRxRIsmqRetry 0x10 o s

/-- CBo.RxR_ISMQ_RETRY.IIO_CREDITS (R309) -/
def execCBoRxRIsmqRetryIioCredits (o : EvOp .cbo) (s : State) : Host.Outcome State Fault Refusal :=
  countEvent evCBoRxRIsmqRetry 0x20 o s

/-- CBo.RxR_ISMQ_RETRY.NID (R309) -/
def execCBoRxRIsmqRetryNid (o : EvOp .cbo) (s : State) : Host.Outcome State Fault Refusal :=
  countEvent evCBoRxRIsmqRetry 0x40 o s

/-- CBo.RxR_ISMQ_RETRY.WB_CREDITS (R309) -/
def execCBoRxRIsmqRetryWbCredits (o : EvOp .cbo) (s : State) : Host.Outcome State Fault Refusal :=
  countEvent evCBoRxRIsmqRetry 0x80 o s

/-- CBo.RxR_ISMQ_RETRY2.AD_SBO (R310) -/
def execCBoRxRIsmqRetry2AdSbo (o : EvOp .cbo) (s : State) : Host.Outcome State Fault Refusal :=
  countEvent evCBoRxRIsmqRetry2 0x01 o s

/-- CBo.RxR_ISMQ_RETRY2.BL_SBO (R310) -/
def execCBoRxRIsmqRetry2BlSbo (o : EvOp .cbo) (s : State) : Host.Outcome State Fault Refusal :=
  countEvent evCBoRxRIsmqRetry2 0x02 o s

/-- CBo.RxR_ISMQ_RETRY2.TARGET (R310) -/
def execCBoRxRIsmqRetry2Target (o : EvOp .cbo) (s : State) : Host.Outcome State Fault Refusal :=
  countEvent evCBoRxRIsmqRetry2 0x40 o s

/-- CBo.RxR_OCCUPANCY.IRQ (R311) -/
def execCBoRxROccupancyIrq (o : EvOp .cbo) (s : State) : Host.Outcome State Fault Refusal :=
  countEvent evCBoRxROccupancy 0x01 o s

/-- CBo.RxR_OCCUPANCY.IRQ_REJ (R311) -/
def execCBoRxROccupancyIrqRej (o : EvOp .cbo) (s : State) : Host.Outcome State Fault Refusal :=
  countEvent evCBoRxROccupancy 0x02 o s

/-- CBo.RxR_OCCUPANCY.IPQ (R311) -/
def execCBoRxROccupancyIpq (o : EvOp .cbo) (s : State) : Host.Outcome State Fault Refusal :=
  countEvent evCBoRxROccupancy 0x04 o s

/-- CBo.RxR_OCCUPANCY.PRQ_REJ (R311) -/
def execCBoRxROccupancyPrqRej (o : EvOp .cbo) (s : State) : Host.Outcome State Fault Refusal :=
  countEvent evCBoRxROccupancy 0x20 o s

/-- CBo.SBO_CREDITS_ACQUIRED.AD (R312) -/
def execCBoSboCreditsAcquiredAd (o : EvOp .cbo) (s : State) : Host.Outcome State Fault Refusal :=
  countEvent evCBoSboCreditsAcquired 0x01 o s

/-- CBo.SBO_CREDITS_ACQUIRED.BL (R312) -/
def execCBoSboCreditsAcquiredBl (o : EvOp .cbo) (s : State) : Host.Outcome State Fault Refusal :=
  countEvent evCBoSboCreditsAcquired 0x02 o s

/-- CBo.SBO_CREDIT_OCCUPANCY.AD (R313) -/
def execCBoSboCreditOccupancyAd (o : EvOp .cbo) (s : State) : Host.Outcome State Fault Refusal :=
  countEvent evCBoSboCreditOccupancy 0x01 o s

/-- CBo.SBO_CREDIT_OCCUPANCY.BL (R313) -/
def execCBoSboCreditOccupancyBl (o : EvOp .cbo) (s : State) : Host.Outcome State Fault Refusal :=
  countEvent evCBoSboCreditOccupancy 0x02 o s

/-- CBo.TOR_INSERTS.OPCODE (R314) -/
def execCBoTorInsertsOpcode (o : EvOp .cbo) (s : State) : Host.Outcome State Fault Refusal :=
  countEvent evCBoTorInserts 0x01 o s

/-- CBo.TOR_INSERTS.MISS_OPCODE (R314) -/
def execCBoTorInsertsMissOpcode (o : EvOp .cbo) (s : State) : Host.Outcome State Fault Refusal :=
  countEvent evCBoTorInserts 0x03 o s

/-- CBo.TOR_INSERTS.EVICTION (R314) -/
def execCBoTorInsertsEviction (o : EvOp .cbo) (s : State) : Host.Outcome State Fault Refusal :=
  countEvent evCBoTorInserts 0x04 o s

/-- CBo.TOR_INSERTS.ALL (R314) -/
def execCBoTorInsertsAll (o : EvOp .cbo) (s : State) : Host.Outcome State Fault Refusal :=
  countEvent evCBoTorInserts 0x08 o s

/-- CBo.TOR_INSERTS.WB (R314) -/
def execCBoTorInsertsWb (o : EvOp .cbo) (s : State) : Host.Outcome State Fault Refusal :=
  countEvent evCBoTorInserts 0x10 o s

/-- CBo.TOR_INSERTS.LOCAL_OPCODE (R314) -/
def execCBoTorInsertsLocalOpcode (o : EvOp .cbo) (s : State) : Host.Outcome State Fault Refusal :=
  countEvent evCBoTorInserts 0x21 o s

/-- CBo.TOR_INSERTS.MISS_LOCAL_OPCODE (R314) -/
def execCBoTorInsertsMissLocalOpcode (o : EvOp .cbo) (s : State) : Host.Outcome State Fault Refusal :=
  countEvent evCBoTorInserts 0x23 o s

/-- CBo.TOR_INSERTS.LOCAL (R314) -/
def execCBoTorInsertsLocal (o : EvOp .cbo) (s : State) : Host.Outcome State Fault Refusal :=
  countEvent evCBoTorInserts 0x28 o s

/-- CBo.TOR_INSERTS.MISS_LOCAL (R314) -/
def execCBoTorInsertsMissLocal (o : EvOp .cbo) (s : State) : Host.Outcome State Fault Refusal :=
  countEvent evCBoTorInserts 0x2A o s

/-- CBo.TOR_INSERTS.NID_OPCODE (R314) -/
def execCBoTorInsertsNidOpcode (o : EvOp .cbo) (s : State) : Host.Outcome State Fault Refusal :=
  countEvent evCBoTorInserts 0x41 o s

/-- CBo.TOR_INSERTS.NID_MISS_OPCODE (R314) -/
def execCBoTorInsertsNidMissOpcode (o : EvOp .cbo) (s : State) : Host.Outcome State Fault Refusal :=
  countEvent evCBoTorInserts 0x43 o s

/-- CBo.TOR_INSERTS.NID_EVICTION (R314) -/
def execCBoTorInsertsNidEviction (o : EvOp .cbo) (s : State) : Host.Outcome State Fault Refusal :=
  countEvent evCBoTorInserts 0x44 o s

/-- CBo.TOR_INSERTS.NID_ALL (R314) -/
def execCBoTorInsertsNidAll (o : EvOp .cbo) (s : State) : Host.Outcome State Fault Refusal :=
  countEvent evCBoTorInserts 0x48 o s

/-- CBo.TOR_INSERTS.NID_MISS_ALL (R314) -/
def execCBoTorInsertsNidMissAll (o : EvOp .cbo) (s : State) : Host.Outcome State Fault Refusal :=
  countEvent evCBoTorInserts 0x4A o s

/-- CBo.TOR_INSERTS.NID_WB (R314) -/
def execCBoTorInsertsNidWb (o : EvOp .cbo) (s : State) : Host.Outcome State Fault Refusal :=
  countEvent evCBoTorInserts 0x50 o s

/-- CBo.TOR_INSERTS.REMOTE_OPCODE (R314) -/
def execCBoTorInsertsRemoteOpcode (o : EvOp .cbo) (s : State) : Host.Outcome State Fault Refusal :=
  countEvent evCBoTorInserts 0x81 o s

/-- CBo.TOR_INSERTS.MISS_REMOTE_OPCODE (R314) -/
def execCBoTorInsertsMissRemoteOpcode (o : EvOp .cbo) (s : State) : Host.Outcome State Fault Refusal :=
  countEvent evCBoTorInserts 0x83 o s

/-- CBo.TOR_INSERTS.REMOTE (R314) -/
def execCBoTorInsertsRemote (o : EvOp .cbo) (s : State) : Host.Outcome State Fault Refusal :=
  countEvent evCBoTorInserts 0x88 o s

/-- CBo.TOR_INSERTS.MISS_REMOTE (R314) -/
def execCBoTorInsertsMissRemote (o : EvOp .cbo) (s : State) : Host.Outcome State Fault Refusal :=
  countEvent evCBoTorInserts 0x8A o s

/-- CBo.TOR_OCCUPANCY.OPCODE (R315) -/
def execCBoTorOccupancyOpcode (o : EvOp .cbo) (s : State) : Host.Outcome State Fault Refusal :=
  countEvent evCBoTorOccupancy 0x01 o s

/-- CBo.TOR_OCCUPANCY.MISS_OPCODE (R315) -/
def execCBoTorOccupancyMissOpcode (o : EvOp .cbo) (s : State) : Host.Outcome State Fault Refusal :=
  countEvent evCBoTorOccupancy 0x03 o s

/-- CBo.TOR_OCCUPANCY.EVICTION (R315) -/
def execCBoTorOccupancyEviction (o : EvOp .cbo) (s : State) : Host.Outcome State Fault Refusal :=
  countEvent evCBoTorOccupancy 0x04 o s

/-- CBo.TOR_OCCUPANCY.ALL (R315) -/
def execCBoTorOccupancyAll (o : EvOp .cbo) (s : State) : Host.Outcome State Fault Refusal :=
  countEvent evCBoTorOccupancy 0x08 o s

/-- CBo.TOR_OCCUPANCY.MISS_ALL (R315) -/
def execCBoTorOccupancyMissAll (o : EvOp .cbo) (s : State) : Host.Outcome State Fault Refusal :=
  countEvent evCBoTorOccupancy 0x0A o s

/-- CBo.TOR_OCCUPANCY.WB (R315) -/
def execCBoTorOccupancyWb (o : EvOp .cbo) (s : State) : Host.Outcome State Fault Refusal :=
  countEvent evCBoTorOccupancy 0x10 o s

/-- CBo.TOR_OCCUPANCY.LOCAL_OPCODE (R315) -/
def execCBoTorOccupancyLocalOpcode (o : EvOp .cbo) (s : State) : Host.Outcome State Fault Refusal :=
  countEvent evCBoTorOccupancy 0x21 o s

/-- CBo.TOR_OCCUPANCY.MISS_LOCAL_OPCODE (R315) -/
def execCBoTorOccupancyMissLocalOpcode (o : EvOp .cbo) (s : State) : Host.Outcome State Fault Refusal :=
  countEvent evCBoTorOccupancy 0x23 o s

/-- CBo.TOR_OCCUPANCY.LOCAL (R315) -/
def execCBoTorOccupancyLocal (o : EvOp .cbo) (s : State) : Host.Outcome State Fault Refusal :=
  countEvent evCBoTorOccupancy 0x28 o s

/-- CBo.TOR_OCCUPANCY.MISS_LOCAL (R315) -/
def execCBoTorOccupancyMissLocal (o : EvOp .cbo) (s : State) : Host.Outcome State Fault Refusal :=
  countEvent evCBoTorOccupancy 0x2A o s

/-- CBo.TOR_OCCUPANCY.NID_OPCODE (R315) -/
def execCBoTorOccupancyNidOpcode (o : EvOp .cbo) (s : State) : Host.Outcome State Fault Refusal :=
  countEvent evCBoTorOccupancy 0x41 o s

/-- CBo.TOR_OCCUPANCY.NID_MISS_OPCODE (R315) -/
def execCBoTorOccupancyNidMissOpcode (o : EvOp .cbo) (s : State) : Host.Outcome State Fault Refusal :=
  countEvent evCBoTorOccupancy 0x43 o s

/-- CBo.TOR_OCCUPANCY.NID_EVICTION (R315) -/
def execCBoTorOccupancyNidEviction (o : EvOp .cbo) (s : State) : Host.Outcome State Fault Refusal :=
  countEvent evCBoTorOccupancy 0x44 o s

/-- CBo.TOR_OCCUPANCY.NID_ALL (R315) -/
def execCBoTorOccupancyNidAll (o : EvOp .cbo) (s : State) : Host.Outcome State Fault Refusal :=
  countEvent evCBoTorOccupancy 0x48 o s

/-- CBo.TOR_OCCUPANCY.NID_MISS_ALL (R315) -/
def execCBoTorOccupancyNidMissAll (o : EvOp .cbo) (s : State) : Host.Outcome State Fault Refusal :=
  countEvent evCBoTorOccupancy 0x4A o s

/-- CBo.TOR_OCCUPANCY.NID_WB (R315) -/
def execCBoTorOccupancyNidWb (o : EvOp .cbo) (s : State) : Host.Outcome State Fault Refusal :=
  countEvent evCBoTorOccupancy 0x50 o s

/-- CBo.TOR_OCCUPANCY.REMOTE_OPCODE (R315) -/
def execCBoTorOccupancyRemoteOpcode (o : EvOp .cbo) (s : State) : Host.Outcome State Fault Refusal :=
  countEvent evCBoTorOccupancy 0x81 o s

/-- CBo.TOR_OCCUPANCY.MISS_REMOTE_OPCODE (R315) -/
def execCBoTorOccupancyMissRemoteOpcode (o : EvOp .cbo) (s : State) : Host.Outcome State Fault Refusal :=
  countEvent evCBoTorOccupancy 0x83 o s

/-- CBo.TOR_OCCUPANCY.REMOTE (R315) -/
def execCBoTorOccupancyRemote (o : EvOp .cbo) (s : State) : Host.Outcome State Fault Refusal :=
  countEvent evCBoTorOccupancy 0x88 o s

/-- CBo.TOR_OCCUPANCY.MISS_REMOTE (R315) -/
def execCBoTorOccupancyMissRemote (o : EvOp .cbo) (s : State) : Host.Outcome State Fault Refusal :=
  countEvent evCBoTorOccupancy 0x8A o s

/-- CBo.TxR_ADS_USED.AD (R316) -/
def execCBoTxRAdsUsedAd (o : EvOp .cbo) (s : State) : Host.Outcome State Fault Refusal :=
  countEvent evCBoTxRAdsUsed 0x01 o s

/-- CBo.TxR_ADS_USED.AK (R316) -/
def execCBoTxRAdsUsedAk (o : EvOp .cbo) (s : State) : Host.Outcome State Fault Refusal :=
  countEvent evCBoTxRAdsUsed 0x02 o s

/-- CBo.TxR_ADS_USED.BL (R316) -/
def execCBoTxRAdsUsedBl (o : EvOp .cbo) (s : State) : Host.Outcome State Fault Refusal :=
  countEvent evCBoTxRAdsUsed 0x04 o s

/-- CBo.TxR_INSERTS.AD_CACHE (R317) -/
def execCBoTxRInsertsAdCache (o : EvOp .cbo) (s : State) : Host.Outcome State Fault Refusal :=
  countEvent evCBoTxRInserts 0x01 o s

/-- CBo.TxR_INSERTS.AK_CACHE (R317) -/
def execCBoTxRInsertsAkCache (o : EvOp .cbo) (s : State) : Host.Outcome State Fault Refusal :=
  countEvent evCBoTxRInserts 0x02 o s

/-- CBo.TxR_INSERTS.BL_CACHE (R317) -/
def execCBoTxRInsertsBlCache (o : EvOp .cbo) (s : State) : Host.Outcome State Fault Refusal :=
  countEvent evCBoTxRInserts 0x04 o s

/-- CBo.TxR_INSERTS.IV_CACHE (R317) -/
def execCBoTxRInsertsIvCache (o : EvOp .cbo) (s : State) : Host.Outcome State Fault Refusal :=
  countEvent evCBoTxRInserts 0x08 o s

/-- CBo.TxR_INSERTS.AD_CORE (R317) -/
def execCBoTxRInsertsAdCore (o : EvOp .cbo) (s : State) : Host.Outcome State Fault Refusal :=
  countEvent evCBoTxRInserts 0x10 o s

/-- CBo.TxR_INSERTS.AK_CORE (R317) -/
def execCBoTxRInsertsAkCore (o : EvOp .cbo) (s : State) : Host.Outcome State Fault Refusal :=
  countEvent evCBoTxRInserts 0x20 o s

/-- CBo.TxR_INSERTS.BL_CORE (R317) -/
def execCBoTxRInsertsBlCore (o : EvOp .cbo) (s : State) : Host.Outcome State Fault Refusal :=
  countEvent evCBoTxRInserts 0x40 o s

end Sys2Proof.Machine
end

