-- ==== Sys2Proof/Machine/HA.lean ====
section
/-! DEFINITION. The HA events: each row is one cycle of a counter whose control word selects it (40_global_ubox.md R215, R249). -/

namespace Sys2Proof.Machine

/-- HA.ADDR_OPC_MATCH.ADDR (R410) -/
def execHaAddrOpcMatchAddr (o : EvOp .ha) (s : State) : Host.Outcome State Fault Refusal :=
  countEvent evHaAddrOpcMatch 0x01 o s

/-- HA.ADDR_OPC_MATCH.OPC (R410) -/
def execHaAddrOpcMatchOpc (o : EvOp .ha) (s : State) : Host.Outcome State Fault Refusal :=
  countEvent evHaAddrOpcMatch 0x02 o s

/-- HA.ADDR_OPC_MATCH.FILT (R410) -/
def execHaAddrOpcMatchFilt (o : EvOp .ha) (s : State) : Host.Outcome State Fault Refusal :=
  countEvent evHaAddrOpcMatch 0x03 o s

/-- HA.ADDR_OPC_MATCH.AD (R410) -/
def execHaAddrOpcMatchAd (o : EvOp .ha) (s : State) : Host.Outcome State Fault Refusal :=
  countEvent evHaAddrOpcMatch 0x04 o s

/-- HA.ADDR_OPC_MATCH.BL (R410) -/
def execHaAddrOpcMatchBl (o : EvOp .ha) (s : State) : Host.Outcome State Fault Refusal :=
  countEvent evHaAddrOpcMatch 0x08 o s

/-- HA.ADDR_OPC_MATCH.AK (R410) -/
def execHaAddrOpcMatchAk (o : EvOp .ha) (s : State) : Host.Outcome State Fault Refusal :=
  countEvent evHaAddrOpcMatch 0x10 o s

/-- HA.BT_CYCLES_NE (R411) -/
def execHaBtCyclesNe (o : EvOp .ha) (s : State) : Host.Outcome State Fault Refusal :=
  countEvent evHaBtCyclesNe 0x00 o s

/-- HA.BT_OCCUPANCY (R412) -/
def execHaBtOccupancy (o : EvOp .ha) (s : State) : Host.Outcome State Fault Refusal :=
  countEvent evHaBtOccupancy 0x00 o s

/-- HA.BYPASS_IMC.TAKEN (R413) -/
def execHaBypassImcTaken (o : EvOp .ha) (s : State) : Host.Outcome State Fault Refusal :=
  countEvent evHaBypassImc 0x01 o s

/-- HA.BYPASS_IMC.NOT_TAKEN (R413) -/
def execHaBypassImcNotTaken (o : EvOp .ha) (s : State) : Host.Outcome State Fault Refusal :=
  countEvent evHaBypassImc 0x02 o s

/-- HA.CLOCKTICKS (R414) -/
def execHaClockticks (o : EvOp .ha) (s : State) : Host.Outcome State Fault Refusal :=
  countEvent evHaClockticks 0x00 o s

/-- HA.CONFLICT_CYCLES (R415) -/
def execHaConflictCycles (o : EvOp .ha) (s : State) : Host.Outcome State Fault Refusal :=
  countEvent evHaConflictCycles 0x00 o s

/-- HA.DIRECT2CORE_COUNT (R416) -/
def execHaDirect2coreCount (o : EvOp .ha) (s : State) : Host.Outcome State Fault Refusal :=
  countEvent evHaDirect2coreCount 0x00 o s

/-- HA.DIRECT2CORE_CYCLES_DISABLED (R417) -/
def execHaDirect2coreCyclesDisabled (o : EvOp .ha) (s : State) : Host.Outcome State Fault Refusal :=
  countEvent evHaDirect2coreCyclesDisabled 0x00 o s

/-- HA.DIRECT2CORE_TXN_OVERRIDE (R418) -/
def execHaDirect2coreTxnOverride (o : EvOp .ha) (s : State) : Host.Outcome State Fault Refusal :=
  countEvent evHaDirect2coreTxnOverride 0x00 o s

/-- HA.DIRECTORY_LAT_OPT (R419) -/
def execHaDirectoryLatOpt (o : EvOp .ha) (s : State) : Host.Outcome State Fault Refusal :=
  countEvent evHaDirectoryLatOpt 0x00 o s

/-- HA.DIRECTORY_LOOKUP.SNP (R420) -/
def execHaDirectoryLookupSnp (o : EvOp .ha) (s : State) : Host.Outcome State Fault Refusal :=
  countEvent evHaDirectoryLookup 0x01 o s

/-- HA.DIRECTORY_LOOKUP.NO_SNP (R420) -/
def execHaDirectoryLookupNoSnp (o : EvOp .ha) (s : State) : Host.Outcome State Fault Refusal :=
  countEvent evHaDirectoryLookup 0x02 o s

/-- HA.DIRECTORY_UPDATE.SET (R421) -/
def execHaDirectoryUpdateSet (o : EvOp .ha) (s : State) : Host.Outcome State Fault Refusal :=
  countEvent evHaDirectoryUpdate 0x01 o s

/-- HA.DIRECTORY_UPDATE.CLEAR (R421) -/
def execHaDirectoryUpdateClear (o : EvOp .ha) (s : State) : Host.Outcome State Fault Refusal :=
  countEvent evHaDirectoryUpdate 0x02 o s

/-- HA.DIRECTORY_UPDATE.ANY (R421) -/
def execHaDirectoryUpdateAny (o : EvOp .ha) (s : State) : Host.Outcome State Fault Refusal :=
  countEvent evHaDirectoryUpdate 0x03 o s

/-- HA.HITME_HIT.READ_OR_INVITOE (R422) -/
def execHaHitmeHitReadOrInvitoe (o : EvOp .ha) (s : State) : Host.Outcome State Fault Refusal :=
  countEvent evHaHitmeHit 0x01 o s

/-- HA.HITME_HIT.WBMTOI (R422) -/
def execHaHitmeHitWbmtoi (o : EvOp .ha) (s : State) : Host.Outcome State Fault Refusal :=
  countEvent evHaHitmeHit 0x02 o s

/-- HA.HITME_HIT.ACKCNFLTWBI (R422) -/
def execHaHitmeHitAckcnfltwbi (o : EvOp .ha) (s : State) : Host.Outcome State Fault Refusal :=
  countEvent evHaHitmeHit 0x04 o s

/-- HA.HITME_HIT.WBMTOE_OR_S (R422) -/
def execHaHitmeHitWbmtoeOrS (o : EvOp .ha) (s : State) : Host.Outcome State Fault Refusal :=
  countEvent evHaHitmeHit 0x08 o s

/-- HA.HITME_HIT.HOM (R422) -/
def execHaHitmeHitHom (o : EvOp .ha) (s : State) : Host.Outcome State Fault Refusal :=
  countEvent evHaHitmeHit 0x0F o s

/-- HA.HITME_HIT.RSPFWDI_REMOTE (R422) -/
def execHaHitmeHitRspfwdiRemote (o : EvOp .ha) (s : State) : Host.Outcome State Fault Refusal :=
  countEvent evHaHitmeHit 0x10 o s

/-- HA.HITME_HIT.RSPFWDI_LOCAL (R422) -/
def execHaHitmeHitRspfwdiLocal (o : EvOp .ha) (s : State) : Host.Outcome State Fault Refusal :=
  countEvent evHaHitmeHit 0x20 o s

/-- HA.HITME_HIT.INVALS (R422) -/
def execHaHitmeHitInvals (o : EvOp .ha) (s : State) : Host.Outcome State Fault Refusal :=
  countEvent evHaHitmeHit 0x26 o s

/-- HA.HITME_HIT.RSPFWDS (R422) -/
def execHaHitmeHitRspfwds (o : EvOp .ha) (s : State) : Host.Outcome State Fault Refusal :=
  countEvent evHaHitmeHit 0x40 o s

/-- HA.HITME_HIT.EVICTS (R422) -/
def execHaHitmeHitEvicts (o : EvOp .ha) (s : State) : Host.Outcome State Fault Refusal :=
  countEvent evHaHitmeHit 0x42 o s

/-- HA.HITME_HIT.ALLOCS (R422) -/
def execHaHitmeHitAllocs (o : EvOp .ha) (s : State) : Host.Outcome State Fault Refusal :=
  countEvent evHaHitmeHit 0x70 o s

/-- HA.HITME_HIT.RSP (R422) -/
def execHaHitmeHitRsp (o : EvOp .ha) (s : State) : Host.Outcome State Fault Refusal :=
  countEvent evHaHitmeHit 0x80 o s

/-- HA.HITME_HIT.ALL (R422) -/
def execHaHitmeHitAll (o : EvOp .ha) (s : State) : Host.Outcome State Fault Refusal :=
  countEvent evHaHitmeHit 0xFF o s

/-- HA.HITME_HIT_PV_BITS_SET.READ_OR_INVITOE (R423) -/
def execHaHitmeHitPvBitsSetReadOrInvitoe (o : EvOp .ha) (s : State) : Host.Outcome State Fault Refusal :=
  countEvent evHaHitmeHitPvBitsSet 0x01 o s

/-- HA.HITME_HIT_PV_BITS_SET.WBMTOI (R423) -/
def execHaHitmeHitPvBitsSetWbmtoi (o : EvOp .ha) (s : State) : Host.Outcome State Fault Refusal :=
  countEvent evHaHitmeHitPvBitsSet 0x02 o s

/-- HA.HITME_HIT_PV_BITS_SET.ACKCNFLTWBI (R423) -/
def execHaHitmeHitPvBitsSetAckcnfltwbi (o : EvOp .ha) (s : State) : Host.Outcome State Fault Refusal :=
  countEvent evHaHitmeHitPvBitsSet 0x04 o s

/-- HA.HITME_HIT_PV_BITS_SET.WBMTOE_OR_S (R423) -/
def execHaHitmeHitPvBitsSetWbmtoeOrS (o : EvOp .ha) (s : State) : Host.Outcome State Fault Refusal :=
  countEvent evHaHitmeHitPvBitsSet 0x08 o s

/-- HA.HITME_HIT_PV_BITS_SET.HOM (R423) -/
def execHaHitmeHitPvBitsSetHom (o : EvOp .ha) (s : State) : Host.Outcome State Fault Refusal :=
  countEvent evHaHitmeHitPvBitsSet 0x0F o s

/-- HA.HITME_HIT_PV_BITS_SET.RSPFWDI_REMOTE (R423) -/
def execHaHitmeHitPvBitsSetRspfwdiRemote (o : EvOp .ha) (s : State) : Host.Outcome State Fault Refusal :=
  countEvent evHaHitmeHitPvBitsSet 0x10 o s

/-- HA.HITME_HIT_PV_BITS_SET.RSPFWDI_LOCAL (R423) -/
def execHaHitmeHitPvBitsSetRspfwdiLocal (o : EvOp .ha) (s : State) : Host.Outcome State Fault Refusal :=
  countEvent evHaHitmeHitPvBitsSet 0x20 o s

/-- HA.HITME_HIT_PV_BITS_SET.RSPFWDS (R423) -/
def execHaHitmeHitPvBitsSetRspfwds (o : EvOp .ha) (s : State) : Host.Outcome State Fault Refusal :=
  countEvent evHaHitmeHitPvBitsSet 0x40 o s

/-- HA.HITME_HIT_PV_BITS_SET.RSP (R423) -/
def execHaHitmeHitPvBitsSetRsp (o : EvOp .ha) (s : State) : Host.Outcome State Fault Refusal :=
  countEvent evHaHitmeHitPvBitsSet 0x80 o s

/-- HA.HITME_HIT_PV_BITS_SET.ALL (R423) -/
def execHaHitmeHitPvBitsSetAll (o : EvOp .ha) (s : State) : Host.Outcome State Fault Refusal :=
  countEvent evHaHitmeHitPvBitsSet 0xFF o s

/-- HA.HITME_LOOKUP.READ_OR_INVITOE (R424) -/
def execHaHitmeLookupReadOrInvitoe (o : EvOp .ha) (s : State) : Host.Outcome State Fault Refusal :=
  countEvent evHaHitmeLookup 0x01 o s

/-- HA.HITME_LOOKUP.WBMTOI (R424) -/
def execHaHitmeLookupWbmtoi (o : EvOp .ha) (s : State) : Host.Outcome State Fault Refusal :=
  countEvent evHaHitmeLookup 0x02 o s

/-- HA.HITME_LOOKUP.ACKCNFLTWBI (R424) -/
def execHaHitmeLookupAckcnfltwbi (o : EvOp .ha) (s : State) : Host.Outcome State Fault Refusal :=
  countEvent evHaHitmeLookup 0x04 o s

/-- HA.HITME_LOOKUP.WBMTOE_OR_S (R424) -/
def execHaHitmeLookupWbmtoeOrS (o : EvOp .ha) (s : State) : Host.Outcome State Fault Refusal :=
  countEvent evHaHitmeLookup 0x08 o s

/-- HA.HITME_LOOKUP.HOM (R424) -/
def execHaHitmeLookupHom (o : EvOp .ha) (s : State) : Host.Outcome State Fault Refusal :=
  countEvent evHaHitmeLookup 0x0F o s

/-- HA.HITME_LOOKUP.RSPFWDI_REMOTE (R424) -/
def execHaHitmeLookupRspfwdiRemote (o : EvOp .ha) (s : State) : Host.Outcome State Fault Refusal :=
  countEvent evHaHitmeLookup 0x10 o s

/-- HA.HITME_LOOKUP.RSPFWDI_LOCAL (R424) -/
def execHaHitmeLookupRspfwdiLocal (o : EvOp .ha) (s : State) : Host.Outcome State Fault Refusal :=
  countEvent evHaHitmeLookup 0x20 o s

/-- HA.HITME_LOOKUP.INVALS (R424) -/
def execHaHitmeLookupInvals (o : EvOp .ha) (s : State) : Host.Outcome State Fault Refusal :=
  countEvent evHaHitmeLookup 0x26 o s

/-- HA.HITME_LOOKUP.RSPFWDS (R424) -/
def execHaHitmeLookupRspfwds (o : EvOp .ha) (s : State) : Host.Outcome State Fault Refusal :=
  countEvent evHaHitmeLookup 0x40 o s

/-- HA.HITME_LOOKUP.ALLOCS (R424) -/
def execHaHitmeLookupAllocs (o : EvOp .ha) (s : State) : Host.Outcome State Fault Refusal :=
  countEvent evHaHitmeLookup 0x70 o s

/-- HA.HITME_LOOKUP.RSP (R424) -/
def execHaHitmeLookupRsp (o : EvOp .ha) (s : State) : Host.Outcome State Fault Refusal :=
  countEvent evHaHitmeLookup 0x80 o s

/-- HA.HITME_LOOKUP.ALL (R424) -/
def execHaHitmeLookupAll (o : EvOp .ha) (s : State) : Host.Outcome State Fault Refusal :=
  countEvent evHaHitmeLookup 0xFF o s

/-- HA.IGR_NO_CREDIT_CYCLES.AD_QPI0 (R425) -/
def execHaIgrNoCreditCyclesAdQpi0 (o : EvOp .ha) (s : State) : Host.Outcome State Fault Refusal :=
  countEvent evHaIgrNoCreditCycles 0x01 o s

/-- HA.IGR_NO_CREDIT_CYCLES.AD_QPI1 (R425) -/
def execHaIgrNoCreditCyclesAdQpi1 (o : EvOp .ha) (s : State) : Host.Outcome State Fault Refusal :=
  countEvent evHaIgrNoCreditCycles 0x02 o s

/-- HA.IGR_NO_CREDIT_CYCLES.BL_QPI0 (R425) -/
def execHaIgrNoCreditCyclesBlQpi0 (o : EvOp .ha) (s : State) : Host.Outcome State Fault Refusal :=
  countEvent evHaIgrNoCreditCycles 0x04 o s

/-- HA.IGR_NO_CREDIT_CYCLES.BL_QPI1 (R425) -/
def execHaIgrNoCreditCyclesBlQpi1 (o : EvOp .ha) (s : State) : Host.Outcome State Fault Refusal :=
  countEvent evHaIgrNoCreditCycles 0x08 o s

/-- HA.IGR_NO_CREDIT_CYCLES.AD_QPI2 (R425) -/
def execHaIgrNoCreditCyclesAdQpi2 (o : EvOp .ha) (s : State) : Host.Outcome State Fault Refusal :=
  countEvent evHaIgrNoCreditCycles 0x10 o s

/-- HA.IGR_NO_CREDIT_CYCLES.BL_QPI2 (R425) -/
def execHaIgrNoCreditCyclesBlQpi2 (o : EvOp .ha) (s : State) : Host.Outcome State Fault Refusal :=
  countEvent evHaIgrNoCreditCycles 0x20 o s

/-- HA.IMC_READS.NORMAL (R426) -/
def execHaImcReadsNormal (o : EvOp .ha) (s : State) : Host.Outcome State Fault Refusal :=
  countEvent evHaImcReads 0x01 o s

/-- HA.IMC_RETRY (R427) -/
def execHaImcRetry (o : EvOp .ha) (s : State) : Host.Outcome State Fault Refusal :=
  countEvent evHaImcRetry 0x00 o s

/-- HA.IMC_WRITES.FULL (R428) -/
def execHaImcWritesFull (o : EvOp .ha) (s : State) : Host.Outcome State Fault Refusal :=
  countEvent evHaImcWrites 0x01 o s

/-- HA.IMC_WRITES.PARTIAL (R428) -/
def execHaImcWritesPartial (o : EvOp .ha) (s : State) : Host.Outcome State Fault Refusal :=
  countEvent evHaImcWrites 0x02 o s

/-- HA.IMC_WRITES.FULL_ISOCH (R428) -/
def execHaImcWritesFullIsoch (o : EvOp .ha) (s : State) : Host.Outcome State Fault Refusal :=
  countEvent evHaImcWrites 0x04 o s

/-- HA.IMC_WRITES.PARTIAL_ISOCH (R428) -/
def execHaImcWritesPartialIsoch (o : EvOp .ha) (s : State) : Host.Outcome State Fault Refusal :=
  countEvent evHaImcWrites 0x08 o s

/-- HA.IMC_WRITES.ALL (R428) -/
def execHaImcWritesAll (o : EvOp .ha) (s : State) : Host.Outcome State Fault Refusal :=
  countEvent evHaImcWrites 0x0F o s

/-- HA.OSB.READS_LOCAL (R429) -/
def execHaOsbReadsLocal (o : EvOp .ha) (s : State) : Host.Outcome State Fault Refusal :=
  countEvent evHaOsb 0x02 o s

/-- HA.OSB.INVITOE_LOCAL (R429) -/
def execHaOsbInvitoeLocal (o : EvOp .ha) (s : State) : Host.Outcome State Fault Refusal :=
  countEvent evHaOsb 0x04 o s

/-- HA.OSB.REMOTE (R429) -/
def execHaOsbRemote (o : EvOp .ha) (s : State) : Host.Outcome State Fault Refusal :=
  countEvent evHaOsb 0x08 o s

/-- HA.OSB.CANCELLED (R429) -/
def execHaOsbCancelled (o : EvOp .ha) (s : State) : Host.Outcome State Fault Refusal :=
  countEvent evHaOsb 0x10 o s

/-- HA.OSB.READS_LOCAL_USEFUL (R429) -/
def execHaOsbReadsLocalUseful (o : EvOp .ha) (s : State) : Host.Outcome State Fault Refusal :=
  countEvent evHaOsb 0x20 o s

/-- HA.OSB.REMOTE_USEFUL (R429) -/
def execHaOsbRemoteUseful (o : EvOp .ha) (s : State) : Host.Outcome State Fault Refusal :=
  countEvent evHaOsb 0x40 o s

/-- HA.OSB_EDR.ALL (R430) -/
def execHaOsbEdrAll (o : EvOp .ha) (s : State) : Host.Outcome State Fault Refusal :=
  countEvent evHaOsbEdr 0x01 o s

/-- HA.OSB_EDR.READS_LOCAL_I (R430) -/
def execHaOsbEdrReadsLocalI (o : EvOp .ha) (s : State) : Host.Outcome State Fault Refusal :=
  countEvent evHaOsbEdr 0x02 o s

/-- HA.OSB_EDR.READS_REMOTE_I (R430) -/
def execHaOsbEdrReadsRemoteI (o : EvOp .ha) (s : State) : Host.Outcome State Fault Refusal :=
  countEvent evHaOsbEdr 0x04 o s

/-- HA.OSB_EDR.READS_LOCAL_S (R430) -/
def execHaOsbEdrReadsLocalS (o : EvOp .ha) (s : State) : Host.Outcome State Fault Refusal :=
  countEvent evHaOsbEdr 0x08 o s

/-- HA.OSB_EDR.READS_REMOTE_S (R430) -/
def execHaOsbEdrReadsRemoteS (o : EvOp .ha) (s : State) : Host.Outcome State Fault Refusal :=
  countEvent evHaOsbEdr 0x10 o s

/-- HA.REQUESTS.READS_LOCAL (R431) -/
def execHaRequestsReadsLocal (o : EvOp .ha) (s : State) : Host.Outcome State Fault Refusal :=
  countEvent evHaRequests 0x01 o s

/-- HA.REQUESTS.READS_REMOTE (R431) -/
def execHaRequestsReadsRemote (o : EvOp .ha) (s : State) : Host.Outcome State Fault Refusal :=
  countEvent evHaRequests 0x02 o s

/-- HA.REQUESTS.READS (R431) -/
def execHaRequestsReads (o : EvOp .ha) (s : State) : Host.Outcome State Fault Refusal :=
  countEvent evHaRequests 0x03 o s

/-- HA.REQUESTS.WRITES_LOCAL (R431) -/
def execHaRequestsWritesLocal (o : EvOp .ha) (s : State) : Host.Outcome State Fault Refusal :=
  countEvent evHaRequests 0x04 o s

/-- HA.REQUESTS.WRITES_REMOTE (R431) -/
def execHaRequestsWritesRemote (o : EvOp .ha) (s : State) : Host.Outcome State Fault Refusal :=
  countEvent evHaRequests 0x08 o s

/-- HA.REQUESTS.WRITES (R431) -/
def execHaRequestsWrites (o : EvOp .ha) (s : State) : Host.Outcome State Fault Refusal :=
  countEvent evHaRequests 0x0C o s

/-- HA.REQUESTS.INVITOE_LOCAL (R431) -/
def execHaRequestsInvitoeLocal (o : EvOp .ha) (s : State) : Host.Outcome State Fault Refusal :=
  countEvent evHaRequests 0x10 o s

/-- HA.REQUESTS.INVITOE_REMOTE (R431) -/
def execHaRequestsInvitoeRemote (o : EvOp .ha) (s : State) : Host.Outcome State Fault Refusal :=
  countEvent evHaRequests 0x20 o s

/-- HA.RING_AD_USED.CW_EVEN (R432) -/
def execHaRingAdUsedCwEven (o : EvOp .ha) (s : State) : Host.Outcome State Fault Refusal :=
  countEvent evHaRingAdUsed 0x01 o s

/-- HA.RING_AD_USED.CW_ODD (R432) -/
def execHaRingAdUsedCwOdd (o : EvOp .ha) (s : State) : Host.Outcome State Fault Refusal :=
  countEvent evHaRingAdUsed 0x02 o s

/-- HA.RING_AD_USED.CW (R432) -/
def execHaRingAdUsedCw (o : EvOp .ha) (s : State) : Host.Outcome State Fault Refusal :=
  countEvent evHaRingAdUsed 0x03 o s

/-- HA.RING_AD_USED.CCW_EVEN (R432) -/
def execHaRingAdUsedCcwEven (o : EvOp .ha) (s : State) : Host.Outcome State Fault Refusal :=
  countEvent evHaRingAdUsed 0x04 o s

/-- HA.RING_AD_USED.CCW_ODD (R432) -/
def execHaRingAdUsedCcwOdd (o : EvOp .ha) (s : State) : Host.Outcome State Fault Refusal :=
  countEvent evHaRingAdUsed 0x08 o s

/-- HA.RING_AD_USED.CCW (R432) -/
def execHaRingAdUsedCcw (o : EvOp .ha) (s : State) : Host.Outcome State Fault Refusal :=
  countEvent evHaRingAdUsed 0x0C o s

/-- HA.RING_AK_USED.CW_EVEN (R433) -/
def execHaRingAkUsedCwEven (o : EvOp .ha) (s : State) : Host.Outcome State Fault Refusal :=
  countEvent evHaRingAkUsed 0x01 o s

/-- HA.RING_AK_USED.CW_ODD (R433) -/
def execHaRingAkUsedCwOdd (o : EvOp .ha) (s : State) : Host.Outcome State Fault Refusal :=
  countEvent evHaRingAkUsed 0x02 o s

/-- HA.RING_AK_USED.CW (R433) -/
def execHaRingAkUsedCw (o : EvOp .ha) (s : State) : Host.Outcome State Fault Refusal :=
  countEvent evHaRingAkUsed 0x03 o s

/-- HA.RING_AK_USED.CCW_EVEN (R433) -/
def execHaRingAkUsedCcwEven (o : EvOp .ha) (s : State) : Host.Outcome State Fault Refusal :=
  countEvent evHaRingAkUsed 0x04 o s

/-- HA.RING_AK_USED.CCW_ODD (R433) -/
def execHaRingAkUsedCcwOdd (o : EvOp .ha) (s : State) : Host.Outcome State Fault Refusal :=
  countEvent evHaRingAkUsed 0x08 o s

/-- HA.RING_AK_USED.CCW (R433) -/
def execHaRingAkUsedCcw (o : EvOp .ha) (s : State) : Host.Outcome State Fault Refusal :=
  countEvent evHaRingAkUsed 0x0C o s

/-- HA.RING_BL_USED.CW_EVEN (R434) -/
def execHaRingBlUsedCwEven (o : EvOp .ha) (s : State) : Host.Outcome State Fault Refusal :=
  countEvent evHaRingBlUsed 0x01 o s

/-- HA.RING_BL_USED.CW_ODD (R434) -/
def execHaRingBlUsedCwOdd (o : EvOp .ha) (s : State) : Host.Outcome State Fault Refusal :=
  countEvent evHaRingBlUsed 0x02 o s

/-- HA.RING_BL_USED.CW (R434) -/
def execHaRingBlUsedCw (o : EvOp .ha) (s : State) : Host.Outcome State Fault Refusal :=
  countEvent evHaRingBlUsed 0x03 o s

/-- HA.RING_BL_USED.CCW_EVEN (R434) -/
def execHaRingBlUsedCcwEven (o : EvOp .ha) (s : State) : Host.Outcome State Fault Refusal :=
  countEvent evHaRingBlUsed 0x04 o s

/-- HA.RING_BL_USED.CCW_ODD (R434) -/
def execHaRingBlUsedCcwOdd (o : EvOp .ha) (s : State) : Host.Outcome State Fault Refusal :=
  countEvent evHaRingBlUsed 0x08 o s

/-- HA.RING_BL_USED.CCW (R434) -/
def execHaRingBlUsedCcw (o : EvOp .ha) (s : State) : Host.Outcome State Fault Refusal :=
  countEvent evHaRingBlUsed 0x0C o s

/-- HA.RPQ_CYCLES_NO_REG_CREDITS.CHN0 (R435) -/
def execHaRpqCyclesNoRegCreditsChn0 (o : EvOp .ha) (s : State) : Host.Outcome State Fault Refusal :=
  countEvent evHaRpqCyclesNoRegCredits 0x01 o s

/-- HA.RPQ_CYCLES_NO_REG_CREDITS.CHN1 (R435) -/
def execHaRpqCyclesNoRegCreditsChn1 (o : EvOp .ha) (s : State) : Host.Outcome State Fault Refusal :=
  countEvent evHaRpqCyclesNoRegCredits 0x02 o s

/-- HA.RPQ_CYCLES_NO_REG_CREDITS.CHN2 (R435) -/
def execHaRpqCyclesNoRegCreditsChn2 (o : EvOp .ha) (s : State) : Host.Outcome State Fault Refusal :=
  countEvent evHaRpqCyclesNoRegCredits 0x04 o s

/-- HA.RPQ_CYCLES_NO_REG_CREDITS.CHN3 (R435) -/
def execHaRpqCyclesNoRegCreditsChn3 (o : EvOp .ha) (s : State) : Host.Outcome State Fault Refusal :=
  countEvent evHaRpqCyclesNoRegCredits 0x08 o s

/-- HA.SBO0_CREDITS_ACQUIRED.AD (R436) -/
def execHaSbo0CreditsAcquiredAd (o : EvOp .ha) (s : State) : Host.Outcome State Fault Refusal :=
  countEvent evHaSbo0CreditsAcquired 0x01 o s

/-- HA.SBO0_CREDITS_ACQUIRED.BL (R436) -/
def execHaSbo0CreditsAcquiredBl (o : EvOp .ha) (s : State) : Host.Outcome State Fault Refusal :=
  countEvent evHaSbo0CreditsAcquired 0x02 o s

/-- HA.SBO0_CREDIT_OCCUPANCY.AD (R437) -/
def execHaSbo0CreditOccupancyAd (o : EvOp .ha) (s : State) : Host.Outcome State Fault Refusal :=
  countEvent evHaSbo0CreditOccupancy 0x01 o s

/-- HA.SBO0_CREDIT_OCCUPANCY.BL (R437) -/
def execHaSbo0CreditOccupancyBl (o : EvOp .ha) (s : State) : Host.Outcome State Fault Refusal :=
  countEvent evHaSbo0CreditOccupancy 0x02 o s

/-- HA.SBO1_CREDITS_ACQUIRED.AD (R438) -/
def execHaSbo1CreditsAcquiredAd (o : EvOp .ha) (s : State) : Host.Outcome State Fault Refusal :=
  countEvent evHaSbo1CreditsAcquired 0x01 o s

/-- HA.SBO1_CREDITS_ACQUIRED.BL (R438) -/
def execHaSbo1CreditsAcquiredBl (o : EvOp .ha) (s : State) : Host.Outcome State Fault Refusal :=
  countEvent evHaSbo1CreditsAcquired 0x02 o s

/-- HA.SBO1_CREDIT_OCCUPANCY.AD (R439) -/
def execHaSbo1CreditOccupancyAd (o : EvOp .ha) (s : State) : Host.Outcome State Fault Refusal :=
  countEvent evHaSbo1CreditOccupancy 0x01 o s

/-- HA.SBO1_CREDIT_OCCUPANCY.BL (R439) -/
def execHaSbo1CreditOccupancyBl (o : EvOp .ha) (s : State) : Host.Outcome State Fault Refusal :=
  countEvent evHaSbo1CreditOccupancy 0x02 o s

/-- HA.SNOOPS_RSP_AFTER_DATA.LOCAL (R440) -/
def execHaSnoopsRspAfterDataLocal (o : EvOp .ha) (s : State) : Host.Outcome State Fault Refusal :=
  countEvent evHaSnoopsRspAfterData 0x01 o s

/-- HA.SNOOPS_RSP_AFTER_DATA.REMOTE (R440) -/
def execHaSnoopsRspAfterDataRemote (o : EvOp .ha) (s : State) : Host.Outcome State Fault Refusal :=
  countEvent evHaSnoopsRspAfterData 0x02 o s

/-- HA.SNOOP_CYCLES_NE.LOCAL (R441) -/
def execHaSnoopCyclesNeLocal (o : EvOp .ha) (s : State) : Host.Outcome State Fault Refusal :=
  countEvent evHaSnoopCyclesNe 0x01 o s

/-- HA.SNOOP_CYCLES_NE.REMOTE (R441) -/
def execHaSnoopCyclesNeRemote (o : EvOp .ha) (s : State) : Host.Outcome State Fault Refusal :=
  countEvent evHaSnoopCyclesNe 0x02 o s

/-- HA.SNOOP_CYCLES_NE.ALL (R441) -/
def execHaSnoopCyclesNeAll (o : EvOp .ha) (s : State) : Host.Outcome State Fault Refusal :=
  countEvent evHaSnoopCyclesNe 0x03 o s

/-- HA.SNOOP_OCCUPANCY.LOCAL (R442) -/
def execHaSnoopOccupancyLocal (o : EvOp .ha) (s : State) : Host.Outcome State Fault Refusal :=
  countEvent evHaSnoopOccupancy 0x01 o s

/-- HA.SNOOP_OCCUPANCY.REMOTE (R442) -/
def execHaSnoopOccupancyRemote (o : EvOp .ha) (s : State) : Host.Outcome State Fault Refusal :=
  countEvent evHaSnoopOccupancy 0x02 o s

/-- HA.SNOOP_RESP.RSPI (R443) -/
def execHaSnoopRespRspi (o : EvOp .ha) (s : State) : Host.Outcome State Fault Refusal :=
  countEvent evHaSnoopResp 0x01 o s

/-- HA.SNOOP_RESP.RSPS (R443) -/
def execHaSnoopRespRsps (o : EvOp .ha) (s : State) : Host.Outcome State Fault Refusal :=
  countEvent evHaSnoopResp 0x02 o s

/-- HA.SNOOP_RESP.RSPIFWD (R443) -/
def execHaSnoopRespRspifwd (o : EvOp .ha) (s : State) : Host.Outcome State Fault Refusal :=
  countEvent evHaSnoopResp 0x04 o s

/-- HA.SNOOP_RESP.RSPSFWD (R443) -/
def execHaSnoopRespRspsfwd (o : EvOp .ha) (s : State) : Host.Outcome State Fault Refusal :=
  countEvent evHaSnoopResp 0x08 o s

/-- HA.SNOOP_RESP.RSP_WB (R443) -/
def execHaSnoopRespRspWb (o : EvOp .ha) (s : State) : Host.Outcome State Fault Refusal :=
  countEvent evHaSnoopResp 0x10 o s

/-- HA.SNOOP_RESP.RSP_FWD_WB (R443) -/
def execHaSnoopRespRspFwdWb (o : EvOp .ha) (s : State) : Host.Outcome State Fault Refusal :=
  countEvent evHaSnoopResp 0x20 o s

/-- HA.SNOOP_RESP.RSPCNFLCT (R443) -/
def execHaSnoopRespRspcnflct (o : EvOp .ha) (s : State) : Host.Outcome State Fault Refusal :=
  countEvent evHaSnoopResp 0x40 o s

/-- HA.SNP_RESP_RECV_LOCAL.RSPI (R444) -/
def execHaSnpRespRecvLocalRspi (o : EvOp .ha) (s : State) : Host.Outcome State Fault Refusal :=
  countEvent evHaSnpRespRecvLocal 0x01 o s

/-- HA.SNP_RESP_RECV_LOCAL.RSPS (R444) -/
def execHaSnpRespRecvLocalRsps (o : EvOp .ha) (s : State) : Host.Outcome State Fault Refusal :=
  countEvent evHaSnpRespRecvLocal 0x02 o s

/-- HA.SNP_RESP_RECV_LOCAL.RSPIFWD (R444) -/
def execHaSnpRespRecvLocalRspifwd (o : EvOp .ha) (s : State) : Host.Outcome State Fault Refusal :=
  countEvent evHaSnpRespRecvLocal 0x04 o s

/-- HA.SNP_RESP_RECV_LOCAL.RSPSFWD (R444) -/
def execHaSnpRespRecvLocalRspsfwd (o : EvOp .ha) (s : State) : Host.Outcome State Fault Refusal :=
  countEvent evHaSnpRespRecvLocal 0x08 o s

/-- HA.SNP_RESP_RECV_LOCAL.RSPxWB (R444) -/
def execHaSnpRespRecvLocalRSPxWB (o : EvOp .ha) (s : State) : Host.Outcome State Fault Refusal :=
  countEvent evHaSnpRespRecvLocal 0x10 o s

/-- HA.SNP_RESP_RECV_LOCAL.RSPxFWDxWB (R444) -/
def execHaSnpRespRecvLocalRSPxFWDxWB (o : EvOp .ha) (s : State) : Host.Outcome State Fault Refusal :=
  countEvent evHaSnpRespRecvLocal 0x20 o s

/-- HA.SNP_RESP_RECV_LOCAL.RSPCNFLCT (R444) -/
def execHaSnpRespRecvLocalRspcnflct (o : EvOp .ha) (s : State) : Host.Outcome State Fault Refusal :=
  countEvent evHaSnpRespRecvLocal 0x40 o s

/-- HA.SNP_RESP_RECV_LOCAL.OTHER (R444) -/
def execHaSnpRespRecvLocalOther (o : EvOp .ha) (s : State) : Host.Outcome State Fault Refusal :=
  countEvent evHaSnpRespRecvLocal 0x80 o s

/-- HA.STALL_NO_SBO_CREDIT.SBO0_AD (R445) -/
def execHaStallNoSboCreditSbo0Ad (o : EvOp .ha) (s : State) : Host.Outcome State Fault Refusal :=
  countEvent evHaStallNoSboCredit 0x01 o s

/-- HA.STALL_NO_SBO_CREDIT.SBO1_AD (R445) -/
def execHaStallNoSboCreditSbo1Ad (o : EvOp .ha) (s : State) : Host.Outcome State Fault Refusal :=
  countEvent evHaStallNoSboCredit 0x02 o s

/-- HA.STALL_NO_SBO_CREDIT.SBO0_BL (R445) -/
def execHaStallNoSboCreditSbo0Bl (o : EvOp .ha) (s : State) : Host.Outcome State Fault Refusal :=
  countEvent evHaStallNoSboCredit 0x04 o s

/-- HA.STALL_NO_SBO_CREDIT.SB01_BL (R445) -/
def execHaStallNoSboCreditSb01Bl (o : EvOp .ha) (s : State) : Host.Outcome State Fault Refusal :=
  countEvent evHaStallNoSboCredit 0x08 o s

/-- HA.TAD_REQUESTS_G0.REGION0 (R446) -/
def execHaTadRequestsG0Region0 (o : EvOp .ha) (s : State) : Host.Outcome State Fault Refusal :=
  countEvent evHaTadRequestsG0 0x01 o s

/-- HA.TAD_REQUESTS_G0.REGION1 (R446) -/
def execHaTadRequestsG0Region1 (o : EvOp .ha) (s : State) : Host.Outcome State Fault Refusal :=
  countEvent evHaTadRequestsG0 0x02 o s

/-- HA.TAD_REQUESTS_G0.REGION2 (R446) -/
def execHaTadRequestsG0Region2 (o : EvOp .ha) (s : State) : Host.Outcome State Fault Refusal :=
  countEvent evHaTadRequestsG0 0x04 o s

/-- HA.TAD_REQUESTS_G0.REGION3 (R446) -/
def execHaTadRequestsG0Region3 (o : EvOp .ha) (s : State) : Host.Outcome State Fault Refusal :=
  countEvent evHaTadRequestsG0 0x08 o s

/-- HA.TAD_REQUESTS_G0.REGION4 (R446) -/
def execHaTadRequestsG0Region4 (o : EvOp .ha) (s : State) : Host.Outcome State Fault Refusal :=
  countEvent evHaTadRequestsG0 0x10 o s

/-- HA.TAD_REQUESTS_G0.REGION5 (R446) -/
def execHaTadRequestsG0Region5 (o : EvOp .ha) (s : State) : Host.Outcome State Fault Refusal :=
  countEvent evHaTadRequestsG0 0x20 o s

/-- HA.TAD_REQUESTS_G0.REGION6 (R446) -/
def execHaTadRequestsG0Region6 (o : EvOp .ha) (s : State) : Host.Outcome State Fault Refusal :=
  countEvent evHaTadRequestsG0 0x40 o s

/-- HA.TAD_REQUESTS_G0.REGION7 (R446) -/
def execHaTadRequestsG0Region7 (o : EvOp .ha) (s : State) : Host.Outcome State Fault Refusal :=
  countEvent evHaTadRequestsG0 0x80 o s

/-- HA.TAD_REQUESTS_G1.REGION8 (R447) -/
def execHaTadRequestsG1Region8 (o : EvOp .ha) (s : State) : Host.Outcome State Fault Refusal :=
  countEvent evHaTadRequestsG1 0x01 o s

/-- HA.TAD_REQUESTS_G1.REGION9 (R447) -/
def execHaTadRequestsG1Region9 (o : EvOp .ha) (s : State) : Host.Outcome State Fault Refusal :=
  countEvent evHaTadRequestsG1 0x02 o s

/-- HA.TAD_REQUESTS_G1.REGION10 (R447) -/
def execHaTadRequestsG1Region10 (o : EvOp .ha) (s : State) : Host.Outcome State Fault Refusal :=
  countEvent evHaTadRequestsG1 0x04 o s

/-- HA.TAD_REQUESTS_G1.REGION11 (R447) -/
def execHaTadRequestsG1Region11 (o : EvOp .ha) (s : State) : Host.Outcome State Fault Refusal :=
  countEvent evHaTadRequestsG1 0x08 o s

/-- HA.TRACKER_CYCLES_FULL.GP (R448) -/
def execHaTrackerCyclesFullGp (o : EvOp .ha) (s : State) : Host.Outcome State Fault Refusal :=
  countEvent evHaTrackerCyclesFull 0x01 o s

/-- HA.TRACKER_CYCLES_FULL.ALL (R448) -/
def execHaTrackerCyclesFullAll (o : EvOp .ha) (s : State) : Host.Outcome State Fault Refusal :=
  countEvent evHaTrackerCyclesFull 0x02 o s

/-- HA.TRACKER_CYCLES_NE.LOCAL (R449) -/
def execHaTrackerCyclesNeLocal (o : EvOp .ha) (s : State) : Host.Outcome State Fault Refusal :=
  countEvent evHaTrackerCyclesNe 0x01 o s

/-- HA.TRACKER_CYCLES_NE.REMOTE (R449) -/
def execHaTrackerCyclesNeRemote (o : EvOp .ha) (s : State) : Host.Outcome State Fault Refusal :=
  countEvent evHaTrackerCyclesNe 0x02 o s

/-- HA.TRACKER_CYCLES_NE.ALL (R449) -/
def execHaTrackerCyclesNeAll (o : EvOp .ha) (s : State) : Host.Outcome State Fault Refusal :=
  countEvent evHaTrackerCyclesNe 0x03 o s

/-- HA.TRACKER_OCCUPANCY.READS_LOCAL (R450) -/
def execHaTrackerOccupancyReadsLocal (o : EvOp .ha) (s : State) : Host.Outcome State Fault Refusal :=
  countEvent evHaTrackerOccupancy 0x04 o s

/-- HA.TRACKER_OCCUPANCY.READS_REMOTE (R450) -/
def execHaTrackerOccupancyReadsRemote (o : EvOp .ha) (s : State) : Host.Outcome State Fault Refusal :=
  countEvent evHaTrackerOccupancy 0x08 o s

/-- HA.TRACKER_OCCUPANCY.WRITES_LOCAL (R450) -/
def execHaTrackerOccupancyWritesLocal (o : EvOp .ha) (s : State) : Host.Outcome State Fault Refusal :=
  countEvent evHaTrackerOccupancy 0x10 o s

/-- HA.TRACKER_OCCUPANCY.WRITES_REMOTE (R450) -/
def execHaTrackerOccupancyWritesRemote (o : EvOp .ha) (s : State) : Host.Outcome State Fault Refusal :=
  countEvent evHaTrackerOccupancy 0x20 o s

/-- HA.TRACKER_OCCUPANCY.INVITOE_LOCAL (R450) -/
def execHaTrackerOccupancyInvitoeLocal (o : EvOp .ha) (s : State) : Host.Outcome State Fault Refusal :=
  countEvent evHaTrackerOccupancy 0x40 o s

/-- HA.TRACKER_OCCUPANCY.INVITOE_REMOTE (R450) -/
def execHaTrackerOccupancyInvitoeRemote (o : EvOp .ha) (s : State) : Host.Outcome State Fault Refusal :=
  countEvent evHaTrackerOccupancy 0x80 o s

/-- HA.TRACKER_PENDING_OCCUPANCY.LOCAL (R451) -/
def execHaTrackerPendingOccupancyLocal (o : EvOp .ha) (s : State) : Host.Outcome State Fault Refusal :=
  countEvent evHaTrackerPendingOccupancy 0x01 o s

/-- HA.TRACKER_PENDING_OCCUPANCY.REMOTE (R451) -/
def execHaTrackerPendingOccupancyRemote (o : EvOp .ha) (s : State) : Host.Outcome State Fault Refusal :=
  countEvent evHaTrackerPendingOccupancy 0x02 o s

/-- HA.TxR_AD_CYCLES_FULL.SCHED0 (R452) -/
def execHaTxRAdCyclesFullSched0 (o : EvOp .ha) (s : State) : Host.Outcome State Fault Refusal :=
  countEvent evHaTxRAdCyclesFull 0x01 o s

/-- HA.TxR_AD_CYCLES_FULL.SCHED1 (R452) -/
def execHaTxRAdCyclesFullSched1 (o : EvOp .ha) (s : State) : Host.Outcome State Fault Refusal :=
  countEvent evHaTxRAdCyclesFull 0x02 o s

/-- HA.TxR_AD_CYCLES_FULL.ALL (R452) -/
def execHaTxRAdCyclesFullAll (o : EvOp .ha) (s : State) : Host.Outcome State Fault Refusal :=
  countEvent evHaTxRAdCyclesFull 0x03 o s

/-- HA.TxR_AK (R453) -/
def execHaTxRAk (o : EvOp .ha) (s : State) : Host.Outcome State Fault Refusal :=
  countEvent evHaTxRAk 0x00 o s

/-- HA.TxR_AK_CYCLES_FULL.SCHED0 (R454) -/
def execHaTxRAkCyclesFullSched0 (o : EvOp .ha) (s : State) : Host.Outcome State Fault Refusal :=
  countEvent evHaTxRAkCyclesFull 0x01 o s

/-- HA.TxR_AK_CYCLES_FULL.SCHED1 (R454) -/
def execHaTxRAkCyclesFullSched1 (o : EvOp .ha) (s : State) : Host.Outcome State Fault Refusal :=
  countEvent evHaTxRAkCyclesFull 0x02 o s

/-- HA.TxR_AK_CYCLES_FULL.ALL (R454) -/
def execHaTxRAkCyclesFullAll (o : EvOp .ha) (s : State) : Host.Outcome State Fault Refusal :=
  countEvent evHaTxRAkCyclesFull 0x03 o s

/-- HA.TxR_BL.DRS_CACHE (R455) -/
def execHaTxRBlDrsCache (o : EvOp .ha) (s : State) : Host.Outcome State Fault Refusal :=
  countEvent evHaTxRBl 0x01 o s

/-- HA.TxR_BL.DRS_CORE (R455) -/
def execHaTxRBlDrsCore (o : EvOp .ha) (s : State) : Host.Outcome State Fault Refusal :=
  countEvent evHaTxRBl 0x02 o s

/-- HA.TxR_BL.DRS_QPI (R455) -/
def execHaTxRBlDrsQpi (o : EvOp .ha) (s : State) : Host.Outcome State Fault Refusal :=
  countEvent evHaTxRBl 0x04 o s

/-- HA.TxR_BL_CYCLES_FULL.SCHED0 (R456) -/
def execHaTxRBlCyclesFullSched0 (o : EvOp .ha) (s : State) : Host.Outcome State Fault Refusal :=
  countEvent evHaTxRBlCyclesFull 0x01 o s

/-- HA.TxR_BL_CYCLES_FULL.SCHED1 (R456) -/
def execHaTxRBlCyclesFullSched1 (o : EvOp .ha) (s : State) : Host.Outcome State Fault Refusal :=
  countEvent evHaTxRBlCyclesFull 0x02 o s

/-- HA.TxR_BL_CYCLES_FULL.ALL (R456) -/
def execHaTxRBlCyclesFullAll (o : EvOp .ha) (s : State) : Host.Outcome State Fault Refusal :=
  countEvent evHaTxRBlCyclesFull 0x03 o s

/-- HA.TxR_BL_OCCUPANCY (R457) -/
def execHaTxRBlOccupancy (o : EvOp .ha) (s : State) : Host.Outcome State Fault Refusal :=
  countEvent evHaTxRBlOccupancy 0x00 o s

/-- HA.TxR_STARVED.AK (R458) -/
def execHaTxRStarvedAk (o : EvOp .ha) (s : State) : Host.Outcome State Fault Refusal :=
  countEvent evHaTxRStarved 0x01 o s

/-- HA.TxR_STARVED.BL (R458) -/
def execHaTxRStarvedBl (o : EvOp .ha) (s : State) : Host.Outcome State Fault Refusal :=
  countEvent evHaTxRStarved 0x02 o s

/-- HA.WPQ_CYCLES_NO_REG_CREDITS.CHN0 (R459) -/
def execHaWpqCyclesNoRegCreditsChn0 (o : EvOp .ha) (s : State) : Host.Outcome State Fault Refusal :=
  countEvent evHaWpqCyclesNoRegCredits 0x01 o s

/-- HA.WPQ_CYCLES_NO_REG_CREDITS.CHN1 (R459) -/
def execHaWpqCyclesNoRegCreditsChn1 (o : EvOp .ha) (s : State) : Host.Outcome State Fault Refusal :=
  countEvent evHaWpqCyclesNoRegCredits 0x02 o s

/-- HA.WPQ_CYCLES_NO_REG_CREDITS.CHN2 (R459) -/
def execHaWpqCyclesNoRegCreditsChn2 (o : EvOp .ha) (s : State) : Host.Outcome State Fault Refusal :=
  countEvent evHaWpqCyclesNoRegCredits 0x04 o s

/-- HA.WPQ_CYCLES_NO_REG_CREDITS.CHN3 (R459) -/
def execHaWpqCyclesNoRegCreditsChn3 (o : EvOp .ha) (s : State) : Host.Outcome State Fault Refusal :=
  countEvent evHaWpqCyclesNoRegCredits 0x08 o s

end Sys2Proof.Machine
end

