-- ==== Sys2Proof/Machine/IMC.lean ====
section
/-! DEFINITION. The IMC events: each row is one cycle of a counter whose control word selects it (40_global_ubox.md R215, R249). -/

namespace Sys2Proof.Machine

/-- IMC.ACT_COUNT.RD (R510) -/
def execImcActCountRd (o : EvOp .imc) (s : State) : Host.Outcome State Fault Refusal :=
  countEvent evImcActCount 0x01 o s

/-- IMC.ACT_COUNT.WR (R510) -/
def execImcActCountWr (o : EvOp .imc) (s : State) : Host.Outcome State Fault Refusal :=
  countEvent evImcActCount 0x02 o s

/-- IMC.ACT_COUNT.BYP (R510) -/
def execImcActCountByp (o : EvOp .imc) (s : State) : Host.Outcome State Fault Refusal :=
  countEvent evImcActCount 0x08 o s

/-- IMC.BYP_CMDS.ACT (R511) -/
def execImcBypCmdsAct (o : EvOp .imc) (s : State) : Host.Outcome State Fault Refusal :=
  countEvent evImcBypCmds 0x01 o s

/-- IMC.BYP_CMDS.CAS (R511) -/
def execImcBypCmdsCas (o : EvOp .imc) (s : State) : Host.Outcome State Fault Refusal :=
  countEvent evImcBypCmds 0x02 o s

/-- IMC.BYP_CMDS.PRE (R511) -/
def execImcBypCmdsPre (o : EvOp .imc) (s : State) : Host.Outcome State Fault Refusal :=
  countEvent evImcBypCmds 0x04 o s

/-- IMC.CAS_COUNT.RD_REG (R512) -/
def execImcCasCountRdReg (o : EvOp .imc) (s : State) : Host.Outcome State Fault Refusal :=
  countEvent evImcCasCount 0x01 o s

/-- IMC.CAS_COUNT.RD_UNDERFILL (R512) -/
def execImcCasCountRdUnderfill (o : EvOp .imc) (s : State) : Host.Outcome State Fault Refusal :=
  countEvent evImcCasCount 0x02 o s

/-- IMC.CAS_COUNT.RD (R512) -/
def execImcCasCountRd (o : EvOp .imc) (s : State) : Host.Outcome State Fault Refusal :=
  countEvent evImcCasCount 0x03 o s

/-- IMC.CAS_COUNT.WR_WMM (R512) -/
def execImcCasCountWrWmm (o : EvOp .imc) (s : State) : Host.Outcome State Fault Refusal :=
  countEvent evImcCasCount 0x04 o s

/-- IMC.CAS_COUNT.WR_RMM (R512) -/
def execImcCasCountWrRmm (o : EvOp .imc) (s : State) : Host.Outcome State Fault Refusal :=
  countEvent evImcCasCount 0x08 o s

/-- IMC.CAS_COUNT.WR (R512) -/
def execImcCasCountWr (o : EvOp .imc) (s : State) : Host.Outcome State Fault Refusal :=
  countEvent evImcCasCount 0x0C o s

/-- IMC.CAS_COUNT.ALL (R512) -/
def execImcCasCountAll (o : EvOp .imc) (s : State) : Host.Outcome State Fault Refusal :=
  countEvent evImcCasCount 0x0F o s

/-- IMC.CAS_COUNT.RD_WMM (R512) -/
def execImcCasCountRdWmm (o : EvOp .imc) (s : State) : Host.Outcome State Fault Refusal :=
  countEvent evImcCasCount 0x10 o s

/-- IMC.CAS_COUNT.RD_RMM (R512) -/
def execImcCasCountRdRmm (o : EvOp .imc) (s : State) : Host.Outcome State Fault Refusal :=
  countEvent evImcCasCount 0x20 o s

/-- IMC.DCLOCKTICKS (R513) -/
def execImcDclockticks (o : EvOp .imc) (s : State) : Host.Outcome State Fault Refusal :=
  countEvent evImcDclockticks 0x00 o s

/-- IMC.DRAM_PRE_ALL (R514) -/
def execImcDramPreAll (o : EvOp .imc) (s : State) : Host.Outcome State Fault Refusal :=
  countEvent evImcDramPreAll 0x00 o s

/-- IMC.DRAM_REFRESH.PANIC (R515) -/
def execImcDramRefreshPanic (o : EvOp .imc) (s : State) : Host.Outcome State Fault Refusal :=
  countEvent evImcDramRefresh 0x02 o s

/-- IMC.DRAM_REFRESH.HIGH (R515) -/
def execImcDramRefreshHigh (o : EvOp .imc) (s : State) : Host.Outcome State Fault Refusal :=
  countEvent evImcDramRefresh 0x04 o s

/-- IMC.ECC_CORRECTABLE_ERRORS (R516) -/
def execImcEccCorrectableErrors (o : EvOp .imc) (s : State) : Host.Outcome State Fault Refusal :=
  countEvent evImcEccCorrectableErrors 0x00 o s

/-- IMC.MAJOR_MODES.READ (R517) -/
def execImcMajorModesRead (o : EvOp .imc) (s : State) : Host.Outcome State Fault Refusal :=
  countEvent evImcMajorModes 0x01 o s

/-- IMC.MAJOR_MODES.WRITE (R517) -/
def execImcMajorModesWrite (o : EvOp .imc) (s : State) : Host.Outcome State Fault Refusal :=
  countEvent evImcMajorModes 0x02 o s

/-- IMC.MAJOR_MODES.PARTIAL (R517) -/
def execImcMajorModesPartial (o : EvOp .imc) (s : State) : Host.Outcome State Fault Refusal :=
  countEvent evImcMajorModes 0x04 o s

/-- IMC.MAJOR_MODES.ISOCH (R517) -/
def execImcMajorModesIsoch (o : EvOp .imc) (s : State) : Host.Outcome State Fault Refusal :=
  countEvent evImcMajorModes 0x08 o s

/-- IMC.POWER_CHANNEL_DLLOFF (R518) -/
def execImcPowerChannelDlloff (o : EvOp .imc) (s : State) : Host.Outcome State Fault Refusal :=
  countEvent evImcPowerChannelDlloff 0x00 o s

/-- IMC.POWER_CHANNEL_PPD (R519) -/
def execImcPowerChannelPpd (o : EvOp .imc) (s : State) : Host.Outcome State Fault Refusal :=
  countEvent evImcPowerChannelPpd 0x00 o s

/-- IMC.POWER_CKE_CYCLES.RANK0 (R520) -/
def execImcPowerCkeCyclesRank0 (o : EvOp .imc) (s : State) : Host.Outcome State Fault Refusal :=
  countEvent evImcPowerCkeCycles 0x01 o s

/-- IMC.POWER_CKE_CYCLES.RANK1 (R520) -/
def execImcPowerCkeCyclesRank1 (o : EvOp .imc) (s : State) : Host.Outcome State Fault Refusal :=
  countEvent evImcPowerCkeCycles 0x02 o s

/-- IMC.POWER_CKE_CYCLES.RANK2 (R520) -/
def execImcPowerCkeCyclesRank2 (o : EvOp .imc) (s : State) : Host.Outcome State Fault Refusal :=
  countEvent evImcPowerCkeCycles 0x04 o s

/-- IMC.POWER_CKE_CYCLES.RANK3 (R520) -/
def execImcPowerCkeCyclesRank3 (o : EvOp .imc) (s : State) : Host.Outcome State Fault Refusal :=
  countEvent evImcPowerCkeCycles 0x08 o s

/-- IMC.POWER_CKE_CYCLES.RANK4 (R520) -/
def execImcPowerCkeCyclesRank4 (o : EvOp .imc) (s : State) : Host.Outcome State Fault Refusal :=
  countEvent evImcPowerCkeCycles 0x10 o s

/-- IMC.POWER_CKE_CYCLES.RANK5 (R520) -/
def execImcPowerCkeCyclesRank5 (o : EvOp .imc) (s : State) : Host.Outcome State Fault Refusal :=
  countEvent evImcPowerCkeCycles 0x20 o s

/-- IMC.POWER_CKE_CYCLES.RANK6 (R520) -/
def execImcPowerCkeCyclesRank6 (o : EvOp .imc) (s : State) : Host.Outcome State Fault Refusal :=
  countEvent evImcPowerCkeCycles 0x40 o s

/-- IMC.POWER_CKE_CYCLES.RANK7 (R520) -/
def execImcPowerCkeCyclesRank7 (o : EvOp .imc) (s : State) : Host.Outcome State Fault Refusal :=
  countEvent evImcPowerCkeCycles 0x80 o s

/-- IMC.POWER_CRITICAL_THROTTLE_CYCLES (R521) -/
def execImcPowerCriticalThrottleCycles (o : EvOp .imc) (s : State) : Host.Outcome State Fault Refusal :=
  countEvent evImcPowerCriticalThrottleCycles 0x00 o s

/-- IMC.POWER_PCU_THROTTLING (R522) -/
def execImcPowerPcuThrottling (o : EvOp .imc) (s : State) : Host.Outcome State Fault Refusal :=
  countEvent evImcPowerPcuThrottling 0x00 o s

/-- IMC.POWER_SELF_REFRESH (R523) -/
def execImcPowerSelfRefresh (o : EvOp .imc) (s : State) : Host.Outcome State Fault Refusal :=
  countEvent evImcPowerSelfRefresh 0x00 o s

/-- IMC.POWER_THROTTLE_CYCLES.RANK0 (R524) -/
def execImcPowerThrottleCyclesRank0 (o : EvOp .imc) (s : State) : Host.Outcome State Fault Refusal :=
  countEvent evImcPowerThrottleCycles 0x01 o s

/-- IMC.POWER_THROTTLE_CYCLES.RANK1 (R524) -/
def execImcPowerThrottleCyclesRank1 (o : EvOp .imc) (s : State) : Host.Outcome State Fault Refusal :=
  countEvent evImcPowerThrottleCycles 0x02 o s

/-- IMC.POWER_THROTTLE_CYCLES.RANK2 (R524) -/
def execImcPowerThrottleCyclesRank2 (o : EvOp .imc) (s : State) : Host.Outcome State Fault Refusal :=
  countEvent evImcPowerThrottleCycles 0x04 o s

/-- IMC.POWER_THROTTLE_CYCLES.RANK3 (R524) -/
def execImcPowerThrottleCyclesRank3 (o : EvOp .imc) (s : State) : Host.Outcome State Fault Refusal :=
  countEvent evImcPowerThrottleCycles 0x08 o s

/-- IMC.POWER_THROTTLE_CYCLES.RANK4 (R524) -/
def execImcPowerThrottleCyclesRank4 (o : EvOp .imc) (s : State) : Host.Outcome State Fault Refusal :=
  countEvent evImcPowerThrottleCycles 0x10 o s

/-- IMC.POWER_THROTTLE_CYCLES.RANK5 (R524) -/
def execImcPowerThrottleCyclesRank5 (o : EvOp .imc) (s : State) : Host.Outcome State Fault Refusal :=
  countEvent evImcPowerThrottleCycles 0x20 o s

/-- IMC.POWER_THROTTLE_CYCLES.RANK6 (R524) -/
def execImcPowerThrottleCyclesRank6 (o : EvOp .imc) (s : State) : Host.Outcome State Fault Refusal :=
  countEvent evImcPowerThrottleCycles 0x40 o s

/-- IMC.POWER_THROTTLE_CYCLES.RANK7 (R524) -/
def execImcPowerThrottleCyclesRank7 (o : EvOp .imc) (s : State) : Host.Outcome State Fault Refusal :=
  countEvent evImcPowerThrottleCycles 0x80 o s

/-- IMC.PREEMPTION.RD_PREEMPT_RD (R525) -/
def execImcPreemptionRdPreemptRd (o : EvOp .imc) (s : State) : Host.Outcome State Fault Refusal :=
  countEvent evImcPreemption 0x01 o s

/-- IMC.PREEMPTION.RD_PREEMPT_WR (R525) -/
def execImcPreemptionRdPreemptWr (o : EvOp .imc) (s : State) : Host.Outcome State Fault Refusal :=
  countEvent evImcPreemption 0x02 o s

/-- IMC.PRE_COUNT.PAGE_MISS (R526) -/
def execImcPreCountPageMiss (o : EvOp .imc) (s : State) : Host.Outcome State Fault Refusal :=
  countEvent evImcPreCount 0x01 o s

/-- IMC.PRE_COUNT.PAGE_CLOSE (R526) -/
def execImcPreCountPageClose (o : EvOp .imc) (s : State) : Host.Outcome State Fault Refusal :=
  countEvent evImcPreCount 0x02 o s

/-- IMC.PRE_COUNT.RD (R526) -/
def execImcPreCountRd (o : EvOp .imc) (s : State) : Host.Outcome State Fault Refusal :=
  countEvent evImcPreCount 0x04 o s

/-- IMC.PRE_COUNT.WR (R526) -/
def execImcPreCountWr (o : EvOp .imc) (s : State) : Host.Outcome State Fault Refusal :=
  countEvent evImcPreCount 0x08 o s

/-- IMC.PRE_COUNT.BYP (R526) -/
def execImcPreCountByp (o : EvOp .imc) (s : State) : Host.Outcome State Fault Refusal :=
  countEvent evImcPreCount 0x10 o s

/-- IMC.RD_CAS_PRIO.LOW (R527) -/
def execImcRdCasPrioLow (o : EvOp .imc) (s : State) : Host.Outcome State Fault Refusal :=
  countEvent evImcRdCasPrio 0x01 o s

/-- IMC.RD_CAS_PRIO.MED (R527) -/
def execImcRdCasPrioMed (o : EvOp .imc) (s : State) : Host.Outcome State Fault Refusal :=
  countEvent evImcRdCasPrio 0x02 o s

/-- IMC.RD_CAS_PRIO.HIGH (R527) -/
def execImcRdCasPrioHigh (o : EvOp .imc) (s : State) : Host.Outcome State Fault Refusal :=
  countEvent evImcRdCasPrio 0x04 o s

/-- IMC.RD_CAS_PRIO.PANIC (R527) -/
def execImcRdCasPrioPanic (o : EvOp .imc) (s : State) : Host.Outcome State Fault Refusal :=
  countEvent evImcRdCasPrio 0x08 o s

/-- IMC.RD_CAS_RANK0.BANK0 (R528) -/
def execImcRdCasRank0Bank0 (o : EvOp .imc) (s : State) : Host.Outcome State Fault Refusal :=
  countEvent evImcRdCasRank0 0x00 o s

/-- IMC.RD_CAS_RANK0.BANK1 (R528) -/
def execImcRdCasRank0Bank1 (o : EvOp .imc) (s : State) : Host.Outcome State Fault Refusal :=
  countEvent evImcRdCasRank0 0x01 o s

/-- IMC.RD_CAS_RANK0.BANK2 (R528) -/
def execImcRdCasRank0Bank2 (o : EvOp .imc) (s : State) : Host.Outcome State Fault Refusal :=
  countEvent evImcRdCasRank0 0x02 o s

/-- IMC.RD_CAS_RANK0.BANK3 (R528) -/
def execImcRdCasRank0Bank3 (o : EvOp .imc) (s : State) : Host.Outcome State Fault Refusal :=
  countEvent evImcRdCasRank0 0x03 o s

/-- IMC.RD_CAS_RANK0.BANK4 (R528) -/
def execImcRdCasRank0Bank4 (o : EvOp .imc) (s : State) : Host.Outcome State Fault Refusal :=
  countEvent evImcRdCasRank0 0x04 o s

/-- IMC.RD_CAS_RANK0.BANK5 (R528) -/
def execImcRdCasRank0Bank5 (o : EvOp .imc) (s : State) : Host.Outcome State Fault Refusal :=
  countEvent evImcRdCasRank0 0x05 o s

/-- IMC.RD_CAS_RANK0.BANK6 (R528) -/
def execImcRdCasRank0Bank6 (o : EvOp .imc) (s : State) : Host.Outcome State Fault Refusal :=
  countEvent evImcRdCasRank0 0x06 o s

/-- IMC.RD_CAS_RANK0.BANK7 (R528) -/
def execImcRdCasRank0Bank7 (o : EvOp .imc) (s : State) : Host.Outcome State Fault Refusal :=
  countEvent evImcRdCasRank0 0x07 o s

/-- IMC.RD_CAS_RANK0.BANK8 (R528) -/
def execImcRdCasRank0Bank8 (o : EvOp .imc) (s : State) : Host.Outcome State Fault Refusal :=
  countEvent evImcRdCasRank0 0x08 o s

/-- IMC.RD_CAS_RANK0.BANK9 (R528) -/
def execImcRdCasRank0Bank9 (o : EvOp .imc) (s : State) : Host.Outcome State Fault Refusal :=
  countEvent evImcRdCasRank0 0x09 o s

/-- IMC.RD_CAS_RANK0.BANK10 (R528) -/
def execImcRdCasRank0Bank10 (o : EvOp .imc) (s : State) : Host.Outcome State Fault Refusal :=
  countEvent evImcRdCasRank0 0x0A o s

/-- IMC.RD_CAS_RANK0.BANK11 (R528) -/
def execImcRdCasRank0Bank11 (o : EvOp .imc) (s : State) : Host.Outcome State Fault Refusal :=
  countEvent evImcRdCasRank0 0x0B o s

/-- IMC.RD_CAS_RANK0.BANK12 (R528) -/
def execImcRdCasRank0Bank12 (o : EvOp .imc) (s : State) : Host.Outcome State Fault Refusal :=
  countEvent evImcRdCasRank0 0x0C o s

/-- IMC.RD_CAS_RANK0.BANK13 (R528) -/
def execImcRdCasRank0Bank13 (o : EvOp .imc) (s : State) : Host.Outcome State Fault Refusal :=
  countEvent evImcRdCasRank0 0x0D o s

/-- IMC.RD_CAS_RANK0.BANK14 (R528) -/
def execImcRdCasRank0Bank14 (o : EvOp .imc) (s : State) : Host.Outcome State Fault Refusal :=
  countEvent evImcRdCasRank0 0x0E o s

/-- IMC.RD_CAS_RANK0.BANK15 (R528) -/
def execImcRdCasRank0Bank15 (o : EvOp .imc) (s : State) : Host.Outcome State Fault Refusal :=
  countEvent evImcRdCasRank0 0x0F o s

/-- IMC.RD_CAS_RANK0.ALLBANKS (R528) -/
def execImcRdCasRank0Allbanks (o : EvOp .imc) (s : State) : Host.Outcome State Fault Refusal :=
  countEvent evImcRdCasRank0 0x10 o s

/-- IMC.RD_CAS_RANK0.BANKG0 (R528) -/
def execImcRdCasRank0Bankg0 (o : EvOp .imc) (s : State) : Host.Outcome State Fault Refusal :=
  countEvent evImcRdCasRank0 0x11 o s

/-- IMC.RD_CAS_RANK0.BANKG1 (R528) -/
def execImcRdCasRank0Bankg1 (o : EvOp .imc) (s : State) : Host.Outcome State Fault Refusal :=
  countEvent evImcRdCasRank0 0x12 o s

/-- IMC.RD_CAS_RANK0.BANKG2 (R528) -/
def execImcRdCasRank0Bankg2 (o : EvOp .imc) (s : State) : Host.Outcome State Fault Refusal :=
  countEvent evImcRdCasRank0 0x13 o s

/-- IMC.RD_CAS_RANK0.BANKG3 (R528) -/
def execImcRdCasRank0Bankg3 (o : EvOp .imc) (s : State) : Host.Outcome State Fault Refusal :=
  countEvent evImcRdCasRank0 0x14 o s

/-- IMC.RD_CAS_RANK1.BANK0 (R529) -/
def execImcRdCasRank1Bank0 (o : EvOp .imc) (s : State) : Host.Outcome State Fault Refusal :=
  countEvent evImcRdCasRank1 0x00 o s

/-- IMC.RD_CAS_RANK1.BANK1 (R529) -/
def execImcRdCasRank1Bank1 (o : EvOp .imc) (s : State) : Host.Outcome State Fault Refusal :=
  countEvent evImcRdCasRank1 0x01 o s

/-- IMC.RD_CAS_RANK1.BANK2 (R529) -/
def execImcRdCasRank1Bank2 (o : EvOp .imc) (s : State) : Host.Outcome State Fault Refusal :=
  countEvent evImcRdCasRank1 0x02 o s

/-- IMC.RD_CAS_RANK1.BANK3 (R529) -/
def execImcRdCasRank1Bank3 (o : EvOp .imc) (s : State) : Host.Outcome State Fault Refusal :=
  countEvent evImcRdCasRank1 0x03 o s

/-- IMC.RD_CAS_RANK1.BANK4 (R529) -/
def execImcRdCasRank1Bank4 (o : EvOp .imc) (s : State) : Host.Outcome State Fault Refusal :=
  countEvent evImcRdCasRank1 0x04 o s

/-- IMC.RD_CAS_RANK1.BANK5 (R529) -/
def execImcRdCasRank1Bank5 (o : EvOp .imc) (s : State) : Host.Outcome State Fault Refusal :=
  countEvent evImcRdCasRank1 0x05 o s

/-- IMC.RD_CAS_RANK1.BANK6 (R529) -/
def execImcRdCasRank1Bank6 (o : EvOp .imc) (s : State) : Host.Outcome State Fault Refusal :=
  countEvent evImcRdCasRank1 0x06 o s

/-- IMC.RD_CAS_RANK1.BANK7 (R529) -/
def execImcRdCasRank1Bank7 (o : EvOp .imc) (s : State) : Host.Outcome State Fault Refusal :=
  countEvent evImcRdCasRank1 0x07 o s

/-- IMC.RD_CAS_RANK1.BANK8 (R529) -/
def execImcRdCasRank1Bank8 (o : EvOp .imc) (s : State) : Host.Outcome State Fault Refusal :=
  countEvent evImcRdCasRank1 0x08 o s

/-- IMC.RD_CAS_RANK1.BANK9 (R529) -/
def execImcRdCasRank1Bank9 (o : EvOp .imc) (s : State) : Host.Outcome State Fault Refusal :=
  countEvent evImcRdCasRank1 0x09 o s

/-- IMC.RD_CAS_RANK1.BANK10 (R529) -/
def execImcRdCasRank1Bank10 (o : EvOp .imc) (s : State) : Host.Outcome State Fault Refusal :=
  countEvent evImcRdCasRank1 0x0A o s

/-- IMC.RD_CAS_RANK1.BANK11 (R529) -/
def execImcRdCasRank1Bank11 (o : EvOp .imc) (s : State) : Host.Outcome State Fault Refusal :=
  countEvent evImcRdCasRank1 0x0B o s

/-- IMC.RD_CAS_RANK1.BANK12 (R529) -/
def execImcRdCasRank1Bank12 (o : EvOp .imc) (s : State) : Host.Outcome State Fault Refusal :=
  countEvent evImcRdCasRank1 0x0C o s

/-- IMC.RD_CAS_RANK1.BANK13 (R529) -/
def execImcRdCasRank1Bank13 (o : EvOp .imc) (s : State) : Host.Outcome State Fault Refusal :=
  countEvent evImcRdCasRank1 0x0D o s

/-- IMC.RD_CAS_RANK1.BANK14 (R529) -/
def execImcRdCasRank1Bank14 (o : EvOp .imc) (s : State) : Host.Outcome State Fault Refusal :=
  countEvent evImcRdCasRank1 0x0E o s

/-- IMC.RD_CAS_RANK1.BANK15 (R529) -/
def execImcRdCasRank1Bank15 (o : EvOp .imc) (s : State) : Host.Outcome State Fault Refusal :=
  countEvent evImcRdCasRank1 0x0F o s

/-- IMC.RD_CAS_RANK1.ALLBANKS (R529) -/
def execImcRdCasRank1Allbanks (o : EvOp .imc) (s : State) : Host.Outcome State Fault Refusal :=
  countEvent evImcRdCasRank1 0x10 o s

/-- IMC.RD_CAS_RANK1.BANKG0 (R529) -/
def execImcRdCasRank1Bankg0 (o : EvOp .imc) (s : State) : Host.Outcome State Fault Refusal :=
  countEvent evImcRdCasRank1 0x11 o s

/-- IMC.RD_CAS_RANK1.BANKG1 (R529) -/
def execImcRdCasRank1Bankg1 (o : EvOp .imc) (s : State) : Host.Outcome State Fault Refusal :=
  countEvent evImcRdCasRank1 0x12 o s

/-- IMC.RD_CAS_RANK1.BANKG2 (R529) -/
def execImcRdCasRank1Bankg2 (o : EvOp .imc) (s : State) : Host.Outcome State Fault Refusal :=
  countEvent evImcRdCasRank1 0x13 o s

/-- IMC.RD_CAS_RANK1.BANKG3 (R529) -/
def execImcRdCasRank1Bankg3 (o : EvOp .imc) (s : State) : Host.Outcome State Fault Refusal :=
  countEvent evImcRdCasRank1 0x14 o s

/-- IMC.RD_CAS_RANK2.BANK0 (R530) -/
def execImcRdCasRank2Bank0 (o : EvOp .imc) (s : State) : Host.Outcome State Fault Refusal :=
  countEvent evImcRdCasRank2 0x00 o s

/-- IMC.RD_CAS_RANK4.BANK0 (R531) -/
def execImcRdCasRank4Bank0 (o : EvOp .imc) (s : State) : Host.Outcome State Fault Refusal :=
  countEvent evImcRdCasRank4 0x00 o s

/-- IMC.RD_CAS_RANK4.BANK1 (R531) -/
def execImcRdCasRank4Bank1 (o : EvOp .imc) (s : State) : Host.Outcome State Fault Refusal :=
  countEvent evImcRdCasRank4 0x01 o s

/-- IMC.RD_CAS_RANK4.BANK2 (R531) -/
def execImcRdCasRank4Bank2 (o : EvOp .imc) (s : State) : Host.Outcome State Fault Refusal :=
  countEvent evImcRdCasRank4 0x02 o s

/-- IMC.RD_CAS_RANK4.BANK3 (R531) -/
def execImcRdCasRank4Bank3 (o : EvOp .imc) (s : State) : Host.Outcome State Fault Refusal :=
  countEvent evImcRdCasRank4 0x03 o s

/-- IMC.RD_CAS_RANK4.BANK4 (R531) -/
def execImcRdCasRank4Bank4 (o : EvOp .imc) (s : State) : Host.Outcome State Fault Refusal :=
  countEvent evImcRdCasRank4 0x04 o s

/-- IMC.RD_CAS_RANK4.BANK5 (R531) -/
def execImcRdCasRank4Bank5 (o : EvOp .imc) (s : State) : Host.Outcome State Fault Refusal :=
  countEvent evImcRdCasRank4 0x05 o s

/-- IMC.RD_CAS_RANK4.BANK6 (R531) -/
def execImcRdCasRank4Bank6 (o : EvOp .imc) (s : State) : Host.Outcome State Fault Refusal :=
  countEvent evImcRdCasRank4 0x06 o s

/-- IMC.RD_CAS_RANK4.BANK7 (R531) -/
def execImcRdCasRank4Bank7 (o : EvOp .imc) (s : State) : Host.Outcome State Fault Refusal :=
  countEvent evImcRdCasRank4 0x07 o s

/-- IMC.RD_CAS_RANK4.BANK8 (R531) -/
def execImcRdCasRank4Bank8 (o : EvOp .imc) (s : State) : Host.Outcome State Fault Refusal :=
  countEvent evImcRdCasRank4 0x08 o s

/-- IMC.RD_CAS_RANK4.BANK9 (R531) -/
def execImcRdCasRank4Bank9 (o : EvOp .imc) (s : State) : Host.Outcome State Fault Refusal :=
  countEvent evImcRdCasRank4 0x09 o s

/-- IMC.RD_CAS_RANK4.BANK10 (R531) -/
def execImcRdCasRank4Bank10 (o : EvOp .imc) (s : State) : Host.Outcome State Fault Refusal :=
  countEvent evImcRdCasRank4 0x0A o s

/-- IMC.RD_CAS_RANK4.BANK11 (R531) -/
def execImcRdCasRank4Bank11 (o : EvOp .imc) (s : State) : Host.Outcome State Fault Refusal :=
  countEvent evImcRdCasRank4 0x0B o s

/-- IMC.RD_CAS_RANK4.BANK12 (R531) -/
def execImcRdCasRank4Bank12 (o : EvOp .imc) (s : State) : Host.Outcome State Fault Refusal :=
  countEvent evImcRdCasRank4 0x0C o s

/-- IMC.RD_CAS_RANK4.BANK13 (R531) -/
def execImcRdCasRank4Bank13 (o : EvOp .imc) (s : State) : Host.Outcome State Fault Refusal :=
  countEvent evImcRdCasRank4 0x0D o s

/-- IMC.RD_CAS_RANK4.BANK14 (R531) -/
def execImcRdCasRank4Bank14 (o : EvOp .imc) (s : State) : Host.Outcome State Fault Refusal :=
  countEvent evImcRdCasRank4 0x0E o s

/-- IMC.RD_CAS_RANK4.BANK15 (R531) -/
def execImcRdCasRank4Bank15 (o : EvOp .imc) (s : State) : Host.Outcome State Fault Refusal :=
  countEvent evImcRdCasRank4 0x0F o s

/-- IMC.RD_CAS_RANK4.ALLBANKS (R531) -/
def execImcRdCasRank4Allbanks (o : EvOp .imc) (s : State) : Host.Outcome State Fault Refusal :=
  countEvent evImcRdCasRank4 0x10 o s

/-- IMC.RD_CAS_RANK4.BANKG0 (R531) -/
def execImcRdCasRank4Bankg0 (o : EvOp .imc) (s : State) : Host.Outcome State Fault Refusal :=
  countEvent evImcRdCasRank4 0x11 o s

/-- IMC.RD_CAS_RANK4.BANKG1 (R531) -/
def execImcRdCasRank4Bankg1 (o : EvOp .imc) (s : State) : Host.Outcome State Fault Refusal :=
  countEvent evImcRdCasRank4 0x12 o s

/-- IMC.RD_CAS_RANK4.BANKG2 (R531) -/
def execImcRdCasRank4Bankg2 (o : EvOp .imc) (s : State) : Host.Outcome State Fault Refusal :=
  countEvent evImcRdCasRank4 0x13 o s

/-- IMC.RD_CAS_RANK4.BANKG3 (R531) -/
def execImcRdCasRank4Bankg3 (o : EvOp .imc) (s : State) : Host.Outcome State Fault Refusal :=
  countEvent evImcRdCasRank4 0x14 o s

/-- IMC.RD_CAS_RANK5.BANK0 (R532) -/
def execImcRdCasRank5Bank0 (o : EvOp .imc) (s : State) : Host.Outcome State Fault Refusal :=
  countEvent evImcRdCasRank5 0x00 o s

/-- IMC.RD_CAS_RANK5.BANK1 (R532) -/
def execImcRdCasRank5Bank1 (o : EvOp .imc) (s : State) : Host.Outcome State Fault Refusal :=
  countEvent evImcRdCasRank5 0x01 o s

/-- IMC.RD_CAS_RANK5.BANK2 (R532) -/
def execImcRdCasRank5Bank2 (o : EvOp .imc) (s : State) : Host.Outcome State Fault Refusal :=
  countEvent evImcRdCasRank5 0x02 o s

/-- IMC.RD_CAS_RANK5.BANK3 (R532) -/
def execImcRdCasRank5Bank3 (o : EvOp .imc) (s : State) : Host.Outcome State Fault Refusal :=
  countEvent evImcRdCasRank5 0x03 o s

/-- IMC.RD_CAS_RANK5.BANK4 (R532) -/
def execImcRdCasRank5Bank4 (o : EvOp .imc) (s : State) : Host.Outcome State Fault Refusal :=
  countEvent evImcRdCasRank5 0x04 o s

/-- IMC.RD_CAS_RANK5.BANK5 (R532) -/
def execImcRdCasRank5Bank5 (o : EvOp .imc) (s : State) : Host.Outcome State Fault Refusal :=
  countEvent evImcRdCasRank5 0x05 o s

/-- IMC.RD_CAS_RANK5.BANK6 (R532) -/
def execImcRdCasRank5Bank6 (o : EvOp .imc) (s : State) : Host.Outcome State Fault Refusal :=
  countEvent evImcRdCasRank5 0x06 o s

/-- IMC.RD_CAS_RANK5.BANK7 (R532) -/
def execImcRdCasRank5Bank7 (o : EvOp .imc) (s : State) : Host.Outcome State Fault Refusal :=
  countEvent evImcRdCasRank5 0x07 o s

/-- IMC.RD_CAS_RANK5.BANK8 (R532) -/
def execImcRdCasRank5Bank8 (o : EvOp .imc) (s : State) : Host.Outcome State Fault Refusal :=
  countEvent evImcRdCasRank5 0x08 o s

/-- IMC.RD_CAS_RANK5.BANK9 (R532) -/
def execImcRdCasRank5Bank9 (o : EvOp .imc) (s : State) : Host.Outcome State Fault Refusal :=
  countEvent evImcRdCasRank5 0x09 o s

/-- IMC.RD_CAS_RANK5.BANK10 (R532) -/
def execImcRdCasRank5Bank10 (o : EvOp .imc) (s : State) : Host.Outcome State Fault Refusal :=
  countEvent evImcRdCasRank5 0x0A o s

/-- IMC.RD_CAS_RANK5.BANK11 (R532) -/
def execImcRdCasRank5Bank11 (o : EvOp .imc) (s : State) : Host.Outcome State Fault Refusal :=
  countEvent evImcRdCasRank5 0x0B o s

/-- IMC.RD_CAS_RANK5.BANK12 (R532) -/
def execImcRdCasRank5Bank12 (o : EvOp .imc) (s : State) : Host.Outcome State Fault Refusal :=
  countEvent evImcRdCasRank5 0x0C o s

/-- IMC.RD_CAS_RANK5.BANK13 (R532) -/
def execImcRdCasRank5Bank13 (o : EvOp .imc) (s : State) : Host.Outcome State Fault Refusal :=
  countEvent evImcRdCasRank5 0x0D o s

/-- IMC.RD_CAS_RANK5.BANK14 (R532) -/
def execImcRdCasRank5Bank14 (o : EvOp .imc) (s : State) : Host.Outcome State Fault Refusal :=
  countEvent evImcRdCasRank5 0x0E o s

/-- IMC.RD_CAS_RANK5.BANK15 (R532) -/
def execImcRdCasRank5Bank15 (o : EvOp .imc) (s : State) : Host.Outcome State Fault Refusal :=
  countEvent evImcRdCasRank5 0x0F o s

/-- IMC.RD_CAS_RANK5.ALLBANKS (R532) -/
def execImcRdCasRank5Allbanks (o : EvOp .imc) (s : State) : Host.Outcome State Fault Refusal :=
  countEvent evImcRdCasRank5 0x10 o s

/-- IMC.RD_CAS_RANK5.BANKG0 (R532) -/
def execImcRdCasRank5Bankg0 (o : EvOp .imc) (s : State) : Host.Outcome State Fault Refusal :=
  countEvent evImcRdCasRank5 0x11 o s

/-- IMC.RD_CAS_RANK5.BANKG1 (R532) -/
def execImcRdCasRank5Bankg1 (o : EvOp .imc) (s : State) : Host.Outcome State Fault Refusal :=
  countEvent evImcRdCasRank5 0x12 o s

/-- IMC.RD_CAS_RANK5.BANKG2 (R532) -/
def execImcRdCasRank5Bankg2 (o : EvOp .imc) (s : State) : Host.Outcome State Fault Refusal :=
  countEvent evImcRdCasRank5 0x13 o s

/-- IMC.RD_CAS_RANK5.BANKG3 (R532) -/
def execImcRdCasRank5Bankg3 (o : EvOp .imc) (s : State) : Host.Outcome State Fault Refusal :=
  countEvent evImcRdCasRank5 0x14 o s

/-- IMC.RD_CAS_RANK6.BANK0 (R533) -/
def execImcRdCasRank6Bank0 (o : EvOp .imc) (s : State) : Host.Outcome State Fault Refusal :=
  countEvent evImcRdCasRank6 0x00 o s

/-- IMC.RD_CAS_RANK6.BANK1 (R533) -/
def execImcRdCasRank6Bank1 (o : EvOp .imc) (s : State) : Host.Outcome State Fault Refusal :=
  countEvent evImcRdCasRank6 0x01 o s

/-- IMC.RD_CAS_RANK6.BANK2 (R533) -/
def execImcRdCasRank6Bank2 (o : EvOp .imc) (s : State) : Host.Outcome State Fault Refusal :=
  countEvent evImcRdCasRank6 0x02 o s

/-- IMC.RD_CAS_RANK6.BANK3 (R533) -/
def execImcRdCasRank6Bank3 (o : EvOp .imc) (s : State) : Host.Outcome State Fault Refusal :=
  countEvent evImcRdCasRank6 0x03 o s

/-- IMC.RD_CAS_RANK6.BANK4 (R533) -/
def execImcRdCasRank6Bank4 (o : EvOp .imc) (s : State) : Host.Outcome State Fault Refusal :=
  countEvent evImcRdCasRank6 0x04 o s

/-- IMC.RD_CAS_RANK6.BANK5 (R533) -/
def execImcRdCasRank6Bank5 (o : EvOp .imc) (s : State) : Host.Outcome State Fault Refusal :=
  countEvent evImcRdCasRank6 0x05 o s

/-- IMC.RD_CAS_RANK6.BANK6 (R533) -/
def execImcRdCasRank6Bank6 (o : EvOp .imc) (s : State) : Host.Outcome State Fault Refusal :=
  countEvent evImcRdCasRank6 0x06 o s

/-- IMC.RD_CAS_RANK6.BANK7 (R533) -/
def execImcRdCasRank6Bank7 (o : EvOp .imc) (s : State) : Host.Outcome State Fault Refusal :=
  countEvent evImcRdCasRank6 0x07 o s

/-- IMC.RD_CAS_RANK6.BANK8 (R533) -/
def execImcRdCasRank6Bank8 (o : EvOp .imc) (s : State) : Host.Outcome State Fault Refusal :=
  countEvent evImcRdCasRank6 0x08 o s

/-- IMC.RD_CAS_RANK6.BANK9 (R533) -/
def execImcRdCasRank6Bank9 (o : EvOp .imc) (s : State) : Host.Outcome State Fault Refusal :=
  countEvent evImcRdCasRank6 0x09 o s

/-- IMC.RD_CAS_RANK6.BANK10 (R533) -/
def execImcRdCasRank6Bank10 (o : EvOp .imc) (s : State) : Host.Outcome State Fault Refusal :=
  countEvent evImcRdCasRank6 0x0A o s

/-- IMC.RD_CAS_RANK6.BANK11 (R533) -/
def execImcRdCasRank6Bank11 (o : EvOp .imc) (s : State) : Host.Outcome State Fault Refusal :=
  countEvent evImcRdCasRank6 0x0B o s

/-- IMC.RD_CAS_RANK6.BANK12 (R533) -/
def execImcRdCasRank6Bank12 (o : EvOp .imc) (s : State) : Host.Outcome State Fault Refusal :=
  countEvent evImcRdCasRank6 0x0C o s

/-- IMC.RD_CAS_RANK6.BANK13 (R533) -/
def execImcRdCasRank6Bank13 (o : EvOp .imc) (s : State) : Host.Outcome State Fault Refusal :=
  countEvent evImcRdCasRank6 0x0D o s

/-- IMC.RD_CAS_RANK6.BANK14 (R533) -/
def execImcRdCasRank6Bank14 (o : EvOp .imc) (s : State) : Host.Outcome State Fault Refusal :=
  countEvent evImcRdCasRank6 0x0E o s

/-- IMC.RD_CAS_RANK6.BANK15 (R533) -/
def execImcRdCasRank6Bank15 (o : EvOp .imc) (s : State) : Host.Outcome State Fault Refusal :=
  countEvent evImcRdCasRank6 0x0F o s

/-- IMC.RD_CAS_RANK6.ALLBANKS (R533) -/
def execImcRdCasRank6Allbanks (o : EvOp .imc) (s : State) : Host.Outcome State Fault Refusal :=
  countEvent evImcRdCasRank6 0x10 o s

/-- IMC.RD_CAS_RANK6.BANKG0 (R533) -/
def execImcRdCasRank6Bankg0 (o : EvOp .imc) (s : State) : Host.Outcome State Fault Refusal :=
  countEvent evImcRdCasRank6 0x11 o s

/-- IMC.RD_CAS_RANK6.BANKG1 (R533) -/
def execImcRdCasRank6Bankg1 (o : EvOp .imc) (s : State) : Host.Outcome State Fault Refusal :=
  countEvent evImcRdCasRank6 0x12 o s

/-- IMC.RD_CAS_RANK6.BANKG2 (R533) -/
def execImcRdCasRank6Bankg2 (o : EvOp .imc) (s : State) : Host.Outcome State Fault Refusal :=
  countEvent evImcRdCasRank6 0x13 o s

/-- IMC.RD_CAS_RANK6.BANKG3 (R533) -/
def execImcRdCasRank6Bankg3 (o : EvOp .imc) (s : State) : Host.Outcome State Fault Refusal :=
  countEvent evImcRdCasRank6 0x14 o s

/-- IMC.RD_CAS_RANK7.BANK0 (R534) -/
def execImcRdCasRank7Bank0 (o : EvOp .imc) (s : State) : Host.Outcome State Fault Refusal :=
  countEvent evImcRdCasRank7 0x00 o s

/-- IMC.RD_CAS_RANK7.BANK1 (R534) -/
def execImcRdCasRank7Bank1 (o : EvOp .imc) (s : State) : Host.Outcome State Fault Refusal :=
  countEvent evImcRdCasRank7 0x01 o s

/-- IMC.RD_CAS_RANK7.BANK2 (R534) -/
def execImcRdCasRank7Bank2 (o : EvOp .imc) (s : State) : Host.Outcome State Fault Refusal :=
  countEvent evImcRdCasRank7 0x02 o s

/-- IMC.RD_CAS_RANK7.BANK3 (R534) -/
def execImcRdCasRank7Bank3 (o : EvOp .imc) (s : State) : Host.Outcome State Fault Refusal :=
  countEvent evImcRdCasRank7 0x03 o s

/-- IMC.RD_CAS_RANK7.BANK4 (R534) -/
def execImcRdCasRank7Bank4 (o : EvOp .imc) (s : State) : Host.Outcome State Fault Refusal :=
  countEvent evImcRdCasRank7 0x04 o s

/-- IMC.RD_CAS_RANK7.BANK5 (R534) -/
def execImcRdCasRank7Bank5 (o : EvOp .imc) (s : State) : Host.Outcome State Fault Refusal :=
  countEvent evImcRdCasRank7 0x05 o s

/-- IMC.RD_CAS_RANK7.BANK6 (R534) -/
def execImcRdCasRank7Bank6 (o : EvOp .imc) (s : State) : Host.Outcome State Fault Refusal :=
  countEvent evImcRdCasRank7 0x06 o s

/-- IMC.RD_CAS_RANK7.BANK7 (R534) -/
def execImcRdCasRank7Bank7 (o : EvOp .imc) (s : State) : Host.Outcome State Fault Refusal :=
  countEvent evImcRdCasRank7 0x07 o s

/-- IMC.RD_CAS_RANK7.BANK8 (R534) -/
def execImcRdCasRank7Bank8 (o : EvOp .imc) (s : State) : Host.Outcome State Fault Refusal :=
  countEvent evImcRdCasRank7 0x08 o s

/-- IMC.RD_CAS_RANK7.BANK9 (R534) -/
def execImcRdCasRank7Bank9 (o : EvOp .imc) (s : State) : Host.Outcome State Fault Refusal :=
  countEvent evImcRdCasRank7 0x09 o s

/-- IMC.RD_CAS_RANK7.BANK10 (R534) -/
def execImcRdCasRank7Bank10 (o : EvOp .imc) (s : State) : Host.Outcome State Fault Refusal :=
  countEvent evImcRdCasRank7 0x0A o s

/-- IMC.RD_CAS_RANK7.BANK11 (R534) -/
def execImcRdCasRank7Bank11 (o : EvOp .imc) (s : State) : Host.Outcome State Fault Refusal :=
  countEvent evImcRdCasRank7 0x0B o s

/-- IMC.RD_CAS_RANK7.BANK12 (R534) -/
def execImcRdCasRank7Bank12 (o : EvOp .imc) (s : State) : Host.Outcome State Fault Refusal :=
  countEvent evImcRdCasRank7 0x0C o s

/-- IMC.RD_CAS_RANK7.BANK13 (R534) -/
def execImcRdCasRank7Bank13 (o : EvOp .imc) (s : State) : Host.Outcome State Fault Refusal :=
  countEvent evImcRdCasRank7 0x0D o s

/-- IMC.RD_CAS_RANK7.BANK14 (R534) -/
def execImcRdCasRank7Bank14 (o : EvOp .imc) (s : State) : Host.Outcome State Fault Refusal :=
  countEvent evImcRdCasRank7 0x0E o s

/-- IMC.RD_CAS_RANK7.BANK15 (R534) -/
def execImcRdCasRank7Bank15 (o : EvOp .imc) (s : State) : Host.Outcome State Fault Refusal :=
  countEvent evImcRdCasRank7 0x0F o s

/-- IMC.RD_CAS_RANK7.ALLBANKS (R534) -/
def execImcRdCasRank7Allbanks (o : EvOp .imc) (s : State) : Host.Outcome State Fault Refusal :=
  countEvent evImcRdCasRank7 0x10 o s

/-- IMC.RD_CAS_RANK7.BANKG0 (R534) -/
def execImcRdCasRank7Bankg0 (o : EvOp .imc) (s : State) : Host.Outcome State Fault Refusal :=
  countEvent evImcRdCasRank7 0x11 o s

/-- IMC.RD_CAS_RANK7.BANKG1 (R534) -/
def execImcRdCasRank7Bankg1 (o : EvOp .imc) (s : State) : Host.Outcome State Fault Refusal :=
  countEvent evImcRdCasRank7 0x12 o s

/-- IMC.RD_CAS_RANK7.BANKG2 (R534) -/
def execImcRdCasRank7Bankg2 (o : EvOp .imc) (s : State) : Host.Outcome State Fault Refusal :=
  countEvent evImcRdCasRank7 0x13 o s

/-- IMC.RD_CAS_RANK7.BANKG3 (R534) -/
def execImcRdCasRank7Bankg3 (o : EvOp .imc) (s : State) : Host.Outcome State Fault Refusal :=
  countEvent evImcRdCasRank7 0x14 o s

/-- IMC.RPQ_CYCLES_NE (R535) -/
def execImcRpqCyclesNe (o : EvOp .imc) (s : State) : Host.Outcome State Fault Refusal :=
  countEvent evImcRpqCyclesNe 0x00 o s

/-- IMC.RPQ_INSERTS (R536) -/
def execImcRpqInserts (o : EvOp .imc) (s : State) : Host.Outcome State Fault Refusal :=
  countEvent evImcRpqInserts 0x00 o s

/-- IMC.VMSE_MXB_WR_OCCUPANCY (R537) -/
def execImcVmseMxbWrOccupancy (o : EvOp .imc) (s : State) : Host.Outcome State Fault Refusal :=
  countEvent evImcVmseMxbWrOccupancy 0x00 o s

/-- IMC.VMSE_WR_PUSH.WMM (R538) -/
def execImcVmseWrPushWmm (o : EvOp .imc) (s : State) : Host.Outcome State Fault Refusal :=
  countEvent evImcVmseWrPush 0x01 o s

/-- IMC.VMSE_WR_PUSH.RMM (R538) -/
def execImcVmseWrPushRmm (o : EvOp .imc) (s : State) : Host.Outcome State Fault Refusal :=
  countEvent evImcVmseWrPush 0x02 o s

/-- IMC.WMM_TO_RMM.LOW_THRESH (R539) -/
def execImcWmmToRmmLowThresh (o : EvOp .imc) (s : State) : Host.Outcome State Fault Refusal :=
  countEvent evImcWmmToRmm 0x01 o s

/-- IMC.WMM_TO_RMM.STARVE (R539) -/
def execImcWmmToRmmStarve (o : EvOp .imc) (s : State) : Host.Outcome State Fault Refusal :=
  countEvent evImcWmmToRmm 0x02 o s

/-- IMC.WMM_TO_RMM.VMSE_RETRY (R539) -/
def execImcWmmToRmmVmseRetry (o : EvOp .imc) (s : State) : Host.Outcome State Fault Refusal :=
  countEvent evImcWmmToRmm 0x04 o s

/-- IMC.WPQ_CYCLES_FULL (R540) -/
def execImcWpqCyclesFull (o : EvOp .imc) (s : State) : Host.Outcome State Fault Refusal :=
  countEvent evImcWpqCyclesFull 0x00 o s

/-- IMC.WPQ_CYCLES_NE (R541) -/
def execImcWpqCyclesNe (o : EvOp .imc) (s : State) : Host.Outcome State Fault Refusal :=
  countEvent evImcWpqCyclesNe 0x00 o s

/-- IMC.WPQ_READ_HIT (R542) -/
def execImcWpqReadHit (o : EvOp .imc) (s : State) : Host.Outcome State Fault Refusal :=
  countEvent evImcWpqReadHit 0x00 o s

/-- IMC.WPQ_WRITE_HIT (R543) -/
def execImcWpqWriteHit (o : EvOp .imc) (s : State) : Host.Outcome State Fault Refusal :=
  countEvent evImcWpqWriteHit 0x00 o s

/-- IMC.WRONG_MM (R544) -/
def execImcWrongMm (o : EvOp .imc) (s : State) : Host.Outcome State Fault Refusal :=
  countEvent evImcWrongMm 0x00 o s

/-- IMC.WR_CAS_RANK0.BANK0 (R545) -/
def execImcWrCasRank0Bank0 (o : EvOp .imc) (s : State) : Host.Outcome State Fault Refusal :=
  countEvent evImcWrCasRank0 0x00 o s

/-- IMC.WR_CAS_RANK0.BANK1 (R545) -/
def execImcWrCasRank0Bank1 (o : EvOp .imc) (s : State) : Host.Outcome State Fault Refusal :=
  countEvent evImcWrCasRank0 0x01 o s

/-- IMC.WR_CAS_RANK0.BANK2 (R545) -/
def execImcWrCasRank0Bank2 (o : EvOp .imc) (s : State) : Host.Outcome State Fault Refusal :=
  countEvent evImcWrCasRank0 0x02 o s

/-- IMC.WR_CAS_RANK0.BANK3 (R545) -/
def execImcWrCasRank0Bank3 (o : EvOp .imc) (s : State) : Host.Outcome State Fault Refusal :=
  countEvent evImcWrCasRank0 0x03 o s

/-- IMC.WR_CAS_RANK0.BANK4 (R545) -/
def execImcWrCasRank0Bank4 (o : EvOp .imc) (s : State) : Host.Outcome State Fault Refusal :=
  countEvent evImcWrCasRank0 0x04 o s

/-- IMC.WR_CAS_RANK0.BANK5 (R545) -/
def execImcWrCasRank0Bank5 (o : EvOp .imc) (s : State) : Host.Outcome State Fault Refusal :=
  countEvent evImcWrCasRank0 0x05 o s

/-- IMC.WR_CAS_RANK0.BANK6 (R545) -/
def execImcWrCasRank0Bank6 (o : EvOp .imc) (s : State) : Host.Outcome State Fault Refusal :=
  countEvent evImcWrCasRank0 0x06 o s

/-- IMC.WR_CAS_RANK0.BANK7 (R545) -/
def execImcWrCasRank0Bank7 (o : EvOp .imc) (s : State) : Host.Outcome State Fault Refusal :=
  countEvent evImcWrCasRank0 0x07 o s

/-- IMC.WR_CAS_RANK0.BANK8 (R545) -/
def execImcWrCasRank0Bank8 (o : EvOp .imc) (s : State) : Host.Outcome State Fault Refusal :=
  countEvent evImcWrCasRank0 0x08 o s

/-- IMC.WR_CAS_RANK0.BANK9 (R545) -/
def execImcWrCasRank0Bank9 (o : EvOp .imc) (s : State) : Host.Outcome State Fault Refusal :=
  countEvent evImcWrCasRank0 0x09 o s

/-- IMC.WR_CAS_RANK0.BANK10 (R545) -/
def execImcWrCasRank0Bank10 (o : EvOp .imc) (s : State) : Host.Outcome State Fault Refusal :=
  countEvent evImcWrCasRank0 0x0A o s

/-- IMC.WR_CAS_RANK0.BANK11 (R545) -/
def execImcWrCasRank0Bank11 (o : EvOp .imc) (s : State) : Host.Outcome State Fault Refusal :=
  countEvent evImcWrCasRank0 0x0B o s

/-- IMC.WR_CAS_RANK0.BANK12 (R545) -/
def execImcWrCasRank0Bank12 (o : EvOp .imc) (s : State) : Host.Outcome State Fault Refusal :=
  countEvent evImcWrCasRank0 0x0C o s

/-- IMC.WR_CAS_RANK0.BANK13 (R545) -/
def execImcWrCasRank0Bank13 (o : EvOp .imc) (s : State) : Host.Outcome State Fault Refusal :=
  countEvent evImcWrCasRank0 0x0D o s

/-- IMC.WR_CAS_RANK0.BANK14 (R545) -/
def execImcWrCasRank0Bank14 (o : EvOp .imc) (s : State) : Host.Outcome State Fault Refusal :=
  countEvent evImcWrCasRank0 0x0E o s

/-- IMC.WR_CAS_RANK0.BANK15 (R545) -/
def execImcWrCasRank0Bank15 (o : EvOp .imc) (s : State) : Host.Outcome State Fault Refusal :=
  countEvent evImcWrCasRank0 0x0F o s

/-- IMC.WR_CAS_RANK0.ALLBANKS (R545) -/
def execImcWrCasRank0Allbanks (o : EvOp .imc) (s : State) : Host.Outcome State Fault Refusal :=
  countEvent evImcWrCasRank0 0x10 o s

/-- IMC.WR_CAS_RANK0.BANKG0 (R545) -/
def execImcWrCasRank0Bankg0 (o : EvOp .imc) (s : State) : Host.Outcome State Fault Refusal :=
  countEvent evImcWrCasRank0 0x11 o s

/-- IMC.WR_CAS_RANK0.BANKG1 (R545) -/
def execImcWrCasRank0Bankg1 (o : EvOp .imc) (s : State) : Host.Outcome State Fault Refusal :=
  countEvent evImcWrCasRank0 0x12 o s

/-- IMC.WR_CAS_RANK0.BANKG2 (R545) -/
def execImcWrCasRank0Bankg2 (o : EvOp .imc) (s : State) : Host.Outcome State Fault Refusal :=
  countEvent evImcWrCasRank0 0x13 o s

/-- IMC.WR_CAS_RANK0.BANKG3 (R545) -/
def execImcWrCasRank0Bankg3 (o : EvOp .imc) (s : State) : Host.Outcome State Fault Refusal :=
  countEvent evImcWrCasRank0 0x14 o s

/-- IMC.WR_CAS_RANK1.BANK0 (R546) -/
def execImcWrCasRank1Bank0 (o : EvOp .imc) (s : State) : Host.Outcome State Fault Refusal :=
  countEvent evImcWrCasRank1 0x00 o s

/-- IMC.WR_CAS_RANK1.BANK1 (R546) -/
def execImcWrCasRank1Bank1 (o : EvOp .imc) (s : State) : Host.Outcome State Fault Refusal :=
  countEvent evImcWrCasRank1 0x01 o s

/-- IMC.WR_CAS_RANK1.BANK2 (R546) -/
def execImcWrCasRank1Bank2 (o : EvOp .imc) (s : State) : Host.Outcome State Fault Refusal :=
  countEvent evImcWrCasRank1 0x02 o s

/-- IMC.WR_CAS_RANK1.BANK3 (R546) -/
def execImcWrCasRank1Bank3 (o : EvOp .imc) (s : State) : Host.Outcome State Fault Refusal :=
  countEvent evImcWrCasRank1 0x03 o s

/-- IMC.WR_CAS_RANK1.BANK4 (R546) -/
def execImcWrCasRank1Bank4 (o : EvOp .imc) (s : State) : Host.Outcome State Fault Refusal :=
  countEvent evImcWrCasRank1 0x04 o s

/-- IMC.WR_CAS_RANK1.BANK5 (R546) -/
def execImcWrCasRank1Bank5 (o : EvOp .imc) (s : State) : Host.Outcome State Fault Refusal :=
  countEvent evImcWrCasRank1 0x05 o s

/-- IMC.WR_CAS_RANK1.BANK6 (R546) -/
def execImcWrCasRank1Bank6 (o : EvOp .imc) (s : State) : Host.Outcome State Fault Refusal :=
  countEvent evImcWrCasRank1 0x06 o s

/-- IMC.WR_CAS_RANK1.BANK7 (R546) -/
def execImcWrCasRank1Bank7 (o : EvOp .imc) (s : State) : Host.Outcome State Fault Refusal :=
  countEvent evImcWrCasRank1 0x07 o s

/-- IMC.WR_CAS_RANK1.BANK8 (R546) -/
def execImcWrCasRank1Bank8 (o : EvOp .imc) (s : State) : Host.Outcome State Fault Refusal :=
  countEvent evImcWrCasRank1 0x08 o s

/-- IMC.WR_CAS_RANK1.BANK9 (R546) -/
def execImcWrCasRank1Bank9 (o : EvOp .imc) (s : State) : Host.Outcome State Fault Refusal :=
  countEvent evImcWrCasRank1 0x09 o s

/-- IMC.WR_CAS_RANK1.BANK10 (R546) -/
def execImcWrCasRank1Bank10 (o : EvOp .imc) (s : State) : Host.Outcome State Fault Refusal :=
  countEvent evImcWrCasRank1 0x0A o s

/-- IMC.WR_CAS_RANK1.BANK11 (R546) -/
def execImcWrCasRank1Bank11 (o : EvOp .imc) (s : State) : Host.Outcome State Fault Refusal :=
  countEvent evImcWrCasRank1 0x0B o s

/-- IMC.WR_CAS_RANK1.BANK12 (R546) -/
def execImcWrCasRank1Bank12 (o : EvOp .imc) (s : State) : Host.Outcome State Fault Refusal :=
  countEvent evImcWrCasRank1 0x0C o s

/-- IMC.WR_CAS_RANK1.BANK13 (R546) -/
def execImcWrCasRank1Bank13 (o : EvOp .imc) (s : State) : Host.Outcome State Fault Refusal :=
  countEvent evImcWrCasRank1 0x0D o s

/-- IMC.WR_CAS_RANK1.BANK14 (R546) -/
def execImcWrCasRank1Bank14 (o : EvOp .imc) (s : State) : Host.Outcome State Fault Refusal :=
  countEvent evImcWrCasRank1 0x0E o s

/-- IMC.WR_CAS_RANK1.BANK15 (R546) -/
def execImcWrCasRank1Bank15 (o : EvOp .imc) (s : State) : Host.Outcome State Fault Refusal :=
  countEvent evImcWrCasRank1 0x0F o s

/-- IMC.WR_CAS_RANK1.ALLBANKS (R546) -/
def execImcWrCasRank1Allbanks (o : EvOp .imc) (s : State) : Host.Outcome State Fault Refusal :=
  countEvent evImcWrCasRank1 0x10 o s

/-- IMC.WR_CAS_RANK1.BANKG0 (R546) -/
def execImcWrCasRank1Bankg0 (o : EvOp .imc) (s : State) : Host.Outcome State Fault Refusal :=
  countEvent evImcWrCasRank1 0x11 o s

/-- IMC.WR_CAS_RANK1.BANKG1 (R546) -/
def execImcWrCasRank1Bankg1 (o : EvOp .imc) (s : State) : Host.Outcome State Fault Refusal :=
  countEvent evImcWrCasRank1 0x12 o s

/-- IMC.WR_CAS_RANK1.BANKG2 (R546) -/
def execImcWrCasRank1Bankg2 (o : EvOp .imc) (s : State) : Host.Outcome State Fault Refusal :=
  countEvent evImcWrCasRank1 0x13 o s

/-- IMC.WR_CAS_RANK1.BANKG3 (R546) -/
def execImcWrCasRank1Bankg3 (o : EvOp .imc) (s : State) : Host.Outcome State Fault Refusal :=
  countEvent evImcWrCasRank1 0x14 o s

/-- IMC.WR_CAS_RANK2 (R547) -/
def execImcWrCasRank2 (o : EvOp .imc) (s : State) : Host.Outcome State Fault Refusal :=
  countEvent evImcWrCasRank2 0x00 o s

/-- IMC.WR_CAS_RANK3 (R548) -/
def execImcWrCasRank3 (o : EvOp .imc) (s : State) : Host.Outcome State Fault Refusal :=
  countEvent evImcWrCasRank3 0x00 o s

/-- IMC.WR_CAS_RANK4.BANK0 (R549) -/
def execImcWrCasRank4Bank0 (o : EvOp .imc) (s : State) : Host.Outcome State Fault Refusal :=
  countEvent evImcWrCasRank4 0x00 o s

/-- IMC.WR_CAS_RANK4.BANK1 (R549) -/
def execImcWrCasRank4Bank1 (o : EvOp .imc) (s : State) : Host.Outcome State Fault Refusal :=
  countEvent evImcWrCasRank4 0x01 o s

/-- IMC.WR_CAS_RANK4.BANK2 (R549) -/
def execImcWrCasRank4Bank2 (o : EvOp .imc) (s : State) : Host.Outcome State Fault Refusal :=
  countEvent evImcWrCasRank4 0x02 o s

/-- IMC.WR_CAS_RANK4.BANK3 (R549) -/
def execImcWrCasRank4Bank3 (o : EvOp .imc) (s : State) : Host.Outcome State Fault Refusal :=
  countEvent evImcWrCasRank4 0x03 o s

/-- IMC.WR_CAS_RANK4.BANK4 (R549) -/
def execImcWrCasRank4Bank4 (o : EvOp .imc) (s : State) : Host.Outcome State Fault Refusal :=
  countEvent evImcWrCasRank4 0x04 o s

/-- IMC.WR_CAS_RANK4.BANK5 (R549) -/
def execImcWrCasRank4Bank5 (o : EvOp .imc) (s : State) : Host.Outcome State Fault Refusal :=
  countEvent evImcWrCasRank4 0x05 o s

/-- IMC.WR_CAS_RANK4.BANK6 (R549) -/
def execImcWrCasRank4Bank6 (o : EvOp .imc) (s : State) : Host.Outcome State Fault Refusal :=
  countEvent evImcWrCasRank4 0x06 o s

/-- IMC.WR_CAS_RANK4.BANK7 (R549) -/
def execImcWrCasRank4Bank7 (o : EvOp .imc) (s : State) : Host.Outcome State Fault Refusal :=
  countEvent evImcWrCasRank4 0x07 o s

/-- IMC.WR_CAS_RANK4.BANK8 (R549) -/
def execImcWrCasRank4Bank8 (o : EvOp .imc) (s : State) : Host.Outcome State Fault Refusal :=
  countEvent evImcWrCasRank4 0x08 o s

/-- IMC.WR_CAS_RANK4.BANK9 (R549) -/
def execImcWrCasRank4Bank9 (o : EvOp .imc) (s : State) : Host.Outcome State Fault Refusal :=
  countEvent evImcWrCasRank4 0x09 o s

/-- IMC.WR_CAS_RANK4.BANK10 (R549) -/
def execImcWrCasRank4Bank10 (o : EvOp .imc) (s : State) : Host.Outcome State Fault Refusal :=
  countEvent evImcWrCasRank4 0x0A o s

/-- IMC.WR_CAS_RANK4.BANK11 (R549) -/
def execImcWrCasRank4Bank11 (o : EvOp .imc) (s : State) : Host.Outcome State Fault Refusal :=
  countEvent evImcWrCasRank4 0x0B o s

/-- IMC.WR_CAS_RANK4.BANK12 (R549) -/
def execImcWrCasRank4Bank12 (o : EvOp .imc) (s : State) : Host.Outcome State Fault Refusal :=
  countEvent evImcWrCasRank4 0x0C o s

/-- IMC.WR_CAS_RANK4.BANK13 (R549) -/
def execImcWrCasRank4Bank13 (o : EvOp .imc) (s : State) : Host.Outcome State Fault Refusal :=
  countEvent evImcWrCasRank4 0x0D o s

/-- IMC.WR_CAS_RANK4.BANK14 (R549) -/
def execImcWrCasRank4Bank14 (o : EvOp .imc) (s : State) : Host.Outcome State Fault Refusal :=
  countEvent evImcWrCasRank4 0x0E o s

/-- IMC.WR_CAS_RANK4.BANK15 (R549) -/
def execImcWrCasRank4Bank15 (o : EvOp .imc) (s : State) : Host.Outcome State Fault Refusal :=
  countEvent evImcWrCasRank4 0x0F o s

/-- IMC.WR_CAS_RANK4.ALLBANKS (R549) -/
def execImcWrCasRank4Allbanks (o : EvOp .imc) (s : State) : Host.Outcome State Fault Refusal :=
  countEvent evImcWrCasRank4 0x10 o s

/-- IMC.WR_CAS_RANK4.BANKG0 (R549) -/
def execImcWrCasRank4Bankg0 (o : EvOp .imc) (s : State) : Host.Outcome State Fault Refusal :=
  countEvent evImcWrCasRank4 0x11 o s

/-- IMC.WR_CAS_RANK4.BANKG1 (R549) -/
def execImcWrCasRank4Bankg1 (o : EvOp .imc) (s : State) : Host.Outcome State Fault Refusal :=
  countEvent evImcWrCasRank4 0x12 o s

/-- IMC.WR_CAS_RANK4.BANKG2 (R549) -/
def execImcWrCasRank4Bankg2 (o : EvOp .imc) (s : State) : Host.Outcome State Fault Refusal :=
  countEvent evImcWrCasRank4 0x13 o s

/-- IMC.WR_CAS_RANK4.BANKG3 (R549) -/
def execImcWrCasRank4Bankg3 (o : EvOp .imc) (s : State) : Host.Outcome State Fault Refusal :=
  countEvent evImcWrCasRank4 0x14 o s

/-- IMC.WR_CAS_RANK5.BANK0 (R550) -/
def execImcWrCasRank5Bank0 (o : EvOp .imc) (s : State) : Host.Outcome State Fault Refusal :=
  countEvent evImcWrCasRank5 0x00 o s

/-- IMC.WR_CAS_RANK5.BANK1 (R550) -/
def execImcWrCasRank5Bank1 (o : EvOp .imc) (s : State) : Host.Outcome State Fault Refusal :=
  countEvent evImcWrCasRank5 0x01 o s

/-- IMC.WR_CAS_RANK5.BANK2 (R550) -/
def execImcWrCasRank5Bank2 (o : EvOp .imc) (s : State) : Host.Outcome State Fault Refusal :=
  countEvent evImcWrCasRank5 0x02 o s

/-- IMC.WR_CAS_RANK5.BANK3 (R550) -/
def execImcWrCasRank5Bank3 (o : EvOp .imc) (s : State) : Host.Outcome State Fault Refusal :=
  countEvent evImcWrCasRank5 0x03 o s

/-- IMC.WR_CAS_RANK5.BANK4 (R550) -/
def execImcWrCasRank5Bank4 (o : EvOp .imc) (s : State) : Host.Outcome State Fault Refusal :=
  countEvent evImcWrCasRank5 0x04 o s

/-- IMC.WR_CAS_RANK5.BANK5 (R550) -/
def execImcWrCasRank5Bank5 (o : EvOp .imc) (s : State) : Host.Outcome State Fault Refusal :=
  countEvent evImcWrCasRank5 0x05 o s

/-- IMC.WR_CAS_RANK5.BANK6 (R550) -/
def execImcWrCasRank5Bank6 (o : EvOp .imc) (s : State) : Host.Outcome State Fault Refusal :=
  countEvent evImcWrCasRank5 0x06 o s

/-- IMC.WR_CAS_RANK5.BANK7 (R550) -/
def execImcWrCasRank5Bank7 (o : EvOp .imc) (s : State) : Host.Outcome State Fault Refusal :=
  countEvent evImcWrCasRank5 0x07 o s

/-- IMC.WR_CAS_RANK5.BANK8 (R550) -/
def execImcWrCasRank5Bank8 (o : EvOp .imc) (s : State) : Host.Outcome State Fault Refusal :=
  countEvent evImcWrCasRank5 0x08 o s

/-- IMC.WR_CAS_RANK5.BANK9 (R550) -/
def execImcWrCasRank5Bank9 (o : EvOp .imc) (s : State) : Host.Outcome State Fault Refusal :=
  countEvent evImcWrCasRank5 0x09 o s

/-- IMC.WR_CAS_RANK5.BANK10 (R550) -/
def execImcWrCasRank5Bank10 (o : EvOp .imc) (s : State) : Host.Outcome State Fault Refusal :=
  countEvent evImcWrCasRank5 0x0A o s

/-- IMC.WR_CAS_RANK5.BANK11 (R550) -/
def execImcWrCasRank5Bank11 (o : EvOp .imc) (s : State) : Host.Outcome State Fault Refusal :=
  countEvent evImcWrCasRank5 0x0B o s

/-- IMC.WR_CAS_RANK5.BANK12 (R550) -/
def execImcWrCasRank5Bank12 (o : EvOp .imc) (s : State) : Host.Outcome State Fault Refusal :=
  countEvent evImcWrCasRank5 0x0C o s

/-- IMC.WR_CAS_RANK5.BANK13 (R550) -/
def execImcWrCasRank5Bank13 (o : EvOp .imc) (s : State) : Host.Outcome State Fault Refusal :=
  countEvent evImcWrCasRank5 0x0D o s

/-- IMC.WR_CAS_RANK5.BANK14 (R550) -/
def execImcWrCasRank5Bank14 (o : EvOp .imc) (s : State) : Host.Outcome State Fault Refusal :=
  countEvent evImcWrCasRank5 0x0E o s

/-- IMC.WR_CAS_RANK5.BANK15 (R550) -/
def execImcWrCasRank5Bank15 (o : EvOp .imc) (s : State) : Host.Outcome State Fault Refusal :=
  countEvent evImcWrCasRank5 0x0F o s

/-- IMC.WR_CAS_RANK5.ALLBANKS (R550) -/
def execImcWrCasRank5Allbanks (o : EvOp .imc) (s : State) : Host.Outcome State Fault Refusal :=
  countEvent evImcWrCasRank5 0x10 o s

/-- IMC.WR_CAS_RANK5.BANKG0 (R550) -/
def execImcWrCasRank5Bankg0 (o : EvOp .imc) (s : State) : Host.Outcome State Fault Refusal :=
  countEvent evImcWrCasRank5 0x11 o s

/-- IMC.WR_CAS_RANK5.BANKG1 (R550) -/
def execImcWrCasRank5Bankg1 (o : EvOp .imc) (s : State) : Host.Outcome State Fault Refusal :=
  countEvent evImcWrCasRank5 0x12 o s

/-- IMC.WR_CAS_RANK5.BANKG2 (R550) -/
def execImcWrCasRank5Bankg2 (o : EvOp .imc) (s : State) : Host.Outcome State Fault Refusal :=
  countEvent evImcWrCasRank5 0x13 o s

/-- IMC.WR_CAS_RANK5.BANKG3 (R550) -/
def execImcWrCasRank5Bankg3 (o : EvOp .imc) (s : State) : Host.Outcome State Fault Refusal :=
  countEvent evImcWrCasRank5 0x14 o s

/-- IMC.WR_CAS_RANK6.BANK0 (R551) -/
def execImcWrCasRank6Bank0 (o : EvOp .imc) (s : State) : Host.Outcome State Fault Refusal :=
  countEvent evImcWrCasRank6 0x00 o s

/-- IMC.WR_CAS_RANK6.BANK1 (R551) -/
def execImcWrCasRank6Bank1 (o : EvOp .imc) (s : State) : Host.Outcome State Fault Refusal :=
  countEvent evImcWrCasRank6 0x01 o s

/-- IMC.WR_CAS_RANK6.BANK2 (R551) -/
def execImcWrCasRank6Bank2 (o : EvOp .imc) (s : State) : Host.Outcome State Fault Refusal :=
  countEvent evImcWrCasRank6 0x02 o s

/-- IMC.WR_CAS_RANK6.BANK3 (R551) -/
def execImcWrCasRank6Bank3 (o : EvOp .imc) (s : State) : Host.Outcome State Fault Refusal :=
  countEvent evImcWrCasRank6 0x03 o s

/-- IMC.WR_CAS_RANK6.BANK4 (R551) -/
def execImcWrCasRank6Bank4 (o : EvOp .imc) (s : State) : Host.Outcome State Fault Refusal :=
  countEvent evImcWrCasRank6 0x04 o s

/-- IMC.WR_CAS_RANK6.BANK5 (R551) -/
def execImcWrCasRank6Bank5 (o : EvOp .imc) (s : State) : Host.Outcome State Fault Refusal :=
  countEvent evImcWrCasRank6 0x05 o s

/-- IMC.WR_CAS_RANK6.BANK6 (R551) -/
def execImcWrCasRank6Bank6 (o : EvOp .imc) (s : State) : Host.Outcome State Fault Refusal :=
  countEvent evImcWrCasRank6 0x06 o s

/-- IMC.WR_CAS_RANK6.BANK7 (R551) -/
def execImcWrCasRank6Bank7 (o : EvOp .imc) (s : State) : Host.Outcome State Fault Refusal :=
  countEvent evImcWrCasRank6 0x07 o s

/-- IMC.WR_CAS_RANK6.BANK8 (R551) -/
def execImcWrCasRank6Bank8 (o : EvOp .imc) (s : State) : Host.Outcome State Fault Refusal :=
  countEvent evImcWrCasRank6 0x08 o s

/-- IMC.WR_CAS_RANK6.BANK9 (R551) -/
def execImcWrCasRank6Bank9 (o : EvOp .imc) (s : State) : Host.Outcome State Fault Refusal :=
  countEvent evImcWrCasRank6 0x09 o s

/-- IMC.WR_CAS_RANK6.BANK10 (R551) -/
def execImcWrCasRank6Bank10 (o : EvOp .imc) (s : State) : Host.Outcome State Fault Refusal :=
  countEvent evImcWrCasRank6 0x0A o s

/-- IMC.WR_CAS_RANK6.BANK11 (R551) -/
def execImcWrCasRank6Bank11 (o : EvOp .imc) (s : State) : Host.Outcome State Fault Refusal :=
  countEvent evImcWrCasRank6 0x0B o s

/-- IMC.WR_CAS_RANK6.BANK12 (R551) -/
def execImcWrCasRank6Bank12 (o : EvOp .imc) (s : State) : Host.Outcome State Fault Refusal :=
  countEvent evImcWrCasRank6 0x0C o s

/-- IMC.WR_CAS_RANK6.BANK13 (R551) -/
def execImcWrCasRank6Bank13 (o : EvOp .imc) (s : State) : Host.Outcome State Fault Refusal :=
  countEvent evImcWrCasRank6 0x0D o s

/-- IMC.WR_CAS_RANK6.BANK14 (R551) -/
def execImcWrCasRank6Bank14 (o : EvOp .imc) (s : State) : Host.Outcome State Fault Refusal :=
  countEvent evImcWrCasRank6 0x0E o s

/-- IMC.WR_CAS_RANK6.BANK15 (R551) -/
def execImcWrCasRank6Bank15 (o : EvOp .imc) (s : State) : Host.Outcome State Fault Refusal :=
  countEvent evImcWrCasRank6 0x0F o s

/-- IMC.WR_CAS_RANK6.ALLBANKS (R551) -/
def execImcWrCasRank6Allbanks (o : EvOp .imc) (s : State) : Host.Outcome State Fault Refusal :=
  countEvent evImcWrCasRank6 0x10 o s

/-- IMC.WR_CAS_RANK6.BANKG0 (R551) -/
def execImcWrCasRank6Bankg0 (o : EvOp .imc) (s : State) : Host.Outcome State Fault Refusal :=
  countEvent evImcWrCasRank6 0x11 o s

/-- IMC.WR_CAS_RANK6.BANKG1 (R551) -/
def execImcWrCasRank6Bankg1 (o : EvOp .imc) (s : State) : Host.Outcome State Fault Refusal :=
  countEvent evImcWrCasRank6 0x12 o s

/-- IMC.WR_CAS_RANK6.BANKG2 (R551) -/
def execImcWrCasRank6Bankg2 (o : EvOp .imc) (s : State) : Host.Outcome State Fault Refusal :=
  countEvent evImcWrCasRank6 0x13 o s

/-- IMC.WR_CAS_RANK6.BANKG3 (R551) -/
def execImcWrCasRank6Bankg3 (o : EvOp .imc) (s : State) : Host.Outcome State Fault Refusal :=
  countEvent evImcWrCasRank6 0x14 o s

/-- IMC.WR_CAS_RANK7.BANK0 (R552) -/
def execImcWrCasRank7Bank0 (o : EvOp .imc) (s : State) : Host.Outcome State Fault Refusal :=
  countEvent evImcWrCasRank7 0x00 o s

/-- IMC.WR_CAS_RANK7.BANK1 (R552) -/
def execImcWrCasRank7Bank1 (o : EvOp .imc) (s : State) : Host.Outcome State Fault Refusal :=
  countEvent evImcWrCasRank7 0x01 o s

/-- IMC.WR_CAS_RANK7.BANK2 (R552) -/
def execImcWrCasRank7Bank2 (o : EvOp .imc) (s : State) : Host.Outcome State Fault Refusal :=
  countEvent evImcWrCasRank7 0x02 o s

/-- IMC.WR_CAS_RANK7.BANK3 (R552) -/
def execImcWrCasRank7Bank3 (o : EvOp .imc) (s : State) : Host.Outcome State Fault Refusal :=
  countEvent evImcWrCasRank7 0x03 o s

/-- IMC.WR_CAS_RANK7.BANK4 (R552) -/
def execImcWrCasRank7Bank4 (o : EvOp .imc) (s : State) : Host.Outcome State Fault Refusal :=
  countEvent evImcWrCasRank7 0x04 o s

/-- IMC.WR_CAS_RANK7.BANK5 (R552) -/
def execImcWrCasRank7Bank5 (o : EvOp .imc) (s : State) : Host.Outcome State Fault Refusal :=
  countEvent evImcWrCasRank7 0x05 o s

/-- IMC.WR_CAS_RANK7.BANK6 (R552) -/
def execImcWrCasRank7Bank6 (o : EvOp .imc) (s : State) : Host.Outcome State Fault Refusal :=
  countEvent evImcWrCasRank7 0x06 o s

/-- IMC.WR_CAS_RANK7.BANK7 (R552) -/
def execImcWrCasRank7Bank7 (o : EvOp .imc) (s : State) : Host.Outcome State Fault Refusal :=
  countEvent evImcWrCasRank7 0x07 o s

/-- IMC.WR_CAS_RANK7.BANK8 (R552) -/
def execImcWrCasRank7Bank8 (o : EvOp .imc) (s : State) : Host.Outcome State Fault Refusal :=
  countEvent evImcWrCasRank7 0x08 o s

/-- IMC.WR_CAS_RANK7.BANK9 (R552) -/
def execImcWrCasRank7Bank9 (o : EvOp .imc) (s : State) : Host.Outcome State Fault Refusal :=
  countEvent evImcWrCasRank7 0x09 o s

/-- IMC.WR_CAS_RANK7.BANK10 (R552) -/
def execImcWrCasRank7Bank10 (o : EvOp .imc) (s : State) : Host.Outcome State Fault Refusal :=
  countEvent evImcWrCasRank7 0x0A o s

/-- IMC.WR_CAS_RANK7.BANK11 (R552) -/
def execImcWrCasRank7Bank11 (o : EvOp .imc) (s : State) : Host.Outcome State Fault Refusal :=
  countEvent evImcWrCasRank7 0x0B o s

/-- IMC.WR_CAS_RANK7.BANK12 (R552) -/
def execImcWrCasRank7Bank12 (o : EvOp .imc) (s : State) : Host.Outcome State Fault Refusal :=
  countEvent evImcWrCasRank7 0x0C o s

/-- IMC.WR_CAS_RANK7.BANK13 (R552) -/
def execImcWrCasRank7Bank13 (o : EvOp .imc) (s : State) : Host.Outcome State Fault Refusal :=
  countEvent evImcWrCasRank7 0x0D o s

/-- IMC.WR_CAS_RANK7.BANK14 (R552) -/
def execImcWrCasRank7Bank14 (o : EvOp .imc) (s : State) : Host.Outcome State Fault Refusal :=
  countEvent evImcWrCasRank7 0x0E o s

/-- IMC.WR_CAS_RANK7.BANK15 (R552) -/
def execImcWrCasRank7Bank15 (o : EvOp .imc) (s : State) : Host.Outcome State Fault Refusal :=
  countEvent evImcWrCasRank7 0x0F o s

/-- IMC.WR_CAS_RANK7.ALLBANKS (R552) -/
def execImcWrCasRank7Allbanks (o : EvOp .imc) (s : State) : Host.Outcome State Fault Refusal :=
  countEvent evImcWrCasRank7 0x10 o s

/-- IMC.WR_CAS_RANK7.BANKG0 (R552) -/
def execImcWrCasRank7Bankg0 (o : EvOp .imc) (s : State) : Host.Outcome State Fault Refusal :=
  countEvent evImcWrCasRank7 0x11 o s

/-- IMC.WR_CAS_RANK7.BANKG1 (R552) -/
def execImcWrCasRank7Bankg1 (o : EvOp .imc) (s : State) : Host.Outcome State Fault Refusal :=
  countEvent evImcWrCasRank7 0x12 o s

/-- IMC.WR_CAS_RANK7.BANKG2 (R552) -/
def execImcWrCasRank7Bankg2 (o : EvOp .imc) (s : State) : Host.Outcome State Fault Refusal :=
  countEvent evImcWrCasRank7 0x13 o s

/-- IMC.WR_CAS_RANK7.BANKG3 (R552) -/
def execImcWrCasRank7Bankg3 (o : EvOp .imc) (s : State) : Host.Outcome State Fault Refusal :=
  countEvent evImcWrCasRank7 0x14 o s

end Sys2Proof.Machine
end

