-- ==== Sys2Proof/Machine/IRP.lean ====
section
/-! DEFINITION. The IRP events: each row is one cycle of a counter whose control word selects it (40_global_ubox.md R215, R249). -/

namespace Sys2Proof.Machine

/-- IRP.CACHE_TOTAL_OCCUPANCY.ANY (R610) -/
def execIrpCacheTotalOccupancyAny (o : EvOp .irp) (s : State) : Host.Outcome State Fault Refusal :=
  countEvent evIrpCacheTotalOccupancy 0x01 o s

/-- IRP.CACHE_TOTAL_OCCUPANCY.SOURCE (R610) -/
def execIrpCacheTotalOccupancySource (o : EvOp .irp) (s : State) : Host.Outcome State Fault Refusal :=
  countEvent evIrpCacheTotalOccupancy 0x02 o s

/-- IRP.CLOCKTICKS (R611) -/
def execIrpClockticks (o : EvOp .irp) (s : State) : Host.Outcome State Fault Refusal :=
  countEvent evIrpClockticks 0x00 o s

/-- IRP.COHERENT_OPS.PCIRDCUR (R612) -/
def execIrpCoherentOpsPcirdcur (o : EvOp .irp) (s : State) : Host.Outcome State Fault Refusal :=
  countEvent evIrpCoherentOps 0x01 o s

/-- IRP.COHERENT_OPS.CRD (R612) -/
def execIrpCoherentOpsCrd (o : EvOp .irp) (s : State) : Host.Outcome State Fault Refusal :=
  countEvent evIrpCoherentOps 0x02 o s

/-- IRP.COHERENT_OPS.DRD (R612) -/
def execIrpCoherentOpsDrd (o : EvOp .irp) (s : State) : Host.Outcome State Fault Refusal :=
  countEvent evIrpCoherentOps 0x04 o s

/-- IRP.COHERENT_OPS.RFO (R612) -/
def execIrpCoherentOpsRfo (o : EvOp .irp) (s : State) : Host.Outcome State Fault Refusal :=
  countEvent evIrpCoherentOps 0x08 o s

/-- IRP.COHERENT_OPS.PCITOM (R612) -/
def execIrpCoherentOpsPcitom (o : EvOp .irp) (s : State) : Host.Outcome State Fault Refusal :=
  countEvent evIrpCoherentOps 0x10 o s

/-- IRP.COHERENT_OPS.PCIDCAHINT (R612) -/
def execIrpCoherentOpsPcidcahint (o : EvOp .irp) (s : State) : Host.Outcome State Fault Refusal :=
  countEvent evIrpCoherentOps 0x20 o s

/-- IRP.COHERENT_OPS.WBMTOI (R612) -/
def execIrpCoherentOpsWbmtoi (o : EvOp .irp) (s : State) : Host.Outcome State Fault Refusal :=
  countEvent evIrpCoherentOps 0x40 o s

/-- IRP.COHERENT_OPS.CLFLUSH (R612) -/
def execIrpCoherentOpsClflush (o : EvOp .irp) (s : State) : Host.Outcome State Fault Refusal :=
  countEvent evIrpCoherentOps 0x80 o s

/-- IRP.MISC0.FAST_REQ (R613) -/
def execIrpMisc0FastReq (o : EvOp .irp) (s : State) : Host.Outcome State Fault Refusal :=
  countEvent evIrpMisc0 0x01 o s

/-- IRP.MISC0.FAST_REJ (R613) -/
def execIrpMisc0FastRej (o : EvOp .irp) (s : State) : Host.Outcome State Fault Refusal :=
  countEvent evIrpMisc0 0x02 o s

/-- IRP.MISC0.2ND_RD_INSERT (R613) -/
def execIrpMisc02ndRdInsert (o : EvOp .irp) (s : State) : Host.Outcome State Fault Refusal :=
  countEvent evIrpMisc0 0x04 o s

/-- IRP.MISC0.2ND_WR_INSERT (R613) -/
def execIrpMisc02ndWrInsert (o : EvOp .irp) (s : State) : Host.Outcome State Fault Refusal :=
  countEvent evIrpMisc0 0x08 o s

/-- IRP.MISC0.2ND_ATOMIC_INSERT (R613) -/
def execIrpMisc02ndAtomicInsert (o : EvOp .irp) (s : State) : Host.Outcome State Fault Refusal :=
  countEvent evIrpMisc0 0x10 o s

/-- IRP.MISC0.FAST_XFER (R613) -/
def execIrpMisc0FastXfer (o : EvOp .irp) (s : State) : Host.Outcome State Fault Refusal :=
  countEvent evIrpMisc0 0x20 o s

/-- IRP.MISC0.PF_ACK_HINT (R613) -/
def execIrpMisc0PfAckHint (o : EvOp .irp) (s : State) : Host.Outcome State Fault Refusal :=
  countEvent evIrpMisc0 0x40 o s

/-- IRP.MISC0.PF_TIMEOUT (R613) -/
def execIrpMisc0PfTimeout (o : EvOp .irp) (s : State) : Host.Outcome State Fault Refusal :=
  countEvent evIrpMisc0 0x80 o s

/-- IRP.MISC1.SLOW_I (R614) -/
def execIrpMisc1SlowI (o : EvOp .irp) (s : State) : Host.Outcome State Fault Refusal :=
  countEvent evIrpMisc1 0x01 o s

/-- IRP.MISC1.SLOW_S (R614) -/
def execIrpMisc1SlowS (o : EvOp .irp) (s : State) : Host.Outcome State Fault Refusal :=
  countEvent evIrpMisc1 0x02 o s

/-- IRP.MISC1.SLOW_E (R614) -/
def execIrpMisc1SlowE (o : EvOp .irp) (s : State) : Host.Outcome State Fault Refusal :=
  countEvent evIrpMisc1 0x04 o s

/-- IRP.MISC1.SLOW_M (R614) -/
def execIrpMisc1SlowM (o : EvOp .irp) (s : State) : Host.Outcome State Fault Refusal :=
  countEvent evIrpMisc1 0x08 o s

/-- IRP.MISC1.LOST_FWD (R614) -/
def execIrpMisc1LostFwd (o : EvOp .irp) (s : State) : Host.Outcome State Fault Refusal :=
  countEvent evIrpMisc1 0x10 o s

/-- IRP.MISC1.SEC_RCVD_INVLD (R614) -/
def execIrpMisc1SecRcvdInvld (o : EvOp .irp) (s : State) : Host.Outcome State Fault Refusal :=
  countEvent evIrpMisc1 0x20 o s

/-- IRP.MISC1.SEC_RCVD_VLD (R614) -/
def execIrpMisc1SecRcvdVld (o : EvOp .irp) (s : State) : Host.Outcome State Fault Refusal :=
  countEvent evIrpMisc1 0x40 o s

/-- IRP.MISC1.DATA_THROTTLE (R614) -/
def execIrpMisc1DataThrottle (o : EvOp .irp) (s : State) : Host.Outcome State Fault Refusal :=
  countEvent evIrpMisc1 0x80 o s

/-- IRP.RxR_AK_INSERTS (R615) -/
def execIrpRxRAkInserts (o : EvOp .irp) (s : State) : Host.Outcome State Fault Refusal :=
  countEvent evIrpRxRAkInserts 0x00 o s

/-- IRP.RxR_BL_DRS_CYCLES_FULL (R616) -/
def execIrpRxRBlDrsCyclesFull (o : EvOp .irp) (s : State) : Host.Outcome State Fault Refusal :=
  countEvent evIrpRxRBlDrsCyclesFull 0x00 o s

/-- IRP.RxR_BL_DRS_INSERTS (R617) -/
def execIrpRxRBlDrsInserts (o : EvOp .irp) (s : State) : Host.Outcome State Fault Refusal :=
  countEvent evIrpRxRBlDrsInserts 0x00 o s

/-- IRP.RxR_BL_DRS_OCCUPANCY (R618) -/
def execIrpRxRBlDrsOccupancy (o : EvOp .irp) (s : State) : Host.Outcome State Fault Refusal :=
  countEvent evIrpRxRBlDrsOccupancy 0x00 o s

/-- IRP.RxR_BL_NCB_CYCLES_FULL (R619) -/
def execIrpRxRBlNcbCyclesFull (o : EvOp .irp) (s : State) : Host.Outcome State Fault Refusal :=
  countEvent evIrpRxRBlNcbCyclesFull 0x00 o s

/-- IRP.RxR_BL_NCB_INSERTS (R620) -/
def execIrpRxRBlNcbInserts (o : EvOp .irp) (s : State) : Host.Outcome State Fault Refusal :=
  countEvent evIrpRxRBlNcbInserts 0x00 o s

/-- IRP.RxR_BL_NCB_OCCUPANCY (R621) -/
def execIrpRxRBlNcbOccupancy (o : EvOp .irp) (s : State) : Host.Outcome State Fault Refusal :=
  countEvent evIrpRxRBlNcbOccupancy 0x00 o s

/-- IRP.RxR_BL_NCS_CYCLES_FULL (R622) -/
def execIrpRxRBlNcsCyclesFull (o : EvOp .irp) (s : State) : Host.Outcome State Fault Refusal :=
  countEvent evIrpRxRBlNcsCyclesFull 0x00 o s

/-- IRP.RxR_BL_NCS_INSERTS (R623) -/
def execIrpRxRBlNcsInserts (o : EvOp .irp) (s : State) : Host.Outcome State Fault Refusal :=
  countEvent evIrpRxRBlNcsInserts 0x00 o s

/-- IRP.RxR_BL_NCS_OCCUPANCY (R624) -/
def execIrpRxRBlNcsOccupancy (o : EvOp .irp) (s : State) : Host.Outcome State Fault Refusal :=
  countEvent evIrpRxRBlNcsOccupancy 0x00 o s

/-- IRP.SNOOP_RESP.MISS (R625) -/
def execIrpSnoopRespMiss (o : EvOp .irp) (s : State) : Host.Outcome State Fault Refusal :=
  countEvent evIrpSnoopResp 0x01 o s

/-- IRP.SNOOP_RESP.HIT_I (R625) -/
def execIrpSnoopRespHitI (o : EvOp .irp) (s : State) : Host.Outcome State Fault Refusal :=
  countEvent evIrpSnoopResp 0x02 o s

/-- IRP.SNOOP_RESP.HIT_ES (R625) -/
def execIrpSnoopRespHitEs (o : EvOp .irp) (s : State) : Host.Outcome State Fault Refusal :=
  countEvent evIrpSnoopResp 0x04 o s

/-- IRP.SNOOP_RESP.HIT_M (R625) -/
def execIrpSnoopRespHitM (o : EvOp .irp) (s : State) : Host.Outcome State Fault Refusal :=
  countEvent evIrpSnoopResp 0x08 o s

/-- IRP.SNOOP_RESP.SNPCODE (R625) -/
def execIrpSnoopRespSnpcode (o : EvOp .irp) (s : State) : Host.Outcome State Fault Refusal :=
  countEvent evIrpSnoopResp 0x10 o s

/-- IRP.SNOOP_RESP.SNPDATA (R625) -/
def execIrpSnoopRespSnpdata (o : EvOp .irp) (s : State) : Host.Outcome State Fault Refusal :=
  countEvent evIrpSnoopResp 0x20 o s

/-- IRP.SNOOP_RESP.SNPINV (R625) -/
def execIrpSnoopRespSnpinv (o : EvOp .irp) (s : State) : Host.Outcome State Fault Refusal :=
  countEvent evIrpSnoopResp 0x40 o s

/-- IRP.TRANSACTIONS.READS (R626) -/
def execIrpTransactionsReads (o : EvOp .irp) (s : State) : Host.Outcome State Fault Refusal :=
  countEvent evIrpTransactions 0x01 o s

/-- IRP.TRANSACTIONS.WRITES (R626) -/
def execIrpTransactionsWrites (o : EvOp .irp) (s : State) : Host.Outcome State Fault Refusal :=
  countEvent evIrpTransactions 0x02 o s

/-- IRP.TRANSACTIONS.RD_PREF (R626) -/
def execIrpTransactionsRdPref (o : EvOp .irp) (s : State) : Host.Outcome State Fault Refusal :=
  countEvent evIrpTransactions 0x04 o s

/-- IRP.TRANSACTIONS.WR_PREF (R626) -/
def execIrpTransactionsWrPref (o : EvOp .irp) (s : State) : Host.Outcome State Fault Refusal :=
  countEvent evIrpTransactions 0x08 o s

/-- IRP.TRANSACTIONS.ATOMIC (R626) -/
def execIrpTransactionsAtomic (o : EvOp .irp) (s : State) : Host.Outcome State Fault Refusal :=
  countEvent evIrpTransactions 0x10 o s

/-- IRP.TRANSACTIONS.OTHER (R626) -/
def execIrpTransactionsOther (o : EvOp .irp) (s : State) : Host.Outcome State Fault Refusal :=
  countEvent evIrpTransactions 0x20 o s

/-- IRP.TRANSACTIONS.ORDERINGQ (R626) -/
def execIrpTransactionsOrderingq (o : EvOp .irp) (s : State) : Host.Outcome State Fault Refusal :=
  countEvent evIrpTransactions 0x40 o s

/-- IRP.TxR_AD_STALL_CREDIT_CYCLES (R627) -/
def execIrpTxRAdStallCreditCycles (o : EvOp .irp) (s : State) : Host.Outcome State Fault Refusal :=
  countEvent evIrpTxRAdStallCreditCycles 0x00 o s

/-- IRP.TxR_BL_STALL_CREDIT_CYCLES (R628) -/
def execIrpTxRBlStallCreditCycles (o : EvOp .irp) (s : State) : Host.Outcome State Fault Refusal :=
  countEvent evIrpTxRBlStallCreditCycles 0x00 o s

/-- IRP.TxR_DATA_INSERTS_NCB (R629) -/
def execIrpTxRDataInsertsNcb (o : EvOp .irp) (s : State) : Host.Outcome State Fault Refusal :=
  countEvent evIrpTxRDataInsertsNcb 0x00 o s

/-- IRP.TxR_DATA_INSERTS_NCS (R630) -/
def execIrpTxRDataInsertsNcs (o : EvOp .irp) (s : State) : Host.Outcome State Fault Refusal :=
  countEvent evIrpTxRDataInsertsNcs 0x00 o s

/-- IRP.TxR_REQUEST_OCCUPANCY (R631) -/
def execIrpTxRRequestOccupancy (o : EvOp .irp) (s : State) : Host.Outcome State Fault Refusal :=
  countEvent evIrpTxRRequestOccupancy 0x00 o s

end Sys2Proof.Machine
end

