-- ==== Sys2Proof/Machine/MsrRegisters.lean ====
section
/-! DEFINITION. The MSR rows: RDMSR and WRMSR of each register (40_global_ubox.md R200, R201). -/

namespace Sys2Proof.Machine

/-- U_MSR_PMON_GLOBAL_CTL (R27) -/
def execUMsrPmonGlobalCtl (a : MsrAccess) (s : State) : Host.Outcome State Fault Refusal :=
  accessMsr .globalCtl a s

/-- U_MSR_PMON_GLOBAL_STATUS (R28) -/
def execUMsrPmonGlobalStatus (a : MsrAccess) (s : State) : Host.Outcome State Fault Refusal :=
  accessMsr .globalStatus a s

/-- U_MSR_PMON_GLOBAL_CONFIG (R29) -/
def execUMsrPmonGlobalConfig (a : MsrAccess) (s : State) : Host.Outcome State Fault Refusal :=
  accessMsr .globalConfig a s

/-- U_MSR_PMON_UCLK_FIXED_CTL (R33) -/
def execUMsrPmonUclkFixedCtl (a : MsrAccess) (s : State) : Host.Outcome State Fault Refusal :=
  accessMsr (.fixedCtl .ubox) a s

/-- U_MSR_PMON_UCLK_FIXED_CTR (R34) -/
def execUMsrPmonUclkFixedCtr (a : MsrAccess) (s : State) : Host.Outcome State Fault Refusal :=
  accessMsr (.fixedCtr .ubox) a s

/-- U_MSR_PMON_CTL0 (R31) -/
def execUMsrPmonCtl0 (a : MsrAccess) (s : State) : Host.Outcome State Fault Refusal :=
  accessMsr (.ctl .ubox 0) a s

/-- U_MSR_PMON_CTL1 (R31) -/
def execUMsrPmonCtl1 (a : MsrAccess) (s : State) : Host.Outcome State Fault Refusal :=
  accessMsr (.ctl .ubox 1) a s

/-- U_MSR_PMON_BOX_STATUS (R30) -/
def execUMsrPmonBoxStatus (a : MsrAccess) (s : State) : Host.Outcome State Fault Refusal :=
  accessMsr (.boxStatus .ubox) a s

/-- U_MSR_PMON_CTR0 (R32) -/
def execUMsrPmonCtr0 (a : MsrAccess) (s : State) : Host.Outcome State Fault Refusal :=
  accessMsr (.ctr .ubox 0) a s

/-- U_MSR_PMON_CTR1 (R32) -/
def execUMsrPmonCtr1 (a : MsrAccess) (s : State) : Host.Outcome State Fault Refusal :=
  accessMsr (.ctr .ubox 1) a s

/-- C0_MSR_PMON_BOX_CTL (R36) -/
def execC0MsrPmonBoxCtl (a : MsrAccess) (s : State) : Host.Outcome State Fault Refusal :=
  accessMsr (.boxCtl (.cbo 0)) a s

/-- C0_MSR_PMON_CTL0 (R38) -/
def execC0MsrPmonCtl0 (a : MsrAccess) (s : State) : Host.Outcome State Fault Refusal :=
  accessMsr (.ctl (.cbo 0) 0) a s

/-- C0_MSR_PMON_CTL1 (R38) -/
def execC0MsrPmonCtl1 (a : MsrAccess) (s : State) : Host.Outcome State Fault Refusal :=
  accessMsr (.ctl (.cbo 0) 1) a s

/-- C0_MSR_PMON_CTL2 (R38) -/
def execC0MsrPmonCtl2 (a : MsrAccess) (s : State) : Host.Outcome State Fault Refusal :=
  accessMsr (.ctl (.cbo 0) 2) a s

/-- C0_MSR_PMON_CTL3 (R38) -/
def execC0MsrPmonCtl3 (a : MsrAccess) (s : State) : Host.Outcome State Fault Refusal :=
  accessMsr (.ctl (.cbo 0) 3) a s

/-- C0_MSR_PMON_BOX_FILTER0 (R40) -/
def execC0MsrPmonBoxFilter0 (a : MsrAccess) (s : State) : Host.Outcome State Fault Refusal :=
  accessMsr (.cboFilter0 0) a s

/-- C0_MSR_PMON_BOX_FILTER1 (R41) -/
def execC0MsrPmonBoxFilter1 (a : MsrAccess) (s : State) : Host.Outcome State Fault Refusal :=
  accessMsr (.cboFilter1 0) a s

/-- C0_MSR_PMON_BOX_STATUS (R37) -/
def execC0MsrPmonBoxStatus (a : MsrAccess) (s : State) : Host.Outcome State Fault Refusal :=
  accessMsr (.boxStatus (.cbo 0)) a s

/-- C0_MSR_PMON_CTR0 (R39) -/
def execC0MsrPmonCtr0 (a : MsrAccess) (s : State) : Host.Outcome State Fault Refusal :=
  accessMsr (.ctr (.cbo 0) 0) a s

/-- C0_MSR_PMON_CTR1 (R39) -/
def execC0MsrPmonCtr1 (a : MsrAccess) (s : State) : Host.Outcome State Fault Refusal :=
  accessMsr (.ctr (.cbo 0) 1) a s

/-- C0_MSR_PMON_CTR2 (R39) -/
def execC0MsrPmonCtr2 (a : MsrAccess) (s : State) : Host.Outcome State Fault Refusal :=
  accessMsr (.ctr (.cbo 0) 2) a s

/-- C0_MSR_PMON_CTR3 (R39) -/
def execC0MsrPmonCtr3 (a : MsrAccess) (s : State) : Host.Outcome State Fault Refusal :=
  accessMsr (.ctr (.cbo 0) 3) a s

/-- C1_MSR_PMON_BOX_CTL (R36) -/
def execC1MsrPmonBoxCtl (a : MsrAccess) (s : State) : Host.Outcome State Fault Refusal :=
  accessMsr (.boxCtl (.cbo 1)) a s

/-- C1_MSR_PMON_CTL0 (R38) -/
def execC1MsrPmonCtl0 (a : MsrAccess) (s : State) : Host.Outcome State Fault Refusal :=
  accessMsr (.ctl (.cbo 1) 0) a s

/-- C1_MSR_PMON_CTL1 (R38) -/
def execC1MsrPmonCtl1 (a : MsrAccess) (s : State) : Host.Outcome State Fault Refusal :=
  accessMsr (.ctl (.cbo 1) 1) a s

/-- C1_MSR_PMON_CTL2 (R38) -/
def execC1MsrPmonCtl2 (a : MsrAccess) (s : State) : Host.Outcome State Fault Refusal :=
  accessMsr (.ctl (.cbo 1) 2) a s

/-- C1_MSR_PMON_CTL3 (R38) -/
def execC1MsrPmonCtl3 (a : MsrAccess) (s : State) : Host.Outcome State Fault Refusal :=
  accessMsr (.ctl (.cbo 1) 3) a s

/-- C1_MSR_PMON_BOX_FILTER0 (R40) -/
def execC1MsrPmonBoxFilter0 (a : MsrAccess) (s : State) : Host.Outcome State Fault Refusal :=
  accessMsr (.cboFilter0 1) a s

/-- C1_MSR_PMON_BOX_FILTER1 (R41) -/
def execC1MsrPmonBoxFilter1 (a : MsrAccess) (s : State) : Host.Outcome State Fault Refusal :=
  accessMsr (.cboFilter1 1) a s

/-- C1_MSR_PMON_BOX_STATUS (R37) -/
def execC1MsrPmonBoxStatus (a : MsrAccess) (s : State) : Host.Outcome State Fault Refusal :=
  accessMsr (.boxStatus (.cbo 1)) a s

/-- C1_MSR_PMON_CTR0 (R39) -/
def execC1MsrPmonCtr0 (a : MsrAccess) (s : State) : Host.Outcome State Fault Refusal :=
  accessMsr (.ctr (.cbo 1) 0) a s

/-- C1_MSR_PMON_CTR1 (R39) -/
def execC1MsrPmonCtr1 (a : MsrAccess) (s : State) : Host.Outcome State Fault Refusal :=
  accessMsr (.ctr (.cbo 1) 1) a s

/-- C1_MSR_PMON_CTR2 (R39) -/
def execC1MsrPmonCtr2 (a : MsrAccess) (s : State) : Host.Outcome State Fault Refusal :=
  accessMsr (.ctr (.cbo 1) 2) a s

/-- C1_MSR_PMON_CTR3 (R39) -/
def execC1MsrPmonCtr3 (a : MsrAccess) (s : State) : Host.Outcome State Fault Refusal :=
  accessMsr (.ctr (.cbo 1) 3) a s

/-- C2_MSR_PMON_BOX_CTL (R36) -/
def execC2MsrPmonBoxCtl (a : MsrAccess) (s : State) : Host.Outcome State Fault Refusal :=
  accessMsr (.boxCtl (.cbo 2)) a s

/-- C2_MSR_PMON_CTL0 (R38) -/
def execC2MsrPmonCtl0 (a : MsrAccess) (s : State) : Host.Outcome State Fault Refusal :=
  accessMsr (.ctl (.cbo 2) 0) a s

/-- C2_MSR_PMON_CTL1 (R38) -/
def execC2MsrPmonCtl1 (a : MsrAccess) (s : State) : Host.Outcome State Fault Refusal :=
  accessMsr (.ctl (.cbo 2) 1) a s

/-- C2_MSR_PMON_CTL2 (R38) -/
def execC2MsrPmonCtl2 (a : MsrAccess) (s : State) : Host.Outcome State Fault Refusal :=
  accessMsr (.ctl (.cbo 2) 2) a s

/-- C2_MSR_PMON_CTL3 (R38) -/
def execC2MsrPmonCtl3 (a : MsrAccess) (s : State) : Host.Outcome State Fault Refusal :=
  accessMsr (.ctl (.cbo 2) 3) a s

/-- C2_MSR_PMON_BOX_FILTER0 (R40) -/
def execC2MsrPmonBoxFilter0 (a : MsrAccess) (s : State) : Host.Outcome State Fault Refusal :=
  accessMsr (.cboFilter0 2) a s

/-- C2_MSR_PMON_BOX_FILTER1 (R41) -/
def execC2MsrPmonBoxFilter1 (a : MsrAccess) (s : State) : Host.Outcome State Fault Refusal :=
  accessMsr (.cboFilter1 2) a s

/-- C2_MSR_PMON_BOX_STATUS (R37) -/
def execC2MsrPmonBoxStatus (a : MsrAccess) (s : State) : Host.Outcome State Fault Refusal :=
  accessMsr (.boxStatus (.cbo 2)) a s

/-- C2_MSR_PMON_CTR0 (R39) -/
def execC2MsrPmonCtr0 (a : MsrAccess) (s : State) : Host.Outcome State Fault Refusal :=
  accessMsr (.ctr (.cbo 2) 0) a s

/-- C2_MSR_PMON_CTR1 (R39) -/
def execC2MsrPmonCtr1 (a : MsrAccess) (s : State) : Host.Outcome State Fault Refusal :=
  accessMsr (.ctr (.cbo 2) 1) a s

/-- C2_MSR_PMON_CTR2 (R39) -/
def execC2MsrPmonCtr2 (a : MsrAccess) (s : State) : Host.Outcome State Fault Refusal :=
  accessMsr (.ctr (.cbo 2) 2) a s

/-- C2_MSR_PMON_CTR3 (R39) -/
def execC2MsrPmonCtr3 (a : MsrAccess) (s : State) : Host.Outcome State Fault Refusal :=
  accessMsr (.ctr (.cbo 2) 3) a s

/-- C3_MSR_PMON_BOX_CTL (R36) -/
def execC3MsrPmonBoxCtl (a : MsrAccess) (s : State) : Host.Outcome State Fault Refusal :=
  accessMsr (.boxCtl (.cbo 3)) a s

/-- C3_MSR_PMON_CTL0 (R38) -/
def execC3MsrPmonCtl0 (a : MsrAccess) (s : State) : Host.Outcome State Fault Refusal :=
  accessMsr (.ctl (.cbo 3) 0) a s

/-- C3_MSR_PMON_CTL1 (R38) -/
def execC3MsrPmonCtl1 (a : MsrAccess) (s : State) : Host.Outcome State Fault Refusal :=
  accessMsr (.ctl (.cbo 3) 1) a s

/-- C3_MSR_PMON_CTL2 (R38) -/
def execC3MsrPmonCtl2 (a : MsrAccess) (s : State) : Host.Outcome State Fault Refusal :=
  accessMsr (.ctl (.cbo 3) 2) a s

/-- C3_MSR_PMON_CTL3 (R38) -/
def execC3MsrPmonCtl3 (a : MsrAccess) (s : State) : Host.Outcome State Fault Refusal :=
  accessMsr (.ctl (.cbo 3) 3) a s

/-- C3_MSR_PMON_BOX_FILTER0 (R40) -/
def execC3MsrPmonBoxFilter0 (a : MsrAccess) (s : State) : Host.Outcome State Fault Refusal :=
  accessMsr (.cboFilter0 3) a s

/-- C3_MSR_PMON_BOX_FILTER1 (R41) -/
def execC3MsrPmonBoxFilter1 (a : MsrAccess) (s : State) : Host.Outcome State Fault Refusal :=
  accessMsr (.cboFilter1 3) a s

/-- C3_MSR_PMON_BOX_STATUS (R37) -/
def execC3MsrPmonBoxStatus (a : MsrAccess) (s : State) : Host.Outcome State Fault Refusal :=
  accessMsr (.boxStatus (.cbo 3)) a s

/-- C3_MSR_PMON_CTR0 (R39) -/
def execC3MsrPmonCtr0 (a : MsrAccess) (s : State) : Host.Outcome State Fault Refusal :=
  accessMsr (.ctr (.cbo 3) 0) a s

/-- C3_MSR_PMON_CTR1 (R39) -/
def execC3MsrPmonCtr1 (a : MsrAccess) (s : State) : Host.Outcome State Fault Refusal :=
  accessMsr (.ctr (.cbo 3) 1) a s

/-- C3_MSR_PMON_CTR2 (R39) -/
def execC3MsrPmonCtr2 (a : MsrAccess) (s : State) : Host.Outcome State Fault Refusal :=
  accessMsr (.ctr (.cbo 3) 2) a s

/-- C3_MSR_PMON_CTR3 (R39) -/
def execC3MsrPmonCtr3 (a : MsrAccess) (s : State) : Host.Outcome State Fault Refusal :=
  accessMsr (.ctr (.cbo 3) 3) a s

/-- C4_MSR_PMON_BOX_CTL (R36) -/
def execC4MsrPmonBoxCtl (a : MsrAccess) (s : State) : Host.Outcome State Fault Refusal :=
  accessMsr (.boxCtl (.cbo 4)) a s

/-- C4_MSR_PMON_CTL0 (R38) -/
def execC4MsrPmonCtl0 (a : MsrAccess) (s : State) : Host.Outcome State Fault Refusal :=
  accessMsr (.ctl (.cbo 4) 0) a s

/-- C4_MSR_PMON_CTL1 (R38) -/
def execC4MsrPmonCtl1 (a : MsrAccess) (s : State) : Host.Outcome State Fault Refusal :=
  accessMsr (.ctl (.cbo 4) 1) a s

/-- C4_MSR_PMON_CTL2 (R38) -/
def execC4MsrPmonCtl2 (a : MsrAccess) (s : State) : Host.Outcome State Fault Refusal :=
  accessMsr (.ctl (.cbo 4) 2) a s

/-- C4_MSR_PMON_CTL3 (R38) -/
def execC4MsrPmonCtl3 (a : MsrAccess) (s : State) : Host.Outcome State Fault Refusal :=
  accessMsr (.ctl (.cbo 4) 3) a s

/-- C4_MSR_PMON_BOX_FILTER0 (R40) -/
def execC4MsrPmonBoxFilter0 (a : MsrAccess) (s : State) : Host.Outcome State Fault Refusal :=
  accessMsr (.cboFilter0 4) a s

/-- C4_MSR_PMON_BOX_FILTER1 (R41) -/
def execC4MsrPmonBoxFilter1 (a : MsrAccess) (s : State) : Host.Outcome State Fault Refusal :=
  accessMsr (.cboFilter1 4) a s

/-- C4_MSR_PMON_BOX_STATUS (R37) -/
def execC4MsrPmonBoxStatus (a : MsrAccess) (s : State) : Host.Outcome State Fault Refusal :=
  accessMsr (.boxStatus (.cbo 4)) a s

/-- C4_MSR_PMON_CTR0 (R39) -/
def execC4MsrPmonCtr0 (a : MsrAccess) (s : State) : Host.Outcome State Fault Refusal :=
  accessMsr (.ctr (.cbo 4) 0) a s

/-- C4_MSR_PMON_CTR1 (R39) -/
def execC4MsrPmonCtr1 (a : MsrAccess) (s : State) : Host.Outcome State Fault Refusal :=
  accessMsr (.ctr (.cbo 4) 1) a s

/-- C4_MSR_PMON_CTR2 (R39) -/
def execC4MsrPmonCtr2 (a : MsrAccess) (s : State) : Host.Outcome State Fault Refusal :=
  accessMsr (.ctr (.cbo 4) 2) a s

/-- C4_MSR_PMON_CTR3 (R39) -/
def execC4MsrPmonCtr3 (a : MsrAccess) (s : State) : Host.Outcome State Fault Refusal :=
  accessMsr (.ctr (.cbo 4) 3) a s

/-- C5_MSR_PMON_BOX_CTL (R36) -/
def execC5MsrPmonBoxCtl (a : MsrAccess) (s : State) : Host.Outcome State Fault Refusal :=
  accessMsr (.boxCtl (.cbo 5)) a s

/-- C5_MSR_PMON_CTL0 (R38) -/
def execC5MsrPmonCtl0 (a : MsrAccess) (s : State) : Host.Outcome State Fault Refusal :=
  accessMsr (.ctl (.cbo 5) 0) a s

/-- C5_MSR_PMON_CTL1 (R38) -/
def execC5MsrPmonCtl1 (a : MsrAccess) (s : State) : Host.Outcome State Fault Refusal :=
  accessMsr (.ctl (.cbo 5) 1) a s

/-- C5_MSR_PMON_CTL2 (R38) -/
def execC5MsrPmonCtl2 (a : MsrAccess) (s : State) : Host.Outcome State Fault Refusal :=
  accessMsr (.ctl (.cbo 5) 2) a s

/-- C5_MSR_PMON_CTL3 (R38) -/
def execC5MsrPmonCtl3 (a : MsrAccess) (s : State) : Host.Outcome State Fault Refusal :=
  accessMsr (.ctl (.cbo 5) 3) a s

/-- C5_MSR_PMON_BOX_FILTER0 (R40) -/
def execC5MsrPmonBoxFilter0 (a : MsrAccess) (s : State) : Host.Outcome State Fault Refusal :=
  accessMsr (.cboFilter0 5) a s

/-- C5_MSR_PMON_BOX_FILTER1 (R41) -/
def execC5MsrPmonBoxFilter1 (a : MsrAccess) (s : State) : Host.Outcome State Fault Refusal :=
  accessMsr (.cboFilter1 5) a s

/-- C5_MSR_PMON_BOX_STATUS (R37) -/
def execC5MsrPmonBoxStatus (a : MsrAccess) (s : State) : Host.Outcome State Fault Refusal :=
  accessMsr (.boxStatus (.cbo 5)) a s

/-- C5_MSR_PMON_CTR0 (R39) -/
def execC5MsrPmonCtr0 (a : MsrAccess) (s : State) : Host.Outcome State Fault Refusal :=
  accessMsr (.ctr (.cbo 5) 0) a s

/-- C5_MSR_PMON_CTR1 (R39) -/
def execC5MsrPmonCtr1 (a : MsrAccess) (s : State) : Host.Outcome State Fault Refusal :=
  accessMsr (.ctr (.cbo 5) 1) a s

/-- C5_MSR_PMON_CTR2 (R39) -/
def execC5MsrPmonCtr2 (a : MsrAccess) (s : State) : Host.Outcome State Fault Refusal :=
  accessMsr (.ctr (.cbo 5) 2) a s

/-- C5_MSR_PMON_CTR3 (R39) -/
def execC5MsrPmonCtr3 (a : MsrAccess) (s : State) : Host.Outcome State Fault Refusal :=
  accessMsr (.ctr (.cbo 5) 3) a s

/-- C6_MSR_PMON_BOX_CTL (R36) -/
def execC6MsrPmonBoxCtl (a : MsrAccess) (s : State) : Host.Outcome State Fault Refusal :=
  accessMsr (.boxCtl (.cbo 6)) a s

/-- C6_MSR_PMON_CTL0 (R38) -/
def execC6MsrPmonCtl0 (a : MsrAccess) (s : State) : Host.Outcome State Fault Refusal :=
  accessMsr (.ctl (.cbo 6) 0) a s

/-- C6_MSR_PMON_CTL1 (R38) -/
def execC6MsrPmonCtl1 (a : MsrAccess) (s : State) : Host.Outcome State Fault Refusal :=
  accessMsr (.ctl (.cbo 6) 1) a s

/-- C6_MSR_PMON_CTL2 (R38) -/
def execC6MsrPmonCtl2 (a : MsrAccess) (s : State) : Host.Outcome State Fault Refusal :=
  accessMsr (.ctl (.cbo 6) 2) a s

/-- C6_MSR_PMON_CTL3 (R38) -/
def execC6MsrPmonCtl3 (a : MsrAccess) (s : State) : Host.Outcome State Fault Refusal :=
  accessMsr (.ctl (.cbo 6) 3) a s

/-- C6_MSR_PMON_BOX_FILTER0 (R40) -/
def execC6MsrPmonBoxFilter0 (a : MsrAccess) (s : State) : Host.Outcome State Fault Refusal :=
  accessMsr (.cboFilter0 6) a s

/-- C6_MSR_PMON_BOX_FILTER1 (R41) -/
def execC6MsrPmonBoxFilter1 (a : MsrAccess) (s : State) : Host.Outcome State Fault Refusal :=
  accessMsr (.cboFilter1 6) a s

/-- C6_MSR_PMON_BOX_STATUS (R37) -/
def execC6MsrPmonBoxStatus (a : MsrAccess) (s : State) : Host.Outcome State Fault Refusal :=
  accessMsr (.boxStatus (.cbo 6)) a s

/-- C6_MSR_PMON_CTR0 (R39) -/
def execC6MsrPmonCtr0 (a : MsrAccess) (s : State) : Host.Outcome State Fault Refusal :=
  accessMsr (.ctr (.cbo 6) 0) a s

/-- C6_MSR_PMON_CTR1 (R39) -/
def execC6MsrPmonCtr1 (a : MsrAccess) (s : State) : Host.Outcome State Fault Refusal :=
  accessMsr (.ctr (.cbo 6) 1) a s

/-- C6_MSR_PMON_CTR2 (R39) -/
def execC6MsrPmonCtr2 (a : MsrAccess) (s : State) : Host.Outcome State Fault Refusal :=
  accessMsr (.ctr (.cbo 6) 2) a s

/-- C6_MSR_PMON_CTR3 (R39) -/
def execC6MsrPmonCtr3 (a : MsrAccess) (s : State) : Host.Outcome State Fault Refusal :=
  accessMsr (.ctr (.cbo 6) 3) a s

/-- C7_MSR_PMON_BOX_CTL (R36) -/
def execC7MsrPmonBoxCtl (a : MsrAccess) (s : State) : Host.Outcome State Fault Refusal :=
  accessMsr (.boxCtl (.cbo 7)) a s

/-- C7_MSR_PMON_CTL0 (R38) -/
def execC7MsrPmonCtl0 (a : MsrAccess) (s : State) : Host.Outcome State Fault Refusal :=
  accessMsr (.ctl (.cbo 7) 0) a s

/-- C7_MSR_PMON_CTL1 (R38) -/
def execC7MsrPmonCtl1 (a : MsrAccess) (s : State) : Host.Outcome State Fault Refusal :=
  accessMsr (.ctl (.cbo 7) 1) a s

/-- C7_MSR_PMON_CTL2 (R38) -/
def execC7MsrPmonCtl2 (a : MsrAccess) (s : State) : Host.Outcome State Fault Refusal :=
  accessMsr (.ctl (.cbo 7) 2) a s

/-- C7_MSR_PMON_CTL3 (R38) -/
def execC7MsrPmonCtl3 (a : MsrAccess) (s : State) : Host.Outcome State Fault Refusal :=
  accessMsr (.ctl (.cbo 7) 3) a s

/-- C7_MSR_PMON_BOX_FILTER0 (R40) -/
def execC7MsrPmonBoxFilter0 (a : MsrAccess) (s : State) : Host.Outcome State Fault Refusal :=
  accessMsr (.cboFilter0 7) a s

/-- C7_MSR_PMON_BOX_FILTER1 (R41) -/
def execC7MsrPmonBoxFilter1 (a : MsrAccess) (s : State) : Host.Outcome State Fault Refusal :=
  accessMsr (.cboFilter1 7) a s

/-- C7_MSR_PMON_BOX_STATUS (R37) -/
def execC7MsrPmonBoxStatus (a : MsrAccess) (s : State) : Host.Outcome State Fault Refusal :=
  accessMsr (.boxStatus (.cbo 7)) a s

/-- C7_MSR_PMON_CTR0 (R39) -/
def execC7MsrPmonCtr0 (a : MsrAccess) (s : State) : Host.Outcome State Fault Refusal :=
  accessMsr (.ctr (.cbo 7) 0) a s

/-- C7_MSR_PMON_CTR1 (R39) -/
def execC7MsrPmonCtr1 (a : MsrAccess) (s : State) : Host.Outcome State Fault Refusal :=
  accessMsr (.ctr (.cbo 7) 1) a s

/-- C7_MSR_PMON_CTR2 (R39) -/
def execC7MsrPmonCtr2 (a : MsrAccess) (s : State) : Host.Outcome State Fault Refusal :=
  accessMsr (.ctr (.cbo 7) 2) a s

/-- C7_MSR_PMON_CTR3 (R39) -/
def execC7MsrPmonCtr3 (a : MsrAccess) (s : State) : Host.Outcome State Fault Refusal :=
  accessMsr (.ctr (.cbo 7) 3) a s

/-- C8_MSR_PMON_BOX_CTL (R36) -/
def execC8MsrPmonBoxCtl (a : MsrAccess) (s : State) : Host.Outcome State Fault Refusal :=
  accessMsr (.boxCtl (.cbo 8)) a s

/-- C8_MSR_PMON_CTL0 (R38) -/
def execC8MsrPmonCtl0 (a : MsrAccess) (s : State) : Host.Outcome State Fault Refusal :=
  accessMsr (.ctl (.cbo 8) 0) a s

/-- C8_MSR_PMON_CTL1 (R38) -/
def execC8MsrPmonCtl1 (a : MsrAccess) (s : State) : Host.Outcome State Fault Refusal :=
  accessMsr (.ctl (.cbo 8) 1) a s

/-- C8_MSR_PMON_CTL2 (R38) -/
def execC8MsrPmonCtl2 (a : MsrAccess) (s : State) : Host.Outcome State Fault Refusal :=
  accessMsr (.ctl (.cbo 8) 2) a s

/-- C8_MSR_PMON_CTL3 (R38) -/
def execC8MsrPmonCtl3 (a : MsrAccess) (s : State) : Host.Outcome State Fault Refusal :=
  accessMsr (.ctl (.cbo 8) 3) a s

/-- C8_MSR_PMON_BOX_FILTER0 (R40) -/
def execC8MsrPmonBoxFilter0 (a : MsrAccess) (s : State) : Host.Outcome State Fault Refusal :=
  accessMsr (.cboFilter0 8) a s

/-- C8_MSR_PMON_BOX_FILTER1 (R41) -/
def execC8MsrPmonBoxFilter1 (a : MsrAccess) (s : State) : Host.Outcome State Fault Refusal :=
  accessMsr (.cboFilter1 8) a s

/-- C8_MSR_PMON_BOX_STATUS (R37) -/
def execC8MsrPmonBoxStatus (a : MsrAccess) (s : State) : Host.Outcome State Fault Refusal :=
  accessMsr (.boxStatus (.cbo 8)) a s

/-- C8_MSR_PMON_CTR0 (R39) -/
def execC8MsrPmonCtr0 (a : MsrAccess) (s : State) : Host.Outcome State Fault Refusal :=
  accessMsr (.ctr (.cbo 8) 0) a s

/-- C8_MSR_PMON_CTR1 (R39) -/
def execC8MsrPmonCtr1 (a : MsrAccess) (s : State) : Host.Outcome State Fault Refusal :=
  accessMsr (.ctr (.cbo 8) 1) a s

/-- C8_MSR_PMON_CTR2 (R39) -/
def execC8MsrPmonCtr2 (a : MsrAccess) (s : State) : Host.Outcome State Fault Refusal :=
  accessMsr (.ctr (.cbo 8) 2) a s

/-- C8_MSR_PMON_CTR3 (R39) -/
def execC8MsrPmonCtr3 (a : MsrAccess) (s : State) : Host.Outcome State Fault Refusal :=
  accessMsr (.ctr (.cbo 8) 3) a s

/-- C9_MSR_PMON_BOX_CTL (R36) -/
def execC9MsrPmonBoxCtl (a : MsrAccess) (s : State) : Host.Outcome State Fault Refusal :=
  accessMsr (.boxCtl (.cbo 9)) a s

/-- C9_MSR_PMON_CTL0 (R38) -/
def execC9MsrPmonCtl0 (a : MsrAccess) (s : State) : Host.Outcome State Fault Refusal :=
  accessMsr (.ctl (.cbo 9) 0) a s

/-- C9_MSR_PMON_CTL1 (R38) -/
def execC9MsrPmonCtl1 (a : MsrAccess) (s : State) : Host.Outcome State Fault Refusal :=
  accessMsr (.ctl (.cbo 9) 1) a s

/-- C9_MSR_PMON_CTL2 (R38) -/
def execC9MsrPmonCtl2 (a : MsrAccess) (s : State) : Host.Outcome State Fault Refusal :=
  accessMsr (.ctl (.cbo 9) 2) a s

/-- C9_MSR_PMON_CTL3 (R38) -/
def execC9MsrPmonCtl3 (a : MsrAccess) (s : State) : Host.Outcome State Fault Refusal :=
  accessMsr (.ctl (.cbo 9) 3) a s

/-- C9_MSR_PMON_BOX_FILTER0 (R40) -/
def execC9MsrPmonBoxFilter0 (a : MsrAccess) (s : State) : Host.Outcome State Fault Refusal :=
  accessMsr (.cboFilter0 9) a s

/-- C9_MSR_PMON_BOX_FILTER1 (R41) -/
def execC9MsrPmonBoxFilter1 (a : MsrAccess) (s : State) : Host.Outcome State Fault Refusal :=
  accessMsr (.cboFilter1 9) a s

/-- C9_MSR_PMON_BOX_STATUS (R37) -/
def execC9MsrPmonBoxStatus (a : MsrAccess) (s : State) : Host.Outcome State Fault Refusal :=
  accessMsr (.boxStatus (.cbo 9)) a s

/-- C9_MSR_PMON_CTR0 (R39) -/
def execC9MsrPmonCtr0 (a : MsrAccess) (s : State) : Host.Outcome State Fault Refusal :=
  accessMsr (.ctr (.cbo 9) 0) a s

/-- C9_MSR_PMON_CTR1 (R39) -/
def execC9MsrPmonCtr1 (a : MsrAccess) (s : State) : Host.Outcome State Fault Refusal :=
  accessMsr (.ctr (.cbo 9) 1) a s

/-- C9_MSR_PMON_CTR2 (R39) -/
def execC9MsrPmonCtr2 (a : MsrAccess) (s : State) : Host.Outcome State Fault Refusal :=
  accessMsr (.ctr (.cbo 9) 2) a s

/-- C9_MSR_PMON_CTR3 (R39) -/
def execC9MsrPmonCtr3 (a : MsrAccess) (s : State) : Host.Outcome State Fault Refusal :=
  accessMsr (.ctr (.cbo 9) 3) a s

/-- C10_MSR_PMON_BOX_CTL (R36) -/
def execC10MsrPmonBoxCtl (a : MsrAccess) (s : State) : Host.Outcome State Fault Refusal :=
  accessMsr (.boxCtl (.cbo 10)) a s

/-- C10_MSR_PMON_CTL0 (R38) -/
def execC10MsrPmonCtl0 (a : MsrAccess) (s : State) : Host.Outcome State Fault Refusal :=
  accessMsr (.ctl (.cbo 10) 0) a s

/-- C10_MSR_PMON_CTL1 (R38) -/
def execC10MsrPmonCtl1 (a : MsrAccess) (s : State) : Host.Outcome State Fault Refusal :=
  accessMsr (.ctl (.cbo 10) 1) a s

/-- C10_MSR_PMON_CTL2 (R38) -/
def execC10MsrPmonCtl2 (a : MsrAccess) (s : State) : Host.Outcome State Fault Refusal :=
  accessMsr (.ctl (.cbo 10) 2) a s

/-- C10_MSR_PMON_CTL3 (R38) -/
def execC10MsrPmonCtl3 (a : MsrAccess) (s : State) : Host.Outcome State Fault Refusal :=
  accessMsr (.ctl (.cbo 10) 3) a s

/-- C10_MSR_PMON_BOX_FILTER0 (R40) -/
def execC10MsrPmonBoxFilter0 (a : MsrAccess) (s : State) : Host.Outcome State Fault Refusal :=
  accessMsr (.cboFilter0 10) a s

/-- C10_MSR_PMON_BOX_FILTER1 (R41) -/
def execC10MsrPmonBoxFilter1 (a : MsrAccess) (s : State) : Host.Outcome State Fault Refusal :=
  accessMsr (.cboFilter1 10) a s

/-- C10_MSR_PMON_BOX_STATUS (R37) -/
def execC10MsrPmonBoxStatus (a : MsrAccess) (s : State) : Host.Outcome State Fault Refusal :=
  accessMsr (.boxStatus (.cbo 10)) a s

/-- C10_MSR_PMON_CTR0 (R39) -/
def execC10MsrPmonCtr0 (a : MsrAccess) (s : State) : Host.Outcome State Fault Refusal :=
  accessMsr (.ctr (.cbo 10) 0) a s

/-- C10_MSR_PMON_CTR1 (R39) -/
def execC10MsrPmonCtr1 (a : MsrAccess) (s : State) : Host.Outcome State Fault Refusal :=
  accessMsr (.ctr (.cbo 10) 1) a s

/-- C10_MSR_PMON_CTR2 (R39) -/
def execC10MsrPmonCtr2 (a : MsrAccess) (s : State) : Host.Outcome State Fault Refusal :=
  accessMsr (.ctr (.cbo 10) 2) a s

/-- C10_MSR_PMON_CTR3 (R39) -/
def execC10MsrPmonCtr3 (a : MsrAccess) (s : State) : Host.Outcome State Fault Refusal :=
  accessMsr (.ctr (.cbo 10) 3) a s

/-- C11_MSR_PMON_BOX_CTL (R36) -/
def execC11MsrPmonBoxCtl (a : MsrAccess) (s : State) : Host.Outcome State Fault Refusal :=
  accessMsr (.boxCtl (.cbo 11)) a s

/-- C11_MSR_PMON_CTL0 (R38) -/
def execC11MsrPmonCtl0 (a : MsrAccess) (s : State) : Host.Outcome State Fault Refusal :=
  accessMsr (.ctl (.cbo 11) 0) a s

/-- C11_MSR_PMON_CTL1 (R38) -/
def execC11MsrPmonCtl1 (a : MsrAccess) (s : State) : Host.Outcome State Fault Refusal :=
  accessMsr (.ctl (.cbo 11) 1) a s

/-- C11_MSR_PMON_CTL2 (R38) -/
def execC11MsrPmonCtl2 (a : MsrAccess) (s : State) : Host.Outcome State Fault Refusal :=
  accessMsr (.ctl (.cbo 11) 2) a s

/-- C11_MSR_PMON_CTL3 (R38) -/
def execC11MsrPmonCtl3 (a : MsrAccess) (s : State) : Host.Outcome State Fault Refusal :=
  accessMsr (.ctl (.cbo 11) 3) a s

/-- C11_MSR_PMON_BOX_FILTER0 (R40) -/
def execC11MsrPmonBoxFilter0 (a : MsrAccess) (s : State) : Host.Outcome State Fault Refusal :=
  accessMsr (.cboFilter0 11) a s

/-- C11_MSR_PMON_BOX_FILTER1 (R41) -/
def execC11MsrPmonBoxFilter1 (a : MsrAccess) (s : State) : Host.Outcome State Fault Refusal :=
  accessMsr (.cboFilter1 11) a s

/-- C11_MSR_PMON_BOX_STATUS (R37) -/
def execC11MsrPmonBoxStatus (a : MsrAccess) (s : State) : Host.Outcome State Fault Refusal :=
  accessMsr (.boxStatus (.cbo 11)) a s

/-- C11_MSR_PMON_CTR0 (R39) -/
def execC11MsrPmonCtr0 (a : MsrAccess) (s : State) : Host.Outcome State Fault Refusal :=
  accessMsr (.ctr (.cbo 11) 0) a s

/-- C11_MSR_PMON_CTR1 (R39) -/
def execC11MsrPmonCtr1 (a : MsrAccess) (s : State) : Host.Outcome State Fault Refusal :=
  accessMsr (.ctr (.cbo 11) 1) a s

/-- C11_MSR_PMON_CTR2 (R39) -/
def execC11MsrPmonCtr2 (a : MsrAccess) (s : State) : Host.Outcome State Fault Refusal :=
  accessMsr (.ctr (.cbo 11) 2) a s

/-- C11_MSR_PMON_CTR3 (R39) -/
def execC11MsrPmonCtr3 (a : MsrAccess) (s : State) : Host.Outcome State Fault Refusal :=
  accessMsr (.ctr (.cbo 11) 3) a s

/-- C12_MSR_PMON_BOX_CTL (R36) -/
def execC12MsrPmonBoxCtl (a : MsrAccess) (s : State) : Host.Outcome State Fault Refusal :=
  accessMsr (.boxCtl (.cbo 12)) a s

/-- C12_MSR_PMON_CTL0 (R38) -/
def execC12MsrPmonCtl0 (a : MsrAccess) (s : State) : Host.Outcome State Fault Refusal :=
  accessMsr (.ctl (.cbo 12) 0) a s

/-- C12_MSR_PMON_CTL1 (R38) -/
def execC12MsrPmonCtl1 (a : MsrAccess) (s : State) : Host.Outcome State Fault Refusal :=
  accessMsr (.ctl (.cbo 12) 1) a s

/-- C12_MSR_PMON_CTL2 (R38) -/
def execC12MsrPmonCtl2 (a : MsrAccess) (s : State) : Host.Outcome State Fault Refusal :=
  accessMsr (.ctl (.cbo 12) 2) a s

/-- C12_MSR_PMON_CTL3 (R38) -/
def execC12MsrPmonCtl3 (a : MsrAccess) (s : State) : Host.Outcome State Fault Refusal :=
  accessMsr (.ctl (.cbo 12) 3) a s

/-- C12_MSR_PMON_BOX_FILTER0 (R40) -/
def execC12MsrPmonBoxFilter0 (a : MsrAccess) (s : State) : Host.Outcome State Fault Refusal :=
  accessMsr (.cboFilter0 12) a s

/-- C12_MSR_PMON_BOX_FILTER1 (R41) -/
def execC12MsrPmonBoxFilter1 (a : MsrAccess) (s : State) : Host.Outcome State Fault Refusal :=
  accessMsr (.cboFilter1 12) a s

/-- C12_MSR_PMON_BOX_STATUS (R37) -/
def execC12MsrPmonBoxStatus (a : MsrAccess) (s : State) : Host.Outcome State Fault Refusal :=
  accessMsr (.boxStatus (.cbo 12)) a s

/-- C12_MSR_PMON_CTR0 (R39) -/
def execC12MsrPmonCtr0 (a : MsrAccess) (s : State) : Host.Outcome State Fault Refusal :=
  accessMsr (.ctr (.cbo 12) 0) a s

/-- C12_MSR_PMON_CTR1 (R39) -/
def execC12MsrPmonCtr1 (a : MsrAccess) (s : State) : Host.Outcome State Fault Refusal :=
  accessMsr (.ctr (.cbo 12) 1) a s

/-- C12_MSR_PMON_CTR2 (R39) -/
def execC12MsrPmonCtr2 (a : MsrAccess) (s : State) : Host.Outcome State Fault Refusal :=
  accessMsr (.ctr (.cbo 12) 2) a s

/-- C12_MSR_PMON_CTR3 (R39) -/
def execC12MsrPmonCtr3 (a : MsrAccess) (s : State) : Host.Outcome State Fault Refusal :=
  accessMsr (.ctr (.cbo 12) 3) a s

/-- C13_MSR_PMON_BOX_CTL (R36) -/
def execC13MsrPmonBoxCtl (a : MsrAccess) (s : State) : Host.Outcome State Fault Refusal :=
  accessMsr (.boxCtl (.cbo 13)) a s

/-- C13_MSR_PMON_CTL0 (R38) -/
def execC13MsrPmonCtl0 (a : MsrAccess) (s : State) : Host.Outcome State Fault Refusal :=
  accessMsr (.ctl (.cbo 13) 0) a s

/-- C13_MSR_PMON_CTL1 (R38) -/
def execC13MsrPmonCtl1 (a : MsrAccess) (s : State) : Host.Outcome State Fault Refusal :=
  accessMsr (.ctl (.cbo 13) 1) a s

/-- C13_MSR_PMON_CTL2 (R38) -/
def execC13MsrPmonCtl2 (a : MsrAccess) (s : State) : Host.Outcome State Fault Refusal :=
  accessMsr (.ctl (.cbo 13) 2) a s

/-- C13_MSR_PMON_CTL3 (R38) -/
def execC13MsrPmonCtl3 (a : MsrAccess) (s : State) : Host.Outcome State Fault Refusal :=
  accessMsr (.ctl (.cbo 13) 3) a s

/-- C13_MSR_PMON_BOX_FILTER0 (R40) -/
def execC13MsrPmonBoxFilter0 (a : MsrAccess) (s : State) : Host.Outcome State Fault Refusal :=
  accessMsr (.cboFilter0 13) a s

/-- C13_MSR_PMON_BOX_FILTER1 (R41) -/
def execC13MsrPmonBoxFilter1 (a : MsrAccess) (s : State) : Host.Outcome State Fault Refusal :=
  accessMsr (.cboFilter1 13) a s

/-- C13_MSR_PMON_BOX_STATUS (R37) -/
def execC13MsrPmonBoxStatus (a : MsrAccess) (s : State) : Host.Outcome State Fault Refusal :=
  accessMsr (.boxStatus (.cbo 13)) a s

/-- C13_MSR_PMON_CTR0 (R39) -/
def execC13MsrPmonCtr0 (a : MsrAccess) (s : State) : Host.Outcome State Fault Refusal :=
  accessMsr (.ctr (.cbo 13) 0) a s

/-- C13_MSR_PMON_CTR1 (R39) -/
def execC13MsrPmonCtr1 (a : MsrAccess) (s : State) : Host.Outcome State Fault Refusal :=
  accessMsr (.ctr (.cbo 13) 1) a s

/-- C13_MSR_PMON_CTR2 (R39) -/
def execC13MsrPmonCtr2 (a : MsrAccess) (s : State) : Host.Outcome State Fault Refusal :=
  accessMsr (.ctr (.cbo 13) 2) a s

/-- C13_MSR_PMON_CTR3 (R39) -/
def execC13MsrPmonCtr3 (a : MsrAccess) (s : State) : Host.Outcome State Fault Refusal :=
  accessMsr (.ctr (.cbo 13) 3) a s

/-- C14_MSR_PMON_BOX_CTL (R36) -/
def execC14MsrPmonBoxCtl (a : MsrAccess) (s : State) : Host.Outcome State Fault Refusal :=
  accessMsr (.boxCtl (.cbo 14)) a s

/-- C14_MSR_PMON_CTL0 (R38) -/
def execC14MsrPmonCtl0 (a : MsrAccess) (s : State) : Host.Outcome State Fault Refusal :=
  accessMsr (.ctl (.cbo 14) 0) a s

/-- C14_MSR_PMON_CTL1 (R38) -/
def execC14MsrPmonCtl1 (a : MsrAccess) (s : State) : Host.Outcome State Fault Refusal :=
  accessMsr (.ctl (.cbo 14) 1) a s

/-- C14_MSR_PMON_CTL2 (R38) -/
def execC14MsrPmonCtl2 (a : MsrAccess) (s : State) : Host.Outcome State Fault Refusal :=
  accessMsr (.ctl (.cbo 14) 2) a s

/-- C14_MSR_PMON_CTL3 (R38) -/
def execC14MsrPmonCtl3 (a : MsrAccess) (s : State) : Host.Outcome State Fault Refusal :=
  accessMsr (.ctl (.cbo 14) 3) a s

/-- C14_MSR_PMON_BOX_FILTER0 (R40) -/
def execC14MsrPmonBoxFilter0 (a : MsrAccess) (s : State) : Host.Outcome State Fault Refusal :=
  accessMsr (.cboFilter0 14) a s

/-- C14_MSR_PMON_BOX_FILTER1 (R41) -/
def execC14MsrPmonBoxFilter1 (a : MsrAccess) (s : State) : Host.Outcome State Fault Refusal :=
  accessMsr (.cboFilter1 14) a s

/-- C14_MSR_PMON_BOX_STATUS (R37) -/
def execC14MsrPmonBoxStatus (a : MsrAccess) (s : State) : Host.Outcome State Fault Refusal :=
  accessMsr (.boxStatus (.cbo 14)) a s

/-- C14_MSR_PMON_CTR0 (R39) -/
def execC14MsrPmonCtr0 (a : MsrAccess) (s : State) : Host.Outcome State Fault Refusal :=
  accessMsr (.ctr (.cbo 14) 0) a s

/-- C14_MSR_PMON_CTR1 (R39) -/
def execC14MsrPmonCtr1 (a : MsrAccess) (s : State) : Host.Outcome State Fault Refusal :=
  accessMsr (.ctr (.cbo 14) 1) a s

/-- C14_MSR_PMON_CTR2 (R39) -/
def execC14MsrPmonCtr2 (a : MsrAccess) (s : State) : Host.Outcome State Fault Refusal :=
  accessMsr (.ctr (.cbo 14) 2) a s

/-- C14_MSR_PMON_CTR3 (R39) -/
def execC14MsrPmonCtr3 (a : MsrAccess) (s : State) : Host.Outcome State Fault Refusal :=
  accessMsr (.ctr (.cbo 14) 3) a s

/-- C15_MSR_PMON_BOX_CTL (R36) -/
def execC15MsrPmonBoxCtl (a : MsrAccess) (s : State) : Host.Outcome State Fault Refusal :=
  accessMsr (.boxCtl (.cbo 15)) a s

/-- C15_MSR_PMON_CTL0 (R38) -/
def execC15MsrPmonCtl0 (a : MsrAccess) (s : State) : Host.Outcome State Fault Refusal :=
  accessMsr (.ctl (.cbo 15) 0) a s

/-- C15_MSR_PMON_CTL1 (R38) -/
def execC15MsrPmonCtl1 (a : MsrAccess) (s : State) : Host.Outcome State Fault Refusal :=
  accessMsr (.ctl (.cbo 15) 1) a s

/-- C15_MSR_PMON_CTL2 (R38) -/
def execC15MsrPmonCtl2 (a : MsrAccess) (s : State) : Host.Outcome State Fault Refusal :=
  accessMsr (.ctl (.cbo 15) 2) a s

/-- C15_MSR_PMON_CTL3 (R38) -/
def execC15MsrPmonCtl3 (a : MsrAccess) (s : State) : Host.Outcome State Fault Refusal :=
  accessMsr (.ctl (.cbo 15) 3) a s

/-- C15_MSR_PMON_BOX_FILTER0 (R40) -/
def execC15MsrPmonBoxFilter0 (a : MsrAccess) (s : State) : Host.Outcome State Fault Refusal :=
  accessMsr (.cboFilter0 15) a s

/-- C15_MSR_PMON_BOX_FILTER1 (R41) -/
def execC15MsrPmonBoxFilter1 (a : MsrAccess) (s : State) : Host.Outcome State Fault Refusal :=
  accessMsr (.cboFilter1 15) a s

/-- C15_MSR_PMON_BOX_STATUS (R37) -/
def execC15MsrPmonBoxStatus (a : MsrAccess) (s : State) : Host.Outcome State Fault Refusal :=
  accessMsr (.boxStatus (.cbo 15)) a s

/-- C15_MSR_PMON_CTR0 (R39) -/
def execC15MsrPmonCtr0 (a : MsrAccess) (s : State) : Host.Outcome State Fault Refusal :=
  accessMsr (.ctr (.cbo 15) 0) a s

/-- C15_MSR_PMON_CTR1 (R39) -/
def execC15MsrPmonCtr1 (a : MsrAccess) (s : State) : Host.Outcome State Fault Refusal :=
  accessMsr (.ctr (.cbo 15) 1) a s

/-- C15_MSR_PMON_CTR2 (R39) -/
def execC15MsrPmonCtr2 (a : MsrAccess) (s : State) : Host.Outcome State Fault Refusal :=
  accessMsr (.ctr (.cbo 15) 2) a s

/-- C15_MSR_PMON_CTR3 (R39) -/
def execC15MsrPmonCtr3 (a : MsrAccess) (s : State) : Host.Outcome State Fault Refusal :=
  accessMsr (.ctr (.cbo 15) 3) a s

/-- C16_MSR_PMON_BOX_CTL (R36) -/
def execC16MsrPmonBoxCtl (a : MsrAccess) (s : State) : Host.Outcome State Fault Refusal :=
  accessMsr (.boxCtl (.cbo 16)) a s

/-- C16_MSR_PMON_CTL0 (R38) -/
def execC16MsrPmonCtl0 (a : MsrAccess) (s : State) : Host.Outcome State Fault Refusal :=
  accessMsr (.ctl (.cbo 16) 0) a s

/-- C16_MSR_PMON_CTL1 (R38) -/
def execC16MsrPmonCtl1 (a : MsrAccess) (s : State) : Host.Outcome State Fault Refusal :=
  accessMsr (.ctl (.cbo 16) 1) a s

/-- C16_MSR_PMON_CTL2 (R38) -/
def execC16MsrPmonCtl2 (a : MsrAccess) (s : State) : Host.Outcome State Fault Refusal :=
  accessMsr (.ctl (.cbo 16) 2) a s

/-- C16_MSR_PMON_CTL3 (R38) -/
def execC16MsrPmonCtl3 (a : MsrAccess) (s : State) : Host.Outcome State Fault Refusal :=
  accessMsr (.ctl (.cbo 16) 3) a s

/-- C16_MSR_PMON_BOX_FILTER0 (R40) -/
def execC16MsrPmonBoxFilter0 (a : MsrAccess) (s : State) : Host.Outcome State Fault Refusal :=
  accessMsr (.cboFilter0 16) a s

/-- C16_MSR_PMON_BOX_FILTER1 (R41) -/
def execC16MsrPmonBoxFilter1 (a : MsrAccess) (s : State) : Host.Outcome State Fault Refusal :=
  accessMsr (.cboFilter1 16) a s

/-- C16_MSR_PMON_BOX_STATUS (R37) -/
def execC16MsrPmonBoxStatus (a : MsrAccess) (s : State) : Host.Outcome State Fault Refusal :=
  accessMsr (.boxStatus (.cbo 16)) a s

/-- C16_MSR_PMON_CTR0 (R39) -/
def execC16MsrPmonCtr0 (a : MsrAccess) (s : State) : Host.Outcome State Fault Refusal :=
  accessMsr (.ctr (.cbo 16) 0) a s

/-- C16_MSR_PMON_CTR1 (R39) -/
def execC16MsrPmonCtr1 (a : MsrAccess) (s : State) : Host.Outcome State Fault Refusal :=
  accessMsr (.ctr (.cbo 16) 1) a s

/-- C16_MSR_PMON_CTR2 (R39) -/
def execC16MsrPmonCtr2 (a : MsrAccess) (s : State) : Host.Outcome State Fault Refusal :=
  accessMsr (.ctr (.cbo 16) 2) a s

/-- C16_MSR_PMON_CTR3 (R39) -/
def execC16MsrPmonCtr3 (a : MsrAccess) (s : State) : Host.Outcome State Fault Refusal :=
  accessMsr (.ctr (.cbo 16) 3) a s

/-- C17_MSR_PMON_BOX_CTL (R36) -/
def execC17MsrPmonBoxCtl (a : MsrAccess) (s : State) : Host.Outcome State Fault Refusal :=
  accessMsr (.boxCtl (.cbo 17)) a s

/-- C17_MSR_PMON_CTL0 (R38) -/
def execC17MsrPmonCtl0 (a : MsrAccess) (s : State) : Host.Outcome State Fault Refusal :=
  accessMsr (.ctl (.cbo 17) 0) a s

/-- C17_MSR_PMON_CTL1 (R38) -/
def execC17MsrPmonCtl1 (a : MsrAccess) (s : State) : Host.Outcome State Fault Refusal :=
  accessMsr (.ctl (.cbo 17) 1) a s

/-- C17_MSR_PMON_CTL2 (R38) -/
def execC17MsrPmonCtl2 (a : MsrAccess) (s : State) : Host.Outcome State Fault Refusal :=
  accessMsr (.ctl (.cbo 17) 2) a s

/-- C17_MSR_PMON_CTL3 (R38) -/
def execC17MsrPmonCtl3 (a : MsrAccess) (s : State) : Host.Outcome State Fault Refusal :=
  accessMsr (.ctl (.cbo 17) 3) a s

/-- C17_MSR_PMON_BOX_FILTER0 (R40) -/
def execC17MsrPmonBoxFilter0 (a : MsrAccess) (s : State) : Host.Outcome State Fault Refusal :=
  accessMsr (.cboFilter0 17) a s

/-- C17_MSR_PMON_BOX_FILTER1 (R41) -/
def execC17MsrPmonBoxFilter1 (a : MsrAccess) (s : State) : Host.Outcome State Fault Refusal :=
  accessMsr (.cboFilter1 17) a s

/-- C17_MSR_PMON_BOX_STATUS (R37) -/
def execC17MsrPmonBoxStatus (a : MsrAccess) (s : State) : Host.Outcome State Fault Refusal :=
  accessMsr (.boxStatus (.cbo 17)) a s

/-- C17_MSR_PMON_CTR0 (R39) -/
def execC17MsrPmonCtr0 (a : MsrAccess) (s : State) : Host.Outcome State Fault Refusal :=
  accessMsr (.ctr (.cbo 17) 0) a s

/-- C17_MSR_PMON_CTR1 (R39) -/
def execC17MsrPmonCtr1 (a : MsrAccess) (s : State) : Host.Outcome State Fault Refusal :=
  accessMsr (.ctr (.cbo 17) 1) a s

/-- C17_MSR_PMON_CTR2 (R39) -/
def execC17MsrPmonCtr2 (a : MsrAccess) (s : State) : Host.Outcome State Fault Refusal :=
  accessMsr (.ctr (.cbo 17) 2) a s

/-- C17_MSR_PMON_CTR3 (R39) -/
def execC17MsrPmonCtr3 (a : MsrAccess) (s : State) : Host.Outcome State Fault Refusal :=
  accessMsr (.ctr (.cbo 17) 3) a s

/-- S0_MSR_PMON_BOX_CTL (R43) -/
def execS0MsrPmonBoxCtl (a : MsrAccess) (s : State) : Host.Outcome State Fault Refusal :=
  accessMsr (.boxCtl (.sbo 0)) a s

/-- S0_MSR_PMON_CTL0 (R45) -/
def execS0MsrPmonCtl0 (a : MsrAccess) (s : State) : Host.Outcome State Fault Refusal :=
  accessMsr (.ctl (.sbo 0) 0) a s

/-- S0_MSR_PMON_CTL1 (R45) -/
def execS0MsrPmonCtl1 (a : MsrAccess) (s : State) : Host.Outcome State Fault Refusal :=
  accessMsr (.ctl (.sbo 0) 1) a s

/-- S0_MSR_PMON_CTL2 (R45) -/
def execS0MsrPmonCtl2 (a : MsrAccess) (s : State) : Host.Outcome State Fault Refusal :=
  accessMsr (.ctl (.sbo 0) 2) a s

/-- S0_MSR_PMON_CTL3 (R45) -/
def execS0MsrPmonCtl3 (a : MsrAccess) (s : State) : Host.Outcome State Fault Refusal :=
  accessMsr (.ctl (.sbo 0) 3) a s

/-- S0_MSR_PMON_BOX_STATUS (R44) -/
def execS0MsrPmonBoxStatus (a : MsrAccess) (s : State) : Host.Outcome State Fault Refusal :=
  accessMsr (.boxStatus (.sbo 0)) a s

/-- S0_MSR_PMON_CTR0 (R46) -/
def execS0MsrPmonCtr0 (a : MsrAccess) (s : State) : Host.Outcome State Fault Refusal :=
  accessMsr (.ctr (.sbo 0) 0) a s

/-- S0_MSR_PMON_CTR1 (R46) -/
def execS0MsrPmonCtr1 (a : MsrAccess) (s : State) : Host.Outcome State Fault Refusal :=
  accessMsr (.ctr (.sbo 0) 1) a s

/-- S0_MSR_PMON_CTR2 (R46) -/
def execS0MsrPmonCtr2 (a : MsrAccess) (s : State) : Host.Outcome State Fault Refusal :=
  accessMsr (.ctr (.sbo 0) 2) a s

/-- S0_MSR_PMON_CTR3 (R46) -/
def execS0MsrPmonCtr3 (a : MsrAccess) (s : State) : Host.Outcome State Fault Refusal :=
  accessMsr (.ctr (.sbo 0) 3) a s

/-- S1_MSR_PMON_BOX_CTL (R43) -/
def execS1MsrPmonBoxCtl (a : MsrAccess) (s : State) : Host.Outcome State Fault Refusal :=
  accessMsr (.boxCtl (.sbo 1)) a s

/-- S1_MSR_PMON_CTL0 (R45) -/
def execS1MsrPmonCtl0 (a : MsrAccess) (s : State) : Host.Outcome State Fault Refusal :=
  accessMsr (.ctl (.sbo 1) 0) a s

/-- S1_MSR_PMON_CTL1 (R45) -/
def execS1MsrPmonCtl1 (a : MsrAccess) (s : State) : Host.Outcome State Fault Refusal :=
  accessMsr (.ctl (.sbo 1) 1) a s

/-- S1_MSR_PMON_CTL2 (R45) -/
def execS1MsrPmonCtl2 (a : MsrAccess) (s : State) : Host.Outcome State Fault Refusal :=
  accessMsr (.ctl (.sbo 1) 2) a s

/-- S1_MSR_PMON_CTL3 (R45) -/
def execS1MsrPmonCtl3 (a : MsrAccess) (s : State) : Host.Outcome State Fault Refusal :=
  accessMsr (.ctl (.sbo 1) 3) a s

/-- S1_MSR_PMON_BOX_STATUS (R44) -/
def execS1MsrPmonBoxStatus (a : MsrAccess) (s : State) : Host.Outcome State Fault Refusal :=
  accessMsr (.boxStatus (.sbo 1)) a s

/-- S1_MSR_PMON_CTR0 (R46) -/
def execS1MsrPmonCtr0 (a : MsrAccess) (s : State) : Host.Outcome State Fault Refusal :=
  accessMsr (.ctr (.sbo 1) 0) a s

/-- S1_MSR_PMON_CTR1 (R46) -/
def execS1MsrPmonCtr1 (a : MsrAccess) (s : State) : Host.Outcome State Fault Refusal :=
  accessMsr (.ctr (.sbo 1) 1) a s

/-- S1_MSR_PMON_CTR2 (R46) -/
def execS1MsrPmonCtr2 (a : MsrAccess) (s : State) : Host.Outcome State Fault Refusal :=
  accessMsr (.ctr (.sbo 1) 2) a s

/-- S1_MSR_PMON_CTR3 (R46) -/
def execS1MsrPmonCtr3 (a : MsrAccess) (s : State) : Host.Outcome State Fault Refusal :=
  accessMsr (.ctr (.sbo 1) 3) a s

/-- S2_MSR_PMON_BOX_CTL (R43) -/
def execS2MsrPmonBoxCtl (a : MsrAccess) (s : State) : Host.Outcome State Fault Refusal :=
  accessMsr (.boxCtl (.sbo 2)) a s

/-- S2_MSR_PMON_CTL0 (R45) -/
def execS2MsrPmonCtl0 (a : MsrAccess) (s : State) : Host.Outcome State Fault Refusal :=
  accessMsr (.ctl (.sbo 2) 0) a s

/-- S2_MSR_PMON_CTL1 (R45) -/
def execS2MsrPmonCtl1 (a : MsrAccess) (s : State) : Host.Outcome State Fault Refusal :=
  accessMsr (.ctl (.sbo 2) 1) a s

/-- S2_MSR_PMON_CTL2 (R45) -/
def execS2MsrPmonCtl2 (a : MsrAccess) (s : State) : Host.Outcome State Fault Refusal :=
  accessMsr (.ctl (.sbo 2) 2) a s

/-- S2_MSR_PMON_CTL3 (R45) -/
def execS2MsrPmonCtl3 (a : MsrAccess) (s : State) : Host.Outcome State Fault Refusal :=
  accessMsr (.ctl (.sbo 2) 3) a s

/-- S2_MSR_PMON_BOX_STATUS (R44) -/
def execS2MsrPmonBoxStatus (a : MsrAccess) (s : State) : Host.Outcome State Fault Refusal :=
  accessMsr (.boxStatus (.sbo 2)) a s

/-- S2_MSR_PMON_CTR0 (R46) -/
def execS2MsrPmonCtr0 (a : MsrAccess) (s : State) : Host.Outcome State Fault Refusal :=
  accessMsr (.ctr (.sbo 2) 0) a s

/-- S2_MSR_PMON_CTR1 (R46) -/
def execS2MsrPmonCtr1 (a : MsrAccess) (s : State) : Host.Outcome State Fault Refusal :=
  accessMsr (.ctr (.sbo 2) 1) a s

/-- S2_MSR_PMON_CTR2 (R46) -/
def execS2MsrPmonCtr2 (a : MsrAccess) (s : State) : Host.Outcome State Fault Refusal :=
  accessMsr (.ctr (.sbo 2) 2) a s

/-- S2_MSR_PMON_CTR3 (R46) -/
def execS2MsrPmonCtr3 (a : MsrAccess) (s : State) : Host.Outcome State Fault Refusal :=
  accessMsr (.ctr (.sbo 2) 3) a s

/-- S3_MSR_PMON_BOX_CTL (R43) -/
def execS3MsrPmonBoxCtl (a : MsrAccess) (s : State) : Host.Outcome State Fault Refusal :=
  accessMsr (.boxCtl (.sbo 3)) a s

/-- S3_MSR_PMON_CTL0 (R45) -/
def execS3MsrPmonCtl0 (a : MsrAccess) (s : State) : Host.Outcome State Fault Refusal :=
  accessMsr (.ctl (.sbo 3) 0) a s

/-- S3_MSR_PMON_CTL1 (R45) -/
def execS3MsrPmonCtl1 (a : MsrAccess) (s : State) : Host.Outcome State Fault Refusal :=
  accessMsr (.ctl (.sbo 3) 1) a s

/-- S3_MSR_PMON_CTL2 (R45) -/
def execS3MsrPmonCtl2 (a : MsrAccess) (s : State) : Host.Outcome State Fault Refusal :=
  accessMsr (.ctl (.sbo 3) 2) a s

/-- S3_MSR_PMON_CTL3 (R45) -/
def execS3MsrPmonCtl3 (a : MsrAccess) (s : State) : Host.Outcome State Fault Refusal :=
  accessMsr (.ctl (.sbo 3) 3) a s

/-- S3_MSR_PMON_BOX_STATUS (R44) -/
def execS3MsrPmonBoxStatus (a : MsrAccess) (s : State) : Host.Outcome State Fault Refusal :=
  accessMsr (.boxStatus (.sbo 3)) a s

/-- S3_MSR_PMON_CTR0 (R46) -/
def execS3MsrPmonCtr0 (a : MsrAccess) (s : State) : Host.Outcome State Fault Refusal :=
  accessMsr (.ctr (.sbo 3) 0) a s

/-- S3_MSR_PMON_CTR1 (R46) -/
def execS3MsrPmonCtr1 (a : MsrAccess) (s : State) : Host.Outcome State Fault Refusal :=
  accessMsr (.ctr (.sbo 3) 1) a s

/-- S3_MSR_PMON_CTR2 (R46) -/
def execS3MsrPmonCtr2 (a : MsrAccess) (s : State) : Host.Outcome State Fault Refusal :=
  accessMsr (.ctr (.sbo 3) 2) a s

/-- S3_MSR_PMON_CTR3 (R46) -/
def execS3MsrPmonCtr3 (a : MsrAccess) (s : State) : Host.Outcome State Fault Refusal :=
  accessMsr (.ctr (.sbo 3) 3) a s

/-- PCU_MSR_PMON_BOX_CTL (R67) -/
def execPcuMsrPmonBoxCtl (a : MsrAccess) (s : State) : Host.Outcome State Fault Refusal :=
  accessMsr (.boxCtl .pcu) a s

/-- PCU_MSR_PMON_CTL0 (R69) -/
def execPcuMsrPmonCtl0 (a : MsrAccess) (s : State) : Host.Outcome State Fault Refusal :=
  accessMsr (.ctl .pcu 0) a s

/-- PCU_MSR_PMON_CTL1 (R69) -/
def execPcuMsrPmonCtl1 (a : MsrAccess) (s : State) : Host.Outcome State Fault Refusal :=
  accessMsr (.ctl .pcu 1) a s

/-- PCU_MSR_PMON_CTL2 (R69) -/
def execPcuMsrPmonCtl2 (a : MsrAccess) (s : State) : Host.Outcome State Fault Refusal :=
  accessMsr (.ctl .pcu 2) a s

/-- PCU_MSR_PMON_CTL3 (R69) -/
def execPcuMsrPmonCtl3 (a : MsrAccess) (s : State) : Host.Outcome State Fault Refusal :=
  accessMsr (.ctl .pcu 3) a s

/-- PCU_MSR_PMON_BOX_FILTER (R71) -/
def execPcuMsrPmonBoxFilter (a : MsrAccess) (s : State) : Host.Outcome State Fault Refusal :=
  accessMsr .pcuFilter a s

/-- PCU_MSR_PMON_BOX_STATUS (R68) -/
def execPcuMsrPmonBoxStatus (a : MsrAccess) (s : State) : Host.Outcome State Fault Refusal :=
  accessMsr (.boxStatus .pcu) a s

/-- PCU_MSR_PMON_CTR0 (R70) -/
def execPcuMsrPmonCtr0 (a : MsrAccess) (s : State) : Host.Outcome State Fault Refusal :=
  accessMsr (.ctr .pcu 0) a s

/-- PCU_MSR_PMON_CTR1 (R70) -/
def execPcuMsrPmonCtr1 (a : MsrAccess) (s : State) : Host.Outcome State Fault Refusal :=
  accessMsr (.ctr .pcu 1) a s

/-- PCU_MSR_PMON_CTR2 (R70) -/
def execPcuMsrPmonCtr2 (a : MsrAccess) (s : State) : Host.Outcome State Fault Refusal :=
  accessMsr (.ctr .pcu 2) a s

/-- PCU_MSR_PMON_CTR3 (R70) -/
def execPcuMsrPmonCtr3 (a : MsrAccess) (s : State) : Host.Outcome State Fault Refusal :=
  accessMsr (.ctr .pcu 3) a s

/-- PCU_MSR_CORE_CC6_CTR (R72) -/
def execPcuMsrCoreCc6Ctr (a : MsrAccess) (s : State) : Host.Outcome State Fault Refusal :=
  accessMsr (.pcuFree .cc6) a s

/-- PCU_MSR_CORE_CC3_CTR (R72) -/
def execPcuMsrCoreCc3Ctr (a : MsrAccess) (s : State) : Host.Outcome State Fault Refusal :=
  accessMsr (.pcuFree .cc3) a s

/-- PCU_MSR_CORE_PC2_CTR (R72) -/
def execPcuMsrCorePc2Ctr (a : MsrAccess) (s : State) : Host.Outcome State Fault Refusal :=
  accessMsr (.pcuFree .pc2) a s

/-- PCU_MSR_CORE_PC3_CTR (R72) -/
def execPcuMsrCorePc3Ctr (a : MsrAccess) (s : State) : Host.Outcome State Fault Refusal :=
  accessMsr (.pcuFree .pc3) a s

end Sys2Proof.Machine
end

