-- ==== Sys2Proof/Machine/PCU.lean ====
section
/-! DEFINITION. The PCU events: each row is one cycle of a counter whose control word selects it (40_global_ubox.md R215, R249). -/

namespace Sys2Proof.Machine

/-- PCU.CLOCKTICKS (R670) -/
def execPcuClockticks (o : EvOp .pcu) (s : State) : Host.Outcome State Fault Refusal :=
  countEvent evPcuClockticks 0x00 o s

/-- PCU.CORE0_TRANSITION_CYCLES (R671) -/
def execPcuCore0TransitionCycles (o : EvOp .pcu) (s : State) : Host.Outcome State Fault Refusal :=
  countEvent evPcuCore0TransitionCycles 0x00 o s

/-- PCU.CORE10_TRANSITION_CYCLES (R672) -/
def execPcuCore10TransitionCycles (o : EvOp .pcu) (s : State) : Host.Outcome State Fault Refusal :=
  countEvent evPcuCore10TransitionCycles 0x00 o s

/-- PCU.CORE11_TRANSITION_CYCLES (R673) -/
def execPcuCore11TransitionCycles (o : EvOp .pcu) (s : State) : Host.Outcome State Fault Refusal :=
  countEvent evPcuCore11TransitionCycles 0x00 o s

/-- PCU.CORE12_TRANSITION_CYCLES (R674) -/
def execPcuCore12TransitionCycles (o : EvOp .pcu) (s : State) : Host.Outcome State Fault Refusal :=
  countEvent evPcuCore12TransitionCycles 0x00 o s

/-- PCU.CORE13_TRANSITION_CYCLES (R675) -/
def execPcuCore13TransitionCycles (o : EvOp .pcu) (s : State) : Host.Outcome State Fault Refusal :=
  countEvent evPcuCore13TransitionCycles 0x00 o s

/-- PCU.CORE14_TRANSITION_CYCLES (R676) -/
def execPcuCore14TransitionCycles (o : EvOp .pcu) (s : State) : Host.Outcome State Fault Refusal :=
  countEvent evPcuCore14TransitionCycles 0x00 o s

/-- PCU.CORE15_TRANSITION_CYCLES (R677) -/
def execPcuCore15TransitionCycles (o : EvOp .pcu) (s : State) : Host.Outcome State Fault Refusal :=
  countEvent evPcuCore15TransitionCycles 0x00 o s

/-- PCU.CORE16_TRANSITION_CYCLES (R678) -/
def execPcuCore16TransitionCycles (o : EvOp .pcu) (s : State) : Host.Outcome State Fault Refusal :=
  countEvent evPcuCore16TransitionCycles 0x00 o s

/-- PCU.CORE17_TRANSITION_CYCLES (R679) -/
def execPcuCore17TransitionCycles (o : EvOp .pcu) (s : State) : Host.Outcome State Fault Refusal :=
  countEvent evPcuCore17TransitionCycles 0x00 o s

/-- PCU.CORE1_TRANSITION_CYCLES (R680) -/
def execPcuCore1TransitionCycles (o : EvOp .pcu) (s : State) : Host.Outcome State Fault Refusal :=
  countEvent evPcuCore1TransitionCycles 0x00 o s

/-- PCU.CORE2_TRANSITION_CYCLES (R681) -/
def execPcuCore2TransitionCycles (o : EvOp .pcu) (s : State) : Host.Outcome State Fault Refusal :=
  countEvent evPcuCore2TransitionCycles 0x00 o s

/-- PCU.CORE3_TRANSITION_CYCLES (R682) -/
def execPcuCore3TransitionCycles (o : EvOp .pcu) (s : State) : Host.Outcome State Fault Refusal :=
  countEvent evPcuCore3TransitionCycles 0x00 o s

/-- PCU.CORE4_TRANSITION_CYCLES (R683) -/
def execPcuCore4TransitionCycles (o : EvOp .pcu) (s : State) : Host.Outcome State Fault Refusal :=
  countEvent evPcuCore4TransitionCycles 0x00 o s

/-- PCU.CORE5_TRANSITION_CYCLES (R684) -/
def execPcuCore5TransitionCycles (o : EvOp .pcu) (s : State) : Host.Outcome State Fault Refusal :=
  countEvent evPcuCore5TransitionCycles 0x00 o s

/-- PCU.CORE6_TRANSITION_CYCLES (R685) -/
def execPcuCore6TransitionCycles (o : EvOp .pcu) (s : State) : Host.Outcome State Fault Refusal :=
  countEvent evPcuCore6TransitionCycles 0x00 o s

/-- PCU.CORE7_TRANSITION_CYCLES (R686) -/
def execPcuCore7TransitionCycles (o : EvOp .pcu) (s : State) : Host.Outcome State Fault Refusal :=
  countEvent evPcuCore7TransitionCycles 0x00 o s

/-- PCU.CORE8_TRANSITION_CYCLES (R687) -/
def execPcuCore8TransitionCycles (o : EvOp .pcu) (s : State) : Host.Outcome State Fault Refusal :=
  countEvent evPcuCore8TransitionCycles 0x00 o s

/-- PCU.CORE9_TRANSITION_CYCLES (R688) -/
def execPcuCore9TransitionCycles (o : EvOp .pcu) (s : State) : Host.Outcome State Fault Refusal :=
  countEvent evPcuCore9TransitionCycles 0x00 o s

/-- PCU.DEMOTIONS_CORE0 (R689) -/
def execPcuDemotionsCore0 (o : EvOp .pcu) (s : State) : Host.Outcome State Fault Refusal :=
  countEvent evPcuDemotionsCore0 0x00 o s

/-- PCU.DEMOTIONS_CORE1 (R690) -/
def execPcuDemotionsCore1 (o : EvOp .pcu) (s : State) : Host.Outcome State Fault Refusal :=
  countEvent evPcuDemotionsCore1 0x00 o s

/-- PCU.DEMOTIONS_CORE10 (R691) -/
def execPcuDemotionsCore10 (o : EvOp .pcu) (s : State) : Host.Outcome State Fault Refusal :=
  countEvent evPcuDemotionsCore10 0x00 o s

/-- PCU.DEMOTIONS_CORE11 (R692) -/
def execPcuDemotionsCore11 (o : EvOp .pcu) (s : State) : Host.Outcome State Fault Refusal :=
  countEvent evPcuDemotionsCore11 0x00 o s

/-- PCU.DEMOTIONS_CORE12 (R693) -/
def execPcuDemotionsCore12 (o : EvOp .pcu) (s : State) : Host.Outcome State Fault Refusal :=
  countEvent evPcuDemotionsCore12 0x00 o s

/-- PCU.DEMOTIONS_CORE13 (R694) -/
def execPcuDemotionsCore13 (o : EvOp .pcu) (s : State) : Host.Outcome State Fault Refusal :=
  countEvent evPcuDemotionsCore13 0x00 o s

/-- PCU.DEMOTIONS_CORE14 (R695) -/
def execPcuDemotionsCore14 (o : EvOp .pcu) (s : State) : Host.Outcome State Fault Refusal :=
  countEvent evPcuDemotionsCore14 0x00 o s

/-- PCU.DEMOTIONS_CORE15 (R696) -/
def execPcuDemotionsCore15 (o : EvOp .pcu) (s : State) : Host.Outcome State Fault Refusal :=
  countEvent evPcuDemotionsCore15 0x00 o s

/-- PCU.DEMOTIONS_CORE16 (R697) -/
def execPcuDemotionsCore16 (o : EvOp .pcu) (s : State) : Host.Outcome State Fault Refusal :=
  countEvent evPcuDemotionsCore16 0x00 o s

/-- PCU.DEMOTIONS_CORE17 (R698) -/
def execPcuDemotionsCore17 (o : EvOp .pcu) (s : State) : Host.Outcome State Fault Refusal :=
  countEvent evPcuDemotionsCore17 0x00 o s

/-- PCU.DEMOTIONS_CORE2 (R699) -/
def execPcuDemotionsCore2 (o : EvOp .pcu) (s : State) : Host.Outcome State Fault Refusal :=
  countEvent evPcuDemotionsCore2 0x00 o s

/-- PCU.DEMOTIONS_CORE3 (R700) -/
def execPcuDemotionsCore3 (o : EvOp .pcu) (s : State) : Host.Outcome State Fault Refusal :=
  countEvent evPcuDemotionsCore3 0x00 o s

/-- PCU.DEMOTIONS_CORE4 (R701) -/
def execPcuDemotionsCore4 (o : EvOp .pcu) (s : State) : Host.Outcome State Fault Refusal :=
  countEvent evPcuDemotionsCore4 0x00 o s

/-- PCU.DEMOTIONS_CORE5 (R702) -/
def execPcuDemotionsCore5 (o : EvOp .pcu) (s : State) : Host.Outcome State Fault Refusal :=
  countEvent evPcuDemotionsCore5 0x00 o s

/-- PCU.DEMOTIONS_CORE6 (R703) -/
def execPcuDemotionsCore6 (o : EvOp .pcu) (s : State) : Host.Outcome State Fault Refusal :=
  countEvent evPcuDemotionsCore6 0x00 o s

/-- PCU.DEMOTIONS_CORE7 (R704) -/
def execPcuDemotionsCore7 (o : EvOp .pcu) (s : State) : Host.Outcome State Fault Refusal :=
  countEvent evPcuDemotionsCore7 0x00 o s

/-- PCU.DEMOTIONS_CORE8 (R705) -/
def execPcuDemotionsCore8 (o : EvOp .pcu) (s : State) : Host.Outcome State Fault Refusal :=
  countEvent evPcuDemotionsCore8 0x00 o s

/-- PCU.DEMOTIONS_CORE9 (R706) -/
def execPcuDemotionsCore9 (o : EvOp .pcu) (s : State) : Host.Outcome State Fault Refusal :=
  countEvent evPcuDemotionsCore9 0x00 o s

/-- PCU.FREQ_BAND0_CYCLES (R707) -/
def execPcuFreqBand0Cycles (o : EvOp .pcu) (s : State) : Host.Outcome State Fault Refusal :=
  countEvent evPcuFreqBand0Cycles 0x00 o s

/-- PCU.FREQ_BAND1_CYCLES (R708) -/
def execPcuFreqBand1Cycles (o : EvOp .pcu) (s : State) : Host.Outcome State Fault Refusal :=
  countEvent evPcuFreqBand1Cycles 0x00 o s

/-- PCU.FREQ_BAND2_CYCLES (R709) -/
def execPcuFreqBand2Cycles (o : EvOp .pcu) (s : State) : Host.Outcome State Fault Refusal :=
  countEvent evPcuFreqBand2Cycles 0x00 o s

/-- PCU.FREQ_BAND3_CYCLES (R710) -/
def execPcuFreqBand3Cycles (o : EvOp .pcu) (s : State) : Host.Outcome State Fault Refusal :=
  countEvent evPcuFreqBand3Cycles 0x00 o s

/-- PCU.FREQ_MAX_LIMIT_THERMAL_CYCLES (R711) -/
def execPcuFreqMaxLimitThermalCycles (o : EvOp .pcu) (s : State) : Host.Outcome State Fault Refusal :=
  countEvent evPcuFreqMaxLimitThermalCycles 0x00 o s

/-- PCU.FREQ_MAX_OS_CYCLES (R712) -/
def execPcuFreqMaxOsCycles (o : EvOp .pcu) (s : State) : Host.Outcome State Fault Refusal :=
  countEvent evPcuFreqMaxOsCycles 0x00 o s

/-- PCU.FREQ_MAX_POWER_CYCLES (R713) -/
def execPcuFreqMaxPowerCycles (o : EvOp .pcu) (s : State) : Host.Outcome State Fault Refusal :=
  countEvent evPcuFreqMaxPowerCycles 0x00 o s

/-- PCU.FREQ_MIN_IO_P_CYCLES (R714) -/
def execPcuFreqMinIoPCycles (o : EvOp .pcu) (s : State) : Host.Outcome State Fault Refusal :=
  countEvent evPcuFreqMinIoPCycles 0x00 o s

/-- PCU.FREQ_TRANS_CYCLES (R715) -/
def execPcuFreqTransCycles (o : EvOp .pcu) (s : State) : Host.Outcome State Fault Refusal :=
  countEvent evPcuFreqTransCycles 0x00 o s

/-- PCU.MEMORY_PHASE_SHEDDING_CYCLES (R716) -/
def execPcuMemoryPhaseSheddingCycles (o : EvOp .pcu) (s : State) : Host.Outcome State Fault Refusal :=
  countEvent evPcuMemoryPhaseSheddingCycles 0x00 o s

/-- PCU.PKG_RESIDENCY_C0_CYCLES (R717) -/
def execPcuPkgResidencyC0Cycles (o : EvOp .pcu) (s : State) : Host.Outcome State Fault Refusal :=
  countEvent evPcuPkgResidencyC0Cycles 0x00 o s

/-- PCU.PKG_RESIDENCY_C1E_CYCLES (R718) -/
def execPcuPkgResidencyC1eCycles (o : EvOp .pcu) (s : State) : Host.Outcome State Fault Refusal :=
  countEvent evPcuPkgResidencyC1eCycles 0x00 o s

/-- PCU.PKG_RESIDENCY_C2E_CYCLES (R719) -/
def execPcuPkgResidencyC2eCycles (o : EvOp .pcu) (s : State) : Host.Outcome State Fault Refusal :=
  countEvent evPcuPkgResidencyC2eCycles 0x00 o s

/-- PCU.PKG_RESIDENCY_C3_CYCLES (R720) -/
def execPcuPkgResidencyC3Cycles (o : EvOp .pcu) (s : State) : Host.Outcome State Fault Refusal :=
  countEvent evPcuPkgResidencyC3Cycles 0x00 o s

/-- PCU.PKG_RESIDENCY_C6_CYCLES (R721) -/
def execPcuPkgResidencyC6Cycles (o : EvOp .pcu) (s : State) : Host.Outcome State Fault Refusal :=
  countEvent evPcuPkgResidencyC6Cycles 0x00 o s

/-- PCU.PKG_RESIDENCY_C7_CYCLES (R722) -/
def execPcuPkgResidencyC7Cycles (o : EvOp .pcu) (s : State) : Host.Outcome State Fault Refusal :=
  countEvent evPcuPkgResidencyC7Cycles 0x00 o s

/-- PCU.POWER_STATE_OCCUPANCY.CORES_C0 (R723) -/
def execPcuPowerStateOccupancyCoresC0 (o : EvOp .pcu) (s : State) : Host.Outcome State Fault Refusal :=
  countEvent evPcuPowerStateOccupancy 0x40 o s

/-- PCU.POWER_STATE_OCCUPANCY.CORES_C3 (R723) -/
def execPcuPowerStateOccupancyCoresC3 (o : EvOp .pcu) (s : State) : Host.Outcome State Fault Refusal :=
  countEvent evPcuPowerStateOccupancy 0x80 o s

/-- PCU.POWER_STATE_OCCUPANCY.CORES_C6 (R723) -/
def execPcuPowerStateOccupancyCoresC6 (o : EvOp .pcu) (s : State) : Host.Outcome State Fault Refusal :=
  countEvent evPcuPowerStateOccupancy 0xC0 o s

/-- PCU.PROCHOT_EXTERNAL_CYCLES (R724) -/
def execPcuProchotExternalCycles (o : EvOp .pcu) (s : State) : Host.Outcome State Fault Refusal :=
  countEvent evPcuProchotExternalCycles 0x00 o s

/-- PCU.PROCHOT_INTERNAL_CYCLES (R725) -/
def execPcuProchotInternalCycles (o : EvOp .pcu) (s : State) : Host.Outcome State Fault Refusal :=
  countEvent evPcuProchotInternalCycles 0x00 o s

/-- PCU.TOTAL_TRANSITION_CYCLES (R726) -/
def execPcuTotalTransitionCycles (o : EvOp .pcu) (s : State) : Host.Outcome State Fault Refusal :=
  countEvent evPcuTotalTransitionCycles 0x00 o s

/-- PCU.UFS_TRANSITIONS_RING_GV (R727) -/
def execPcuUfsTransitionsRingGv (o : EvOp .pcu) (s : State) : Host.Outcome State Fault Refusal :=
  countEvent evPcuUfsTransitionsRingGv 0x00 o s

/-- PCU.VR_HOT_CYCLES (R728) -/
def execPcuVrHotCycles (o : EvOp .pcu) (s : State) : Host.Outcome State Fault Refusal :=
  countEvent evPcuVrHotCycles 0x00 o s

end Sys2Proof.Machine
end

