-- ==== Sys2Proof/Machine/PciRegisters.lean ====
section
/-! DEFINITION. The PCICFG rows: CFGRD and CFGWR of each register (40_global_ubox.md R202, R203). -/

namespace Sys2Proof.Machine

/-- HA0_PCI_PMON_BOX_STATUS (R49) -/
def execHa0PciPmonBoxStatus (a : CfgAccess) (s : State) : Host.Outcome State Fault Refusal :=
  accessCfg (.boxStatus (.ha 0)) a s

/-- HA0_PCI_PMON_BOX_CTL (R48) -/
def execHa0PciPmonBoxCtl (a : CfgAccess) (s : State) : Host.Outcome State Fault Refusal :=
  accessCfg (.boxCtl (.ha 0)) a s

/-- HA0_PCI_PMON_CTL0 (R50) -/
def execHa0PciPmonCtl0 (a : CfgAccess) (s : State) : Host.Outcome State Fault Refusal :=
  accessCfg (.ctl (.ha 0) 0) a s

/-- HA0_PCI_PMON_CTL1 (R50) -/
def execHa0PciPmonCtl1 (a : CfgAccess) (s : State) : Host.Outcome State Fault Refusal :=
  accessCfg (.ctl (.ha 0) 1) a s

/-- HA0_PCI_PMON_CTL2 (R50) -/
def execHa0PciPmonCtl2 (a : CfgAccess) (s : State) : Host.Outcome State Fault Refusal :=
  accessCfg (.ctl (.ha 0) 2) a s

/-- HA0_PCI_PMON_CTL3 (R50) -/
def execHa0PciPmonCtl3 (a : CfgAccess) (s : State) : Host.Outcome State Fault Refusal :=
  accessCfg (.ctl (.ha 0) 3) a s

/-- HA0_PCI_PMON_CTR0 (R51) -/
def execHa0PciPmonCtr0 (a : CfgAccess) (s : State) : Host.Outcome State Fault Refusal :=
  accessCfg (.ctr (.ha 0) 0) a s

/-- HA0_PCI_PMON_CTR1 (R51) -/
def execHa0PciPmonCtr1 (a : CfgAccess) (s : State) : Host.Outcome State Fault Refusal :=
  accessCfg (.ctr (.ha 0) 1) a s

/-- HA0_PCI_PMON_CTR2 (R51) -/
def execHa0PciPmonCtr2 (a : CfgAccess) (s : State) : Host.Outcome State Fault Refusal :=
  accessCfg (.ctr (.ha 0) 2) a s

/-- HA0_PCI_PMON_CTR3 (R51) -/
def execHa0PciPmonCtr3 (a : CfgAccess) (s : State) : Host.Outcome State Fault Refusal :=
  accessCfg (.ctr (.ha 0) 3) a s

/-- HA0_PCI_PMON_BOX_OPCODEMATCH (R52) -/
def execHa0PciPmonBoxOpcodematch (a : CfgAccess) (s : State) : Host.Outcome State Fault Refusal :=
  accessCfg (.haOpcodeMatch 0) a s

/-- HA0_PCI_PMON_BOX_ADDRMATCH1 (R53) -/
def execHa0PciPmonBoxAddrmatch1 (a : CfgAccess) (s : State) : Host.Outcome State Fault Refusal :=
  accessCfg (.haAddrMatch1 0) a s

/-- HA0_PCI_PMON_BOX_ADDRMATCH0 (R54) -/
def execHa0PciPmonBoxAddrmatch0 (a : CfgAccess) (s : State) : Host.Outcome State Fault Refusal :=
  accessCfg (.haAddrMatch0 0) a s

/-- HA1_PCI_PMON_BOX_STATUS (R49) -/
def execHa1PciPmonBoxStatus (a : CfgAccess) (s : State) : Host.Outcome State Fault Refusal :=
  accessCfg (.boxStatus (.ha 1)) a s

/-- HA1_PCI_PMON_BOX_CTL (R48) -/
def execHa1PciPmonBoxCtl (a : CfgAccess) (s : State) : Host.Outcome State Fault Refusal :=
  accessCfg (.boxCtl (.ha 1)) a s

/-- HA1_PCI_PMON_CTL0 (R50) -/
def execHa1PciPmonCtl0 (a : CfgAccess) (s : State) : Host.Outcome State Fault Refusal :=
  accessCfg (.ctl (.ha 1) 0) a s

/-- HA1_PCI_PMON_CTL1 (R50) -/
def execHa1PciPmonCtl1 (a : CfgAccess) (s : State) : Host.Outcome State Fault Refusal :=
  accessCfg (.ctl (.ha 1) 1) a s

/-- HA1_PCI_PMON_CTL2 (R50) -/
def execHa1PciPmonCtl2 (a : CfgAccess) (s : State) : Host.Outcome State Fault Refusal :=
  accessCfg (.ctl (.ha 1) 2) a s

/-- HA1_PCI_PMON_CTL3 (R50) -/
def execHa1PciPmonCtl3 (a : CfgAccess) (s : State) : Host.Outcome State Fault Refusal :=
  accessCfg (.ctl (.ha 1) 3) a s

/-- HA1_PCI_PMON_CTR0 (R51) -/
def execHa1PciPmonCtr0 (a : CfgAccess) (s : State) : Host.Outcome State Fault Refusal :=
  accessCfg (.ctr (.ha 1) 0) a s

/-- HA1_PCI_PMON_CTR1 (R51) -/
def execHa1PciPmonCtr1 (a : CfgAccess) (s : State) : Host.Outcome State Fault Refusal :=
  accessCfg (.ctr (.ha 1) 1) a s

/-- HA1_PCI_PMON_CTR2 (R51) -/
def execHa1PciPmonCtr2 (a : CfgAccess) (s : State) : Host.Outcome State Fault Refusal :=
  accessCfg (.ctr (.ha 1) 2) a s

/-- HA1_PCI_PMON_CTR3 (R51) -/
def execHa1PciPmonCtr3 (a : CfgAccess) (s : State) : Host.Outcome State Fault Refusal :=
  accessCfg (.ctr (.ha 1) 3) a s

/-- HA1_PCI_PMON_BOX_OPCODEMATCH (R52) -/
def execHa1PciPmonBoxOpcodematch (a : CfgAccess) (s : State) : Host.Outcome State Fault Refusal :=
  accessCfg (.haOpcodeMatch 1) a s

/-- HA1_PCI_PMON_BOX_ADDRMATCH1 (R53) -/
def execHa1PciPmonBoxAddrmatch1 (a : CfgAccess) (s : State) : Host.Outcome State Fault Refusal :=
  accessCfg (.haAddrMatch1 1) a s

/-- HA1_PCI_PMON_BOX_ADDRMATCH0 (R54) -/
def execHa1PciPmonBoxAddrmatch0 (a : CfgAccess) (s : State) : Host.Outcome State Fault Refusal :=
  accessCfg (.haAddrMatch0 1) a s

/-- MC0_CH0_PCI_PMON_BOX_STATUS (R57) -/
def execMc0Ch0PciPmonBoxStatus (a : CfgAccess) (s : State) : Host.Outcome State Fault Refusal :=
  accessCfg (.boxStatus (.imc 0)) a s

/-- MC0_CH0_PCI_PMON_BOX_CTL (R56) -/
def execMc0Ch0PciPmonBoxCtl (a : CfgAccess) (s : State) : Host.Outcome State Fault Refusal :=
  accessCfg (.boxCtl (.imc 0)) a s

/-- MC0_CH0_PCI_PMON_CTL0 (R58) -/
def execMc0Ch0PciPmonCtl0 (a : CfgAccess) (s : State) : Host.Outcome State Fault Refusal :=
  accessCfg (.ctl (.imc 0) 0) a s

/-- MC0_CH0_PCI_PMON_CTL1 (R58) -/
def execMc0Ch0PciPmonCtl1 (a : CfgAccess) (s : State) : Host.Outcome State Fault Refusal :=
  accessCfg (.ctl (.imc 0) 1) a s

/-- MC0_CH0_PCI_PMON_CTL2 (R58) -/
def execMc0Ch0PciPmonCtl2 (a : CfgAccess) (s : State) : Host.Outcome State Fault Refusal :=
  accessCfg (.ctl (.imc 0) 2) a s

/-- MC0_CH0_PCI_PMON_CTL3 (R58) -/
def execMc0Ch0PciPmonCtl3 (a : CfgAccess) (s : State) : Host.Outcome State Fault Refusal :=
  accessCfg (.ctl (.imc 0) 3) a s

/-- MC0_CH0_PCI_PMON_CTR0 (R60) -/
def execMc0Ch0PciPmonCtr0 (a : CfgAccess) (s : State) : Host.Outcome State Fault Refusal :=
  accessCfg (.ctr (.imc 0) 0) a s

/-- MC0_CH0_PCI_PMON_CTR1 (R60) -/
def execMc0Ch0PciPmonCtr1 (a : CfgAccess) (s : State) : Host.Outcome State Fault Refusal :=
  accessCfg (.ctr (.imc 0) 1) a s

/-- MC0_CH0_PCI_PMON_CTR2 (R60) -/
def execMc0Ch0PciPmonCtr2 (a : CfgAccess) (s : State) : Host.Outcome State Fault Refusal :=
  accessCfg (.ctr (.imc 0) 2) a s

/-- MC0_CH0_PCI_PMON_CTR3 (R60) -/
def execMc0Ch0PciPmonCtr3 (a : CfgAccess) (s : State) : Host.Outcome State Fault Refusal :=
  accessCfg (.ctr (.imc 0) 3) a s

/-- MC0_CH0_PCI_PMON_FIXED_CTL (R59) -/
def execMc0Ch0PciPmonFixedCtl (a : CfgAccess) (s : State) : Host.Outcome State Fault Refusal :=
  accessCfg (.fixedCtl (.imc 0)) a s

/-- MC0_CH0_PCI_PMON_FIXED_CTR (R60) -/
def execMc0Ch0PciPmonFixedCtr (a : CfgAccess) (s : State) : Host.Outcome State Fault Refusal :=
  accessCfg (.fixedCtr (.imc 0)) a s

/-- MC0_CH1_PCI_PMON_BOX_STATUS (R57) -/
def execMc0Ch1PciPmonBoxStatus (a : CfgAccess) (s : State) : Host.Outcome State Fault Refusal :=
  accessCfg (.boxStatus (.imc 1)) a s

/-- MC0_CH1_PCI_PMON_BOX_CTL (R56) -/
def execMc0Ch1PciPmonBoxCtl (a : CfgAccess) (s : State) : Host.Outcome State Fault Refusal :=
  accessCfg (.boxCtl (.imc 1)) a s

/-- MC0_CH1_PCI_PMON_CTL0 (R58) -/
def execMc0Ch1PciPmonCtl0 (a : CfgAccess) (s : State) : Host.Outcome State Fault Refusal :=
  accessCfg (.ctl (.imc 1) 0) a s

/-- MC0_CH1_PCI_PMON_CTL1 (R58) -/
def execMc0Ch1PciPmonCtl1 (a : CfgAccess) (s : State) : Host.Outcome State Fault Refusal :=
  accessCfg (.ctl (.imc 1) 1) a s

/-- MC0_CH1_PCI_PMON_CTL2 (R58) -/
def execMc0Ch1PciPmonCtl2 (a : CfgAccess) (s : State) : Host.Outcome State Fault Refusal :=
  accessCfg (.ctl (.imc 1) 2) a s

/-- MC0_CH1_PCI_PMON_CTL3 (R58) -/
def execMc0Ch1PciPmonCtl3 (a : CfgAccess) (s : State) : Host.Outcome State Fault Refusal :=
  accessCfg (.ctl (.imc 1) 3) a s

/-- MC0_CH1_PCI_PMON_CTR0 (R60) -/
def execMc0Ch1PciPmonCtr0 (a : CfgAccess) (s : State) : Host.Outcome State Fault Refusal :=
  accessCfg (.ctr (.imc 1) 0) a s

/-- MC0_CH1_PCI_PMON_CTR1 (R60) -/
def execMc0Ch1PciPmonCtr1 (a : CfgAccess) (s : State) : Host.Outcome State Fault Refusal :=
  accessCfg (.ctr (.imc 1) 1) a s

/-- MC0_CH1_PCI_PMON_CTR2 (R60) -/
def execMc0Ch1PciPmonCtr2 (a : CfgAccess) (s : State) : Host.Outcome State Fault Refusal :=
  accessCfg (.ctr (.imc 1) 2) a s

/-- MC0_CH1_PCI_PMON_CTR3 (R60) -/
def execMc0Ch1PciPmonCtr3 (a : CfgAccess) (s : State) : Host.Outcome State Fault Refusal :=
  accessCfg (.ctr (.imc 1) 3) a s

/-- MC0_CH1_PCI_PMON_FIXED_CTL (R59) -/
def execMc0Ch1PciPmonFixedCtl (a : CfgAccess) (s : State) : Host.Outcome State Fault Refusal :=
  accessCfg (.fixedCtl (.imc 1)) a s

/-- MC0_CH1_PCI_PMON_FIXED_CTR (R60) -/
def execMc0Ch1PciPmonFixedCtr (a : CfgAccess) (s : State) : Host.Outcome State Fault Refusal :=
  accessCfg (.fixedCtr (.imc 1)) a s

/-- MC0_CH2_PCI_PMON_BOX_STATUS (R57) -/
def execMc0Ch2PciPmonBoxStatus (a : CfgAccess) (s : State) : Host.Outcome State Fault Refusal :=
  accessCfg (.boxStatus (.imc 2)) a s

/-- MC0_CH2_PCI_PMON_BOX_CTL (R56) -/
def execMc0Ch2PciPmonBoxCtl (a : CfgAccess) (s : State) : Host.Outcome State Fault Refusal :=
  accessCfg (.boxCtl (.imc 2)) a s

/-- MC0_CH2_PCI_PMON_CTL0 (R58) -/
def execMc0Ch2PciPmonCtl0 (a : CfgAccess) (s : State) : Host.Outcome State Fault Refusal :=
  accessCfg (.ctl (.imc 2) 0) a s

/-- MC0_CH2_PCI_PMON_CTL1 (R58) -/
def execMc0Ch2PciPmonCtl1 (a : CfgAccess) (s : State) : Host.Outcome State Fault Refusal :=
  accessCfg (.ctl (.imc 2) 1) a s

/-- MC0_CH2_PCI_PMON_CTL2 (R58) -/
def execMc0Ch2PciPmonCtl2 (a : CfgAccess) (s : State) : Host.Outcome State Fault Refusal :=
  accessCfg (.ctl (.imc 2) 2) a s

/-- MC0_CH2_PCI_PMON_CTL3 (R58) -/
def execMc0Ch2PciPmonCtl3 (a : CfgAccess) (s : State) : Host.Outcome State Fault Refusal :=
  accessCfg (.ctl (.imc 2) 3) a s

/-- MC0_CH2_PCI_PMON_CTR0 (R60) -/
def execMc0Ch2PciPmonCtr0 (a : CfgAccess) (s : State) : Host.Outcome State Fault Refusal :=
  accessCfg (.ctr (.imc 2) 0) a s

/-- MC0_CH2_PCI_PMON_CTR1 (R60) -/
def execMc0Ch2PciPmonCtr1 (a : CfgAccess) (s : State) : Host.Outcome State Fault Refusal :=
  accessCfg (.ctr (.imc 2) 1) a s

/-- MC0_CH2_PCI_PMON_CTR2 (R60) -/
def execMc0Ch2PciPmonCtr2 (a : CfgAccess) (s : State) : Host.Outcome State Fault Refusal :=
  accessCfg (.ctr (.imc 2) 2) a s

/-- MC0_CH2_PCI_PMON_CTR3 (R60) -/
def execMc0Ch2PciPmonCtr3 (a : CfgAccess) (s : State) : Host.Outcome State Fault Refusal :=
  accessCfg (.ctr (.imc 2) 3) a s

/-- MC0_CH2_PCI_PMON_FIXED_CTL (R59) -/
def execMc0Ch2PciPmonFixedCtl (a : CfgAccess) (s : State) : Host.Outcome State Fault Refusal :=
  accessCfg (.fixedCtl (.imc 2)) a s

/-- MC0_CH2_PCI_PMON_FIXED_CTR (R60) -/
def execMc0Ch2PciPmonFixedCtr (a : CfgAccess) (s : State) : Host.Outcome State Fault Refusal :=
  accessCfg (.fixedCtr (.imc 2)) a s

/-- MC0_CH3_PCI_PMON_BOX_STATUS (R57) -/
def execMc0Ch3PciPmonBoxStatus (a : CfgAccess) (s : State) : Host.Outcome State Fault Refusal :=
  accessCfg (.boxStatus (.imc 3)) a s

/-- MC0_CH3_PCI_PMON_BOX_CTL (R56) -/
def execMc0Ch3PciPmonBoxCtl (a : CfgAccess) (s : State) : Host.Outcome State Fault Refusal :=
  accessCfg (.boxCtl (.imc 3)) a s

/-- MC0_CH3_PCI_PMON_CTL0 (R58) -/
def execMc0Ch3PciPmonCtl0 (a : CfgAccess) (s : State) : Host.Outcome State Fault Refusal :=
  accessCfg (.ctl (.imc 3) 0) a s

/-- MC0_CH3_PCI_PMON_CTL1 (R58) -/
def execMc0Ch3PciPmonCtl1 (a : CfgAccess) (s : State) : Host.Outcome State Fault Refusal :=
  accessCfg (.ctl (.imc 3) 1) a s

/-- MC0_CH3_PCI_PMON_CTL2 (R58) -/
def execMc0Ch3PciPmonCtl2 (a : CfgAccess) (s : State) : Host.Outcome State Fault Refusal :=
  accessCfg (.ctl (.imc 3) 2) a s

/-- MC0_CH3_PCI_PMON_CTL3 (R58) -/
def execMc0Ch3PciPmonCtl3 (a : CfgAccess) (s : State) : Host.Outcome State Fault Refusal :=
  accessCfg (.ctl (.imc 3) 3) a s

/-- MC0_CH3_PCI_PMON_CTR0 (R60) -/
def execMc0Ch3PciPmonCtr0 (a : CfgAccess) (s : State) : Host.Outcome State Fault Refusal :=
  accessCfg (.ctr (.imc 3) 0) a s

/-- MC0_CH3_PCI_PMON_CTR1 (R60) -/
def execMc0Ch3PciPmonCtr1 (a : CfgAccess) (s : State) : Host.Outcome State Fault Refusal :=
  accessCfg (.ctr (.imc 3) 1) a s

/-- MC0_CH3_PCI_PMON_CTR2 (R60) -/
def execMc0Ch3PciPmonCtr2 (a : CfgAccess) (s : State) : Host.Outcome State Fault Refusal :=
  accessCfg (.ctr (.imc 3) 2) a s

/-- MC0_CH3_PCI_PMON_CTR3 (R60) -/
def execMc0Ch3PciPmonCtr3 (a : CfgAccess) (s : State) : Host.Outcome State Fault Refusal :=
  accessCfg (.ctr (.imc 3) 3) a s

/-- MC0_CH3_PCI_PMON_FIXED_CTL (R59) -/
def execMc0Ch3PciPmonFixedCtl (a : CfgAccess) (s : State) : Host.Outcome State Fault Refusal :=
  accessCfg (.fixedCtl (.imc 3)) a s

/-- MC0_CH3_PCI_PMON_FIXED_CTR (R60) -/
def execMc0Ch3PciPmonFixedCtr (a : CfgAccess) (s : State) : Host.Outcome State Fault Refusal :=
  accessCfg (.fixedCtr (.imc 3)) a s

/-- MC1_CH0_PCI_PMON_BOX_STATUS (R57) -/
def execMc1Ch0PciPmonBoxStatus (a : CfgAccess) (s : State) : Host.Outcome State Fault Refusal :=
  accessCfg (.boxStatus (.imc 4)) a s

/-- MC1_CH0_PCI_PMON_BOX_CTL (R56) -/
def execMc1Ch0PciPmonBoxCtl (a : CfgAccess) (s : State) : Host.Outcome State Fault Refusal :=
  accessCfg (.boxCtl (.imc 4)) a s

/-- MC1_CH0_PCI_PMON_CTL0 (R58) -/
def execMc1Ch0PciPmonCtl0 (a : CfgAccess) (s : State) : Host.Outcome State Fault Refusal :=
  accessCfg (.ctl (.imc 4) 0) a s

/-- MC1_CH0_PCI_PMON_CTL1 (R58) -/
def execMc1Ch0PciPmonCtl1 (a : CfgAccess) (s : State) : Host.Outcome State Fault Refusal :=
  accessCfg (.ctl (.imc 4) 1) a s

/-- MC1_CH0_PCI_PMON_CTL2 (R58) -/
def execMc1Ch0PciPmonCtl2 (a : CfgAccess) (s : State) : Host.Outcome State Fault Refusal :=
  accessCfg (.ctl (.imc 4) 2) a s

/-- MC1_CH0_PCI_PMON_CTL3 (R58) -/
def execMc1Ch0PciPmonCtl3 (a : CfgAccess) (s : State) : Host.Outcome State Fault Refusal :=
  accessCfg (.ctl (.imc 4) 3) a s

/-- MC1_CH0_PCI_PMON_CTR0 (R60) -/
def execMc1Ch0PciPmonCtr0 (a : CfgAccess) (s : State) : Host.Outcome State Fault Refusal :=
  accessCfg (.ctr (.imc 4) 0) a s

/-- MC1_CH0_PCI_PMON_CTR1 (R60) -/
def execMc1Ch0PciPmonCtr1 (a : CfgAccess) (s : State) : Host.Outcome State Fault Refusal :=
  accessCfg (.ctr (.imc 4) 1) a s

/-- MC1_CH0_PCI_PMON_CTR2 (R60) -/
def execMc1Ch0PciPmonCtr2 (a : CfgAccess) (s : State) : Host.Outcome State Fault Refusal :=
  accessCfg (.ctr (.imc 4) 2) a s

/-- MC1_CH0_PCI_PMON_CTR3 (R60) -/
def execMc1Ch0PciPmonCtr3 (a : CfgAccess) (s : State) : Host.Outcome State Fault Refusal :=
  accessCfg (.ctr (.imc 4) 3) a s

/-- MC1_CH0_PCI_PMON_FIXED_CTL (R59) -/
def execMc1Ch0PciPmonFixedCtl (a : CfgAccess) (s : State) : Host.Outcome State Fault Refusal :=
  accessCfg (.fixedCtl (.imc 4)) a s

/-- MC1_CH0_PCI_PMON_FIXED_CTR (R60) -/
def execMc1Ch0PciPmonFixedCtr (a : CfgAccess) (s : State) : Host.Outcome State Fault Refusal :=
  accessCfg (.fixedCtr (.imc 4)) a s

/-- MC1_CH1_PCI_PMON_BOX_STATUS (R57) -/
def execMc1Ch1PciPmonBoxStatus (a : CfgAccess) (s : State) : Host.Outcome State Fault Refusal :=
  accessCfg (.boxStatus (.imc 5)) a s

/-- MC1_CH1_PCI_PMON_BOX_CTL (R56) -/
def execMc1Ch1PciPmonBoxCtl (a : CfgAccess) (s : State) : Host.Outcome State Fault Refusal :=
  accessCfg (.boxCtl (.imc 5)) a s

/-- MC1_CH1_PCI_PMON_CTL0 (R58) -/
def execMc1Ch1PciPmonCtl0 (a : CfgAccess) (s : State) : Host.Outcome State Fault Refusal :=
  accessCfg (.ctl (.imc 5) 0) a s

/-- MC1_CH1_PCI_PMON_CTL1 (R58) -/
def execMc1Ch1PciPmonCtl1 (a : CfgAccess) (s : State) : Host.Outcome State Fault Refusal :=
  accessCfg (.ctl (.imc 5) 1) a s

/-- MC1_CH1_PCI_PMON_CTL2 (R58) -/
def execMc1Ch1PciPmonCtl2 (a : CfgAccess) (s : State) : Host.Outcome State Fault Refusal :=
  accessCfg (.ctl (.imc 5) 2) a s

/-- MC1_CH1_PCI_PMON_CTL3 (R58) -/
def execMc1Ch1PciPmonCtl3 (a : CfgAccess) (s : State) : Host.Outcome State Fault Refusal :=
  accessCfg (.ctl (.imc 5) 3) a s

/-- MC1_CH1_PCI_PMON_CTR0 (R60) -/
def execMc1Ch1PciPmonCtr0 (a : CfgAccess) (s : State) : Host.Outcome State Fault Refusal :=
  accessCfg (.ctr (.imc 5) 0) a s

/-- MC1_CH1_PCI_PMON_CTR1 (R60) -/
def execMc1Ch1PciPmonCtr1 (a : CfgAccess) (s : State) : Host.Outcome State Fault Refusal :=
  accessCfg (.ctr (.imc 5) 1) a s

/-- MC1_CH1_PCI_PMON_CTR2 (R60) -/
def execMc1Ch1PciPmonCtr2 (a : CfgAccess) (s : State) : Host.Outcome State Fault Refusal :=
  accessCfg (.ctr (.imc 5) 2) a s

/-- MC1_CH1_PCI_PMON_CTR3 (R60) -/
def execMc1Ch1PciPmonCtr3 (a : CfgAccess) (s : State) : Host.Outcome State Fault Refusal :=
  accessCfg (.ctr (.imc 5) 3) a s

/-- MC1_CH1_PCI_PMON_FIXED_CTL (R59) -/
def execMc1Ch1PciPmonFixedCtl (a : CfgAccess) (s : State) : Host.Outcome State Fault Refusal :=
  accessCfg (.fixedCtl (.imc 5)) a s

/-- MC1_CH1_PCI_PMON_FIXED_CTR (R60) -/
def execMc1Ch1PciPmonFixedCtr (a : CfgAccess) (s : State) : Host.Outcome State Fault Refusal :=
  accessCfg (.fixedCtr (.imc 5)) a s

/-- MC1_CH2_PCI_PMON_BOX_STATUS (R57) -/
def execMc1Ch2PciPmonBoxStatus (a : CfgAccess) (s : State) : Host.Outcome State Fault Refusal :=
  accessCfg (.boxStatus (.imc 6)) a s

/-- MC1_CH2_PCI_PMON_BOX_CTL (R56) -/
def execMc1Ch2PciPmonBoxCtl (a : CfgAccess) (s : State) : Host.Outcome State Fault Refusal :=
  accessCfg (.boxCtl (.imc 6)) a s

/-- MC1_CH2_PCI_PMON_CTL0 (R58) -/
def execMc1Ch2PciPmonCtl0 (a : CfgAccess) (s : State) : Host.Outcome State Fault Refusal :=
  accessCfg (.ctl (.imc 6) 0) a s

/-- MC1_CH2_PCI_PMON_CTL1 (R58) -/
def execMc1Ch2PciPmonCtl1 (a : CfgAccess) (s : State) : Host.Outcome State Fault Refusal :=
  accessCfg (.ctl (.imc 6) 1) a s

/-- MC1_CH2_PCI_PMON_CTL2 (R58) -/
def execMc1Ch2PciPmonCtl2 (a : CfgAccess) (s : State) : Host.Outcome State Fault Refusal :=
  accessCfg (.ctl (.imc 6) 2) a s

/-- MC1_CH2_PCI_PMON_CTL3 (R58) -/
def execMc1Ch2PciPmonCtl3 (a : CfgAccess) (s : State) : Host.Outcome State Fault Refusal :=
  accessCfg (.ctl (.imc 6) 3) a s

/-- MC1_CH2_PCI_PMON_CTR0 (R60) -/
def execMc1Ch2PciPmonCtr0 (a : CfgAccess) (s : State) : Host.Outcome State Fault Refusal :=
  accessCfg (.ctr (.imc 6) 0) a s

/-- MC1_CH2_PCI_PMON_CTR1 (R60) -/
def execMc1Ch2PciPmonCtr1 (a : CfgAccess) (s : State) : Host.Outcome State Fault Refusal :=
  accessCfg (.ctr (.imc 6) 1) a s

/-- MC1_CH2_PCI_PMON_CTR2 (R60) -/
def execMc1Ch2PciPmonCtr2 (a : CfgAccess) (s : State) : Host.Outcome State Fault Refusal :=
  accessCfg (.ctr (.imc 6) 2) a s

/-- MC1_CH2_PCI_PMON_CTR3 (R60) -/
def execMc1Ch2PciPmonCtr3 (a : CfgAccess) (s : State) : Host.Outcome State Fault Refusal :=
  accessCfg (.ctr (.imc 6) 3) a s

/-- MC1_CH2_PCI_PMON_FIXED_CTL (R59) -/
def execMc1Ch2PciPmonFixedCtl (a : CfgAccess) (s : State) : Host.Outcome State Fault Refusal :=
  accessCfg (.fixedCtl (.imc 6)) a s

/-- MC1_CH2_PCI_PMON_FIXED_CTR (R60) -/
def execMc1Ch2PciPmonFixedCtr (a : CfgAccess) (s : State) : Host.Outcome State Fault Refusal :=
  accessCfg (.fixedCtr (.imc 6)) a s

/-- MC1_CH3_PCI_PMON_BOX_STATUS (R57) -/
def execMc1Ch3PciPmonBoxStatus (a : CfgAccess) (s : State) : Host.Outcome State Fault Refusal :=
  accessCfg (.boxStatus (.imc 7)) a s

/-- MC1_CH3_PCI_PMON_BOX_CTL (R56) -/
def execMc1Ch3PciPmonBoxCtl (a : CfgAccess) (s : State) : Host.Outcome State Fault Refusal :=
  accessCfg (.boxCtl (.imc 7)) a s

/-- MC1_CH3_PCI_PMON_CTL0 (R58) -/
def execMc1Ch3PciPmonCtl0 (a : CfgAccess) (s : State) : Host.Outcome State Fault Refusal :=
  accessCfg (.ctl (.imc 7) 0) a s

/-- MC1_CH3_PCI_PMON_CTL1 (R58) -/
def execMc1Ch3PciPmonCtl1 (a : CfgAccess) (s : State) : Host.Outcome State Fault Refusal :=
  accessCfg (.ctl (.imc 7) 1) a s

/-- MC1_CH3_PCI_PMON_CTL2 (R58) -/
def execMc1Ch3PciPmonCtl2 (a : CfgAccess) (s : State) : Host.Outcome State Fault Refusal :=
  accessCfg (.ctl (.imc 7) 2) a s

/-- MC1_CH3_PCI_PMON_CTL3 (R58) -/
def execMc1Ch3PciPmonCtl3 (a : CfgAccess) (s : State) : Host.Outcome State Fault Refusal :=
  accessCfg (.ctl (.imc 7) 3) a s

/-- MC1_CH3_PCI_PMON_CTR0 (R60) -/
def execMc1Ch3PciPmonCtr0 (a : CfgAccess) (s : State) : Host.Outcome State Fault Refusal :=
  accessCfg (.ctr (.imc 7) 0) a s

/-- MC1_CH3_PCI_PMON_CTR1 (R60) -/
def execMc1Ch3PciPmonCtr1 (a : CfgAccess) (s : State) : Host.Outcome State Fault Refusal :=
  accessCfg (.ctr (.imc 7) 1) a s

/-- MC1_CH3_PCI_PMON_CTR2 (R60) -/
def execMc1Ch3PciPmonCtr2 (a : CfgAccess) (s : State) : Host.Outcome State Fault Refusal :=
  accessCfg (.ctr (.imc 7) 2) a s

/-- MC1_CH3_PCI_PMON_CTR3 (R60) -/
def execMc1Ch3PciPmonCtr3 (a : CfgAccess) (s : State) : Host.Outcome State Fault Refusal :=
  accessCfg (.ctr (.imc 7) 3) a s

/-- MC1_CH3_PCI_PMON_FIXED_CTL (R59) -/
def execMc1Ch3PciPmonFixedCtl (a : CfgAccess) (s : State) : Host.Outcome State Fault Refusal :=
  accessCfg (.fixedCtl (.imc 7)) a s

/-- MC1_CH3_PCI_PMON_FIXED_CTR (R60) -/
def execMc1Ch3PciPmonFixedCtr (a : CfgAccess) (s : State) : Host.Outcome State Fault Refusal :=
  accessCfg (.fixedCtr (.imc 7)) a s

/-- IRP_PCI_PMON_BOX_STATUS (R63) -/
def execIrpPciPmonBoxStatus (a : CfgAccess) (s : State) : Host.Outcome State Fault Refusal :=
  accessCfg (.boxStatus .irp) a s

/-- IRP_PCI_PMON_BOX_CTL (R62) -/
def execIrpPciPmonBoxCtl (a : CfgAccess) (s : State) : Host.Outcome State Fault Refusal :=
  accessCfg (.boxCtl .irp) a s

/-- IRP0_PCI_PMON_CTL0 (R64) -/
def execIrp0PciPmonCtl0 (a : CfgAccess) (s : State) : Host.Outcome State Fault Refusal :=
  accessCfg (.ctl .irp 0) a s

/-- IRP0_PCI_PMON_CTL1 (R64) -/
def execIrp0PciPmonCtl1 (a : CfgAccess) (s : State) : Host.Outcome State Fault Refusal :=
  accessCfg (.ctl .irp 1) a s

/-- IRP1_PCI_PMON_CTL0 (R64) -/
def execIrp1PciPmonCtl0 (a : CfgAccess) (s : State) : Host.Outcome State Fault Refusal :=
  accessCfg (.ctl .irp 2) a s

/-- IRP1_PCI_PMON_CTL1 (R64) -/
def execIrp1PciPmonCtl1 (a : CfgAccess) (s : State) : Host.Outcome State Fault Refusal :=
  accessCfg (.ctl .irp 3) a s

/-- IRP0_PCI_PMON_CTR0 (R65) -/
def execIrp0PciPmonCtr0 (a : CfgAccess) (s : State) : Host.Outcome State Fault Refusal :=
  accessCfg (.ctr .irp 0) a s

/-- IRP0_PCI_PMON_CTR1 (R65) -/
def execIrp0PciPmonCtr1 (a : CfgAccess) (s : State) : Host.Outcome State Fault Refusal :=
  accessCfg (.ctr .irp 1) a s

/-- IRP1_PCI_PMON_CTR0 (R65) -/
def execIrp1PciPmonCtr0 (a : CfgAccess) (s : State) : Host.Outcome State Fault Refusal :=
  accessCfg (.ctr .irp 2) a s

/-- IRP1_PCI_PMON_CTR1 (R65) -/
def execIrp1PciPmonCtr1 (a : CfgAccess) (s : State) : Host.Outcome State Fault Refusal :=
  accessCfg (.ctr .irp 3) a s

/-- Q_P0_PCI_PMON_BOX_STATUS (R75) -/
def execQP0PciPmonBoxStatus (a : CfgAccess) (s : State) : Host.Outcome State Fault Refusal :=
  accessCfg (.boxStatus (.qpi 0)) a s

/-- Q_P0_PCI_PMON_BOX_CTL (R74) -/
def execQP0PciPmonBoxCtl (a : CfgAccess) (s : State) : Host.Outcome State Fault Refusal :=
  accessCfg (.boxCtl (.qpi 0)) a s

/-- Q_P0_PCI_PMON_CTL0 (R76) -/
def execQP0PciPmonCtl0 (a : CfgAccess) (s : State) : Host.Outcome State Fault Refusal :=
  accessCfg (.ctl (.qpi 0) 0) a s

/-- Q_P0_PCI_PMON_CTL1 (R76) -/
def execQP0PciPmonCtl1 (a : CfgAccess) (s : State) : Host.Outcome State Fault Refusal :=
  accessCfg (.ctl (.qpi 0) 1) a s

/-- Q_P0_PCI_PMON_CTL2 (R76) -/
def execQP0PciPmonCtl2 (a : CfgAccess) (s : State) : Host.Outcome State Fault Refusal :=
  accessCfg (.ctl (.qpi 0) 2) a s

/-- Q_P0_PCI_PMON_CTL3 (R76) -/
def execQP0PciPmonCtl3 (a : CfgAccess) (s : State) : Host.Outcome State Fault Refusal :=
  accessCfg (.ctl (.qpi 0) 3) a s

/-- Q_P0_PCI_PMON_CTR0 (R77) -/
def execQP0PciPmonCtr0 (a : CfgAccess) (s : State) : Host.Outcome State Fault Refusal :=
  accessCfg (.ctr (.qpi 0) 0) a s

/-- Q_P0_PCI_PMON_CTR1 (R77) -/
def execQP0PciPmonCtr1 (a : CfgAccess) (s : State) : Host.Outcome State Fault Refusal :=
  accessCfg (.ctr (.qpi 0) 1) a s

/-- Q_P0_PCI_PMON_CTR2 (R77) -/
def execQP0PciPmonCtr2 (a : CfgAccess) (s : State) : Host.Outcome State Fault Refusal :=
  accessCfg (.ctr (.qpi 0) 2) a s

/-- Q_P0_PCI_PMON_CTR3 (R77) -/
def execQP0PciPmonCtr3 (a : CfgAccess) (s : State) : Host.Outcome State Fault Refusal :=
  accessCfg (.ctr (.qpi 0) 3) a s

/-- Q_P0_PCI_PMON_LINK_LLR (R81) -/
def execQP0PciPmonLinkLlr (a : CfgAccess) (s : State) : Host.Outcome State Fault Refusal :=
  accessCfg (.qpiLlr 0) a s

/-- Q_P0_PCI_PMON_LINK_IDLE (R81) -/
def execQP0PciPmonLinkIdle (a : CfgAccess) (s : State) : Host.Outcome State Fault Refusal :=
  accessCfg (.qpiIdle 0) a s

/-- Q_P0_PCI_PMON_RX_PKT_MASK1 (R78) -/
def execQP0PciPmonRxPktMask1 (a : CfgAccess) (s : State) : Host.Outcome State Fault Refusal :=
  accessCfg (.qpiPkt 0 .rxMask1) a s

/-- Q_P0_PCI_PMON_RX_PKT_MASK0 (R79) -/
def execQP0PciPmonRxPktMask0 (a : CfgAccess) (s : State) : Host.Outcome State Fault Refusal :=
  accessCfg (.qpiPkt 0 .rxMask0) a s

/-- Q_P0_PCI_PMON_RX_PKT_MATCH1 (R78) -/
def execQP0PciPmonRxPktMatch1 (a : CfgAccess) (s : State) : Host.Outcome State Fault Refusal :=
  accessCfg (.qpiPkt 0 .rxMatch1) a s

/-- Q_P0_PCI_PMON_RX_PKT_MATCH0 (R79) -/
def execQP0PciPmonRxPktMatch0 (a : CfgAccess) (s : State) : Host.Outcome State Fault Refusal :=
  accessCfg (.qpiPkt 0 .rxMatch0) a s

/-- Q_P0_PCI_PMON_TX_PKT_MASK1 (R78) -/
def execQP0PciPmonTxPktMask1 (a : CfgAccess) (s : State) : Host.Outcome State Fault Refusal :=
  accessCfg (.qpiPkt 0 .txMask1) a s

/-- Q_P0_PCI_PMON_TX_PKT_MASK0 (R79) -/
def execQP0PciPmonTxPktMask0 (a : CfgAccess) (s : State) : Host.Outcome State Fault Refusal :=
  accessCfg (.qpiPkt 0 .txMask0) a s

/-- Q_P0_PCI_PMON_TX_PKT_MATCH1 (R78) -/
def execQP0PciPmonTxPktMatch1 (a : CfgAccess) (s : State) : Host.Outcome State Fault Refusal :=
  accessCfg (.qpiPkt 0 .txMatch1) a s

/-- Q_P0_PCI_PMON_TX_PKT_MATCH0 (R79) -/
def execQP0PciPmonTxPktMatch0 (a : CfgAccess) (s : State) : Host.Outcome State Fault Refusal :=
  accessCfg (.qpiPkt 0 .txMatch0) a s

/-- Q_P1_PCI_PMON_BOX_STATUS (R75) -/
def execQP1PciPmonBoxStatus (a : CfgAccess) (s : State) : Host.Outcome State Fault Refusal :=
  accessCfg (.boxStatus (.qpi 1)) a s

/-- Q_P1_PCI_PMON_BOX_CTL (R74) -/
def execQP1PciPmonBoxCtl (a : CfgAccess) (s : State) : Host.Outcome State Fault Refusal :=
  accessCfg (.boxCtl (.qpi 1)) a s

/-- Q_P1_PCI_PMON_CTL0 (R76) -/
def execQP1PciPmonCtl0 (a : CfgAccess) (s : State) : Host.Outcome State Fault Refusal :=
  accessCfg (.ctl (.qpi 1) 0) a s

/-- Q_P1_PCI_PMON_CTL1 (R76) -/
def execQP1PciPmonCtl1 (a : CfgAccess) (s : State) : Host.Outcome State Fault Refusal :=
  accessCfg (.ctl (.qpi 1) 1) a s

/-- Q_P1_PCI_PMON_CTL2 (R76) -/
def execQP1PciPmonCtl2 (a : CfgAccess) (s : State) : Host.Outcome State Fault Refusal :=
  accessCfg (.ctl (.qpi 1) 2) a s

/-- Q_P1_PCI_PMON_CTL3 (R76) -/
def execQP1PciPmonCtl3 (a : CfgAccess) (s : State) : Host.Outcome State Fault Refusal :=
  accessCfg (.ctl (.qpi 1) 3) a s

/-- Q_P1_PCI_PMON_CTR0 (R77) -/
def execQP1PciPmonCtr0 (a : CfgAccess) (s : State) : Host.Outcome State Fault Refusal :=
  accessCfg (.ctr (.qpi 1) 0) a s

/-- Q_P1_PCI_PMON_CTR1 (R77) -/
def execQP1PciPmonCtr1 (a : CfgAccess) (s : State) : Host.Outcome State Fault Refusal :=
  accessCfg (.ctr (.qpi 1) 1) a s

/-- Q_P1_PCI_PMON_CTR2 (R77) -/
def execQP1PciPmonCtr2 (a : CfgAccess) (s : State) : Host.Outcome State Fault Refusal :=
  accessCfg (.ctr (.qpi 1) 2) a s

/-- Q_P1_PCI_PMON_CTR3 (R77) -/
def execQP1PciPmonCtr3 (a : CfgAccess) (s : State) : Host.Outcome State Fault Refusal :=
  accessCfg (.ctr (.qpi 1) 3) a s

/-- Q_P1_PCI_PMON_LINK_LLR (R81) -/
def execQP1PciPmonLinkLlr (a : CfgAccess) (s : State) : Host.Outcome State Fault Refusal :=
  accessCfg (.qpiLlr 1) a s

/-- Q_P1_PCI_PMON_LINK_IDLE (R81) -/
def execQP1PciPmonLinkIdle (a : CfgAccess) (s : State) : Host.Outcome State Fault Refusal :=
  accessCfg (.qpiIdle 1) a s

/-- Q_P1_PCI_PMON_RX_PKT_MASK1 (R78) -/
def execQP1PciPmonRxPktMask1 (a : CfgAccess) (s : State) : Host.Outcome State Fault Refusal :=
  accessCfg (.qpiPkt 1 .rxMask1) a s

/-- Q_P1_PCI_PMON_RX_PKT_MASK0 (R79) -/
def execQP1PciPmonRxPktMask0 (a : CfgAccess) (s : State) : Host.Outcome State Fault Refusal :=
  accessCfg (.qpiPkt 1 .rxMask0) a s

/-- Q_P1_PCI_PMON_RX_PKT_MATCH1 (R78) -/
def execQP1PciPmonRxPktMatch1 (a : CfgAccess) (s : State) : Host.Outcome State Fault Refusal :=
  accessCfg (.qpiPkt 1 .rxMatch1) a s

/-- Q_P1_PCI_PMON_RX_PKT_MATCH0 (R79) -/
def execQP1PciPmonRxPktMatch0 (a : CfgAccess) (s : State) : Host.Outcome State Fault Refusal :=
  accessCfg (.qpiPkt 1 .rxMatch0) a s

/-- Q_P1_PCI_PMON_TX_PKT_MASK1 (R78) -/
def execQP1PciPmonTxPktMask1 (a : CfgAccess) (s : State) : Host.Outcome State Fault Refusal :=
  accessCfg (.qpiPkt 1 .txMask1) a s

/-- Q_P1_PCI_PMON_TX_PKT_MASK0 (R79) -/
def execQP1PciPmonTxPktMask0 (a : CfgAccess) (s : State) : Host.Outcome State Fault Refusal :=
  accessCfg (.qpiPkt 1 .txMask0) a s

/-- Q_P1_PCI_PMON_TX_PKT_MATCH1 (R78) -/
def execQP1PciPmonTxPktMatch1 (a : CfgAccess) (s : State) : Host.Outcome State Fault Refusal :=
  accessCfg (.qpiPkt 1 .txMatch1) a s

/-- Q_P1_PCI_PMON_TX_PKT_MATCH0 (R79) -/
def execQP1PciPmonTxPktMatch0 (a : CfgAccess) (s : State) : Host.Outcome State Fault Refusal :=
  accessCfg (.qpiPkt 1 .txMatch0) a s

/-- Q_P2_PCI_PMON_BOX_STATUS (R75) -/
def execQP2PciPmonBoxStatus (a : CfgAccess) (s : State) : Host.Outcome State Fault Refusal :=
  accessCfg (.boxStatus (.qpi 2)) a s

/-- Q_P2_PCI_PMON_BOX_CTL (R74) -/
def execQP2PciPmonBoxCtl (a : CfgAccess) (s : State) : Host.Outcome State Fault Refusal :=
  accessCfg (.boxCtl (.qpi 2)) a s

/-- Q_P2_PCI_PMON_CTL0 (R76) -/
def execQP2PciPmonCtl0 (a : CfgAccess) (s : State) : Host.Outcome State Fault Refusal :=
  accessCfg (.ctl (.qpi 2) 0) a s

/-- Q_P2_PCI_PMON_CTL1 (R76) -/
def execQP2PciPmonCtl1 (a : CfgAccess) (s : State) : Host.Outcome State Fault Refusal :=
  accessCfg (.ctl (.qpi 2) 1) a s

/-- Q_P2_PCI_PMON_CTL2 (R76) -/
def execQP2PciPmonCtl2 (a : CfgAccess) (s : State) : Host.Outcome State Fault Refusal :=
  accessCfg (.ctl (.qpi 2) 2) a s

/-- Q_P2_PCI_PMON_CTL3 (R76) -/
def execQP2PciPmonCtl3 (a : CfgAccess) (s : State) : Host.Outcome State Fault Refusal :=
  accessCfg (.ctl (.qpi 2) 3) a s

/-- Q_P2_PCI_PMON_CTR0 (R77) -/
def execQP2PciPmonCtr0 (a : CfgAccess) (s : State) : Host.Outcome State Fault Refusal :=
  accessCfg (.ctr (.qpi 2) 0) a s

/-- Q_P2_PCI_PMON_CTR1 (R77) -/
def execQP2PciPmonCtr1 (a : CfgAccess) (s : State) : Host.Outcome State Fault Refusal :=
  accessCfg (.ctr (.qpi 2) 1) a s

/-- Q_P2_PCI_PMON_CTR2 (R77) -/
def execQP2PciPmonCtr2 (a : CfgAccess) (s : State) : Host.Outcome State Fault Refusal :=
  accessCfg (.ctr (.qpi 2) 2) a s

/-- Q_P2_PCI_PMON_CTR3 (R77) -/
def execQP2PciPmonCtr3 (a : CfgAccess) (s : State) : Host.Outcome State Fault Refusal :=
  accessCfg (.ctr (.qpi 2) 3) a s

/-- Q_P2_PCI_PMON_LINK_LLR (R81) -/
def execQP2PciPmonLinkLlr (a : CfgAccess) (s : State) : Host.Outcome State Fault Refusal :=
  accessCfg (.qpiLlr 2) a s

/-- Q_P2_PCI_PMON_LINK_IDLE (R81) -/
def execQP2PciPmonLinkIdle (a : CfgAccess) (s : State) : Host.Outcome State Fault Refusal :=
  accessCfg (.qpiIdle 2) a s

/-- Q_P2_PCI_PMON_RX_PKT_MASK1 (R78) -/
def execQP2PciPmonRxPktMask1 (a : CfgAccess) (s : State) : Host.Outcome State Fault Refusal :=
  accessCfg (.qpiPkt 2 .rxMask1) a s

/-- Q_P2_PCI_PMON_RX_PKT_MASK0 (R79) -/
def execQP2PciPmonRxPktMask0 (a : CfgAccess) (s : State) : Host.Outcome State Fault Refusal :=
  accessCfg (.qpiPkt 2 .rxMask0) a s

/-- Q_P2_PCI_PMON_RX_PKT_MATCH1 (R78) -/
def execQP2PciPmonRxPktMatch1 (a : CfgAccess) (s : State) : Host.Outcome State Fault Refusal :=
  accessCfg (.qpiPkt 2 .rxMatch1) a s

/-- Q_P2_PCI_PMON_RX_PKT_MATCH0 (R79) -/
def execQP2PciPmonRxPktMatch0 (a : CfgAccess) (s : State) : Host.Outcome State Fault Refusal :=
  accessCfg (.qpiPkt 2 .rxMatch0) a s

/-- Q_P2_PCI_PMON_TX_PKT_MASK1 (R78) -/
def execQP2PciPmonTxPktMask1 (a : CfgAccess) (s : State) : Host.Outcome State Fault Refusal :=
  accessCfg (.qpiPkt 2 .txMask1) a s

/-- Q_P2_PCI_PMON_TX_PKT_MASK0 (R79) -/
def execQP2PciPmonTxPktMask0 (a : CfgAccess) (s : State) : Host.Outcome State Fault Refusal :=
  accessCfg (.qpiPkt 2 .txMask0) a s

/-- Q_P2_PCI_PMON_TX_PKT_MATCH1 (R78) -/
def execQP2PciPmonTxPktMatch1 (a : CfgAccess) (s : State) : Host.Outcome State Fault Refusal :=
  accessCfg (.qpiPkt 2 .txMatch1) a s

/-- Q_P2_PCI_PMON_TX_PKT_MATCH0 (R79) -/
def execQP2PciPmonTxPktMatch0 (a : CfgAccess) (s : State) : Host.Outcome State Fault Refusal :=
  accessCfg (.qpiPkt 2 .txMatch0) a s

/-- QPI0_RATE_STATUS (R80) -/
def execQpi0RateStatus (a : CfgAccess) (s : State) : Host.Outcome State Fault Refusal :=
  accessCfg (.qpiRate false) a s

/-- QPI1_RATE_STATUS (R80) -/
def execQpi1RateStatus (a : CfgAccess) (s : State) : Host.Outcome State Fault Refusal :=
  accessCfg (.qpiRate true) a s

/-- R2_PCI_PMON_BOX_STATUS (R84) -/
def execR2PciPmonBoxStatus (a : CfgAccess) (s : State) : Host.Outcome State Fault Refusal :=
  accessCfg (.boxStatus .r2) a s

/-- R2_PCI_PMON_BOX_CTL (R83) -/
def execR2PciPmonBoxCtl (a : CfgAccess) (s : State) : Host.Outcome State Fault Refusal :=
  accessCfg (.boxCtl .r2) a s

/-- R2_PCI_PMON_CTL0 (R85) -/
def execR2PciPmonCtl0 (a : CfgAccess) (s : State) : Host.Outcome State Fault Refusal :=
  accessCfg (.ctl .r2 0) a s

/-- R2_PCI_PMON_CTL1 (R85) -/
def execR2PciPmonCtl1 (a : CfgAccess) (s : State) : Host.Outcome State Fault Refusal :=
  accessCfg (.ctl .r2 1) a s

/-- R2_PCI_PMON_CTL2 (R85) -/
def execR2PciPmonCtl2 (a : CfgAccess) (s : State) : Host.Outcome State Fault Refusal :=
  accessCfg (.ctl .r2 2) a s

/-- R2_PCI_PMON_CTL3 (R85) -/
def execR2PciPmonCtl3 (a : CfgAccess) (s : State) : Host.Outcome State Fault Refusal :=
  accessCfg (.ctl .r2 3) a s

/-- R2_PCI_PMON_CTR0 (R86) -/
def execR2PciPmonCtr0 (a : CfgAccess) (s : State) : Host.Outcome State Fault Refusal :=
  accessCfg (.ctr .r2 0) a s

/-- R2_PCI_PMON_CTR1 (R86) -/
def execR2PciPmonCtr1 (a : CfgAccess) (s : State) : Host.Outcome State Fault Refusal :=
  accessCfg (.ctr .r2 1) a s

/-- R2_PCI_PMON_CTR2 (R86) -/
def execR2PciPmonCtr2 (a : CfgAccess) (s : State) : Host.Outcome State Fault Refusal :=
  accessCfg (.ctr .r2 2) a s

/-- R2_PCI_PMON_CTR3 (R86) -/
def execR2PciPmonCtr3 (a : CfgAccess) (s : State) : Host.Outcome State Fault Refusal :=
  accessCfg (.ctr .r2 3) a s

/-- R3_L0_PCI_PMON_BOX_STATUS (R89) -/
def execR3L0PciPmonBoxStatus (a : CfgAccess) (s : State) : Host.Outcome State Fault Refusal :=
  accessCfg (.boxStatus (.r3 0)) a s

/-- R3_L0_PCI_PMON_BOX_CTL (R88) -/
def execR3L0PciPmonBoxCtl (a : CfgAccess) (s : State) : Host.Outcome State Fault Refusal :=
  accessCfg (.boxCtl (.r3 0)) a s

/-- R3_L0_PCI_PMON_CTL0 (R90) -/
def execR3L0PciPmonCtl0 (a : CfgAccess) (s : State) : Host.Outcome State Fault Refusal :=
  accessCfg (.ctl (.r3 0) 0) a s

/-- R3_L0_PCI_PMON_CTL1 (R90) -/
def execR3L0PciPmonCtl1 (a : CfgAccess) (s : State) : Host.Outcome State Fault Refusal :=
  accessCfg (.ctl (.r3 0) 1) a s

/-- R3_L0_PCI_PMON_CTL2 (R90) -/
def execR3L0PciPmonCtl2 (a : CfgAccess) (s : State) : Host.Outcome State Fault Refusal :=
  accessCfg (.ctl (.r3 0) 2) a s

/-- R3_L0_PCI_PMON_CTR0 (R91) -/
def execR3L0PciPmonCtr0 (a : CfgAccess) (s : State) : Host.Outcome State Fault Refusal :=
  accessCfg (.ctr (.r3 0) 0) a s

/-- R3_L0_PCI_PMON_CTR1 (R91) -/
def execR3L0PciPmonCtr1 (a : CfgAccess) (s : State) : Host.Outcome State Fault Refusal :=
  accessCfg (.ctr (.r3 0) 1) a s

/-- R3_L0_PCI_PMON_CTR2 (R91) -/
def execR3L0PciPmonCtr2 (a : CfgAccess) (s : State) : Host.Outcome State Fault Refusal :=
  accessCfg (.ctr (.r3 0) 2) a s

/-- R3_L1_PCI_PMON_BOX_STATUS (R89) -/
def execR3L1PciPmonBoxStatus (a : CfgAccess) (s : State) : Host.Outcome State Fault Refusal :=
  accessCfg (.boxStatus (.r3 1)) a s

/-- R3_L1_PCI_PMON_BOX_CTL (R88) -/
def execR3L1PciPmonBoxCtl (a : CfgAccess) (s : State) : Host.Outcome State Fault Refusal :=
  accessCfg (.boxCtl (.r3 1)) a s

/-- R3_L1_PCI_PMON_CTL0 (R90) -/
def execR3L1PciPmonCtl0 (a : CfgAccess) (s : State) : Host.Outcome State Fault Refusal :=
  accessCfg (.ctl (.r3 1) 0) a s

/-- R3_L1_PCI_PMON_CTL1 (R90) -/
def execR3L1PciPmonCtl1 (a : CfgAccess) (s : State) : Host.Outcome State Fault Refusal :=
  accessCfg (.ctl (.r3 1) 1) a s

/-- R3_L1_PCI_PMON_CTL2 (R90) -/
def execR3L1PciPmonCtl2 (a : CfgAccess) (s : State) : Host.Outcome State Fault Refusal :=
  accessCfg (.ctl (.r3 1) 2) a s

/-- R3_L1_PCI_PMON_CTR0 (R91) -/
def execR3L1PciPmonCtr0 (a : CfgAccess) (s : State) : Host.Outcome State Fault Refusal :=
  accessCfg (.ctr (.r3 1) 0) a s

/-- R3_L1_PCI_PMON_CTR1 (R91) -/
def execR3L1PciPmonCtr1 (a : CfgAccess) (s : State) : Host.Outcome State Fault Refusal :=
  accessCfg (.ctr (.r3 1) 1) a s

/-- R3_L1_PCI_PMON_CTR2 (R91) -/
def execR3L1PciPmonCtr2 (a : CfgAccess) (s : State) : Host.Outcome State Fault Refusal :=
  accessCfg (.ctr (.r3 1) 2) a s

/-- R3_L2_PCI_PMON_BOX_STATUS (R89) -/
def execR3L2PciPmonBoxStatus (a : CfgAccess) (s : State) : Host.Outcome State Fault Refusal :=
  accessCfg (.boxStatus (.r3 2)) a s

/-- R3_L2_PCI_PMON_BOX_CTL (R88) -/
def execR3L2PciPmonBoxCtl (a : CfgAccess) (s : State) : Host.Outcome State Fault Refusal :=
  accessCfg (.boxCtl (.r3 2)) a s

/-- R3_L2_PCI_PMON_CTL0 (R90) -/
def execR3L2PciPmonCtl0 (a : CfgAccess) (s : State) : Host.Outcome State Fault Refusal :=
  accessCfg (.ctl (.r3 2) 0) a s

/-- R3_L2_PCI_PMON_CTL1 (R90) -/
def execR3L2PciPmonCtl1 (a : CfgAccess) (s : State) : Host.Outcome State Fault Refusal :=
  accessCfg (.ctl (.r3 2) 1) a s

/-- R3_L2_PCI_PMON_CTL2 (R90) -/
def execR3L2PciPmonCtl2 (a : CfgAccess) (s : State) : Host.Outcome State Fault Refusal :=
  accessCfg (.ctl (.r3 2) 2) a s

/-- R3_L2_PCI_PMON_CTR0 (R91) -/
def execR3L2PciPmonCtr0 (a : CfgAccess) (s : State) : Host.Outcome State Fault Refusal :=
  accessCfg (.ctr (.r3 2) 0) a s

/-- R3_L2_PCI_PMON_CTR1 (R91) -/
def execR3L2PciPmonCtr1 (a : CfgAccess) (s : State) : Host.Outcome State Fault Refusal :=
  accessCfg (.ctr (.r3 2) 1) a s

/-- R3_L2_PCI_PMON_CTR2 (R91) -/
def execR3L2PciPmonCtr2 (a : CfgAccess) (s : State) : Host.Outcome State Fault Refusal :=
  accessCfg (.ctr (.r3 2) 2) a s

end Sys2Proof.Machine
end

