-- ==== Sys2Proof/Machine/QPI.lean ====
section
/-! DEFINITION. The QPI events: each row is one cycle of a counter whose control word selects it (40_global_ubox.md R215, R249). -/

namespace Sys2Proof.Machine

/-- QPI.CLOCKTICKS (R780) -/
def execQpiClockticks (o : EvOp .qpi) (s : State) : Host.Outcome State Fault Refusal :=
  countEvent evQpiClockticks 0x00 o s

/-- QPI.CTO_COUNT (R781) -/
def execQpiCtoCount (o : EvOp .qpi) (s : State) : Host.Outcome State Fault Refusal :=
  countEvent evQpiCtoCount 0x00 o s

/-- QPI.DIRECT2CORE.SUCCESS_RBT_HIT (R782) -/
def execQpiDirect2coreSuccessRbtHit (o : EvOp .qpi) (s : State) : Host.Outcome State Fault Refusal :=
  countEvent evQpiDirect2core 0x01 o s

/-- QPI.DIRECT2CORE.FAILURE_CREDITS (R782) -/
def execQpiDirect2coreFailureCredits (o : EvOp .qpi) (s : State) : Host.Outcome State Fault Refusal :=
  countEvent evQpiDirect2core 0x02 o s

/-- QPI.DIRECT2CORE.FAILURE_RBT_HIT (R782) -/
def execQpiDirect2coreFailureRbtHit (o : EvOp .qpi) (s : State) : Host.Outcome State Fault Refusal :=
  countEvent evQpiDirect2core 0x04 o s

/-- QPI.DIRECT2CORE.FAILURE_CREDITS_RBT (R782) -/
def execQpiDirect2coreFailureCreditsRbt (o : EvOp .qpi) (s : State) : Host.Outcome State Fault Refusal :=
  countEvent evQpiDirect2core 0x08 o s

/-- QPI.DIRECT2CORE.FAILURE_MISS (R782) -/
def execQpiDirect2coreFailureMiss (o : EvOp .qpi) (s : State) : Host.Outcome State Fault Refusal :=
  countEvent evQpiDirect2core 0x10 o s

/-- QPI.DIRECT2CORE.FAILURE_CREDITS_MISS (R782) -/
def execQpiDirect2coreFailureCreditsMiss (o : EvOp .qpi) (s : State) : Host.Outcome State Fault Refusal :=
  countEvent evQpiDirect2core 0x20 o s

/-- QPI.DIRECT2CORE.FAILURE_RBT_MISS (R782) -/
def execQpiDirect2coreFailureRbtMiss (o : EvOp .qpi) (s : State) : Host.Outcome State Fault Refusal :=
  countEvent evQpiDirect2core 0x40 o s

/-- QPI.DIRECT2CORE.FAILURE_CREDITS_RBT_MISS (R782) -/
def execQpiDirect2coreFailureCreditsRbtMiss (o : EvOp .qpi) (s : State) : Host.Outcome State Fault Refusal :=
  countEvent evQpiDirect2core 0x80 o s

/-- QPI.L1_POWER_CYCLES (R783) -/
def execQpiL1PowerCycles (o : EvOp .qpi) (s : State) : Host.Outcome State Fault Refusal :=
  countEvent evQpiL1PowerCycles 0x00 o s

/-- QPI.RxL0P_POWER_CYCLES (R784) -/
def execQpiRxL0PPowerCycles (o : EvOp .qpi) (s : State) : Host.Outcome State Fault Refusal :=
  countEvent evQpiRxL0PPowerCycles 0x00 o s

/-- QPI.RxL0_POWER_CYCLES (R785) -/
def execQpiRxL0PowerCycles (o : EvOp .qpi) (s : State) : Host.Outcome State Fault Refusal :=
  countEvent evQpiRxL0PowerCycles 0x00 o s

/-- QPI.RxL_BYPASSED (R786) -/
def execQpiRxLBypassed (o : EvOp .qpi) (s : State) : Host.Outcome State Fault Refusal :=
  countEvent evQpiRxLBypassed 0x00 o s

/-- QPI.RxL_CREDITS_CONSUMED_VN0.DRS (R787) -/
def execQpiRxLCreditsConsumedVn0Drs (o : EvOp .qpi) (s : State) : Host.Outcome State Fault Refusal :=
  countEvent evQpiRxLCreditsConsumedVn0 0x01 o s

/-- QPI.RxL_CREDITS_CONSUMED_VN0.NCB (R787) -/
def execQpiRxLCreditsConsumedVn0Ncb (o : EvOp .qpi) (s : State) : Host.Outcome State Fault Refusal :=
  countEvent evQpiRxLCreditsConsumedVn0 0x02 o s

/-- QPI.RxL_CREDITS_CONSUMED_VN0.NCS (R787) -/
def execQpiRxLCreditsConsumedVn0Ncs (o : EvOp .qpi) (s : State) : Host.Outcome State Fault Refusal :=
  countEvent evQpiRxLCreditsConsumedVn0 0x04 o s

/-- QPI.RxL_CREDITS_CONSUMED_VN0.HOM (R787) -/
def execQpiRxLCreditsConsumedVn0Hom (o : EvOp .qpi) (s : State) : Host.Outcome State Fault Refusal :=
  countEvent evQpiRxLCreditsConsumedVn0 0x08 o s

/-- QPI.RxL_CREDITS_CONSUMED_VN0.SNP (R787) -/
def execQpiRxLCreditsConsumedVn0Snp (o : EvOp .qpi) (s : State) : Host.Outcome State Fault Refusal :=
  countEvent evQpiRxLCreditsConsumedVn0 0x10 o s

/-- QPI.RxL_CREDITS_CONSUMED_VN0.NDR (R787) -/
def execQpiRxLCreditsConsumedVn0Ndr (o : EvOp .qpi) (s : State) : Host.Outcome State Fault Refusal :=
  countEvent evQpiRxLCreditsConsumedVn0 0x20 o s

/-- QPI.RxL_CREDITS_CONSUMED_VN1.DRS (R788) -/
def execQpiRxLCreditsConsumedVn1Drs (o : EvOp .qpi) (s : State) : Host.Outcome State Fault Refusal :=
  countEvent evQpiRxLCreditsConsumedVn1 0x01 o s

/-- QPI.RxL_CREDITS_CONSUMED_VN1.NCB (R788) -/
def execQpiRxLCreditsConsumedVn1Ncb (o : EvOp .qpi) (s : State) : Host.Outcome State Fault Refusal :=
  countEvent evQpiRxLCreditsConsumedVn1 0x02 o s

/-- QPI.RxL_CREDITS_CONSUMED_VN1.NCS (R788) -/
def execQpiRxLCreditsConsumedVn1Ncs (o : EvOp .qpi) (s : State) : Host.Outcome State Fault Refusal :=
  countEvent evQpiRxLCreditsConsumedVn1 0x04 o s

/-- QPI.RxL_CREDITS_CONSUMED_VN1.HOM (R788) -/
def execQpiRxLCreditsConsumedVn1Hom (o : EvOp .qpi) (s : State) : Host.Outcome State Fault Refusal :=
  countEvent evQpiRxLCreditsConsumedVn1 0x08 o s

/-- QPI.RxL_CREDITS_CONSUMED_VN1.SNP (R788) -/
def execQpiRxLCreditsConsumedVn1Snp (o : EvOp .qpi) (s : State) : Host.Outcome State Fault Refusal :=
  countEvent evQpiRxLCreditsConsumedVn1 0x10 o s

/-- QPI.RxL_CREDITS_CONSUMED_VN1.NDR (R788) -/
def execQpiRxLCreditsConsumedVn1Ndr (o : EvOp .qpi) (s : State) : Host.Outcome State Fault Refusal :=
  countEvent evQpiRxLCreditsConsumedVn1 0x20 o s

/-- QPI.RxL_CREDITS_CONSUMED_VNA (R789) -/
def execQpiRxLCreditsConsumedVna (o : EvOp .qpi) (s : State) : Host.Outcome State Fault Refusal :=
  countEvent evQpiRxLCreditsConsumedVna 0x00 o s

/-- QPI.RxL_CYCLES_NE (R790) -/
def execQpiRxLCyclesNe (o : EvOp .qpi) (s : State) : Host.Outcome State Fault Refusal :=
  countEvent evQpiRxLCyclesNe 0x00 o s

/-- QPI.RxL_FLITS_G1.SNP (R791) -/
def execQpiRxLFlitsG1Snp (o : EvOp .qpi) (s : State) : Host.Outcome State Fault Refusal :=
  countEvent evQpiRxLFlitsG1 0x01 o s

/-- QPI.RxL_FLITS_G1.HOM_REQ (R791) -/
def execQpiRxLFlitsG1HomReq (o : EvOp .qpi) (s : State) : Host.Outcome State Fault Refusal :=
  countEvent evQpiRxLFlitsG1 0x02 o s

/-- QPI.RxL_FLITS_G1.HOM_NONREQ (R791) -/
def execQpiRxLFlitsG1HomNonreq (o : EvOp .qpi) (s : State) : Host.Outcome State Fault Refusal :=
  countEvent evQpiRxLFlitsG1 0x04 o s

/-- QPI.RxL_FLITS_G1.HOM (R791) -/
def execQpiRxLFlitsG1Hom (o : EvOp .qpi) (s : State) : Host.Outcome State Fault Refusal :=
  countEvent evQpiRxLFlitsG1 0x06 o s

/-- QPI.RxL_FLITS_G1.DRS_DATA (R791) -/
def execQpiRxLFlitsG1DrsData (o : EvOp .qpi) (s : State) : Host.Outcome State Fault Refusal :=
  countEvent evQpiRxLFlitsG1 0x08 o s

/-- QPI.RxL_FLITS_G1.DRS_NONDATA (R791) -/
def execQpiRxLFlitsG1DrsNondata (o : EvOp .qpi) (s : State) : Host.Outcome State Fault Refusal :=
  countEvent evQpiRxLFlitsG1 0x10 o s

/-- QPI.RxL_FLITS_G1.DRS (R791) -/
def execQpiRxLFlitsG1Drs (o : EvOp .qpi) (s : State) : Host.Outcome State Fault Refusal :=
  countEvent evQpiRxLFlitsG1 0x18 o s

/-- QPI.RxL_FLITS_G2.NDR_AD (R792) -/
def execQpiRxLFlitsG2NdrAd (o : EvOp .qpi) (s : State) : Host.Outcome State Fault Refusal :=
  countEvent evQpiRxLFlitsG2 0x01 o s

/-- QPI.RxL_FLITS_G2.NDR_AK (R792) -/
def execQpiRxLFlitsG2NdrAk (o : EvOp .qpi) (s : State) : Host.Outcome State Fault Refusal :=
  countEvent evQpiRxLFlitsG2 0x02 o s

/-- QPI.RxL_FLITS_G2.NCB_DATA (R792) -/
def execQpiRxLFlitsG2NcbData (o : EvOp .qpi) (s : State) : Host.Outcome State Fault Refusal :=
  countEvent evQpiRxLFlitsG2 0x04 o s

/-- QPI.RxL_FLITS_G2.NCB_NONDATA (R792) -/
def execQpiRxLFlitsG2NcbNondata (o : EvOp .qpi) (s : State) : Host.Outcome State Fault Refusal :=
  countEvent evQpiRxLFlitsG2 0x08 o s

/-- QPI.RxL_FLITS_G2.NCB (R792) -/
def execQpiRxLFlitsG2Ncb (o : EvOp .qpi) (s : State) : Host.Outcome State Fault Refusal :=
  countEvent evQpiRxLFlitsG2 0x0C o s

/-- QPI.RxL_FLITS_G2.NCS (R792) -/
def execQpiRxLFlitsG2Ncs (o : EvOp .qpi) (s : State) : Host.Outcome State Fault Refusal :=
  countEvent evQpiRxLFlitsG2 0x10 o s

/-- QPI.RxL_INSERTS (R793) -/
def execQpiRxLInserts (o : EvOp .qpi) (s : State) : Host.Outcome State Fault Refusal :=
  countEvent evQpiRxLInserts 0x00 o s

/-- QPI.RxL_INSERTS_DRS.VN0 (R794) -/
def execQpiRxLInsertsDrsVn0 (o : EvOp .qpi) (s : State) : Host.Outcome State Fault Refusal :=
  countEvent evQpiRxLInsertsDrs 0x01 o s

/-- QPI.RxL_INSERTS_DRS.VN1 (R794) -/
def execQpiRxLInsertsDrsVn1 (o : EvOp .qpi) (s : State) : Host.Outcome State Fault Refusal :=
  countEvent evQpiRxLInsertsDrs 0x02 o s

/-- QPI.RxL_INSERTS_HOM.VN0 (R795) -/
def execQpiRxLInsertsHomVn0 (o : EvOp .qpi) (s : State) : Host.Outcome State Fault Refusal :=
  countEvent evQpiRxLInsertsHom 0x01 o s

/-- QPI.RxL_INSERTS_HOM.VN1 (R795) -/
def execQpiRxLInsertsHomVn1 (o : EvOp .qpi) (s : State) : Host.Outcome State Fault Refusal :=
  countEvent evQpiRxLInsertsHom 0x02 o s

/-- QPI.RxL_INSERTS_NCB.VN0 (R796) -/
def execQpiRxLInsertsNcbVn0 (o : EvOp .qpi) (s : State) : Host.Outcome State Fault Refusal :=
  countEvent evQpiRxLInsertsNcb 0x01 o s

/-- QPI.RxL_INSERTS_NCB.VN1 (R796) -/
def execQpiRxLInsertsNcbVn1 (o : EvOp .qpi) (s : State) : Host.Outcome State Fault Refusal :=
  countEvent evQpiRxLInsertsNcb 0x02 o s

/-- QPI.RxL_INSERTS_NCS.VN0 (R797) -/
def execQpiRxLInsertsNcsVn0 (o : EvOp .qpi) (s : State) : Host.Outcome State Fault Refusal :=
  countEvent evQpiRxLInsertsNcs 0x01 o s

/-- QPI.RxL_INSERTS_NCS.VN1 (R797) -/
def execQpiRxLInsertsNcsVn1 (o : EvOp .qpi) (s : State) : Host.Outcome State Fault Refusal :=
  countEvent evQpiRxLInsertsNcs 0x02 o s

/-- QPI.RxL_INSERTS_NDR.VN0 (R798) -/
def execQpiRxLInsertsNdrVn0 (o : EvOp .qpi) (s : State) : Host.Outcome State Fault Refusal :=
  countEvent evQpiRxLInsertsNdr 0x01 o s

/-- QPI.RxL_INSERTS_NDR.VN1 (R798) -/
def execQpiRxLInsertsNdrVn1 (o : EvOp .qpi) (s : State) : Host.Outcome State Fault Refusal :=
  countEvent evQpiRxLInsertsNdr 0x02 o s

/-- QPI.RxL_INSERTS_SNP.VN0 (R799) -/
def execQpiRxLInsertsSnpVn0 (o : EvOp .qpi) (s : State) : Host.Outcome State Fault Refusal :=
  countEvent evQpiRxLInsertsSnp 0x01 o s

/-- QPI.RxL_INSERTS_SNP.VN1 (R799) -/
def execQpiRxLInsertsSnpVn1 (o : EvOp .qpi) (s : State) : Host.Outcome State Fault Refusal :=
  countEvent evQpiRxLInsertsSnp 0x02 o s

/-- QPI.RxL_OCCUPANCY (R800) -/
def execQpiRxLOccupancy (o : EvOp .qpi) (s : State) : Host.Outcome State Fault Refusal :=
  countEvent evQpiRxLOccupancy 0x00 o s

/-- QPI.RxL_OCCUPANCY_DRS.VN0 (R801) -/
def execQpiRxLOccupancyDrsVn0 (o : EvOp .qpi) (s : State) : Host.Outcome State Fault Refusal :=
  countEvent evQpiRxLOccupancyDrs 0x01 o s

/-- QPI.RxL_OCCUPANCY_DRS.VN1 (R801) -/
def execQpiRxLOccupancyDrsVn1 (o : EvOp .qpi) (s : State) : Host.Outcome State Fault Refusal :=
  countEvent evQpiRxLOccupancyDrs 0x02 o s

/-- QPI.RxL_OCCUPANCY_HOM.VN0 (R802) -/
def execQpiRxLOccupancyHomVn0 (o : EvOp .qpi) (s : State) : Host.Outcome State Fault Refusal :=
  countEvent evQpiRxLOccupancyHom 0x01 o s

/-- QPI.RxL_OCCUPANCY_HOM.VN1 (R802) -/
def execQpiRxLOccupancyHomVn1 (o : EvOp .qpi) (s : State) : Host.Outcome State Fault Refusal :=
  countEvent evQpiRxLOccupancyHom 0x02 o s

/-- QPI.RxL_OCCUPANCY_NCB.VN0 (R803) -/
def execQpiRxLOccupancyNcbVn0 (o : EvOp .qpi) (s : State) : Host.Outcome State Fault Refusal :=
  countEvent evQpiRxLOccupancyNcb 0x01 o s

/-- QPI.RxL_OCCUPANCY_NCB.VN1 (R803) -/
def execQpiRxLOccupancyNcbVn1 (o : EvOp .qpi) (s : State) : Host.Outcome State Fault Refusal :=
  countEvent evQpiRxLOccupancyNcb 0x02 o s

/-- QPI.RxL_OCCUPANCY_NCS.VN0 (R804) -/
def execQpiRxLOccupancyNcsVn0 (o : EvOp .qpi) (s : State) : Host.Outcome State Fault Refusal :=
  countEvent evQpiRxLOccupancyNcs 0x01 o s

/-- QPI.RxL_OCCUPANCY_NCS.VN1 (R804) -/
def execQpiRxLOccupancyNcsVn1 (o : EvOp .qpi) (s : State) : Host.Outcome State Fault Refusal :=
  countEvent evQpiRxLOccupancyNcs 0x02 o s

/-- QPI.RxL_OCCUPANCY_NDR.VN0 (R805) -/
def execQpiRxLOccupancyNdrVn0 (o : EvOp .qpi) (s : State) : Host.Outcome State Fault Refusal :=
  countEvent evQpiRxLOccupancyNdr 0x01 o s

/-- QPI.RxL_OCCUPANCY_NDR.VN1 (R805) -/
def execQpiRxLOccupancyNdrVn1 (o : EvOp .qpi) (s : State) : Host.Outcome State Fault Refusal :=
  countEvent evQpiRxLOccupancyNdr 0x02 o s

/-- QPI.RxL_OCCUPANCY_SNP.VN0 (R806) -/
def execQpiRxLOccupancySnpVn0 (o : EvOp .qpi) (s : State) : Host.Outcome State Fault Refusal :=
  countEvent evQpiRxLOccupancySnp 0x01 o s

/-- QPI.RxL_OCCUPANCY_SNP.VN1 (R806) -/
def execQpiRxLOccupancySnpVn1 (o : EvOp .qpi) (s : State) : Host.Outcome State Fault Refusal :=
  countEvent evQpiRxLOccupancySnp 0x02 o s

/-- QPI.TxL0P_POWER_CYCLES (R807) -/
def execQpiTxL0PPowerCycles (o : EvOp .qpi) (s : State) : Host.Outcome State Fault Refusal :=
  countEvent evQpiTxL0PPowerCycles 0x00 o s

/-- QPI.TxL0_POWER_CYCLES (R808) -/
def execQpiTxL0PowerCycles (o : EvOp .qpi) (s : State) : Host.Outcome State Fault Refusal :=
  countEvent evQpiTxL0PowerCycles 0x00 o s

/-- QPI.TxL_BYPASSED (R809) -/
def execQpiTxLBypassed (o : EvOp .qpi) (s : State) : Host.Outcome State Fault Refusal :=
  countEvent evQpiTxLBypassed 0x00 o s

/-- QPI.TxL_CYCLES_NE (R810) -/
def execQpiTxLCyclesNe (o : EvOp .qpi) (s : State) : Host.Outcome State Fault Refusal :=
  countEvent evQpiTxLCyclesNe 0x00 o s

/-- QPI.TxL_FLITS_G0.DATA (R811) -/
def execQpiTxLFlitsG0Data (o : EvOp .qpi) (s : State) : Host.Outcome State Fault Refusal :=
  countEvent evQpiTxLFlitsG0 0x02 o s

/-- QPI.TxL_FLITS_G0.NON_DATA (R811) -/
def execQpiTxLFlitsG0NonData (o : EvOp .qpi) (s : State) : Host.Outcome State Fault Refusal :=
  countEvent evQpiTxLFlitsG0 0x04 o s

/-- QPI.TxL_FLITS_G1.SNP (R812) -/
def execQpiTxLFlitsG1Snp (o : EvOp .qpi) (s : State) : Host.Outcome State Fault Refusal :=
  countEvent evQpiTxLFlitsG1 0x01 o s

/-- QPI.TxL_FLITS_G1.HOM_REQ (R812) -/
def execQpiTxLFlitsG1HomReq (o : EvOp .qpi) (s : State) : Host.Outcome State Fault Refusal :=
  countEvent evQpiTxLFlitsG1 0x02 o s

/-- QPI.TxL_FLITS_G1.HOM_NONREQ (R812) -/
def execQpiTxLFlitsG1HomNonreq (o : EvOp .qpi) (s : State) : Host.Outcome State Fault Refusal :=
  countEvent evQpiTxLFlitsG1 0x04 o s

/-- QPI.TxL_FLITS_G1.HOM (R812) -/
def execQpiTxLFlitsG1Hom (o : EvOp .qpi) (s : State) : Host.Outcome State Fault Refusal :=
  countEvent evQpiTxLFlitsG1 0x06 o s

/-- QPI.TxL_FLITS_G1.DRS_DATA (R812) -/
def execQpiTxLFlitsG1DrsData (o : EvOp .qpi) (s : State) : Host.Outcome State Fault Refusal :=
  countEvent evQpiTxLFlitsG1 0x08 o s

/-- QPI.TxL_FLITS_G1.DRS_NONDATA (R812) -/
def execQpiTxLFlitsG1DrsNondata (o : EvOp .qpi) (s : State) : Host.Outcome State Fault Refusal :=
  countEvent evQpiTxLFlitsG1 0x10 o s

/-- QPI.TxL_FLITS_G1.DRS (R812) -/
def execQpiTxLFlitsG1Drs (o : EvOp .qpi) (s : State) : Host.Outcome State Fault Refusal :=
  countEvent evQpiTxLFlitsG1 0x18 o s

/-- QPI.TxL_FLITS_G2.NDR_AD (R813) -/
def execQpiTxLFlitsG2NdrAd (o : EvOp .qpi) (s : State) : Host.Outcome State Fault Refusal :=
  countEvent evQpiTxLFlitsG2 0x01 o s

/-- QPI.TxL_FLITS_G2.NDR_AK (R813) -/
def execQpiTxLFlitsG2NdrAk (o : EvOp .qpi) (s : State) : Host.Outcome State Fault Refusal :=
  countEvent evQpiTxLFlitsG2 0x02 o s

/-- QPI.TxL_FLITS_G2.NCB_DATA (R813) -/
def execQpiTxLFlitsG2NcbData (o : EvOp .qpi) (s : State) : Host.Outcome State Fault Refusal :=
  countEvent evQpiTxLFlitsG2 0x04 o s

/-- QPI.TxL_FLITS_G2.NCB_NONDATA (R813) -/
def execQpiTxLFlitsG2NcbNondata (o : EvOp .qpi) (s : State) : Host.Outcome State Fault Refusal :=
  countEvent evQpiTxLFlitsG2 0x08 o s

/-- QPI.TxL_FLITS_G2.NCB (R813) -/
def execQpiTxLFlitsG2Ncb (o : EvOp .qpi) (s : State) : Host.Outcome State Fault Refusal :=
  countEvent evQpiTxLFlitsG2 0x0C o s

/-- QPI.TxL_FLITS_G2.NCS (R813) -/
def execQpiTxLFlitsG2Ncs (o : EvOp .qpi) (s : State) : Host.Outcome State Fault Refusal :=
  countEvent evQpiTxLFlitsG2 0x10 o s

/-- QPI.TxL_INSERTS (R814) -/
def execQpiTxLInserts (o : EvOp .qpi) (s : State) : Host.Outcome State Fault Refusal :=
  countEvent evQpiTxLInserts 0x00 o s

/-- QPI.TxL_OCCUPANCY (R815) -/
def execQpiTxLOccupancy (o : EvOp .qpi) (s : State) : Host.Outcome State Fault Refusal :=
  countEvent evQpiTxLOccupancy 0x00 o s

/-- QPI.TxR_AD_HOM_CREDIT_ACQUIRED.VN0 (R816) -/
def execQpiTxRAdHomCreditAcquiredVn0 (o : EvOp .qpi) (s : State) : Host.Outcome State Fault Refusal :=
  countEvent evQpiTxRAdHomCreditAcquired 0x01 o s

/-- QPI.TxR_AD_HOM_CREDIT_ACQUIRED.VN1 (R816) -/
def execQpiTxRAdHomCreditAcquiredVn1 (o : EvOp .qpi) (s : State) : Host.Outcome State Fault Refusal :=
  countEvent evQpiTxRAdHomCreditAcquired 0x02 o s

/-- QPI.TxR_AD_HOM_CREDIT_OCCUPANCY.VN0 (R817) -/
def execQpiTxRAdHomCreditOccupancyVn0 (o : EvOp .qpi) (s : State) : Host.Outcome State Fault Refusal :=
  countEvent evQpiTxRAdHomCreditOccupancy 0x01 o s

/-- QPI.TxR_AD_HOM_CREDIT_OCCUPANCY.VN1 (R817) -/
def execQpiTxRAdHomCreditOccupancyVn1 (o : EvOp .qpi) (s : State) : Host.Outcome State Fault Refusal :=
  countEvent evQpiTxRAdHomCreditOccupancy 0x02 o s

/-- QPI.TxR_AD_NDR_CREDIT_ACQUIRED.VN0 (R818) -/
def execQpiTxRAdNdrCreditAcquiredVn0 (o : EvOp .qpi) (s : State) : Host.Outcome State Fault Refusal :=
  countEvent evQpiTxRAdNdrCreditAcquired 0x01 o s

/-- QPI.TxR_AD_NDR_CREDIT_ACQUIRED.VN1 (R818) -/
def execQpiTxRAdNdrCreditAcquiredVn1 (o : EvOp .qpi) (s : State) : Host.Outcome State Fault Refusal :=
  countEvent evQpiTxRAdNdrCreditAcquired 0x02 o s

/-- QPI.TxR_AD_NDR_CREDIT_OCCUPANCY.VN0 (R819) -/
def execQpiTxRAdNdrCreditOccupancyVn0 (o : EvOp .qpi) (s : State) : Host.Outcome State Fault Refusal :=
  countEvent evQpiTxRAdNdrCreditOccupancy 0x01 o s

/-- QPI.TxR_AD_NDR_CREDIT_OCCUPANCY.VN1 (R819) -/
def execQpiTxRAdNdrCreditOccupancyVn1 (o : EvOp .qpi) (s : State) : Host.Outcome State Fault Refusal :=
  countEvent evQpiTxRAdNdrCreditOccupancy 0x02 o s

/-- QPI.TxR_AD_SNP_CREDIT_ACQUIRED.VN0 (R820) -/
def execQpiTxRAdSnpCreditAcquiredVn0 (o : EvOp .qpi) (s : State) : Host.Outcome State Fault Refusal :=
  countEvent evQpiTxRAdSnpCreditAcquired 0x01 o s

/-- QPI.TxR_AD_SNP_CREDIT_ACQUIRED.VN1 (R820) -/
def execQpiTxRAdSnpCreditAcquiredVn1 (o : EvOp .qpi) (s : State) : Host.Outcome State Fault Refusal :=
  countEvent evQpiTxRAdSnpCreditAcquired 0x02 o s

/-- QPI.TxR_AD_SNP_CREDIT_OCCUPANCY.VN0 (R821) -/
def execQpiTxRAdSnpCreditOccupancyVn0 (o : EvOp .qpi) (s : State) : Host.Outcome State Fault Refusal :=
  countEvent evQpiTxRAdSnpCreditOccupancy 0x01 o s

/-- QPI.TxR_AD_SNP_CREDIT_OCCUPANCY.VN1 (R821) -/
def execQpiTxRAdSnpCreditOccupancyVn1 (o : EvOp .qpi) (s : State) : Host.Outcome State Fault Refusal :=
  countEvent evQpiTxRAdSnpCreditOccupancy 0x02 o s

/-- QPI.TxR_AK_NDR_CREDIT_ACQUIRED (R822) -/
def execQpiTxRAkNdrCreditAcquired (o : EvOp .qpi) (s : State) : Host.Outcome State Fault Refusal :=
  countEvent evQpiTxRAkNdrCreditAcquired 0x00 o s

/-- QPI.TxR_AK_NDR_CREDIT_OCCUPANCY (R823) -/
def execQpiTxRAkNdrCreditOccupancy (o : EvOp .qpi) (s : State) : Host.Outcome State Fault Refusal :=
  countEvent evQpiTxRAkNdrCreditOccupancy 0x00 o s

/-- QPI.TxR_BL_DRS_CREDIT_ACQUIRED.VN0 (R824) -/
def execQpiTxRBlDrsCreditAcquiredVn0 (o : EvOp .qpi) (s : State) : Host.Outcome State Fault Refusal :=
  countEvent evQpiTxRBlDrsCreditAcquired 0x01 o s

/-- QPI.TxR_BL_DRS_CREDIT_ACQUIRED.VN1 (R824) -/
def execQpiTxRBlDrsCreditAcquiredVn1 (o : EvOp .qpi) (s : State) : Host.Outcome State Fault Refusal :=
  countEvent evQpiTxRBlDrsCreditAcquired 0x02 o s

/-- QPI.TxR_BL_DRS_CREDIT_ACQUIRED.VN_SHR (R824) -/
def execQpiTxRBlDrsCreditAcquiredVnShr (o : EvOp .qpi) (s : State) : Host.Outcome State Fault Refusal :=
  countEvent evQpiTxRBlDrsCreditAcquired 0x04 o s

/-- QPI.TxR_BL_DRS_CREDIT_OCCUPANCY.VN0 (R825) -/
def execQpiTxRBlDrsCreditOccupancyVn0 (o : EvOp .qpi) (s : State) : Host.Outcome State Fault Refusal :=
  countEvent evQpiTxRBlDrsCreditOccupancy 0x01 o s

/-- QPI.TxR_BL_DRS_CREDIT_OCCUPANCY.VN1 (R825) -/
def execQpiTxRBlDrsCreditOccupancyVn1 (o : EvOp .qpi) (s : State) : Host.Outcome State Fault Refusal :=
  countEvent evQpiTxRBlDrsCreditOccupancy 0x02 o s

/-- QPI.TxR_BL_DRS_CREDIT_OCCUPANCY.VN_SHR (R825) -/
def execQpiTxRBlDrsCreditOccupancyVnShr (o : EvOp .qpi) (s : State) : Host.Outcome State Fault Refusal :=
  countEvent evQpiTxRBlDrsCreditOccupancy 0x04 o s

/-- QPI.TxR_BL_NCB_CREDIT_ACQUIRED.VN0 (R826) -/
def execQpiTxRBlNcbCreditAcquiredVn0 (o : EvOp .qpi) (s : State) : Host.Outcome State Fault Refusal :=
  countEvent evQpiTxRBlNcbCreditAcquired 0x01 o s

/-- QPI.TxR_BL_NCB_CREDIT_ACQUIRED.VN1 (R826) -/
def execQpiTxRBlNcbCreditAcquiredVn1 (o : EvOp .qpi) (s : State) : Host.Outcome State Fault Refusal :=
  countEvent evQpiTxRBlNcbCreditAcquired 0x02 o s

/-- QPI.TxR_BL_NCB_CREDIT_OCCUPANCY.VN0 (R827) -/
def execQpiTxRBlNcbCreditOccupancyVn0 (o : EvOp .qpi) (s : State) : Host.Outcome State Fault Refusal :=
  countEvent evQpiTxRBlNcbCreditOccupancy 0x01 o s

/-- QPI.TxR_BL_NCB_CREDIT_OCCUPANCY.VN1 (R827) -/
def execQpiTxRBlNcbCreditOccupancyVn1 (o : EvOp .qpi) (s : State) : Host.Outcome State Fault Refusal :=
  countEvent evQpiTxRBlNcbCreditOccupancy 0x02 o s

/-- QPI.TxR_BL_NCS_CREDIT_ACQUIRED.VN0 (R828) -/
def execQpiTxRBlNcsCreditAcquiredVn0 (o : EvOp .qpi) (s : State) : Host.Outcome State Fault Refusal :=
  countEvent evQpiTxRBlNcsCreditAcquired 0x01 o s

/-- QPI.TxR_BL_NCS_CREDIT_ACQUIRED.VN1 (R828) -/
def execQpiTxRBlNcsCreditAcquiredVn1 (o : EvOp .qpi) (s : State) : Host.Outcome State Fault Refusal :=
  countEvent evQpiTxRBlNcsCreditAcquired 0x02 o s

/-- QPI.TxR_BL_NCS_CREDIT_OCCUPANCY.VN0 (R829) -/
def execQpiTxRBlNcsCreditOccupancyVn0 (o : EvOp .qpi) (s : State) : Host.Outcome State Fault Refusal :=
  countEvent evQpiTxRBlNcsCreditOccupancy 0x01 o s

/-- QPI.TxR_BL_NCS_CREDIT_OCCUPANCY.VN1 (R829) -/
def execQpiTxRBlNcsCreditOccupancyVn1 (o : EvOp .qpi) (s : State) : Host.Outcome State Fault Refusal :=
  countEvent evQpiTxRBlNcsCreditOccupancy 0x02 o s

/-- QPI.VNA_CREDIT_RETURNS (R830) -/
def execQpiVnaCreditReturns (o : EvOp .qpi) (s : State) : Host.Outcome State Fault Refusal :=
  countEvent evQpiVnaCreditReturns 0x00 o s

/-- QPI.VNA_CREDIT_RETURN_OCCUPANCY (R831) -/
def execQpiVnaCreditReturnOccupancy (o : EvOp .qpi) (s : State) : Host.Outcome State Fault Refusal :=
  countEvent evQpiVnaCreditReturnOccupancy 0x00 o s

end Sys2Proof.Machine
end

