-- ==== Sys2Proof/Machine/R2PCIe.lean ====
section
/-! DEFINITION. The R2PCIe events: each row is one cycle of a counter whose control word selects it (40_global_ubox.md R215, R249). -/

namespace Sys2Proof.Machine

/-- R2PCIe.CLOCKTICKS (R880) -/
def execR2PCIeClockticks (o : EvOp .r2) (s : State) : Host.Outcome State Fault Refusal :=
  countEvent evR2PCIeClockticks 0x00 o s

/-- R2PCIe.IIO_CREDIT.PRQ_QPI0 (R881) -/
def execR2PCIeIioCreditPrqQpi0 (o : EvOp .r2) (s : State) : Host.Outcome State Fault Refusal :=
  countEvent evR2PCIeIioCredit 0x01 o s

/-- R2PCIe.IIO_CREDIT.PRQ_QPI1 (R881) -/
def execR2PCIeIioCreditPrqQpi1 (o : EvOp .r2) (s : State) : Host.Outcome State Fault Refusal :=
  countEvent evR2PCIeIioCredit 0x02 o s

/-- R2PCIe.IIO_CREDIT.ISOCH_QPI0 (R881) -/
def execR2PCIeIioCreditIsochQpi0 (o : EvOp .r2) (s : State) : Host.Outcome State Fault Refusal :=
  countEvent evR2PCIeIioCredit 0x04 o s

/-- R2PCIe.IIO_CREDIT.ISOCH_QPI1 (R881) -/
def execR2PCIeIioCreditIsochQpi1 (o : EvOp .r2) (s : State) : Host.Outcome State Fault Refusal :=
  countEvent evR2PCIeIioCredit 0x08 o s

/-- R2PCIe.RING_AD_USED.CW_EVEN (R882) -/
def execR2PCIeRingAdUsedCwEven (o : EvOp .r2) (s : State) : Host.Outcome State Fault Refusal :=
  countEvent evR2PCIeRingAdUsed 0x01 o s

/-- R2PCIe.RING_AD_USED.CW_ODD (R882) -/
def execR2PCIeRingAdUsedCwOdd (o : EvOp .r2) (s : State) : Host.Outcome State Fault Refusal :=
  countEvent evR2PCIeRingAdUsed 0x02 o s

/-- R2PCIe.RING_AD_USED.CW (R882) -/
def execR2PCIeRingAdUsedCw (o : EvOp .r2) (s : State) : Host.Outcome State Fault Refusal :=
  countEvent evR2PCIeRingAdUsed 0x03 o s

/-- R2PCIe.RING_AD_USED.CCW_EVEN (R882) -/
def execR2PCIeRingAdUsedCcwEven (o : EvOp .r2) (s : State) : Host.Outcome State Fault Refusal :=
  countEvent evR2PCIeRingAdUsed 0x04 o s

/-- R2PCIe.RING_AD_USED.CCW_ODD (R882) -/
def execR2PCIeRingAdUsedCcwOdd (o : EvOp .r2) (s : State) : Host.Outcome State Fault Refusal :=
  countEvent evR2PCIeRingAdUsed 0x08 o s

/-- R2PCIe.RING_AD_USED.CCW (R882) -/
def execR2PCIeRingAdUsedCcw (o : EvOp .r2) (s : State) : Host.Outcome State Fault Refusal :=
  countEvent evR2PCIeRingAdUsed 0x0C o s

/-- R2PCIe.RING_AK_BOUNCES.UP (R883) -/
def execR2PCIeRingAkBouncesUp (o : EvOp .r2) (s : State) : Host.Outcome State Fault Refusal :=
  countEvent evR2PCIeRingAkBounces 0x01 o s

/-- R2PCIe.RING_AK_BOUNCES.DN (R883) -/
def execR2PCIeRingAkBouncesDn (o : EvOp .r2) (s : State) : Host.Outcome State Fault Refusal :=
  countEvent evR2PCIeRingAkBounces 0x02 o s

/-- R2PCIe.RING_AK_USED.CW_EVEN (R884) -/
def execR2PCIeRingAkUsedCwEven (o : EvOp .r2) (s : State) : Host.Outcome State Fault Refusal :=
  countEvent evR2PCIeRingAkUsed 0x01 o s

/-- R2PCIe.RING_AK_USED.CW_ODD (R884) -/
def execR2PCIeRingAkUsedCwOdd (o : EvOp .r2) (s : State) : Host.Outcome State Fault Refusal :=
  countEvent evR2PCIeRingAkUsed 0x02 o s

/-- R2PCIe.RING_AK_USED.CW (R884) -/
def execR2PCIeRingAkUsedCw (o : EvOp .r2) (s : State) : Host.Outcome State Fault Refusal :=
  countEvent evR2PCIeRingAkUsed 0x03 o s

/-- R2PCIe.RING_AK_USED.CCW_EVEN (R884) -/
def execR2PCIeRingAkUsedCcwEven (o : EvOp .r2) (s : State) : Host.Outcome State Fault Refusal :=
  countEvent evR2PCIeRingAkUsed 0x04 o s

/-- R2PCIe.RING_AK_USED.CCW_ODD (R884) -/
def execR2PCIeRingAkUsedCcwOdd (o : EvOp .r2) (s : State) : Host.Outcome State Fault Refusal :=
  countEvent evR2PCIeRingAkUsed 0x08 o s

/-- R2PCIe.RING_AK_USED.CCW (R884) -/
def execR2PCIeRingAkUsedCcw (o : EvOp .r2) (s : State) : Host.Outcome State Fault Refusal :=
  countEvent evR2PCIeRingAkUsed 0x0C o s

/-- R2PCIe.RING_BL_USED.CW_EVEN (R885) -/
def execR2PCIeRingBlUsedCwEven (o : EvOp .r2) (s : State) : Host.Outcome State Fault Refusal :=
  countEvent evR2PCIeRingBlUsed 0x01 o s

/-- R2PCIe.RING_BL_USED.CW_ODD (R885) -/
def execR2PCIeRingBlUsedCwOdd (o : EvOp .r2) (s : State) : Host.Outcome State Fault Refusal :=
  countEvent evR2PCIeRingBlUsed 0x02 o s

/-- R2PCIe.RING_BL_USED.CW (R885) -/
def execR2PCIeRingBlUsedCw (o : EvOp .r2) (s : State) : Host.Outcome State Fault Refusal :=
  countEvent evR2PCIeRingBlUsed 0x03 o s

/-- R2PCIe.RING_BL_USED.CCW_EVEN (R885) -/
def execR2PCIeRingBlUsedCcwEven (o : EvOp .r2) (s : State) : Host.Outcome State Fault Refusal :=
  countEvent evR2PCIeRingBlUsed 0x04 o s

/-- R2PCIe.RING_BL_USED.CCW_ODD (R885) -/
def execR2PCIeRingBlUsedCcwOdd (o : EvOp .r2) (s : State) : Host.Outcome State Fault Refusal :=
  countEvent evR2PCIeRingBlUsed 0x08 o s

/-- R2PCIe.RING_BL_USED.CCW (R885) -/
def execR2PCIeRingBlUsedCcw (o : EvOp .r2) (s : State) : Host.Outcome State Fault Refusal :=
  countEvent evR2PCIeRingBlUsed 0x0C o s

/-- R2PCIe.RING_IV_USED.CW (R886) -/
def execR2PCIeRingIvUsedCw (o : EvOp .r2) (s : State) : Host.Outcome State Fault Refusal :=
  countEvent evR2PCIeRingIvUsed 0x03 o s

/-- R2PCIe.RING_IV_USED.CCW (R886) -/
def execR2PCIeRingIvUsedCcw (o : EvOp .r2) (s : State) : Host.Outcome State Fault Refusal :=
  countEvent evR2PCIeRingIvUsed 0x0C o s

/-- R2PCIe.RING_IV_USED.ANY (R886) -/
def execR2PCIeRingIvUsedAny (o : EvOp .r2) (s : State) : Host.Outcome State Fault Refusal :=
  countEvent evR2PCIeRingIvUsed 0x0F o s

/-- R2PCIe.RxR_CYCLES_NE.NCB (R887) -/
def execR2PCIeRxRCyclesNeNcb (o : EvOp .r2) (s : State) : Host.Outcome State Fault Refusal :=
  countEvent evR2PCIeRxRCyclesNe 0x10 o s

/-- R2PCIe.RxR_CYCLES_NE.NCS (R887) -/
def execR2PCIeRxRCyclesNeNcs (o : EvOp .r2) (s : State) : Host.Outcome State Fault Refusal :=
  countEvent evR2PCIeRxRCyclesNe 0x20 o s

/-- R2PCIe.RxR_INSERTS.NCB (R888) -/
def execR2PCIeRxRInsertsNcb (o : EvOp .r2) (s : State) : Host.Outcome State Fault Refusal :=
  countEvent evR2PCIeRxRInserts 0x10 o s

/-- R2PCIe.RxR_INSERTS.NCS (R888) -/
def execR2PCIeRxRInsertsNcs (o : EvOp .r2) (s : State) : Host.Outcome State Fault Refusal :=
  countEvent evR2PCIeRxRInserts 0x20 o s

/-- R2PCIe.RxR_OCCUPANCY.DRS (R889) -/
def execR2PCIeRxROccupancyDrs (o : EvOp .r2) (s : State) : Host.Outcome State Fault Refusal :=
  countEvent evR2PCIeRxROccupancy 0x08 o s

/-- R2PCIe.SBO0_CREDITS_ACQUIRED.AD (R890) -/
def execR2PCIeSbo0CreditsAcquiredAd (o : EvOp .r2) (s : State) : Host.Outcome State Fault Refusal :=
  countEvent evR2PCIeSbo0CreditsAcquired 0x01 o s

/-- R2PCIe.SBO0_CREDITS_ACQUIRED.BL (R890) -/
def execR2PCIeSbo0CreditsAcquiredBl (o : EvOp .r2) (s : State) : Host.Outcome State Fault Refusal :=
  countEvent evR2PCIeSbo0CreditsAcquired 0x02 o s

/-- R2PCIe.STALL_NO_SBO_CREDIT.SBO0_AD (R891) -/
def execR2PCIeStallNoSboCreditSbo0Ad (o : EvOp .r2) (s : State) : Host.Outcome State Fault Refusal :=
  countEvent evR2PCIeStallNoSboCredit 0x01 o s

/-- R2PCIe.STALL_NO_SBO_CREDIT.SBO1_AD (R891) -/
def execR2PCIeStallNoSboCreditSbo1Ad (o : EvOp .r2) (s : State) : Host.Outcome State Fault Refusal :=
  countEvent evR2PCIeStallNoSboCredit 0x02 o s

/-- R2PCIe.STALL_NO_SBO_CREDIT.SBO0_BL (R891) -/
def execR2PCIeStallNoSboCreditSbo0Bl (o : EvOp .r2) (s : State) : Host.Outcome State Fault Refusal :=
  countEvent evR2PCIeStallNoSboCredit 0x04 o s

/-- R2PCIe.STALL_NO_SBO_CREDIT.SBO1_BL (R891) -/
def execR2PCIeStallNoSboCreditSbo1Bl (o : EvOp .r2) (s : State) : Host.Outcome State Fault Refusal :=
  countEvent evR2PCIeStallNoSboCredit 0x08 o s

/-- R2PCIe.TxR_NACK_CW.DN_AD (R892) -/
def execR2PCIeTxRNackCwDnAd (o : EvOp .r2) (s : State) : Host.Outcome State Fault Refusal :=
  countEvent evR2PCIeTxRNackCw 0x01 o s

/-- R2PCIe.TxR_NACK_CW.DN_BL (R892) -/
def execR2PCIeTxRNackCwDnBl (o : EvOp .r2) (s : State) : Host.Outcome State Fault Refusal :=
  countEvent evR2PCIeTxRNackCw 0x02 o s

/-- R2PCIe.TxR_NACK_CW.DN_AK (R892) -/
def execR2PCIeTxRNackCwDnAk (o : EvOp .r2) (s : State) : Host.Outcome State Fault Refusal :=
  countEvent evR2PCIeTxRNackCw 0x04 o s

/-- R2PCIe.TxR_NACK_CW.UP_AD (R892) -/
def execR2PCIeTxRNackCwUpAd (o : EvOp .r2) (s : State) : Host.Outcome State Fault Refusal :=
  countEvent evR2PCIeTxRNackCw 0x08 o s

/-- R2PCIe.TxR_NACK_CW.UP_BL (R892) -/
def execR2PCIeTxRNackCwUpBl (o : EvOp .r2) (s : State) : Host.Outcome State Fault Refusal :=
  countEvent evR2PCIeTxRNackCw 0x10 o s

/-- R2PCIe.TxR_NACK_CW.UP_AK (R892) -/
def execR2PCIeTxRNackCwUpAk (o : EvOp .r2) (s : State) : Host.Outcome State Fault Refusal :=
  countEvent evR2PCIeTxRNackCw 0x20 o s

end Sys2Proof.Machine
end

