-- ==== Sys2Proof/Machine/R3QPI.lean ====
section
/-! DEFINITION. The R3QPI events: each row is one cycle of a counter whose control word selects it (40_global_ubox.md R215, R249). -/

namespace Sys2Proof.Machine

/-- R3QPI.CLOCKTICKS (R930) -/
def execR3qpiClockticks (o : EvOp .r3) (s : State) : Host.Outcome State Fault Refusal :=
  countEvent evR3qpiClockticks 0x00 o s

/-- R3QPI.C_HI_AD_CREDITS_EMPTY.CBO8 (R931) -/
def execR3qpiCHiAdCreditsEmptyCbo8 (o : EvOp .r3) (s : State) : Host.Outcome State Fault Refusal :=
  countEvent evR3qpiCHiAdCreditsEmpty 0x01 o s

/-- R3QPI.C_HI_AD_CREDITS_EMPTY.CB09 (R931) -/
def execR3qpiCHiAdCreditsEmptyCb09 (o : EvOp .r3) (s : State) : Host.Outcome State Fault Refusal :=
  countEvent evR3qpiCHiAdCreditsEmpty 0x02 o s

/-- R3QPI.C_HI_AD_CREDITS_EMPTY.CBO10 (R931) -/
def execR3qpiCHiAdCreditsEmptyCbo10 (o : EvOp .r3) (s : State) : Host.Outcome State Fault Refusal :=
  countEvent evR3qpiCHiAdCreditsEmpty 0x04 o s

/-- R3QPI.C_HI_AD_CREDITS_EMPTY.CB011 (R931) -/
def execR3qpiCHiAdCreditsEmptyCb011 (o : EvOp .r3) (s : State) : Host.Outcome State Fault Refusal :=
  countEvent evR3qpiCHiAdCreditsEmpty 0x08 o s

/-- R3QPI.C_HI_AD_CREDITS_EMPTY.CBO12 (R931) -/
def execR3qpiCHiAdCreditsEmptyCbo12 (o : EvOp .r3) (s : State) : Host.Outcome State Fault Refusal :=
  countEvent evR3qpiCHiAdCreditsEmpty 0x10 o s

/-- R3QPI.C_HI_AD_CREDITS_EMPTY.CBO13 (R931) -/
def execR3qpiCHiAdCreditsEmptyCbo13 (o : EvOp .r3) (s : State) : Host.Outcome State Fault Refusal :=
  countEvent evR3qpiCHiAdCreditsEmpty 0x20 o s

/-- R3QPI.C_HI_AD_CREDITS_EMPTY.CBO14_16 (R931) -/
def execR3qpiCHiAdCreditsEmptyCbo1416 (o : EvOp .r3) (s : State) : Host.Outcome State Fault Refusal :=
  countEvent evR3qpiCHiAdCreditsEmpty 0x40 o s

/-- R3QPI.C_HI_AD_CREDITS_EMPTY.CBO_15_17 (R931) -/
def execR3qpiCHiAdCreditsEmptyCbo1517 (o : EvOp .r3) (s : State) : Host.Outcome State Fault Refusal :=
  countEvent evR3qpiCHiAdCreditsEmpty 0x80 o s

/-- R3QPI.C_LO_AD_CREDITS_EMPTY.CBO0 (R932) -/
def execR3qpiCLoAdCreditsEmptyCbo0 (o : EvOp .r3) (s : State) : Host.Outcome State Fault Refusal :=
  countEvent evR3qpiCLoAdCreditsEmpty 0x01 o s

/-- R3QPI.C_LO_AD_CREDITS_EMPTY.CBO1 (R932) -/
def execR3qpiCLoAdCreditsEmptyCbo1 (o : EvOp .r3) (s : State) : Host.Outcome State Fault Refusal :=
  countEvent evR3qpiCLoAdCreditsEmpty 0x02 o s

/-- R3QPI.C_LO_AD_CREDITS_EMPTY.CBO2 (R932) -/
def execR3qpiCLoAdCreditsEmptyCbo2 (o : EvOp .r3) (s : State) : Host.Outcome State Fault Refusal :=
  countEvent evR3qpiCLoAdCreditsEmpty 0x04 o s

/-- R3QPI.C_LO_AD_CREDITS_EMPTY.CBO3 (R932) -/
def execR3qpiCLoAdCreditsEmptyCbo3 (o : EvOp .r3) (s : State) : Host.Outcome State Fault Refusal :=
  countEvent evR3qpiCLoAdCreditsEmpty 0x08 o s

/-- R3QPI.C_LO_AD_CREDITS_EMPTY.CB04 (R932) -/
def execR3qpiCLoAdCreditsEmptyCb04 (o : EvOp .r3) (s : State) : Host.Outcome State Fault Refusal :=
  countEvent evR3qpiCLoAdCreditsEmpty 0x10 o s

/-- R3QPI.C_LO_AD_CREDITS_EMPTY.CB05 (R932) -/
def execR3qpiCLoAdCreditsEmptyCb05 (o : EvOp .r3) (s : State) : Host.Outcome State Fault Refusal :=
  countEvent evR3qpiCLoAdCreditsEmpty 0x20 o s

/-- R3QPI.C_LO_AD_CREDITS_EMPTY.CB06 (R932) -/
def execR3qpiCLoAdCreditsEmptyCb06 (o : EvOp .r3) (s : State) : Host.Outcome State Fault Refusal :=
  countEvent evR3qpiCLoAdCreditsEmpty 0x40 o s

/-- R3QPI.C_LO_AD_CREDITS_EMPTY.CB07 (R932) -/
def execR3qpiCLoAdCreditsEmptyCb07 (o : EvOp .r3) (s : State) : Host.Outcome State Fault Refusal :=
  countEvent evR3qpiCLoAdCreditsEmpty 0x80 o s

/-- R3QPI.HA_R2_BL_CREDITS_EMPTY.HA0 (R933) -/
def execR3qpiHaR2BlCreditsEmptyHa0 (o : EvOp .r3) (s : State) : Host.Outcome State Fault Refusal :=
  countEvent evR3qpiHaR2BlCreditsEmpty 0x01 o s

/-- R3QPI.HA_R2_BL_CREDITS_EMPTY.HA1 (R933) -/
def execR3qpiHaR2BlCreditsEmptyHa1 (o : EvOp .r3) (s : State) : Host.Outcome State Fault Refusal :=
  countEvent evR3qpiHaR2BlCreditsEmpty 0x02 o s

/-- R3QPI.HA_R2_BL_CREDITS_EMPTY.R2_NCB (R933) -/
def execR3qpiHaR2BlCreditsEmptyR2Ncb (o : EvOp .r3) (s : State) : Host.Outcome State Fault Refusal :=
  countEvent evR3qpiHaR2BlCreditsEmpty 0x04 o s

/-- R3QPI.HA_R2_BL_CREDITS_EMPTY.R2_NCS (R933) -/
def execR3qpiHaR2BlCreditsEmptyR2Ncs (o : EvOp .r3) (s : State) : Host.Outcome State Fault Refusal :=
  countEvent evR3qpiHaR2BlCreditsEmpty 0x08 o s

/-- R3QPI.QPI0_AD_CREDITS_EMPTY.VNA (R934) -/
def execR3qpiQpi0AdCreditsEmptyVna (o : EvOp .r3) (s : State) : Host.Outcome State Fault Refusal :=
  countEvent evR3qpiQpi0AdCreditsEmpty 0x01 o s

/-- R3QPI.QPI0_AD_CREDITS_EMPTY.VN0_HOM (R934) -/
def execR3qpiQpi0AdCreditsEmptyVn0Hom (o : EvOp .r3) (s : State) : Host.Outcome State Fault Refusal :=
  countEvent evR3qpiQpi0AdCreditsEmpty 0x02 o s

/-- R3QPI.QPI0_AD_CREDITS_EMPTY.VN0_SNP (R934) -/
def execR3qpiQpi0AdCreditsEmptyVn0Snp (o : EvOp .r3) (s : State) : Host.Outcome State Fault Refusal :=
  countEvent evR3qpiQpi0AdCreditsEmpty 0x04 o s

/-- R3QPI.QPI0_AD_CREDITS_EMPTY.VN0_NDR (R934) -/
def execR3qpiQpi0AdCreditsEmptyVn0Ndr (o : EvOp .r3) (s : State) : Host.Outcome State Fault Refusal :=
  countEvent evR3qpiQpi0AdCreditsEmpty 0x08 o s

/-- R3QPI.QPI0_AD_CREDITS_EMPTY.VN1_HOM (R934) -/
def execR3qpiQpi0AdCreditsEmptyVn1Hom (o : EvOp .r3) (s : State) : Host.Outcome State Fault Refusal :=
  countEvent evR3qpiQpi0AdCreditsEmpty 0x10 o s

/-- R3QPI.QPI0_AD_CREDITS_EMPTY.VN1_SNP (R934) -/
def execR3qpiQpi0AdCreditsEmptyVn1Snp (o : EvOp .r3) (s : State) : Host.Outcome State Fault Refusal :=
  countEvent evR3qpiQpi0AdCreditsEmpty 0x20 o s

/-- R3QPI.QPI0_AD_CREDITS_EMPTY.VN1_NDR (R934) -/
def execR3qpiQpi0AdCreditsEmptyVn1Ndr (o : EvOp .r3) (s : State) : Host.Outcome State Fault Refusal :=
  countEvent evR3qpiQpi0AdCreditsEmpty 0x40 o s

/-- R3QPI.QPI0_BL_CREDITS_EMPTY.VNA (R935) -/
def execR3qpiQpi0BlCreditsEmptyVna (o : EvOp .r3) (s : State) : Host.Outcome State Fault Refusal :=
  countEvent evR3qpiQpi0BlCreditsEmpty 0x01 o s

/-- R3QPI.QPI0_BL_CREDITS_EMPTY.VN1_HOM (R935) -/
def execR3qpiQpi0BlCreditsEmptyVn1Hom (o : EvOp .r3) (s : State) : Host.Outcome State Fault Refusal :=
  countEvent evR3qpiQpi0BlCreditsEmpty 0x10 o s

/-- R3QPI.QPI0_BL_CREDITS_EMPTY.VN1_SNP (R935) -/
def execR3qpiQpi0BlCreditsEmptyVn1Snp (o : EvOp .r3) (s : State) : Host.Outcome State Fault Refusal :=
  countEvent evR3qpiQpi0BlCreditsEmpty 0x20 o s

/-- R3QPI.QPI0_BL_CREDITS_EMPTY.VN1_NDR (R935) -/
def execR3qpiQpi0BlCreditsEmptyVn1Ndr (o : EvOp .r3) (s : State) : Host.Outcome State Fault Refusal :=
  countEvent evR3qpiQpi0BlCreditsEmpty 0x40 o s

/-- R3QPI.QPI1_AD_CREDITS_EMPTY.VNA (R936) -/
def execR3qpiQpi1AdCreditsEmptyVna (o : EvOp .r3) (s : State) : Host.Outcome State Fault Refusal :=
  countEvent evR3qpiQpi1AdCreditsEmpty 0x01 o s

/-- R3QPI.QPI1_AD_CREDITS_EMPTY.VN1_HOM (R936) -/
def execR3qpiQpi1AdCreditsEmptyVn1Hom (o : EvOp .r3) (s : State) : Host.Outcome State Fault Refusal :=
  countEvent evR3qpiQpi1AdCreditsEmpty 0x10 o s

/-- R3QPI.QPI1_AD_CREDITS_EMPTY.VN1_SNP (R936) -/
def execR3qpiQpi1AdCreditsEmptyVn1Snp (o : EvOp .r3) (s : State) : Host.Outcome State Fault Refusal :=
  countEvent evR3qpiQpi1AdCreditsEmpty 0x20 o s

/-- R3QPI.QPI1_AD_CREDITS_EMPTY.VN1_NDR (R936) -/
def execR3qpiQpi1AdCreditsEmptyVn1Ndr (o : EvOp .r3) (s : State) : Host.Outcome State Fault Refusal :=
  countEvent evR3qpiQpi1AdCreditsEmpty 0x40 o s

/-- R3QPI.QPI1_BL_CREDITS_EMPTY.VNA (R937) -/
def execR3qpiQpi1BlCreditsEmptyVna (o : EvOp .r3) (s : State) : Host.Outcome State Fault Refusal :=
  countEvent evR3qpiQpi1BlCreditsEmpty 0x01 o s

/-- R3QPI.QPI1_BL_CREDITS_EMPTY.VN0_HOM (R937) -/
def execR3qpiQpi1BlCreditsEmptyVn0Hom (o : EvOp .r3) (s : State) : Host.Outcome State Fault Refusal :=
  countEvent evR3qpiQpi1BlCreditsEmpty 0x02 o s

/-- R3QPI.QPI1_BL_CREDITS_EMPTY.VN0_SNP (R937) -/
def execR3qpiQpi1BlCreditsEmptyVn0Snp (o : EvOp .r3) (s : State) : Host.Outcome State Fault Refusal :=
  countEvent evR3qpiQpi1BlCreditsEmpty 0x04 o s

/-- R3QPI.QPI1_BL_CREDITS_EMPTY.VN0_NDR (R937) -/
def execR3qpiQpi1BlCreditsEmptyVn0Ndr (o : EvOp .r3) (s : State) : Host.Outcome State Fault Refusal :=
  countEvent evR3qpiQpi1BlCreditsEmpty 0x08 o s

/-- R3QPI.QPI1_BL_CREDITS_EMPTY.VN1_HOM (R937) -/
def execR3qpiQpi1BlCreditsEmptyVn1Hom (o : EvOp .r3) (s : State) : Host.Outcome State Fault Refusal :=
  countEvent evR3qpiQpi1BlCreditsEmpty 0x10 o s

/-- R3QPI.QPI1_BL_CREDITS_EMPTY.VN1_SNP (R937) -/
def execR3qpiQpi1BlCreditsEmptyVn1Snp (o : EvOp .r3) (s : State) : Host.Outcome State Fault Refusal :=
  countEvent evR3qpiQpi1BlCreditsEmpty 0x20 o s

/-- R3QPI.QPI1_BL_CREDITS_EMPTY.VN1_NDR (R937) -/
def execR3qpiQpi1BlCreditsEmptyVn1Ndr (o : EvOp .r3) (s : State) : Host.Outcome State Fault Refusal :=
  countEvent evR3qpiQpi1BlCreditsEmpty 0x40 o s

/-- R3QPI.RING_AD_USED.CW_EVEN (R938) -/
def execR3qpiRingAdUsedCwEven (o : EvOp .r3) (s : State) : Host.Outcome State Fault Refusal :=
  countEvent evR3qpiRingAdUsed 0x01 o s

/-- R3QPI.RING_AD_USED.CW_ODD (R938) -/
def execR3qpiRingAdUsedCwOdd (o : EvOp .r3) (s : State) : Host.Outcome State Fault Refusal :=
  countEvent evR3qpiRingAdUsed 0x02 o s

/-- R3QPI.RING_AD_USED.CW (R938) -/
def execR3qpiRingAdUsedCw (o : EvOp .r3) (s : State) : Host.Outcome State Fault Refusal :=
  countEvent evR3qpiRingAdUsed 0x03 o s

/-- R3QPI.RING_AD_USED.CCW_EVEN (R938) -/
def execR3qpiRingAdUsedCcwEven (o : EvOp .r3) (s : State) : Host.Outcome State Fault Refusal :=
  countEvent evR3qpiRingAdUsed 0x04 o s

/-- R3QPI.RING_AD_USED.CCW_ODD (R938) -/
def execR3qpiRingAdUsedCcwOdd (o : EvOp .r3) (s : State) : Host.Outcome State Fault Refusal :=
  countEvent evR3qpiRingAdUsed 0x08 o s

/-- R3QPI.RING_AD_USED.CCW (R938) -/
def execR3qpiRingAdUsedCcw (o : EvOp .r3) (s : State) : Host.Outcome State Fault Refusal :=
  countEvent evR3qpiRingAdUsed 0x0C o s

/-- R3QPI.RING_AK_USED.CW_EVEN (R939) -/
def execR3qpiRingAkUsedCwEven (o : EvOp .r3) (s : State) : Host.Outcome State Fault Refusal :=
  countEvent evR3qpiRingAkUsed 0x01 o s

/-- R3QPI.RING_AK_USED.CW_ODD (R939) -/
def execR3qpiRingAkUsedCwOdd (o : EvOp .r3) (s : State) : Host.Outcome State Fault Refusal :=
  countEvent evR3qpiRingAkUsed 0x02 o s

/-- R3QPI.RING_AK_USED.CW (R939) -/
def execR3qpiRingAkUsedCw (o : EvOp .r3) (s : State) : Host.Outcome State Fault Refusal :=
  countEvent evR3qpiRingAkUsed 0x03 o s

/-- R3QPI.RING_AK_USED.CCW_EVEN (R939) -/
def execR3qpiRingAkUsedCcwEven (o : EvOp .r3) (s : State) : Host.Outcome State Fault Refusal :=
  countEvent evR3qpiRingAkUsed 0x04 o s

/-- R3QPI.RING_AK_USED.CCW_ODD (R939) -/
def execR3qpiRingAkUsedCcwOdd (o : EvOp .r3) (s : State) : Host.Outcome State Fault Refusal :=
  countEvent evR3qpiRingAkUsed 0x08 o s

/-- R3QPI.RING_AK_USED.CCW (R939) -/
def execR3qpiRingAkUsedCcw (o : EvOp .r3) (s : State) : Host.Outcome State Fault Refusal :=
  countEvent evR3qpiRingAkUsed 0x0C o s

/-- R3QPI.RING_BL_USED.CW_EVEN (R940) -/
def execR3qpiRingBlUsedCwEven (o : EvOp .r3) (s : State) : Host.Outcome State Fault Refusal :=
  countEvent evR3qpiRingBlUsed 0x01 o s

/-- R3QPI.RING_BL_USED.CW_ODD (R940) -/
def execR3qpiRingBlUsedCwOdd (o : EvOp .r3) (s : State) : Host.Outcome State Fault Refusal :=
  countEvent evR3qpiRingBlUsed 0x02 o s

/-- R3QPI.RING_BL_USED.CW (R940) -/
def execR3qpiRingBlUsedCw (o : EvOp .r3) (s : State) : Host.Outcome State Fault Refusal :=
  countEvent evR3qpiRingBlUsed 0x03 o s

/-- R3QPI.RING_BL_USED.CCW_EVEN (R940) -/
def execR3qpiRingBlUsedCcwEven (o : EvOp .r3) (s : State) : Host.Outcome State Fault Refusal :=
  countEvent evR3qpiRingBlUsed 0x04 o s

/-- R3QPI.RING_BL_USED.CCW_ODD (R940) -/
def execR3qpiRingBlUsedCcwOdd (o : EvOp .r3) (s : State) : Host.Outcome State Fault Refusal :=
  countEvent evR3qpiRingBlUsed 0x08 o s

/-- R3QPI.RING_BL_USED.CCW (R940) -/
def execR3qpiRingBlUsedCcw (o : EvOp .r3) (s : State) : Host.Outcome State Fault Refusal :=
  countEvent evR3qpiRingBlUsed 0x0C o s

/-- R3QPI.RING_IV_USED.CW (R941) -/
def execR3qpiRingIvUsedCw (o : EvOp .r3) (s : State) : Host.Outcome State Fault Refusal :=
  countEvent evR3qpiRingIvUsed 0x03 o s

/-- R3QPI.RING_IV_USED.ANY (R941) -/
def execR3qpiRingIvUsedAny (o : EvOp .r3) (s : State) : Host.Outcome State Fault Refusal :=
  countEvent evR3qpiRingIvUsed 0x0F o s

/-- R3QPI.RING_SINK_STARVED.AK (R942) -/
def execR3qpiRingSinkStarvedAk (o : EvOp .r3) (s : State) : Host.Outcome State Fault Refusal :=
  countEvent evR3qpiRingSinkStarved 0x02 o s

/-- R3QPI.RxR_CYCLES_NE.HOM (R943) -/
def execR3qpiRxRCyclesNeHom (o : EvOp .r3) (s : State) : Host.Outcome State Fault Refusal :=
  countEvent evR3qpiRxRCyclesNe 0x01 o s

/-- R3QPI.RxR_CYCLES_NE.SNP (R943) -/
def execR3qpiRxRCyclesNeSnp (o : EvOp .r3) (s : State) : Host.Outcome State Fault Refusal :=
  countEvent evR3qpiRxRCyclesNe 0x02 o s

/-- R3QPI.RxR_CYCLES_NE.NDR (R943) -/
def execR3qpiRxRCyclesNeNdr (o : EvOp .r3) (s : State) : Host.Outcome State Fault Refusal :=
  countEvent evR3qpiRxRCyclesNe 0x04 o s

/-- R3QPI.RxR_CYCLES_NE_VN1.HOM (R944) -/
def execR3qpiRxRCyclesNeVn1Hom (o : EvOp .r3) (s : State) : Host.Outcome State Fault Refusal :=
  countEvent evR3qpiRxRCyclesNeVn1 0x01 o s

/-- R3QPI.RxR_CYCLES_NE_VN1.SNP (R944) -/
def execR3qpiRxRCyclesNeVn1Snp (o : EvOp .r3) (s : State) : Host.Outcome State Fault Refusal :=
  countEvent evR3qpiRxRCyclesNeVn1 0x02 o s

/-- R3QPI.RxR_CYCLES_NE_VN1.NDR (R944) -/
def execR3qpiRxRCyclesNeVn1Ndr (o : EvOp .r3) (s : State) : Host.Outcome State Fault Refusal :=
  countEvent evR3qpiRxRCyclesNeVn1 0x04 o s

/-- R3QPI.RxR_CYCLES_NE_VN1.DRS (R944) -/
def execR3qpiRxRCyclesNeVn1Drs (o : EvOp .r3) (s : State) : Host.Outcome State Fault Refusal :=
  countEvent evR3qpiRxRCyclesNeVn1 0x08 o s

/-- R3QPI.RxR_CYCLES_NE_VN1.NCB (R944) -/
def execR3qpiRxRCyclesNeVn1Ncb (o : EvOp .r3) (s : State) : Host.Outcome State Fault Refusal :=
  countEvent evR3qpiRxRCyclesNeVn1 0x10 o s

/-- R3QPI.RxR_CYCLES_NE_VN1.NCS (R944) -/
def execR3qpiRxRCyclesNeVn1Ncs (o : EvOp .r3) (s : State) : Host.Outcome State Fault Refusal :=
  countEvent evR3qpiRxRCyclesNeVn1 0x20 o s

/-- R3QPI.RxR_INSERTS.HOM (R945) -/
def execR3qpiRxRInsertsHom (o : EvOp .r3) (s : State) : Host.Outcome State Fault Refusal :=
  countEvent evR3qpiRxRInserts 0x01 o s

/-- R3QPI.RxR_INSERTS.SNP (R945) -/
def execR3qpiRxRInsertsSnp (o : EvOp .r3) (s : State) : Host.Outcome State Fault Refusal :=
  countEvent evR3qpiRxRInserts 0x02 o s

/-- R3QPI.RxR_INSERTS.NDR (R945) -/
def execR3qpiRxRInsertsNdr (o : EvOp .r3) (s : State) : Host.Outcome State Fault Refusal :=
  countEvent evR3qpiRxRInserts 0x04 o s

/-- R3QPI.RxR_INSERTS.DRS (R945) -/
def execR3qpiRxRInsertsDrs (o : EvOp .r3) (s : State) : Host.Outcome State Fault Refusal :=
  countEvent evR3qpiRxRInserts 0x08 o s

/-- R3QPI.RxR_INSERTS.NCB (R945) -/
def execR3qpiRxRInsertsNcb (o : EvOp .r3) (s : State) : Host.Outcome State Fault Refusal :=
  countEvent evR3qpiRxRInserts 0x10 o s

/-- R3QPI.RxR_INSERTS.NCS (R945) -/
def execR3qpiRxRInsertsNcs (o : EvOp .r3) (s : State) : Host.Outcome State Fault Refusal :=
  countEvent evR3qpiRxRInserts 0x20 o s

/-- R3QPI.RxR_INSERTS_VN1.HOM (R946) -/
def execR3qpiRxRInsertsVn1Hom (o : EvOp .r3) (s : State) : Host.Outcome State Fault Refusal :=
  countEvent evR3qpiRxRInsertsVn1 0x01 o s

/-- R3QPI.RxR_INSERTS_VN1.SNP (R946) -/
def execR3qpiRxRInsertsVn1Snp (o : EvOp .r3) (s : State) : Host.Outcome State Fault Refusal :=
  countEvent evR3qpiRxRInsertsVn1 0x02 o s

/-- R3QPI.RxR_INSERTS_VN1.NDR (R946) -/
def execR3qpiRxRInsertsVn1Ndr (o : EvOp .r3) (s : State) : Host.Outcome State Fault Refusal :=
  countEvent evR3qpiRxRInsertsVn1 0x04 o s

/-- R3QPI.RxR_INSERTS_VN1.DRS (R946) -/
def execR3qpiRxRInsertsVn1Drs (o : EvOp .r3) (s : State) : Host.Outcome State Fault Refusal :=
  countEvent evR3qpiRxRInsertsVn1 0x08 o s

/-- R3QPI.RxR_INSERTS_VN1.NCB (R946) -/
def execR3qpiRxRInsertsVn1Ncb (o : EvOp .r3) (s : State) : Host.Outcome State Fault Refusal :=
  countEvent evR3qpiRxRInsertsVn1 0x10 o s

/-- R3QPI.RxR_INSERTS_VN1.NCS (R946) -/
def execR3qpiRxRInsertsVn1Ncs (o : EvOp .r3) (s : State) : Host.Outcome State Fault Refusal :=
  countEvent evR3qpiRxRInsertsVn1 0x20 o s

/-- R3QPI.RxR_OCCUPANCY_VN1.HOM (R947) -/
def execR3qpiRxROccupancyVn1Hom (o : EvOp .r3) (s : State) : Host.Outcome State Fault Refusal :=
  countEvent evR3qpiRxROccupancyVn1 0x01 o s

/-- R3QPI.RxR_OCCUPANCY_VN1.SNP (R947) -/
def execR3qpiRxROccupancyVn1Snp (o : EvOp .r3) (s : State) : Host.Outcome State Fault Refusal :=
  countEvent evR3qpiRxROccupancyVn1 0x02 o s

/-- R3QPI.RxR_OCCUPANCY_VN1.NDR (R947) -/
def execR3qpiRxROccupancyVn1Ndr (o : EvOp .r3) (s : State) : Host.Outcome State Fault Refusal :=
  countEvent evR3qpiRxROccupancyVn1 0x04 o s

/-- R3QPI.RxR_OCCUPANCY_VN1.DRS (R947) -/
def execR3qpiRxROccupancyVn1Drs (o : EvOp .r3) (s : State) : Host.Outcome State Fault Refusal :=
  countEvent evR3qpiRxROccupancyVn1 0x08 o s

/-- R3QPI.RxR_OCCUPANCY_VN1.NCB (R947) -/
def execR3qpiRxROccupancyVn1Ncb (o : EvOp .r3) (s : State) : Host.Outcome State Fault Refusal :=
  countEvent evR3qpiRxROccupancyVn1 0x10 o s

/-- R3QPI.RxR_OCCUPANCY_VN1.NCS (R947) -/
def execR3qpiRxROccupancyVn1Ncs (o : EvOp .r3) (s : State) : Host.Outcome State Fault Refusal :=
  countEvent evR3qpiRxROccupancyVn1 0x20 o s

/-- R3QPI.SBO0_CREDITS_ACQUIRED.AD (R948) -/
def execR3qpiSbo0CreditsAcquiredAd (o : EvOp .r3) (s : State) : Host.Outcome State Fault Refusal :=
  countEvent evR3qpiSbo0CreditsAcquired 0x01 o s

/-- R3QPI.SBO0_CREDITS_ACQUIRED.BL (R948) -/
def execR3qpiSbo0CreditsAcquiredBl (o : EvOp .r3) (s : State) : Host.Outcome State Fault Refusal :=
  countEvent evR3qpiSbo0CreditsAcquired 0x02 o s

/-- R3QPI.SBO1_CREDITS_ACQUIRED.AD (R949) -/
def execR3qpiSbo1CreditsAcquiredAd (o : EvOp .r3) (s : State) : Host.Outcome State Fault Refusal :=
  countEvent evR3qpiSbo1CreditsAcquired 0x01 o s

/-- R3QPI.SBO1_CREDITS_ACQUIRED.BL (R949) -/
def execR3qpiSbo1CreditsAcquiredBl (o : EvOp .r3) (s : State) : Host.Outcome State Fault Refusal :=
  countEvent evR3qpiSbo1CreditsAcquired 0x02 o s

/-- R3QPI.STALL_NO_SBO_CREDIT.SBO0_AD (R950) -/
def execR3qpiStallNoSboCreditSbo0Ad (o : EvOp .r3) (s : State) : Host.Outcome State Fault Refusal :=
  countEvent evR3qpiStallNoSboCredit 0x01 o s

/-- R3QPI.STALL_NO_SBO_CREDIT.SBO1_AD (R950) -/
def execR3qpiStallNoSboCreditSbo1Ad (o : EvOp .r3) (s : State) : Host.Outcome State Fault Refusal :=
  countEvent evR3qpiStallNoSboCredit 0x02 o s

/-- R3QPI.STALL_NO_SBO_CREDIT.SBO0_BL (R950) -/
def execR3qpiStallNoSboCreditSbo0Bl (o : EvOp .r3) (s : State) : Host.Outcome State Fault Refusal :=
  countEvent evR3qpiStallNoSboCredit 0x04 o s

/-- R3QPI.STALL_NO_SBO_CREDIT.SBO1_BL (R950) -/
def execR3qpiStallNoSboCreditSbo1Bl (o : EvOp .r3) (s : State) : Host.Outcome State Fault Refusal :=
  countEvent evR3qpiStallNoSboCredit 0x08 o s

/-- R3QPI.TxR_NACK.DN_AD (R951) -/
def execR3qpiTxRNackDnAd (o : EvOp .r3) (s : State) : Host.Outcome State Fault Refusal :=
  countEvent evR3qpiTxRNack 0x01 o s

/-- R3QPI.TxR_NACK.DN_BL (R951) -/
def execR3qpiTxRNackDnBl (o : EvOp .r3) (s : State) : Host.Outcome State Fault Refusal :=
  countEvent evR3qpiTxRNack 0x02 o s

/-- R3QPI.TxR_NACK.DN_AK (R951) -/
def execR3qpiTxRNackDnAk (o : EvOp .r3) (s : State) : Host.Outcome State Fault Refusal :=
  countEvent evR3qpiTxRNack 0x04 o s

/-- R3QPI.TxR_NACK.UP_AD (R951) -/
def execR3qpiTxRNackUpAd (o : EvOp .r3) (s : State) : Host.Outcome State Fault Refusal :=
  countEvent evR3qpiTxRNack 0x08 o s

/-- R3QPI.TxR_NACK.UP_BL (R951) -/
def execR3qpiTxRNackUpBl (o : EvOp .r3) (s : State) : Host.Outcome State Fault Refusal :=
  countEvent evR3qpiTxRNack 0x10 o s

/-- R3QPI.TxR_NACK.UP_AK (R951) -/
def execR3qpiTxRNackUpAk (o : EvOp .r3) (s : State) : Host.Outcome State Fault Refusal :=
  countEvent evR3qpiTxRNack 0x20 o s

/-- R3QPI.VN0_CREDITS_REJECT.HOM (R952) -/
def execR3qpiVn0CreditsRejectHom (o : EvOp .r3) (s : State) : Host.Outcome State Fault Refusal :=
  countEvent evR3qpiVn0CreditsReject 0x01 o s

/-- R3QPI.VN0_CREDITS_REJECT.SNP (R952) -/
def execR3qpiVn0CreditsRejectSnp (o : EvOp .r3) (s : State) : Host.Outcome State Fault Refusal :=
  countEvent evR3qpiVn0CreditsReject 0x02 o s

/-- R3QPI.VN0_CREDITS_REJECT.NDR (R952) -/
def execR3qpiVn0CreditsRejectNdr (o : EvOp .r3) (s : State) : Host.Outcome State Fault Refusal :=
  countEvent evR3qpiVn0CreditsReject 0x04 o s

/-- R3QPI.VN0_CREDITS_REJECT.DRS (R952) -/
def execR3qpiVn0CreditsRejectDrs (o : EvOp .r3) (s : State) : Host.Outcome State Fault Refusal :=
  countEvent evR3qpiVn0CreditsReject 0x08 o s

/-- R3QPI.VN0_CREDITS_REJECT.NCB (R952) -/
def execR3qpiVn0CreditsRejectNcb (o : EvOp .r3) (s : State) : Host.Outcome State Fault Refusal :=
  countEvent evR3qpiVn0CreditsReject 0x10 o s

/-- R3QPI.VN0_CREDITS_REJECT.NCS (R952) -/
def execR3qpiVn0CreditsRejectNcs (o : EvOp .r3) (s : State) : Host.Outcome State Fault Refusal :=
  countEvent evR3qpiVn0CreditsReject 0x20 o s

/-- R3QPI.VN0_CREDITS_USED.HOM (R953) -/
def execR3qpiVn0CreditsUsedHom (o : EvOp .r3) (s : State) : Host.Outcome State Fault Refusal :=
  countEvent evR3qpiVn0CreditsUsed 0x01 o s

/-- R3QPI.VN0_CREDITS_USED.SNP (R953) -/
def execR3qpiVn0CreditsUsedSnp (o : EvOp .r3) (s : State) : Host.Outcome State Fault Refusal :=
  countEvent evR3qpiVn0CreditsUsed 0x02 o s

/-- R3QPI.VN0_CREDITS_USED.NDR (R953) -/
def execR3qpiVn0CreditsUsedNdr (o : EvOp .r3) (s : State) : Host.Outcome State Fault Refusal :=
  countEvent evR3qpiVn0CreditsUsed 0x04 o s

/-- R3QPI.VN0_CREDITS_USED.DRS (R953) -/
def execR3qpiVn0CreditsUsedDrs (o : EvOp .r3) (s : State) : Host.Outcome State Fault Refusal :=
  countEvent evR3qpiVn0CreditsUsed 0x08 o s

/-- R3QPI.VN0_CREDITS_USED.NCB (R953) -/
def execR3qpiVn0CreditsUsedNcb (o : EvOp .r3) (s : State) : Host.Outcome State Fault Refusal :=
  countEvent evR3qpiVn0CreditsUsed 0x10 o s

/-- R3QPI.VN0_CREDITS_USED.NCS (R953) -/
def execR3qpiVn0CreditsUsedNcs (o : EvOp .r3) (s : State) : Host.Outcome State Fault Refusal :=
  countEvent evR3qpiVn0CreditsUsed 0x20 o s

/-- R3QPI.VN1_CREDITS_REJECT.HOM (R954) -/
def execR3qpiVn1CreditsRejectHom (o : EvOp .r3) (s : State) : Host.Outcome State Fault Refusal :=
  countEvent evR3qpiVn1CreditsReject 0x01 o s

/-- R3QPI.VN1_CREDITS_REJECT.SNP (R954) -/
def execR3qpiVn1CreditsRejectSnp (o : EvOp .r3) (s : State) : Host.Outcome State Fault Refusal :=
  countEvent evR3qpiVn1CreditsReject 0x02 o s

/-- R3QPI.VN1_CREDITS_REJECT.NDR (R954) -/
def execR3qpiVn1CreditsRejectNdr (o : EvOp .r3) (s : State) : Host.Outcome State Fault Refusal :=
  countEvent evR3qpiVn1CreditsReject 0x04 o s

/-- R3QPI.VN1_CREDITS_REJECT.DRS (R954) -/
def execR3qpiVn1CreditsRejectDrs (o : EvOp .r3) (s : State) : Host.Outcome State Fault Refusal :=
  countEvent evR3qpiVn1CreditsReject 0x08 o s

/-- R3QPI.VN1_CREDITS_REJECT.NCB (R954) -/
def execR3qpiVn1CreditsRejectNcb (o : EvOp .r3) (s : State) : Host.Outcome State Fault Refusal :=
  countEvent evR3qpiVn1CreditsReject 0x10 o s

/-- R3QPI.VN1_CREDITS_REJECT.NCS (R954) -/
def execR3qpiVn1CreditsRejectNcs (o : EvOp .r3) (s : State) : Host.Outcome State Fault Refusal :=
  countEvent evR3qpiVn1CreditsReject 0x20 o s

/-- R3QPI.VN1_CREDITS_USED.HOM (R955) -/
def execR3qpiVn1CreditsUsedHom (o : EvOp .r3) (s : State) : Host.Outcome State Fault Refusal :=
  countEvent evR3qpiVn1CreditsUsed 0x01 o s

/-- R3QPI.VN1_CREDITS_USED.SNP (R955) -/
def execR3qpiVn1CreditsUsedSnp (o : EvOp .r3) (s : State) : Host.Outcome State Fault Refusal :=
  countEvent evR3qpiVn1CreditsUsed 0x02 o s

/-- R3QPI.VN1_CREDITS_USED.NDR (R955) -/
def execR3qpiVn1CreditsUsedNdr (o : EvOp .r3) (s : State) : Host.Outcome State Fault Refusal :=
  countEvent evR3qpiVn1CreditsUsed 0x04 o s

/-- R3QPI.VN1_CREDITS_USED.DRS (R955) -/
def execR3qpiVn1CreditsUsedDrs (o : EvOp .r3) (s : State) : Host.Outcome State Fault Refusal :=
  countEvent evR3qpiVn1CreditsUsed 0x08 o s

/-- R3QPI.VN1_CREDITS_USED.NCB (R955) -/
def execR3qpiVn1CreditsUsedNcb (o : EvOp .r3) (s : State) : Host.Outcome State Fault Refusal :=
  countEvent evR3qpiVn1CreditsUsed 0x10 o s

/-- R3QPI.VN1_CREDITS_USED.NCS (R955) -/
def execR3qpiVn1CreditsUsedNcs (o : EvOp .r3) (s : State) : Host.Outcome State Fault Refusal :=
  countEvent evR3qpiVn1CreditsUsed 0x20 o s

/-- R3QPI.VNA_CREDITS_ACQUIRED.AD (R956) -/
def execR3qpiVnaCreditsAcquiredAd (o : EvOp .r3) (s : State) : Host.Outcome State Fault Refusal :=
  countEvent evR3qpiVnaCreditsAcquired 0x01 o s

/-- R3QPI.VNA_CREDITS_ACQUIRED.BL (R956) -/
def execR3qpiVnaCreditsAcquiredBl (o : EvOp .r3) (s : State) : Host.Outcome State Fault Refusal :=
  countEvent evR3qpiVnaCreditsAcquired 0x04 o s

/-- R3QPI.VNA_CREDITS_REJECT.HOM (R957) -/
def execR3qpiVnaCreditsRejectHom (o : EvOp .r3) (s : State) : Host.Outcome State Fault Refusal :=
  countEvent evR3qpiVnaCreditsReject 0x01 o s

/-- R3QPI.VNA_CREDITS_REJECT.SNP (R957) -/
def execR3qpiVnaCreditsRejectSnp (o : EvOp .r3) (s : State) : Host.Outcome State Fault Refusal :=
  countEvent evR3qpiVnaCreditsReject 0x02 o s

/-- R3QPI.VNA_CREDITS_REJECT.NDR (R957) -/
def execR3qpiVnaCreditsRejectNdr (o : EvOp .r3) (s : State) : Host.Outcome State Fault Refusal :=
  countEvent evR3qpiVnaCreditsReject 0x04 o s

/-- R3QPI.VNA_CREDITS_REJECT.DRS (R957) -/
def execR3qpiVnaCreditsRejectDrs (o : EvOp .r3) (s : State) : Host.Outcome State Fault Refusal :=
  countEvent evR3qpiVnaCreditsReject 0x08 o s

/-- R3QPI.VNA_CREDITS_REJECT.NCB (R957) -/
def execR3qpiVnaCreditsRejectNcb (o : EvOp .r3) (s : State) : Host.Outcome State Fault Refusal :=
  countEvent evR3qpiVnaCreditsReject 0x10 o s

/-- R3QPI.VNA_CREDITS_REJECT.NCS (R957) -/
def execR3qpiVnaCreditsRejectNcs (o : EvOp .r3) (s : State) : Host.Outcome State Fault Refusal :=
  countEvent evR3qpiVnaCreditsReject 0x20 o s

end Sys2Proof.Machine
end

