-- ==== Sys2Proof/Machine/SBo.lean ====
section
/-! DEFINITION. The SBo events: each row is one cycle of a counter whose control word selects it (40_global_ubox.md R215, R249). -/

namespace Sys2Proof.Machine

/-- SBo.BOUNCE_CONTROL (R360) -/
def execSBoBounceControl (o : EvOp .sbo) (s : State) : Host.Outcome State Fault Refusal :=
  countEvent evSBoBounceControl 0x00 o s

/-- SBo.CLOCKTICKS (R361) -/
def execSBoClockticks (o : EvOp .sbo) (s : State) : Host.Outcome State Fault Refusal :=
  countEvent evSBoClockticks 0x00 o s

/-- SBo.FAST_ASSERTED (R362) -/
def execSBoFastAsserted (o : EvOp .sbo) (s : State) : Host.Outcome State Fault Refusal :=
  countEvent evSBoFastAsserted 0x00 o s

/-- SBo.RING_AD_USED.UP_EVEN (R363) -/
def execSBoRingAdUsedUpEven (o : EvOp .sbo) (s : State) : Host.Outcome State Fault Refusal :=
  countEvent evSBoRingAdUsed 0x01 o s

/-- SBo.RING_AD_USED.UP_ODD (R363) -/
def execSBoRingAdUsedUpOdd (o : EvOp .sbo) (s : State) : Host.Outcome State Fault Refusal :=
  countEvent evSBoRingAdUsed 0x02 o s

/-- SBo.RING_AD_USED.UP (R363) -/
def execSBoRingAdUsedUp (o : EvOp .sbo) (s : State) : Host.Outcome State Fault Refusal :=
  countEvent evSBoRingAdUsed 0x03 o s

/-- SBo.RING_AD_USED.DOWN_EVEN (R363) -/
def execSBoRingAdUsedDownEven (o : EvOp .sbo) (s : State) : Host.Outcome State Fault Refusal :=
  countEvent evSBoRingAdUsed 0x04 o s

/-- SBo.RING_AD_USED.DOWN_ODD (R363) -/
def execSBoRingAdUsedDownOdd (o : EvOp .sbo) (s : State) : Host.Outcome State Fault Refusal :=
  countEvent evSBoRingAdUsed 0x08 o s

/-- SBo.RING_AD_USED.DOWN (R363) -/
def execSBoRingAdUsedDown (o : EvOp .sbo) (s : State) : Host.Outcome State Fault Refusal :=
  countEvent evSBoRingAdUsed 0x0C o s

/-- SBo.RING_AK_USED.UP_EVEN (R364) -/
def execSBoRingAkUsedUpEven (o : EvOp .sbo) (s : State) : Host.Outcome State Fault Refusal :=
  countEvent evSBoRingAkUsed 0x01 o s

/-- SBo.RING_AK_USED.UP_ODD (R364) -/
def execSBoRingAkUsedUpOdd (o : EvOp .sbo) (s : State) : Host.Outcome State Fault Refusal :=
  countEvent evSBoRingAkUsed 0x02 o s

/-- SBo.RING_AK_USED.UP (R364) -/
def execSBoRingAkUsedUp (o : EvOp .sbo) (s : State) : Host.Outcome State Fault Refusal :=
  countEvent evSBoRingAkUsed 0x03 o s

/-- SBo.RING_AK_USED.DOWN_EVEN (R364) -/
def execSBoRingAkUsedDownEven (o : EvOp .sbo) (s : State) : Host.Outcome State Fault Refusal :=
  countEvent evSBoRingAkUsed 0x04 o s

/-- SBo.RING_AK_USED.DOWN_ODD (R364) -/
def execSBoRingAkUsedDownOdd (o : EvOp .sbo) (s : State) : Host.Outcome State Fault Refusal :=
  countEvent evSBoRingAkUsed 0x08 o s

/-- SBo.RING_AK_USED.DOWN (R364) -/
def execSBoRingAkUsedDown (o : EvOp .sbo) (s : State) : Host.Outcome State Fault Refusal :=
  countEvent evSBoRingAkUsed 0x0C o s

/-- SBo.RING_BL_USED.UP_EVEN (R365) -/
def execSBoRingBlUsedUpEven (o : EvOp .sbo) (s : State) : Host.Outcome State Fault Refusal :=
  countEvent evSBoRingBlUsed 0x01 o s

/-- SBo.RING_BL_USED.UP_ODD (R365) -/
def execSBoRingBlUsedUpOdd (o : EvOp .sbo) (s : State) : Host.Outcome State Fault Refusal :=
  countEvent evSBoRingBlUsed 0x02 o s

/-- SBo.RING_BL_USED.UP (R365) -/
def execSBoRingBlUsedUp (o : EvOp .sbo) (s : State) : Host.Outcome State Fault Refusal :=
  countEvent evSBoRingBlUsed 0x03 o s

/-- SBo.RING_BL_USED.DOWN_EVEN (R365) -/
def execSBoRingBlUsedDownEven (o : EvOp .sbo) (s : State) : Host.Outcome State Fault Refusal :=
  countEvent evSBoRingBlUsed 0x04 o s

/-- SBo.RING_BL_USED.DOWN_ODD (R365) -/
def execSBoRingBlUsedDownOdd (o : EvOp .sbo) (s : State) : Host.Outcome State Fault Refusal :=
  countEvent evSBoRingBlUsed 0x08 o s

/-- SBo.RING_BL_USED.DOWN (R365) -/
def execSBoRingBlUsedDown (o : EvOp .sbo) (s : State) : Host.Outcome State Fault Refusal :=
  countEvent evSBoRingBlUsed 0x0C o s

/-- SBo.RING_BOUNCES.AD_CACHE (R366) -/
def execSBoRingBouncesAdCache (o : EvOp .sbo) (s : State) : Host.Outcome State Fault Refusal :=
  countEvent evSBoRingBounces 0x01 o s

/-- SBo.RING_BOUNCES.AK_CORE (R366) -/
def execSBoRingBouncesAkCore (o : EvOp .sbo) (s : State) : Host.Outcome State Fault Refusal :=
  countEvent evSBoRingBounces 0x02 o s

/-- SBo.RING_BOUNCES.BL_CORE (R366) -/
def execSBoRingBouncesBlCore (o : EvOp .sbo) (s : State) : Host.Outcome State Fault Refusal :=
  countEvent evSBoRingBounces 0x04 o s

/-- SBo.RING_BOUNCES.IV_CORE (R366) -/
def execSBoRingBouncesIvCore (o : EvOp .sbo) (s : State) : Host.Outcome State Fault Refusal :=
  countEvent evSBoRingBounces 0x08 o s

/-- SBo.RING_IV_USED.UP (R367) -/
def execSBoRingIvUsedUp (o : EvOp .sbo) (s : State) : Host.Outcome State Fault Refusal :=
  countEvent evSBoRingIvUsed 0x03 o s

/-- SBo.RING_IV_USED.DN (R367) -/
def execSBoRingIvUsedDn (o : EvOp .sbo) (s : State) : Host.Outcome State Fault Refusal :=
  countEvent evSBoRingIvUsed 0x0C o s

/-- SBo.RxR_BYPASS.AD_CRD (R368) -/
def execSBoRxRBypassAdCrd (o : EvOp .sbo) (s : State) : Host.Outcome State Fault Refusal :=
  countEvent evSBoRxRBypass 0x01 o s

/-- SBo.RxR_BYPASS.AD_BNC (R368) -/
def execSBoRxRBypassAdBnc (o : EvOp .sbo) (s : State) : Host.Outcome State Fault Refusal :=
  countEvent evSBoRxRBypass 0x02 o s

/-- SBo.RxR_BYPASS.BL_CRD (R368) -/
def execSBoRxRBypassBlCrd (o : EvOp .sbo) (s : State) : Host.Outcome State Fault Refusal :=
  countEvent evSBoRxRBypass 0x04 o s

/-- SBo.RxR_BYPASS.BL_BNC (R368) -/
def execSBoRxRBypassBlBnc (o : EvOp .sbo) (s : State) : Host.Outcome State Fault Refusal :=
  countEvent evSBoRxRBypass 0x08 o s

/-- SBo.RxR_BYPASS.AK (R368) -/
def execSBoRxRBypassAk (o : EvOp .sbo) (s : State) : Host.Outcome State Fault Refusal :=
  countEvent evSBoRxRBypass 0x10 o s

/-- SBo.RxR_BYPASS.IV (R368) -/
def execSBoRxRBypassIv (o : EvOp .sbo) (s : State) : Host.Outcome State Fault Refusal :=
  countEvent evSBoRxRBypass 0x20 o s

/-- SBo.RxR_INSERTS.AD_CRD (R369) -/
def execSBoRxRInsertsAdCrd (o : EvOp .sbo) (s : State) : Host.Outcome State Fault Refusal :=
  countEvent evSBoRxRInserts 0x01 o s

/-- SBo.RxR_INSERTS.AD_BNC (R369) -/
def execSBoRxRInsertsAdBnc (o : EvOp .sbo) (s : State) : Host.Outcome State Fault Refusal :=
  countEvent evSBoRxRInserts 0x02 o s

/-- SBo.RxR_INSERTS.BL_CRD (R369) -/
def execSBoRxRInsertsBlCrd (o : EvOp .sbo) (s : State) : Host.Outcome State Fault Refusal :=
  countEvent evSBoRxRInserts 0x04 o s

/-- SBo.RxR_INSERTS.BL_BNC (R369) -/
def execSBoRxRInsertsBlBnc (o : EvOp .sbo) (s : State) : Host.Outcome State Fault Refusal :=
  countEvent evSBoRxRInserts 0x08 o s

/-- SBo.RxR_INSERTS.AK (R369) -/
def execSBoRxRInsertsAk (o : EvOp .sbo) (s : State) : Host.Outcome State Fault Refusal :=
  countEvent evSBoRxRInserts 0x10 o s

/-- SBo.RxR_INSERTS.IV (R369) -/
def execSBoRxRInsertsIv (o : EvOp .sbo) (s : State) : Host.Outcome State Fault Refusal :=
  countEvent evSBoRxRInserts 0x20 o s

/-- SBo.RxR_OCCUPANCY.AD_CRD (R370) -/
def execSBoRxROccupancyAdCrd (o : EvOp .sbo) (s : State) : Host.Outcome State Fault Refusal :=
  countEvent evSBoRxROccupancy 0x01 o s

/-- SBo.RxR_OCCUPANCY.AD_BNC (R370) -/
def execSBoRxROccupancyAdBnc (o : EvOp .sbo) (s : State) : Host.Outcome State Fault Refusal :=
  countEvent evSBoRxROccupancy 0x02 o s

/-- SBo.RxR_OCCUPANCY.BL_CRD (R370) -/
def execSBoRxROccupancyBlCrd (o : EvOp .sbo) (s : State) : Host.Outcome State Fault Refusal :=
  countEvent evSBoRxROccupancy 0x04 o s

/-- SBo.RxR_OCCUPANCY.BL_BNC (R370) -/
def execSBoRxROccupancyBlBnc (o : EvOp .sbo) (s : State) : Host.Outcome State Fault Refusal :=
  countEvent evSBoRxROccupancy 0x08 o s

/-- SBo.RxR_OCCUPANCY.AK (R370) -/
def execSBoRxROccupancyAk (o : EvOp .sbo) (s : State) : Host.Outcome State Fault Refusal :=
  countEvent evSBoRxROccupancy 0x10 o s

/-- SBo.RxR_OCCUPANCY.IV (R370) -/
def execSBoRxROccupancyIv (o : EvOp .sbo) (s : State) : Host.Outcome State Fault Refusal :=
  countEvent evSBoRxROccupancy 0x20 o s

/-- SBo.TxR_ADS_USED.AD (R371) -/
def execSBoTxRAdsUsedAd (o : EvOp .sbo) (s : State) : Host.Outcome State Fault Refusal :=
  countEvent evSBoTxRAdsUsed 0x01 o s

/-- SBo.TxR_ADS_USED.AK (R371) -/
def execSBoTxRAdsUsedAk (o : EvOp .sbo) (s : State) : Host.Outcome State Fault Refusal :=
  countEvent evSBoTxRAdsUsed 0x02 o s

/-- SBo.TxR_ADS_USED.BL (R371) -/
def execSBoTxRAdsUsedBl (o : EvOp .sbo) (s : State) : Host.Outcome State Fault Refusal :=
  countEvent evSBoTxRAdsUsed 0x04 o s

/-- SBo.TxR_INSERTS.AD_CRD (R372) -/
def execSBoTxRInsertsAdCrd (o : EvOp .sbo) (s : State) : Host.Outcome State Fault Refusal :=
  countEvent evSBoTxRInserts 0x01 o s

/-- SBo.TxR_INSERTS.AD_BNC (R372) -/
def execSBoTxRInsertsAdBnc (o : EvOp .sbo) (s : State) : Host.Outcome State Fault Refusal :=
  countEvent evSBoTxRInserts 0x02 o s

/-- SBo.TxR_INSERTS.BL_CRD (R372) -/
def execSBoTxRInsertsBlCrd (o : EvOp .sbo) (s : State) : Host.Outcome State Fault Refusal :=
  countEvent evSBoTxRInserts 0x04 o s

/-- SBo.TxR_INSERTS.BL_BNC (R372) -/
def execSBoTxRInsertsBlBnc (o : EvOp .sbo) (s : State) : Host.Outcome State Fault Refusal :=
  countEvent evSBoTxRInserts 0x08 o s

/-- SBo.TxR_INSERTS.AK (R372) -/
def execSBoTxRInsertsAk (o : EvOp .sbo) (s : State) : Host.Outcome State Fault Refusal :=
  countEvent evSBoTxRInserts 0x10 o s

/-- SBo.TxR_INSERTS.IV (R372) -/
def execSBoTxRInsertsIv (o : EvOp .sbo) (s : State) : Host.Outcome State Fault Refusal :=
  countEvent evSBoTxRInserts 0x20 o s

/-- SBo.TxR_OCCUPANCY.AD_CRD (R373) -/
def execSBoTxROccupancyAdCrd (o : EvOp .sbo) (s : State) : Host.Outcome State Fault Refusal :=
  countEvent evSBoTxROccupancy 0x01 o s

/-- SBo.TxR_OCCUPANCY.AD_BNC (R373) -/
def execSBoTxROccupancyAdBnc (o : EvOp .sbo) (s : State) : Host.Outcome State Fault Refusal :=
  countEvent evSBoTxROccupancy 0x02 o s

/-- SBo.TxR_OCCUPANCY.BL_CRD (R373) -/
def execSBoTxROccupancyBlCrd (o : EvOp .sbo) (s : State) : Host.Outcome State Fault Refusal :=
  countEvent evSBoTxROccupancy 0x04 o s

/-- SBo.TxR_OCCUPANCY.BL_BNC (R373) -/
def execSBoTxROccupancyBlBnc (o : EvOp .sbo) (s : State) : Host.Outcome State Fault Refusal :=
  countEvent evSBoTxROccupancy 0x08 o s

/-- SBo.TxR_OCCUPANCY.AK (R373) -/
def execSBoTxROccupancyAk (o : EvOp .sbo) (s : State) : Host.Outcome State Fault Refusal :=
  countEvent evSBoTxROccupancy 0x10 o s

/-- SBo.TxR_OCCUPANCY.IV (R373) -/
def execSBoTxROccupancyIv (o : EvOp .sbo) (s : State) : Host.Outcome State Fault Refusal :=
  countEvent evSBoTxROccupancy 0x20 o s

end Sys2Proof.Machine
end

