-- ==== Sys2Proof/Machine/UBox.lean ====
section
/-! DEFINITION. The UBox events: each row is one cycle of a counter whose control word selects it (40_global_ubox.md R215, R249). -/

namespace Sys2Proof.Machine

/-- UBox.EVENT_MSG.DOORBELL_RCVD (R250) -/
def execUBoxEventMsgDoorbellRcvd (o : EvOp .ubox) (s : State) : Host.Outcome State Fault Refusal :=
  countEvent evUBoxEventMsg 0x08 o s

/-- UBox.PHOLD_CYCLES.ASSERT_TO_ACK (R251) -/
def execUBoxPholdCyclesAssertToAck (o : EvOp .ubox) (s : State) : Host.Outcome State Fault Refusal :=
  countEvent evUBoxPholdCycles 0x01 o s

/-- UBox.RACU_REQUESTS (R252) -/
def execUBoxRacuRequests (o : EvOp .ubox) (s : State) : Host.Outcome State Fault Refusal :=
  countEvent evUBoxRacuRequests 0x00 o s

end Sys2Proof.Machine
end

