-- ==== Sys2Proof/Machine/Dispatch.lean ====
section
/-! DEFINITION. One arm per instruction, each one direct call of its meaning. -/

namespace Sys2Proof.Machine

def exec (i : Instr) (s : State) : Host.Outcome State Fault Refusal :=
  match i with
  | .uBoxEventMsgDoorbellRcvd o => Sys2Proof.Machine.execUBoxEventMsgDoorbellRcvd o s
  | .uBoxPholdCyclesAssertToAck o => Sys2Proof.Machine.execUBoxPholdCyclesAssertToAck o s
  | .uBoxRacuRequests o => Sys2Proof.Machine.execUBoxRacuRequests o s
  | .cBoBounceControl o => Sys2Proof.Machine.execCBoBounceControl o s
  | .cBoClockticks o => Sys2Proof.Machine.execCBoClockticks o s
  | .cBoCounter0Occupancy o => Sys2Proof.Machine.execCBoCounter0Occupancy o s
  | .cBoFastAsserted o => Sys2Proof.Machine.execCBoFastAsserted o s
  | .cBoLlcLookupDataRead o => Sys2Proof.Machine.execCBoLlcLookupDataRead o s
  | .cBoLlcLookupWrite o => Sys2Proof.Machine.execCBoLlcLookupWrite o s
  | .cBoLlcLookupRemoteSnoop o => Sys2Proof.Machine.execCBoLlcLookupRemoteSnoop o s
  | .cBoLlcLookupAny o => Sys2Proof.Machine.execCBoLlcLookupAny o s
  | .cBoLlcLookupRead o => Sys2Proof.Machine.execCBoLlcLookupRead o s
  | .cBoLlcLookupNid o => Sys2Proof.Machine.execCBoLlcLookupNid o s
  | .cBoLlcVictimsMState o => Sys2Proof.Machine.execCBoLlcVictimsMState o s
  | .cBoLlcVictimsEState o => Sys2Proof.Machine.execCBoLlcVictimsEState o s
  | .cBoLlcVictimsIState o => Sys2Proof.Machine.execCBoLlcVictimsIState o s
  | .cBoLlcVictimsFState o => Sys2Proof.Machine.execCBoLlcVictimsFState o s
  | .cBoLlcVictimsMiss o => Sys2Proof.Machine.execCBoLlcVictimsMiss o s
  | .cBoLlcVictimsNid o => Sys2Proof.Machine.execCBoLlcVictimsNid o s
  | .cBoMiscRspiWasFse o => Sys2Proof.Machine.execCBoMiscRspiWasFse o s
  | .cBoMiscWcAliasing o => Sys2Proof.Machine.execCBoMiscWcAliasing o s
  | .cBoMiscStarted o => Sys2Proof.Machine.execCBoMiscStarted o s
  | .cBoMiscRfoHitS o => Sys2Proof.Machine.execCBoMiscRfoHitS o s
  | .cBoMiscCvzeroPrefetchVictim o => Sys2Proof.Machine.execCBoMiscCvzeroPrefetchVictim o s
  | .cBoMiscCvzeroPrefetchMiss o => Sys2Proof.Machine.execCBoMiscCvzeroPrefetchMiss o s
  | .cBoRingAdUsedUpEven o => Sys2Proof.Machine.execCBoRingAdUsedUpEven o s
  | .cBoRingAdUsedUpOdd o => Sys2Proof.Machine.execCBoRingAdUsedUpOdd o s
  | .cBoRingAdUsedUp o => Sys2Proof.Machine.execCBoRingAdUsedUp o s
  | .cBoRingAdUsedDownEven o => Sys2Proof.Machine.execCBoRingAdUsedDownEven o s
  | .cBoRingAdUsedDownOdd o => Sys2Proof.Machine.execCBoRingAdUsedDownOdd o s
  | .cBoRingAdUsedDown o => Sys2Proof.Machine.execCBoRingAdUsedDown o s
  | .cBoRingAdUsedAll o => Sys2Proof.Machine.execCBoRingAdUsedAll o s
  | .cBoRingAkUsedUpEven o => Sys2Proof.Machine.execCBoRingAkUsedUpEven o s
  | .cBoRingAkUsedUpOdd o => Sys2Proof.Machine.execCBoRingAkUsedUpOdd o s
  | .cBoRingAkUsedUp o => Sys2Proof.Machine.execCBoRingAkUsedUp o s
  | .cBoRingAkUsedDownEven o => Sys2Proof.Machine.execCBoRingAkUsedDownEven o s
  | .cBoRingAkUsedDownOdd o => Sys2Proof.Machine.execCBoRingAkUsedDownOdd o s
  | .cBoRingAkUsedDown o => Sys2Proof.Machine.execCBoRingAkUsedDown o s
  | .cBoRingAkUsedAll o => Sys2Proof.Machine.execCBoRingAkUsedAll o s
  | .cBoRingBlUsedUpEven o => Sys2Proof.Machine.execCBoRingBlUsedUpEven o s
  | .cBoRingBlUsedUpOdd o => Sys2Proof.Machine.execCBoRingBlUsedUpOdd o s
  | .cBoRingBlUsedUp o => Sys2Proof.Machine.execCBoRingBlUsedUp o s
  | .cBoRingBlUsedDownEven o => Sys2Proof.Machine.execCBoRingBlUsedDownEven o s
  | .cBoRingBlUsedDownOdd o => Sys2Proof.Machine.execCBoRingBlUsedDownOdd o s
  | .cBoRingBlUsedDown o => Sys2Proof.Machine.execCBoRingBlUsedDown o s
  | .cBoRingBlUsedAll o => Sys2Proof.Machine.execCBoRingBlUsedAll o s
  | .cBoRingBouncesAd o => Sys2Proof.Machine.execCBoRingBouncesAd o s
  | .cBoRingBouncesAk o => Sys2Proof.Machine.execCBoRingBouncesAk o s
  | .cBoRingBouncesBl o => Sys2Proof.Machine.execCBoRingBouncesBl o s
  | .cBoRingBouncesIv o => Sys2Proof.Machine.execCBoRingBouncesIv o s
  | .cBoRingIvUsedUp o => Sys2Proof.Machine.execCBoRingIvUsedUp o s
  | .cBoRingIvUsedDn o => Sys2Proof.Machine.execCBoRingIvUsedDn o s
  | .cBoRingIvUsedAny o => Sys2Proof.Machine.execCBoRingIvUsedAny o s
  | .cBoRingIvUsedDown o => Sys2Proof.Machine.execCBoRingIvUsedDown o s
  | .cBoRingSrcThrtl o => Sys2Proof.Machine.execCBoRingSrcThrtl o s
  | .cBoRxRExtStarvedIrq o => Sys2Proof.Machine.execCBoRxRExtStarvedIrq o s
  | .cBoRxRExtStarvedIpq o => Sys2Proof.Machine.execCBoRxRExtStarvedIpq o s
  | .cBoRxRExtStarvedPrq o => Sys2Proof.Machine.execCBoRxRExtStarvedPrq o s
  | .cBoRxRExtStarvedIsmqBids o => Sys2Proof.Machine.execCBoRxRExtStarvedIsmqBids o s
  | .cBoRxRInsertsIrq o => Sys2Proof.Machine.execCBoRxRInsertsIrq o s
  | .cBoRxRInsertsIrqRej o => Sys2Proof.Machine.execCBoRxRInsertsIrqRej o s
  | .cBoRxRInsertsIpq o => Sys2Proof.Machine.execCBoRxRInsertsIpq o s
  | .cBoRxRInsertsPrq o => Sys2Proof.Machine.execCBoRxRInsertsPrq o s
  | .cBoRxRInsertsPrqRej o => Sys2Proof.Machine.execCBoRxRInsertsPrqRej o s
  | .cBoRxRIpqRetryAny o => Sys2Proof.Machine.execCBoRxRIpqRetryAny o s
  | .cBoRxRIpqRetryFull o => Sys2Proof.Machine.execCBoRxRIpqRetryFull o s
  | .cBoRxRIpqRetryAddrConflict o => Sys2Proof.Machine.execCBoRxRIpqRetryAddrConflict o s
  | .cBoRxRIpqRetryQpiCredits o => Sys2Proof.Machine.execCBoRxRIpqRetryQpiCredits o s
  | .cBoRxRIpqRetry2AdSbo o => Sys2Proof.Machine.execCBoRxRIpqRetry2AdSbo o s
  | .cBoRxRIpqRetry2Target o => Sys2Proof.Machine.execCBoRxRIpqRetry2Target o s
  | .cBoRxRIrqRetryAny o => Sys2Proof.Machine.execCBoRxRIrqRetryAny o s
  | .cBoRxRIrqRetryFull o => Sys2Proof.Machine.execCBoRxRIrqRetryFull o s
  | .cBoRxRIrqRetryAddrConflict o => Sys2Proof.Machine.execCBoRxRIrqRetryAddrConflict o s
  | .cBoRxRIrqRetryRtid o => Sys2Proof.Machine.execCBoRxRIrqRetryRtid o s
  | .cBoRxRIrqRetryQpiCredits o => Sys2Proof.Machine.execCBoRxRIrqRetryQpiCredits o s
  | .cBoRxRIrqRetryIioCredits o => Sys2Proof.Machine.execCBoRxRIrqRetryIioCredits o s
  | .cBoRxRIrqRetryNid o => Sys2Proof.Machine.execCBoRxRIrqRetryNid o s
  | .cBoRxRIrqRetry2AdSbo o => Sys2Proof.Machine.execCBoRxRIrqRetry2AdSbo o s
  | .cBoRxRIrqRetry2BlSbo o => Sys2Proof.Machine.execCBoRxRIrqRetry2BlSbo o s
  | .cBoRxRIrqRetry2Target o => Sys2Proof.Machine.execCBoRxRIrqRetry2Target o s
  | .cBoRxRIsmqRetryAny o => Sys2Proof.Machine.execCBoRxRIsmqRetryAny o s
  | .cBoRxRIsmqRetryFull o => Sys2Proof.Machine.execCBoRxRIsmqRetryFull o s
  | .cBoRxRIsmqRetryRtid o => Sys2Proof.Machine.execCBoRxRIsmqRetryRtid o s
  | .cBoRxRIsmqRetryQpiCredits o => Sys2Proof.Machine.execCBoRxRIsmqRetryQpiCredits o s
  | .cBoRxRIsmqRetryIioCredits o => Sys2Proof.Machine.execCBoRxRIsmqRetryIioCredits o s
  | .cBoRxRIsmqRetryNid o => Sys2Proof.Machine.execCBoRxRIsmqRetryNid o s
  | .cBoRxRIsmqRetryWbCredits o => Sys2Proof.Machine.execCBoRxRIsmqRetryWbCredits o s
  | .cBoRxRIsmqRetry2AdSbo o => Sys2Proof.Machine.execCBoRxRIsmqRetry2AdSbo o s
  | .cBoRxRIsmqRetry2BlSbo o => Sys2Proof.Machine.execCBoRxRIsmqRetry2BlSbo o s
  | .cBoRxRIsmqRetry2Target o => Sys2Proof.Machine.execCBoRxRIsmqRetry2Target o s
  | .cBoRxROccupancyIrq o => Sys2Proof.Machine.execCBoRxROccupancyIrq o s
  | .cBoRxROccupancyIrqRej o => Sys2Proof.Machine.execCBoRxROccupancyIrqRej o s
  | .cBoRxROccupancyIpq o => Sys2Proof.Machine.execCBoRxROccupancyIpq o s
  | .cBoRxROccupancyPrqRej o => Sys2Proof.Machine.execCBoRxROccupancyPrqRej o s
  | .cBoSboCreditsAcquiredAd o => Sys2Proof.Machine.execCBoSboCreditsAcquiredAd o s
  | .cBoSboCreditsAcquiredBl o => Sys2Proof.Machine.execCBoSboCreditsAcquiredBl o s
  | .cBoSboCreditOccupancyAd o => Sys2Proof.Machine.execCBoSboCreditOccupancyAd o s
  | .cBoSboCreditOccupancyBl o => Sys2Proof.Machine.execCBoSboCreditOccupancyBl o s
  | .cBoTorInsertsOpcode o => Sys2Proof.Machine.execCBoTorInsertsOpcode o s
  | .cBoTorInsertsMissOpcode o => Sys2Proof.Machine.execCBoTorInsertsMissOpcode o s
  | .cBoTorInsertsEviction o => Sys2Proof.Machine.execCBoTorInsertsEviction o s
  | .cBoTorInsertsAll o => Sys2Proof.Machine.execCBoTorInsertsAll o s
  | .cBoTorInsertsWb o => Sys2Proof.Machine.execCBoTorInsertsWb o s
  | .cBoTorInsertsLocalOpcode o => Sys2Proof.Machine.execCBoTorInsertsLocalOpcode o s
  | .cBoTorInsertsMissLocalOpcode o => Sys2Proof.Machine.execCBoTorInsertsMissLocalOpcode o s
  | .cBoTorInsertsLocal o => Sys2Proof.Machine.execCBoTorInsertsLocal o s
  | .cBoTorInsertsMissLocal o => Sys2Proof.Machine.execCBoTorInsertsMissLocal o s
  | .cBoTorInsertsNidOpcode o => Sys2Proof.Machine.execCBoTorInsertsNidOpcode o s
  | .cBoTorInsertsNidMissOpcode o => Sys2Proof.Machine.execCBoTorInsertsNidMissOpcode o s
  | .cBoTorInsertsNidEviction o => Sys2Proof.Machine.execCBoTorInsertsNidEviction o s
  | .cBoTorInsertsNidAll o => Sys2Proof.Machine.execCBoTorInsertsNidAll o s
  | .cBoTorInsertsNidMissAll o => Sys2Proof.Machine.execCBoTorInsertsNidMissAll o s
  | .cBoTorInsertsNidWb o => Sys2Proof.Machine.execCBoTorInsertsNidWb o s
  | .cBoTorInsertsRemoteOpcode o => Sys2Proof.Machine.execCBoTorInsertsRemoteOpcode o s
  | .cBoTorInsertsMissRemoteOpcode o => Sys2Proof.Machine.execCBoTorInsertsMissRemoteOpcode o s
  | .cBoTorInsertsRemote o => Sys2Proof.Machine.execCBoTorInsertsRemote o s
  | .cBoTorInsertsMissRemote o => Sys2Proof.Machine.execCBoTorInsertsMissRemote o s
  | .cBoTorOccupancyOpcode o => Sys2Proof.Machine.execCBoTorOccupancyOpcode o s
  | .cBoTorOccupancyMissOpcode o => Sys2Proof.Machine.execCBoTorOccupancyMissOpcode o s
  | .cBoTorOccupancyEviction o => Sys2Proof.Machine.execCBoTorOccupancyEviction o s
  | .cBoTorOccupancyAll o => Sys2Proof.Machine.execCBoTorOccupancyAll o s
  | .cBoTorOccupancyMissAll o => Sys2Proof.Machine.execCBoTorOccupancyMissAll o s
  | .cBoTorOccupancyWb o => Sys2Proof.Machine.execCBoTorOccupancyWb o s
  | .cBoTorOccupancyLocalOpcode o => Sys2Proof.Machine.execCBoTorOccupancyLocalOpcode o s
  | .cBoTorOccupancyMissLocalOpcode o => Sys2Proof.Machine.execCBoTorOccupancyMissLocalOpcode o s
  | .cBoTorOccupancyLocal o => Sys2Proof.Machine.execCBoTorOccupancyLocal o s
  | .cBoTorOccupancyMissLocal o => Sys2Proof.Machine.execCBoTorOccupancyMissLocal o s
  | .cBoTorOccupancyNidOpcode o => Sys2Proof.Machine.execCBoTorOccupancyNidOpcode o s
  | .cBoTorOccupancyNidMissOpcode o => Sys2Proof.Machine.execCBoTorOccupancyNidMissOpcode o s
  | .cBoTorOccupancyNidEviction o => Sys2Proof.Machine.execCBoTorOccupancyNidEviction o s
  | .cBoTorOccupancyNidAll o => Sys2Proof.Machine.execCBoTorOccupancyNidAll o s
  | .cBoTorOccupancyNidMissAll o => Sys2Proof.Machine.execCBoTorOccupancyNidMissAll o s
  | .cBoTorOccupancyNidWb o => Sys2Proof.Machine.execCBoTorOccupancyNidWb o s
  | .cBoTorOccupancyRemoteOpcode o => Sys2Proof.Machine.execCBoTorOccupancyRemoteOpcode o s
  | .cBoTorOccupancyMissRemoteOpcode o => Sys2Proof.Machine.execCBoTorOccupancyMissRemoteOpcode o s
  | .cBoTorOccupancyRemote o => Sys2Proof.Machine.execCBoTorOccupancyRemote o s
  | .cBoTorOccupancyMissRemote o => Sys2Proof.Machine.execCBoTorOccupancyMissRemote o s
  | .cBoTxRAdsUsedAd o => Sys2Proof.Machine.execCBoTxRAdsUsedAd o s
  | .cBoTxRAdsUsedAk o => Sys2Proof.Machine.execCBoTxRAdsUsedAk o s
  | .cBoTxRAdsUsedBl o => Sys2Proof.Machine.execCBoTxRAdsUsedBl o s
  | .cBoTxRInsertsAdCache o => Sys2Proof.Machine.execCBoTxRInsertsAdCache o s
  | .cBoTxRInsertsAkCache o => Sys2Proof.Machine.execCBoTxRInsertsAkCache o s
  | .cBoTxRInsertsBlCache o => Sys2Proof.Machine.execCBoTxRInsertsBlCache o s
  | .cBoTxRInsertsIvCache o => Sys2Proof.Machine.execCBoTxRInsertsIvCache o s
  | .cBoTxRInsertsAdCore o => Sys2Proof.Machine.execCBoTxRInsertsAdCore o s
  | .cBoTxRInsertsAkCore o => Sys2Proof.Machine.execCBoTxRInsertsAkCore o s
  | .cBoTxRInsertsBlCore o => Sys2Proof.Machine.execCBoTxRInsertsBlCore o s
  | .sBoBounceControl o => Sys2Proof.Machine.execSBoBounceControl o s
  | .sBoClockticks o => Sys2Proof.Machine.execSBoClockticks o s
  | .sBoFastAsserted o => Sys2Proof.Machine.execSBoFastAsserted o s
  | .sBoRingAdUsedUpEven o => Sys2Proof.Machine.execSBoRingAdUsedUpEven o s
  | .sBoRingAdUsedUpOdd o => Sys2Proof.Machine.execSBoRingAdUsedUpOdd o s
  | .sBoRingAdUsedUp o => Sys2Proof.Machine.execSBoRingAdUsedUp o s
  | .sBoRingAdUsedDownEven o => Sys2Proof.Machine.execSBoRingAdUsedDownEven o s
  | .sBoRingAdUsedDownOdd o => Sys2Proof.Machine.execSBoRingAdUsedDownOdd o s
  | .sBoRingAdUsedDown o => Sys2Proof.Machine.execSBoRingAdUsedDown o s
  | .sBoRingAkUsedUpEven o => Sys2Proof.Machine.execSBoRingAkUsedUpEven o s
  | .sBoRingAkUsedUpOdd o => Sys2Proof.Machine.execSBoRingAkUsedUpOdd o s
  | .sBoRingAkUsedUp o => Sys2Proof.Machine.execSBoRingAkUsedUp o s
  | .sBoRingAkUsedDownEven o => Sys2Proof.Machine.execSBoRingAkUsedDownEven o s
  | .sBoRingAkUsedDownOdd o => Sys2Proof.Machine.execSBoRingAkUsedDownOdd o s
  | .sBoRingAkUsedDown o => Sys2Proof.Machine.execSBoRingAkUsedDown o s
  | .sBoRingBlUsedUpEven o => Sys2Proof.Machine.execSBoRingBlUsedUpEven o s
  | .sBoRingBlUsedUpOdd o => Sys2Proof.Machine.execSBoRingBlUsedUpOdd o s
  | .sBoRingBlUsedUp o => Sys2Proof.Machine.execSBoRingBlUsedUp o s
  | .sBoRingBlUsedDownEven o => Sys2Proof.Machine.execSBoRingBlUsedDownEven o s
  | .sBoRingBlUsedDownOdd o => Sys2Proof.Machine.execSBoRingBlUsedDownOdd o s
  | .sBoRingBlUsedDown o => Sys2Proof.Machine.execSBoRingBlUsedDown o s
  | .sBoRingBouncesAdCache o => Sys2Proof.Machine.execSBoRingBouncesAdCache o s
  | .sBoRingBouncesAkCore o => Sys2Proof.Machine.execSBoRingBouncesAkCore o s
  | .sBoRingBouncesBlCore o => Sys2Proof.Machine.execSBoRingBouncesBlCore o s
  | .sBoRingBouncesIvCore o => Sys2Proof.Machine.execSBoRingBouncesIvCore o s
  | .sBoRingIvUsedUp o => Sys2Proof.Machine.execSBoRingIvUsedUp o s
  | .sBoRingIvUsedDn o => Sys2Proof.Machine.execSBoRingIvUsedDn o s
  | .sBoRxRBypassAdCrd o => Sys2Proof.Machine.execSBoRxRBypassAdCrd o s
  | .sBoRxRBypassAdBnc o => Sys2Proof.Machine.execSBoRxRBypassAdBnc o s
  | .sBoRxRBypassBlCrd o => Sys2Proof.Machine.execSBoRxRBypassBlCrd o s
  | .sBoRxRBypassBlBnc o => Sys2Proof.Machine.execSBoRxRBypassBlBnc o s
  | .sBoRxRBypassAk o => Sys2Proof.Machine.execSBoRxRBypassAk o s
  | .sBoRxRBypassIv o => Sys2Proof.Machine.execSBoRxRBypassIv o s
  | .sBoRxRInsertsAdCrd o => Sys2Proof.Machine.execSBoRxRInsertsAdCrd o s
  | .sBoRxRInsertsAdBnc o => Sys2Proof.Machine.execSBoRxRInsertsAdBnc o s
  | .sBoRxRInsertsBlCrd o => Sys2Proof.Machine.execSBoRxRInsertsBlCrd o s
  | .sBoRxRInsertsBlBnc o => Sys2Proof.Machine.execSBoRxRInsertsBlBnc o s
  | .sBoRxRInsertsAk o => Sys2Proof.Machine.execSBoRxRInsertsAk o s
  | .sBoRxRInsertsIv o => Sys2Proof.Machine.execSBoRxRInsertsIv o s
  | .sBoRxROccupancyAdCrd o => Sys2Proof.Machine.execSBoRxROccupancyAdCrd o s
  | .sBoRxROccupancyAdBnc o => Sys2Proof.Machine.execSBoRxROccupancyAdBnc o s
  | .sBoRxROccupancyBlCrd o => Sys2Proof.Machine.execSBoRxROccupancyBlCrd o s
  | .sBoRxROccupancyBlBnc o => Sys2Proof.Machine.execSBoRxROccupancyBlBnc o s
  | .sBoRxROccupancyAk o => Sys2Proof.Machine.execSBoRxROccupancyAk o s
  | .sBoRxROccupancyIv o => Sys2Proof.Machine.execSBoRxROccupancyIv o s
  | .sBoTxRAdsUsedAd o => Sys2Proof.Machine.execSBoTxRAdsUsedAd o s
  | .sBoTxRAdsUsedAk o => Sys2Proof.Machine.execSBoTxRAdsUsedAk o s
  | .sBoTxRAdsUsedBl o => Sys2Proof.Machine.execSBoTxRAdsUsedBl o s
  | .sBoTxRInsertsAdCrd o => Sys2Proof.Machine.execSBoTxRInsertsAdCrd o s
  | .sBoTxRInsertsAdBnc o => Sys2Proof.Machine.execSBoTxRInsertsAdBnc o s
  | .sBoTxRInsertsBlCrd o => Sys2Proof.Machine.execSBoTxRInsertsBlCrd o s
  | .sBoTxRInsertsBlBnc o => Sys2Proof.Machine.execSBoTxRInsertsBlBnc o s
  | .sBoTxRInsertsAk o => Sys2Proof.Machine.execSBoTxRInsertsAk o s
  | .sBoTxRInsertsIv o => Sys2Proof.Machine.execSBoTxRInsertsIv o s
  | .sBoTxROccupancyAdCrd o => Sys2Proof.Machine.execSBoTxROccupancyAdCrd o s
  | .sBoTxROccupancyAdBnc o => Sys2Proof.Machine.execSBoTxROccupancyAdBnc o s
  | .sBoTxROccupancyBlCrd o => Sys2Proof.Machine.execSBoTxROccupancyBlCrd o s
  | .sBoTxROccupancyBlBnc o => Sys2Proof.Machine.execSBoTxROccupancyBlBnc o s
  | .sBoTxROccupancyAk o => Sys2Proof.Machine.execSBoTxROccupancyAk o s
  | .sBoTxROccupancyIv o => Sys2Proof.Machine.execSBoTxROccupancyIv o s
  | .haAddrOpcMatchAddr o => Sys2Proof.Machine.execHaAddrOpcMatchAddr o s
  | .haAddrOpcMatchOpc o => Sys2Proof.Machine.execHaAddrOpcMatchOpc o s
  | .haAddrOpcMatchFilt o => Sys2Proof.Machine.execHaAddrOpcMatchFilt o s
  | .haAddrOpcMatchAd o => Sys2Proof.Machine.execHaAddrOpcMatchAd o s
  | .haAddrOpcMatchBl o => Sys2Proof.Machine.execHaAddrOpcMatchBl o s
  | .haAddrOpcMatchAk o => Sys2Proof.Machine.execHaAddrOpcMatchAk o s
  | .haBtCyclesNe o => Sys2Proof.Machine.execHaBtCyclesNe o s
  | .haBtOccupancy o => Sys2Proof.Machine.execHaBtOccupancy o s
  | .haBypassImcTaken o => Sys2Proof.Machine.execHaBypassImcTaken o s
  | .haBypassImcNotTaken o => Sys2Proof.Machine.execHaBypassImcNotTaken o s
  | .haClockticks o => Sys2Proof.Machine.execHaClockticks o s
  | .haConflictCycles o => Sys2Proof.Machine.execHaConflictCycles o s
  | .haDirect2coreCount o => Sys2Proof.Machine.execHaDirect2coreCount o s
  | .haDirect2coreCyclesDisabled o => Sys2Proof.Machine.execHaDirect2coreCyclesDisabled o s
  | .haDirect2coreTxnOverride o => Sys2Proof.Machine.execHaDirect2coreTxnOverride o s
  | .haDirectoryLatOpt o => Sys2Proof.Machine.execHaDirectoryLatOpt o s
  | .haDirectoryLookupSnp o => Sys2Proof.Machine.execHaDirectoryLookupSnp o s
  | .haDirectoryLookupNoSnp o => Sys2Proof.Machine.execHaDirectoryLookupNoSnp o s
  | .haDirectoryUpdateSet o => Sys2Proof.Machine.execHaDirectoryUpdateSet o s
  | .haDirectoryUpdateClear o => Sys2Proof.Machine.execHaDirectoryUpdateClear o s
  | .haDirectoryUpdateAny o => Sys2Proof.Machine.execHaDirectoryUpdateAny o s
  | .haHitmeHitReadOrInvitoe o => Sys2Proof.Machine.execHaHitmeHitReadOrInvitoe o s
  | .haHitmeHitWbmtoi o => Sys2Proof.Machine.execHaHitmeHitWbmtoi o s
  | .haHitmeHitAckcnfltwbi o => Sys2Proof.Machine.execHaHitmeHitAckcnfltwbi o s
  | .haHitmeHitWbmtoeOrS o => Sys2Proof.Machine.execHaHitmeHitWbmtoeOrS o s
  | .haHitmeHitHom o => Sys2Proof.Machine.execHaHitmeHitHom o s
  | .haHitmeHitRspfwdiRemote o => Sys2Proof.Machine.execHaHitmeHitRspfwdiRemote o s
  | .haHitmeHitRspfwdiLocal o => Sys2Proof.Machine.execHaHitmeHitRspfwdiLocal o s
  | .haHitmeHitInvals o => Sys2Proof.Machine.execHaHitmeHitInvals o s
  | .haHitmeHitRspfwds o => Sys2Proof.Machine.execHaHitmeHitRspfwds o s
  | .haHitmeHitEvicts o => Sys2Proof.Machine.execHaHitmeHitEvicts o s
  | .haHitmeHitAllocs o => Sys2Proof.Machine.execHaHitmeHitAllocs o s
  | .haHitmeHitRsp o => Sys2Proof.Machine.execHaHitmeHitRsp o s
  | .haHitmeHitAll o => Sys2Proof.Machine.execHaHitmeHitAll o s
  | .haHitmeHitPvBitsSetReadOrInvitoe o => Sys2Proof.Machine.execHaHitmeHitPvBitsSetReadOrInvitoe o s
  | .haHitmeHitPvBitsSetWbmtoi o => Sys2Proof.Machine.execHaHitmeHitPvBitsSetWbmtoi o s
  | .haHitmeHitPvBitsSetAckcnfltwbi o => Sys2Proof.Machine.execHaHitmeHitPvBitsSetAckcnfltwbi o s
  | .haHitmeHitPvBitsSetWbmtoeOrS o => Sys2Proof.Machine.execHaHitmeHitPvBitsSetWbmtoeOrS o s
  | .haHitmeHitPvBitsSetHom o => Sys2Proof.Machine.execHaHitmeHitPvBitsSetHom o s
  | .haHitmeHitPvBitsSetRspfwdiRemote o => Sys2Proof.Machine.execHaHitmeHitPvBitsSetRspfwdiRemote o s
  | .haHitmeHitPvBitsSetRspfwdiLocal o => Sys2Proof.Machine.execHaHitmeHitPvBitsSetRspfwdiLocal o s
  | .haHitmeHitPvBitsSetRspfwds o => Sys2Proof.Machine.execHaHitmeHitPvBitsSetRspfwds o s
  | .haHitmeHitPvBitsSetRsp o => Sys2Proof.Machine.execHaHitmeHitPvBitsSetRsp o s
  | .haHitmeHitPvBitsSetAll o => Sys2Proof.Machine.execHaHitmeHitPvBitsSetAll o s
  | .haHitmeLookupReadOrInvitoe o => Sys2Proof.Machine.execHaHitmeLookupReadOrInvitoe o s
  | .haHitmeLookupWbmtoi o => Sys2Proof.Machine.execHaHitmeLookupWbmtoi o s
  | .haHitmeLookupAckcnfltwbi o => Sys2Proof.Machine.execHaHitmeLookupAckcnfltwbi o s
  | .haHitmeLookupWbmtoeOrS o => Sys2Proof.Machine.execHaHitmeLookupWbmtoeOrS o s
  | .haHitmeLookupHom o => Sys2Proof.Machine.execHaHitmeLookupHom o s
  | .haHitmeLookupRspfwdiRemote o => Sys2Proof.Machine.execHaHitmeLookupRspfwdiRemote o s
  | .haHitmeLookupRspfwdiLocal o => Sys2Proof.Machine.execHaHitmeLookupRspfwdiLocal o s
  | .haHitmeLookupInvals o => Sys2Proof.Machine.execHaHitmeLookupInvals o s
  | .haHitmeLookupRspfwds o => Sys2Proof.Machine.execHaHitmeLookupRspfwds o s
  | .haHitmeLookupAllocs o => Sys2Proof.Machine.execHaHitmeLookupAllocs o s
  | .haHitmeLookupRsp o => Sys2Proof.Machine.execHaHitmeLookupRsp o s
  | .haHitmeLookupAll o => Sys2Proof.Machine.execHaHitmeLookupAll o s
  | .haIgrNoCreditCyclesAdQpi0 o => Sys2Proof.Machine.execHaIgrNoCreditCyclesAdQpi0 o s
  | .haIgrNoCreditCyclesAdQpi1 o => Sys2Proof.Machine.execHaIgrNoCreditCyclesAdQpi1 o s
  | .haIgrNoCreditCyclesBlQpi0 o => Sys2Proof.Machine.execHaIgrNoCreditCyclesBlQpi0 o s
  | .haIgrNoCreditCyclesBlQpi1 o => Sys2Proof.Machine.execHaIgrNoCreditCyclesBlQpi1 o s
  | .haIgrNoCreditCyclesAdQpi2 o => Sys2Proof.Machine.execHaIgrNoCreditCyclesAdQpi2 o s
  | .haIgrNoCreditCyclesBlQpi2 o => Sys2Proof.Machine.execHaIgrNoCreditCyclesBlQpi2 o s
  | .haImcReadsNormal o => Sys2Proof.Machine.execHaImcReadsNormal o s
  | .haImcRetry o => Sys2Proof.Machine.execHaImcRetry o s
  | .haImcWritesFull o => Sys2Proof.Machine.execHaImcWritesFull o s
  | .haImcWritesPartial o => Sys2Proof.Machine.execHaImcWritesPartial o s
  | .haImcWritesFullIsoch o => Sys2Proof.Machine.execHaImcWritesFullIsoch o s
  | .haImcWritesPartialIsoch o => Sys2Proof.Machine.execHaImcWritesPartialIsoch o s
  | .haImcWritesAll o => Sys2Proof.Machine.execHaImcWritesAll o s
  | .haOsbReadsLocal o => Sys2Proof.Machine.execHaOsbReadsLocal o s
  | .haOsbInvitoeLocal o => Sys2Proof.Machine.execHaOsbInvitoeLocal o s
  | .haOsbRemote o => Sys2Proof.Machine.execHaOsbRemote o s
  | .haOsbCancelled o => Sys2Proof.Machine.execHaOsbCancelled o s
  | .haOsbReadsLocalUseful o => Sys2Proof.Machine.execHaOsbReadsLocalUseful o s
  | .haOsbRemoteUseful o => Sys2Proof.Machine.execHaOsbRemoteUseful o s
  | .haOsbEdrAll o => Sys2Proof.Machine.execHaOsbEdrAll o s
  | .haOsbEdrReadsLocalI o => Sys2Proof.Machine.execHaOsbEdrReadsLocalI o s
  | .haOsbEdrReadsRemoteI o => Sys2Proof.Machine.execHaOsbEdrReadsRemoteI o s
  | .haOsbEdrReadsLocalS o => Sys2Proof.Machine.execHaOsbEdrReadsLocalS o s
  | .haOsbEdrReadsRemoteS o => Sys2Proof.Machine.execHaOsbEdrReadsRemoteS o s
  | .haRequestsReadsLocal o => Sys2Proof.Machine.execHaRequestsReadsLocal o s
  | .haRequestsReadsRemote o => Sys2Proof.Machine.execHaRequestsReadsRemote o s
  | .haRequestsReads o => Sys2Proof.Machine.execHaRequestsReads o s
  | .haRequestsWritesLocal o => Sys2Proof.Machine.execHaRequestsWritesLocal o s
  | .haRequestsWritesRemote o => Sys2Proof.Machine.execHaRequestsWritesRemote o s
  | .haRequestsWrites o => Sys2Proof.Machine.execHaRequestsWrites o s
  | .haRequestsInvitoeLocal o => Sys2Proof.Machine.execHaRequestsInvitoeLocal o s
  | .haRequestsInvitoeRemote o => Sys2Proof.Machine.execHaRequestsInvitoeRemote o s
  | .haRingAdUsedCwEven o => Sys2Proof.Machine.execHaRingAdUsedCwEven o s
  | .haRingAdUsedCwOdd o => Sys2Proof.Machine.execHaRingAdUsedCwOdd o s
  | .haRingAdUsedCw o => Sys2Proof.Machine.execHaRingAdUsedCw o s
  | .haRingAdUsedCcwEven o => Sys2Proof.Machine.execHaRingAdUsedCcwEven o s
  | .haRingAdUsedCcwOdd o => Sys2Proof.Machine.execHaRingAdUsedCcwOdd o s
  | .haRingAdUsedCcw o => Sys2Proof.Machine.execHaRingAdUsedCcw o s
  | .haRingAkUsedCwEven o => Sys2Proof.Machine.execHaRingAkUsedCwEven o s
  | .haRingAkUsedCwOdd o => Sys2Proof.Machine.execHaRingAkUsedCwOdd o s
  | .haRingAkUsedCw o => Sys2Proof.Machine.execHaRingAkUsedCw o s
  | .haRingAkUsedCcwEven o => Sys2Proof.Machine.execHaRingAkUsedCcwEven o s
  | .haRingAkUsedCcwOdd o => Sys2Proof.Machine.execHaRingAkUsedCcwOdd o s
  | .haRingAkUsedCcw o => Sys2Proof.Machine.execHaRingAkUsedCcw o s
  | .haRingBlUsedCwEven o => Sys2Proof.Machine.execHaRingBlUsedCwEven o s
  | .haRingBlUsedCwOdd o => Sys2Proof.Machine.execHaRingBlUsedCwOdd o s
  | .haRingBlUsedCw o => Sys2Proof.Machine.execHaRingBlUsedCw o s
  | .haRingBlUsedCcwEven o => Sys2Proof.Machine.execHaRingBlUsedCcwEven o s
  | .haRingBlUsedCcwOdd o => Sys2Proof.Machine.execHaRingBlUsedCcwOdd o s
  | .haRingBlUsedCcw o => Sys2Proof.Machine.execHaRingBlUsedCcw o s
  | .haRpqCyclesNoRegCreditsChn0 o => Sys2Proof.Machine.execHaRpqCyclesNoRegCreditsChn0 o s
  | .haRpqCyclesNoRegCreditsChn1 o => Sys2Proof.Machine.execHaRpqCyclesNoRegCreditsChn1 o s
  | .haRpqCyclesNoRegCreditsChn2 o => Sys2Proof.Machine.execHaRpqCyclesNoRegCreditsChn2 o s
  | .haRpqCyclesNoRegCreditsChn3 o => Sys2Proof.Machine.execHaRpqCyclesNoRegCreditsChn3 o s
  | .haSbo0CreditsAcquiredAd o => Sys2Proof.Machine.execHaSbo0CreditsAcquiredAd o s
  | .haSbo0CreditsAcquiredBl o => Sys2Proof.Machine.execHaSbo0CreditsAcquiredBl o s
  | .haSbo0CreditOccupancyAd o => Sys2Proof.Machine.execHaSbo0CreditOccupancyAd o s
  | .haSbo0CreditOccupancyBl o => Sys2Proof.Machine.execHaSbo0CreditOccupancyBl o s
  | .haSbo1CreditsAcquiredAd o => Sys2Proof.Machine.execHaSbo1CreditsAcquiredAd o s
  | .haSbo1CreditsAcquiredBl o => Sys2Proof.Machine.execHaSbo1CreditsAcquiredBl o s
  | .haSbo1CreditOccupancyAd o => Sys2Proof.Machine.execHaSbo1CreditOccupancyAd o s
  | .haSbo1CreditOccupancyBl o => Sys2Proof.Machine.execHaSbo1CreditOccupancyBl o s
  | .haSnoopsRspAfterDataLocal o => Sys2Proof.Machine.execHaSnoopsRspAfterDataLocal o s
  | .haSnoopsRspAfterDataRemote o => Sys2Proof.Machine.execHaSnoopsRspAfterDataRemote o s
  | .haSnoopCyclesNeLocal o => Sys2Proof.Machine.execHaSnoopCyclesNeLocal o s
  | .haSnoopCyclesNeRemote o => Sys2Proof.Machine.execHaSnoopCyclesNeRemote o s
  | .haSnoopCyclesNeAll o => Sys2Proof.Machine.execHaSnoopCyclesNeAll o s
  | .haSnoopOccupancyLocal o => Sys2Proof.Machine.execHaSnoopOccupancyLocal o s
  | .haSnoopOccupancyRemote o => Sys2Proof.Machine.execHaSnoopOccupancyRemote o s
  | .haSnoopRespRspi o => Sys2Proof.Machine.execHaSnoopRespRspi o s
  | .haSnoopRespRsps o => Sys2Proof.Machine.execHaSnoopRespRsps o s
  | .haSnoopRespRspifwd o => Sys2Proof.Machine.execHaSnoopRespRspifwd o s
  | .haSnoopRespRspsfwd o => Sys2Proof.Machine.execHaSnoopRespRspsfwd o s
  | .haSnoopRespRspWb o => Sys2Proof.Machine.execHaSnoopRespRspWb o s
  | .haSnoopRespRspFwdWb o => Sys2Proof.Machine.execHaSnoopRespRspFwdWb o s
  | .haSnoopRespRspcnflct o => Sys2Proof.Machine.execHaSnoopRespRspcnflct o s
  | .haSnpRespRecvLocalRspi o => Sys2Proof.Machine.execHaSnpRespRecvLocalRspi o s
  | .haSnpRespRecvLocalRsps o => Sys2Proof.Machine.execHaSnpRespRecvLocalRsps o s
  | .haSnpRespRecvLocalRspifwd o => Sys2Proof.Machine.execHaSnpRespRecvLocalRspifwd o s
  | .haSnpRespRecvLocalRspsfwd o => Sys2Proof.Machine.execHaSnpRespRecvLocalRspsfwd o s
  | .haSnpRespRecvLocalRSPxWB o => Sys2Proof.Machine.execHaSnpRespRecvLocalRSPxWB o s
  | .haSnpRespRecvLocalRSPxFWDxWB o => Sys2Proof.Machine.execHaSnpRespRecvLocalRSPxFWDxWB o s
  | .haSnpRespRecvLocalRspcnflct o => Sys2Proof.Machine.execHaSnpRespRecvLocalRspcnflct o s
  | .haSnpRespRecvLocalOther o => Sys2Proof.Machine.execHaSnpRespRecvLocalOther o s
  | .haStallNoSboCreditSbo0Ad o => Sys2Proof.Machine.execHaStallNoSboCreditSbo0Ad o s
  | .haStallNoSboCreditSbo1Ad o => Sys2Proof.Machine.execHaStallNoSboCreditSbo1Ad o s
  | .haStallNoSboCreditSbo0Bl o => Sys2Proof.Machine.execHaStallNoSboCreditSbo0Bl o s
  | .haStallNoSboCreditSb01Bl o => Sys2Proof.Machine.execHaStallNoSboCreditSb01Bl o s
  | .haTadRequestsG0Region0 o => Sys2Proof.Machine.execHaTadRequestsG0Region0 o s
  | .haTadRequestsG0Region1 o => Sys2Proof.Machine.execHaTadRequestsG0Region1 o s
  | .haTadRequestsG0Region2 o => Sys2Proof.Machine.execHaTadRequestsG0Region2 o s
  | .haTadRequestsG0Region3 o => Sys2Proof.Machine.execHaTadRequestsG0Region3 o s
  | .haTadRequestsG0Region4 o => Sys2Proof.Machine.execHaTadRequestsG0Region4 o s
  | .haTadRequestsG0Region5 o => Sys2Proof.Machine.execHaTadRequestsG0Region5 o s
  | .haTadRequestsG0Region6 o => Sys2Proof.Machine.execHaTadRequestsG0Region6 o s
  | .haTadRequestsG0Region7 o => Sys2Proof.Machine.execHaTadRequestsG0Region7 o s
  | .haTadRequestsG1Region8 o => Sys2Proof.Machine.execHaTadRequestsG1Region8 o s
  | .haTadRequestsG1Region9 o => Sys2Proof.Machine.execHaTadRequestsG1Region9 o s
  | .haTadRequestsG1Region10 o => Sys2Proof.Machine.execHaTadRequestsG1Region10 o s
  | .haTadRequestsG1Region11 o => Sys2Proof.Machine.execHaTadRequestsG1Region11 o s
  | .haTrackerCyclesFullGp o => Sys2Proof.Machine.execHaTrackerCyclesFullGp o s
  | .haTrackerCyclesFullAll o => Sys2Proof.Machine.execHaTrackerCyclesFullAll o s
  | .haTrackerCyclesNeLocal o => Sys2Proof.Machine.execHaTrackerCyclesNeLocal o s
  | .haTrackerCyclesNeRemote o => Sys2Proof.Machine.execHaTrackerCyclesNeRemote o s
  | .haTrackerCyclesNeAll o => Sys2Proof.Machine.execHaTrackerCyclesNeAll o s
  | .haTrackerOccupancyReadsLocal o => Sys2Proof.Machine.execHaTrackerOccupancyReadsLocal o s
  | .haTrackerOccupancyReadsRemote o => Sys2Proof.Machine.execHaTrackerOccupancyReadsRemote o s
  | .haTrackerOccupancyWritesLocal o => Sys2Proof.Machine.execHaTrackerOccupancyWritesLocal o s
  | .haTrackerOccupancyWritesRemote o => Sys2Proof.Machine.execHaTrackerOccupancyWritesRemote o s
  | .haTrackerOccupancyInvitoeLocal o => Sys2Proof.Machine.execHaTrackerOccupancyInvitoeLocal o s
  | .haTrackerOccupancyInvitoeRemote o => Sys2Proof.Machine.execHaTrackerOccupancyInvitoeRemote o s
  | .haTrackerPendingOccupancyLocal o => Sys2Proof.Machine.execHaTrackerPendingOccupancyLocal o s
  | .haTrackerPendingOccupancyRemote o => Sys2Proof.Machine.execHaTrackerPendingOccupancyRemote o s
  | .haTxRAdCyclesFullSched0 o => Sys2Proof.Machine.execHaTxRAdCyclesFullSched0 o s
  | .haTxRAdCyclesFullSched1 o => Sys2Proof.Machine.execHaTxRAdCyclesFullSched1 o s
  | .haTxRAdCyclesFullAll o => Sys2Proof.Machine.execHaTxRAdCyclesFullAll o s
  | .haTxRAk o => Sys2Proof.Machine.execHaTxRAk o s
  | .haTxRAkCyclesFullSched0 o => Sys2Proof.Machine.execHaTxRAkCyclesFullSched0 o s
  | .haTxRAkCyclesFullSched1 o => Sys2Proof.Machine.execHaTxRAkCyclesFullSched1 o s
  | .haTxRAkCyclesFullAll o => Sys2Proof.Machine.execHaTxRAkCyclesFullAll o s
  | .haTxRBlDrsCache o => Sys2Proof.Machine.execHaTxRBlDrsCache o s
  | .haTxRBlDrsCore o => Sys2Proof.Machine.execHaTxRBlDrsCore o s
  | .haTxRBlDrsQpi o => Sys2Proof.Machine.execHaTxRBlDrsQpi o s
  | .haTxRBlCyclesFullSched0 o => Sys2Proof.Machine.execHaTxRBlCyclesFullSched0 o s
  | .haTxRBlCyclesFullSched1 o => Sys2Proof.Machine.execHaTxRBlCyclesFullSched1 o s
  | .haTxRBlCyclesFullAll o => Sys2Proof.Machine.execHaTxRBlCyclesFullAll o s
  | .haTxRBlOccupancy o => Sys2Proof.Machine.execHaTxRBlOccupancy o s
  | .haTxRStarvedAk o => Sys2Proof.Machine.execHaTxRStarvedAk o s
  | .haTxRStarvedBl o => Sys2Proof.Machine.execHaTxRStarvedBl o s
  | .haWpqCyclesNoRegCreditsChn0 o => Sys2Proof.Machine.execHaWpqCyclesNoRegCreditsChn0 o s
  | .haWpqCyclesNoRegCreditsChn1 o => Sys2Proof.Machine.execHaWpqCyclesNoRegCreditsChn1 o s
  | .haWpqCyclesNoRegCreditsChn2 o => Sys2Proof.Machine.execHaWpqCyclesNoRegCreditsChn2 o s
  | .haWpqCyclesNoRegCreditsChn3 o => Sys2Proof.Machine.execHaWpqCyclesNoRegCreditsChn3 o s
  | .imcActCountRd o => Sys2Proof.Machine.execImcActCountRd o s
  | .imcActCountWr o => Sys2Proof.Machine.execImcActCountWr o s
  | .imcActCountByp o => Sys2Proof.Machine.execImcActCountByp o s
  | .imcBypCmdsAct o => Sys2Proof.Machine.execImcBypCmdsAct o s
  | .imcBypCmdsCas o => Sys2Proof.Machine.execImcBypCmdsCas o s
  | .imcBypCmdsPre o => Sys2Proof.Machine.execImcBypCmdsPre o s
  | .imcCasCountRdReg o => Sys2Proof.Machine.execImcCasCountRdReg o s
  | .imcCasCountRdUnderfill o => Sys2Proof.Machine.execImcCasCountRdUnderfill o s
  | .imcCasCountRd o => Sys2Proof.Machine.execImcCasCountRd o s
  | .imcCasCountWrWmm o => Sys2Proof.Machine.execImcCasCountWrWmm o s
  | .imcCasCountWrRmm o => Sys2Proof.Machine.execImcCasCountWrRmm o s
  | .imcCasCountWr o => Sys2Proof.Machine.execImcCasCountWr o s
  | .imcCasCountAll o => Sys2Proof.Machine.execImcCasCountAll o s
  | .imcCasCountRdWmm o => Sys2Proof.Machine.execImcCasCountRdWmm o s
  | .imcCasCountRdRmm o => Sys2Proof.Machine.execImcCasCountRdRmm o s
  | .imcDclockticks o => Sys2Proof.Machine.execImcDclockticks o s
  | .imcDramPreAll o => Sys2Proof.Machine.execImcDramPreAll o s
  | .imcDramRefreshPanic o => Sys2Proof.Machine.execImcDramRefreshPanic o s
  | .imcDramRefreshHigh o => Sys2Proof.Machine.execImcDramRefreshHigh o s
  | .imcEccCorrectableErrors o => Sys2Proof.Machine.execImcEccCorrectableErrors o s
  | .imcMajorModesRead o => Sys2Proof.Machine.execImcMajorModesRead o s
  | .imcMajorModesWrite o => Sys2Proof.Machine.execImcMajorModesWrite o s
  | .imcMajorModesPartial o => Sys2Proof.Machine.execImcMajorModesPartial o s
  | .imcMajorModesIsoch o => Sys2Proof.Machine.execImcMajorModesIsoch o s
  | .imcPowerChannelDlloff o => Sys2Proof.Machine.execImcPowerChannelDlloff o s
  | .imcPowerChannelPpd o => Sys2Proof.Machine.execImcPowerChannelPpd o s
  | .imcPowerCkeCyclesRank0 o => Sys2Proof.Machine.execImcPowerCkeCyclesRank0 o s
  | .imcPowerCkeCyclesRank1 o => Sys2Proof.Machine.execImcPowerCkeCyclesRank1 o s
  | .imcPowerCkeCyclesRank2 o => Sys2Proof.Machine.execImcPowerCkeCyclesRank2 o s
  | .imcPowerCkeCyclesRank3 o => Sys2Proof.Machine.execImcPowerCkeCyclesRank3 o s
  | .imcPowerCkeCyclesRank4 o => Sys2Proof.Machine.execImcPowerCkeCyclesRank4 o s
  | .imcPowerCkeCyclesRank5 o => Sys2Proof.Machine.execImcPowerCkeCyclesRank5 o s
  | .imcPowerCkeCyclesRank6 o => Sys2Proof.Machine.execImcPowerCkeCyclesRank6 o s
  | .imcPowerCkeCyclesRank7 o => Sys2Proof.Machine.execImcPowerCkeCyclesRank7 o s
  | .imcPowerCriticalThrottleCycles o => Sys2Proof.Machine.execImcPowerCriticalThrottleCycles o s
  | .imcPowerPcuThrottling o => Sys2Proof.Machine.execImcPowerPcuThrottling o s
  | .imcPowerSelfRefresh o => Sys2Proof.Machine.execImcPowerSelfRefresh o s
  | .imcPowerThrottleCyclesRank0 o => Sys2Proof.Machine.execImcPowerThrottleCyclesRank0 o s
  | .imcPowerThrottleCyclesRank1 o => Sys2Proof.Machine.execImcPowerThrottleCyclesRank1 o s
  | .imcPowerThrottleCyclesRank2 o => Sys2Proof.Machine.execImcPowerThrottleCyclesRank2 o s
  | .imcPowerThrottleCyclesRank3 o => Sys2Proof.Machine.execImcPowerThrottleCyclesRank3 o s
  | .imcPowerThrottleCyclesRank4 o => Sys2Proof.Machine.execImcPowerThrottleCyclesRank4 o s
  | .imcPowerThrottleCyclesRank5 o => Sys2Proof.Machine.execImcPowerThrottleCyclesRank5 o s
  | .imcPowerThrottleCyclesRank6 o => Sys2Proof.Machine.execImcPowerThrottleCyclesRank6 o s
  | .imcPowerThrottleCyclesRank7 o => Sys2Proof.Machine.execImcPowerThrottleCyclesRank7 o s
  | .imcPreemptionRdPreemptRd o => Sys2Proof.Machine.execImcPreemptionRdPreemptRd o s
  | .imcPreemptionRdPreemptWr o => Sys2Proof.Machine.execImcPreemptionRdPreemptWr o s
  | .imcPreCountPageMiss o => Sys2Proof.Machine.execImcPreCountPageMiss o s
  | .imcPreCountPageClose o => Sys2Proof.Machine.execImcPreCountPageClose o s
  | .imcPreCountRd o => Sys2Proof.Machine.execImcPreCountRd o s
  | .imcPreCountWr o => Sys2Proof.Machine.execImcPreCountWr o s
  | .imcPreCountByp o => Sys2Proof.Machine.execImcPreCountByp o s
  | .imcRdCasPrioLow o => Sys2Proof.Machine.execImcRdCasPrioLow o s
  | .imcRdCasPrioMed o => Sys2Proof.Machine.execImcRdCasPrioMed o s
  | .imcRdCasPrioHigh o => Sys2Proof.Machine.execImcRdCasPrioHigh o s
  | .imcRdCasPrioPanic o => Sys2Proof.Machine.execImcRdCasPrioPanic o s
  | .imcRdCasRank0Bank0 o => Sys2Proof.Machine.execImcRdCasRank0Bank0 o s
  | .imcRdCasRank0Bank1 o => Sys2Proof.Machine.execImcRdCasRank0Bank1 o s
  | .imcRdCasRank0Bank2 o => Sys2Proof.Machine.execImcRdCasRank0Bank2 o s
  | .imcRdCasRank0Bank3 o => Sys2Proof.Machine.execImcRdCasRank0Bank3 o s
  | .imcRdCasRank0Bank4 o => Sys2Proof.Machine.execImcRdCasRank0Bank4 o s
  | .imcRdCasRank0Bank5 o => Sys2Proof.Machine.execImcRdCasRank0Bank5 o s
  | .imcRdCasRank0Bank6 o => Sys2Proof.Machine.execImcRdCasRank0Bank6 o s
  | .imcRdCasRank0Bank7 o => Sys2Proof.Machine.execImcRdCasRank0Bank7 o s
  | .imcRdCasRank0Bank8 o => Sys2Proof.Machine.execImcRdCasRank0Bank8 o s
  | .imcRdCasRank0Bank9 o => Sys2Proof.Machine.execImcRdCasRank0Bank9 o s
  | .imcRdCasRank0Bank10 o => Sys2Proof.Machine.execImcRdCasRank0Bank10 o s
  | .imcRdCasRank0Bank11 o => Sys2Proof.Machine.execImcRdCasRank0Bank11 o s
  | .imcRdCasRank0Bank12 o => Sys2Proof.Machine.execImcRdCasRank0Bank12 o s
  | .imcRdCasRank0Bank13 o => Sys2Proof.Machine.execImcRdCasRank0Bank13 o s
  | .imcRdCasRank0Bank14 o => Sys2Proof.Machine.execImcRdCasRank0Bank14 o s
  | .imcRdCasRank0Bank15 o => Sys2Proof.Machine.execImcRdCasRank0Bank15 o s
  | .imcRdCasRank0Allbanks o => Sys2Proof.Machine.execImcRdCasRank0Allbanks o s
  | .imcRdCasRank0Bankg0 o => Sys2Proof.Machine.execImcRdCasRank0Bankg0 o s
  | .imcRdCasRank0Bankg1 o => Sys2Proof.Machine.execImcRdCasRank0Bankg1 o s
  | .imcRdCasRank0Bankg2 o => Sys2Proof.Machine.execImcRdCasRank0Bankg2 o s
  | .imcRdCasRank0Bankg3 o => Sys2Proof.Machine.execImcRdCasRank0Bankg3 o s
  | .imcRdCasRank1Bank0 o => Sys2Proof.Machine.execImcRdCasRank1Bank0 o s
  | .imcRdCasRank1Bank1 o => Sys2Proof.Machine.execImcRdCasRank1Bank1 o s
  | .imcRdCasRank1Bank2 o => Sys2Proof.Machine.execImcRdCasRank1Bank2 o s
  | .imcRdCasRank1Bank3 o => Sys2Proof.Machine.execImcRdCasRank1Bank3 o s
  | .imcRdCasRank1Bank4 o => Sys2Proof.Machine.execImcRdCasRank1Bank4 o s
  | .imcRdCasRank1Bank5 o => Sys2Proof.Machine.execImcRdCasRank1Bank5 o s
  | .imcRdCasRank1Bank6 o => Sys2Proof.Machine.execImcRdCasRank1Bank6 o s
  | .imcRdCasRank1Bank7 o => Sys2Proof.Machine.execImcRdCasRank1Bank7 o s
  | .imcRdCasRank1Bank8 o => Sys2Proof.Machine.execImcRdCasRank1Bank8 o s
  | .imcRdCasRank1Bank9 o => Sys2Proof.Machine.execImcRdCasRank1Bank9 o s
  | .imcRdCasRank1Bank10 o => Sys2Proof.Machine.execImcRdCasRank1Bank10 o s
  | .imcRdCasRank1Bank11 o => Sys2Proof.Machine.execImcRdCasRank1Bank11 o s
  | .imcRdCasRank1Bank12 o => Sys2Proof.Machine.execImcRdCasRank1Bank12 o s
  | .imcRdCasRank1Bank13 o => Sys2Proof.Machine.execImcRdCasRank1Bank13 o s
  | .imcRdCasRank1Bank14 o => Sys2Proof.Machine.execImcRdCasRank1Bank14 o s
  | .imcRdCasRank1Bank15 o => Sys2Proof.Machine.execImcRdCasRank1Bank15 o s
  | .imcRdCasRank1Allbanks o => Sys2Proof.Machine.execImcRdCasRank1Allbanks o s
  | .imcRdCasRank1Bankg0 o => Sys2Proof.Machine.execImcRdCasRank1Bankg0 o s
  | .imcRdCasRank1Bankg1 o => Sys2Proof.Machine.execImcRdCasRank1Bankg1 o s
  | .imcRdCasRank1Bankg2 o => Sys2Proof.Machine.execImcRdCasRank1Bankg2 o s
  | .imcRdCasRank1Bankg3 o => Sys2Proof.Machine.execImcRdCasRank1Bankg3 o s
  | .imcRdCasRank2Bank0 o => Sys2Proof.Machine.execImcRdCasRank2Bank0 o s
  | .imcRdCasRank4Bank0 o => Sys2Proof.Machine.execImcRdCasRank4Bank0 o s
  | .imcRdCasRank4Bank1 o => Sys2Proof.Machine.execImcRdCasRank4Bank1 o s
  | .imcRdCasRank4Bank2 o => Sys2Proof.Machine.execImcRdCasRank4Bank2 o s
  | .imcRdCasRank4Bank3 o => Sys2Proof.Machine.execImcRdCasRank4Bank3 o s
  | .imcRdCasRank4Bank4 o => Sys2Proof.Machine.execImcRdCasRank4Bank4 o s
  | .imcRdCasRank4Bank5 o => Sys2Proof.Machine.execImcRdCasRank4Bank5 o s
  | .imcRdCasRank4Bank6 o => Sys2Proof.Machine.execImcRdCasRank4Bank6 o s
  | .imcRdCasRank4Bank7 o => Sys2Proof.Machine.execImcRdCasRank4Bank7 o s
  | .imcRdCasRank4Bank8 o => Sys2Proof.Machine.execImcRdCasRank4Bank8 o s
  | .imcRdCasRank4Bank9 o => Sys2Proof.Machine.execImcRdCasRank4Bank9 o s
  | .imcRdCasRank4Bank10 o => Sys2Proof.Machine.execImcRdCasRank4Bank10 o s
  | .imcRdCasRank4Bank11 o => Sys2Proof.Machine.execImcRdCasRank4Bank11 o s
  | .imcRdCasRank4Bank12 o => Sys2Proof.Machine.execImcRdCasRank4Bank12 o s
  | .imcRdCasRank4Bank13 o => Sys2Proof.Machine.execImcRdCasRank4Bank13 o s
  | .imcRdCasRank4Bank14 o => Sys2Proof.Machine.execImcRdCasRank4Bank14 o s
  | .imcRdCasRank4Bank15 o => Sys2Proof.Machine.execImcRdCasRank4Bank15 o s
  | .imcRdCasRank4Allbanks o => Sys2Proof.Machine.execImcRdCasRank4Allbanks o s
  | .imcRdCasRank4Bankg0 o => Sys2Proof.Machine.execImcRdCasRank4Bankg0 o s
  | .imcRdCasRank4Bankg1 o => Sys2Proof.Machine.execImcRdCasRank4Bankg1 o s
  | .imcRdCasRank4Bankg2 o => Sys2Proof.Machine.execImcRdCasRank4Bankg2 o s
  | .imcRdCasRank4Bankg3 o => Sys2Proof.Machine.execImcRdCasRank4Bankg3 o s
  | .imcRdCasRank5Bank0 o => Sys2Proof.Machine.execImcRdCasRank5Bank0 o s
  | .imcRdCasRank5Bank1 o => Sys2Proof.Machine.execImcRdCasRank5Bank1 o s
  | .imcRdCasRank5Bank2 o => Sys2Proof.Machine.execImcRdCasRank5Bank2 o s
  | .imcRdCasRank5Bank3 o => Sys2Proof.Machine.execImcRdCasRank5Bank3 o s
  | .imcRdCasRank5Bank4 o => Sys2Proof.Machine.execImcRdCasRank5Bank4 o s
  | .imcRdCasRank5Bank5 o => Sys2Proof.Machine.execImcRdCasRank5Bank5 o s
  | .imcRdCasRank5Bank6 o => Sys2Proof.Machine.execImcRdCasRank5Bank6 o s
  | .imcRdCasRank5Bank7 o => Sys2Proof.Machine.execImcRdCasRank5Bank7 o s
  | .imcRdCasRank5Bank8 o => Sys2Proof.Machine.execImcRdCasRank5Bank8 o s
  | .imcRdCasRank5Bank9 o => Sys2Proof.Machine.execImcRdCasRank5Bank9 o s
  | .imcRdCasRank5Bank10 o => Sys2Proof.Machine.execImcRdCasRank5Bank10 o s
  | .imcRdCasRank5Bank11 o => Sys2Proof.Machine.execImcRdCasRank5Bank11 o s
  | .imcRdCasRank5Bank12 o => Sys2Proof.Machine.execImcRdCasRank5Bank12 o s
  | .imcRdCasRank5Bank13 o => Sys2Proof.Machine.execImcRdCasRank5Bank13 o s
  | .imcRdCasRank5Bank14 o => Sys2Proof.Machine.execImcRdCasRank5Bank14 o s
  | .imcRdCasRank5Bank15 o => Sys2Proof.Machine.execImcRdCasRank5Bank15 o s
  | .imcRdCasRank5Allbanks o => Sys2Proof.Machine.execImcRdCasRank5Allbanks o s
  | .imcRdCasRank5Bankg0 o => Sys2Proof.Machine.execImcRdCasRank5Bankg0 o s
  | .imcRdCasRank5Bankg1 o => Sys2Proof.Machine.execImcRdCasRank5Bankg1 o s
  | .imcRdCasRank5Bankg2 o => Sys2Proof.Machine.execImcRdCasRank5Bankg2 o s
  | .imcRdCasRank5Bankg3 o => Sys2Proof.Machine.execImcRdCasRank5Bankg3 o s
  | .imcRdCasRank6Bank0 o => Sys2Proof.Machine.execImcRdCasRank6Bank0 o s
  | .imcRdCasRank6Bank1 o => Sys2Proof.Machine.execImcRdCasRank6Bank1 o s
  | .imcRdCasRank6Bank2 o => Sys2Proof.Machine.execImcRdCasRank6Bank2 o s
  | .imcRdCasRank6Bank3 o => Sys2Proof.Machine.execImcRdCasRank6Bank3 o s
  | .imcRdCasRank6Bank4 o => Sys2Proof.Machine.execImcRdCasRank6Bank4 o s
  | .imcRdCasRank6Bank5 o => Sys2Proof.Machine.execImcRdCasRank6Bank5 o s
  | .imcRdCasRank6Bank6 o => Sys2Proof.Machine.execImcRdCasRank6Bank6 o s
  | .imcRdCasRank6Bank7 o => Sys2Proof.Machine.execImcRdCasRank6Bank7 o s
  | .imcRdCasRank6Bank8 o => Sys2Proof.Machine.execImcRdCasRank6Bank8 o s
  | .imcRdCasRank6Bank9 o => Sys2Proof.Machine.execImcRdCasRank6Bank9 o s
  | .imcRdCasRank6Bank10 o => Sys2Proof.Machine.execImcRdCasRank6Bank10 o s
  | .imcRdCasRank6Bank11 o => Sys2Proof.Machine.execImcRdCasRank6Bank11 o s
  | .imcRdCasRank6Bank12 o => Sys2Proof.Machine.execImcRdCasRank6Bank12 o s
  | .imcRdCasRank6Bank13 o => Sys2Proof.Machine.execImcRdCasRank6Bank13 o s
  | .imcRdCasRank6Bank14 o => Sys2Proof.Machine.execImcRdCasRank6Bank14 o s
  | .imcRdCasRank6Bank15 o => Sys2Proof.Machine.execImcRdCasRank6Bank15 o s
  | .imcRdCasRank6Allbanks o => Sys2Proof.Machine.execImcRdCasRank6Allbanks o s
  | .imcRdCasRank6Bankg0 o => Sys2Proof.Machine.execImcRdCasRank6Bankg0 o s
  | .imcRdCasRank6Bankg1 o => Sys2Proof.Machine.execImcRdCasRank6Bankg1 o s
  | .imcRdCasRank6Bankg2 o => Sys2Proof.Machine.execImcRdCasRank6Bankg2 o s
  | .imcRdCasRank6Bankg3 o => Sys2Proof.Machine.execImcRdCasRank6Bankg3 o s
  | .imcRdCasRank7Bank0 o => Sys2Proof.Machine.execImcRdCasRank7Bank0 o s
  | .imcRdCasRank7Bank1 o => Sys2Proof.Machine.execImcRdCasRank7Bank1 o s
  | .imcRdCasRank7Bank2 o => Sys2Proof.Machine.execImcRdCasRank7Bank2 o s
  | .imcRdCasRank7Bank3 o => Sys2Proof.Machine.execImcRdCasRank7Bank3 o s
  | .imcRdCasRank7Bank4 o => Sys2Proof.Machine.execImcRdCasRank7Bank4 o s
  | .imcRdCasRank7Bank5 o => Sys2Proof.Machine.execImcRdCasRank7Bank5 o s
  | .imcRdCasRank7Bank6 o => Sys2Proof.Machine.execImcRdCasRank7Bank6 o s
  | .imcRdCasRank7Bank7 o => Sys2Proof.Machine.execImcRdCasRank7Bank7 o s
  | .imcRdCasRank7Bank8 o => Sys2Proof.Machine.execImcRdCasRank7Bank8 o s
  | .imcRdCasRank7Bank9 o => Sys2Proof.Machine.execImcRdCasRank7Bank9 o s
  | .imcRdCasRank7Bank10 o => Sys2Proof.Machine.execImcRdCasRank7Bank10 o s
  | .imcRdCasRank7Bank11 o => Sys2Proof.Machine.execImcRdCasRank7Bank11 o s
  | .imcRdCasRank7Bank12 o => Sys2Proof.Machine.execImcRdCasRank7Bank12 o s
  | .imcRdCasRank7Bank13 o => Sys2Proof.Machine.execImcRdCasRank7Bank13 o s
  | .imcRdCasRank7Bank14 o => Sys2Proof.Machine.execImcRdCasRank7Bank14 o s
  | .imcRdCasRank7Bank15 o => Sys2Proof.Machine.execImcRdCasRank7Bank15 o s
  | .imcRdCasRank7Allbanks o => Sys2Proof.Machine.execImcRdCasRank7Allbanks o s
  | .imcRdCasRank7Bankg0 o => Sys2Proof.Machine.execImcRdCasRank7Bankg0 o s
  | .imcRdCasRank7Bankg1 o => Sys2Proof.Machine.execImcRdCasRank7Bankg1 o s
  | .imcRdCasRank7Bankg2 o => Sys2Proof.Machine.execImcRdCasRank7Bankg2 o s
  | .imcRdCasRank7Bankg3 o => Sys2Proof.Machine.execImcRdCasRank7Bankg3 o s
  | .imcRpqCyclesNe o => Sys2Proof.Machine.execImcRpqCyclesNe o s
  | .imcRpqInserts o => Sys2Proof.Machine.execImcRpqInserts o s
  | .imcVmseMxbWrOccupancy o => Sys2Proof.Machine.execImcVmseMxbWrOccupancy o s
  | .imcVmseWrPushWmm o => Sys2Proof.Machine.execImcVmseWrPushWmm o s
  | .imcVmseWrPushRmm o => Sys2Proof.Machine.execImcVmseWrPushRmm o s
  | .imcWmmToRmmLowThresh o => Sys2Proof.Machine.execImcWmmToRmmLowThresh o s
  | .imcWmmToRmmStarve o => Sys2Proof.Machine.execImcWmmToRmmStarve o s
  | .imcWmmToRmmVmseRetry o => Sys2Proof.Machine.execImcWmmToRmmVmseRetry o s
  | .imcWpqCyclesFull o => Sys2Proof.Machine.execImcWpqCyclesFull o s
  | .imcWpqCyclesNe o => Sys2Proof.Machine.execImcWpqCyclesNe o s
  | .imcWpqReadHit o => Sys2Proof.Machine.execImcWpqReadHit o s
  | .imcWpqWriteHit o => Sys2Proof.Machine.execImcWpqWriteHit o s
  | .imcWrongMm o => Sys2Proof.Machine.execImcWrongMm o s
  | .imcWrCasRank0Bank0 o => Sys2Proof.Machine.execImcWrCasRank0Bank0 o s
  | .imcWrCasRank0Bank1 o => Sys2Proof.Machine.execImcWrCasRank0Bank1 o s
  | .imcWrCasRank0Bank2 o => Sys2Proof.Machine.execImcWrCasRank0Bank2 o s
  | .imcWrCasRank0Bank3 o => Sys2Proof.Machine.execImcWrCasRank0Bank3 o s
  | .imcWrCasRank0Bank4 o => Sys2Proof.Machine.execImcWrCasRank0Bank4 o s
  | .imcWrCasRank0Bank5 o => Sys2Proof.Machine.execImcWrCasRank0Bank5 o s
  | .imcWrCasRank0Bank6 o => Sys2Proof.Machine.execImcWrCasRank0Bank6 o s
  | .imcWrCasRank0Bank7 o => Sys2Proof.Machine.execImcWrCasRank0Bank7 o s
  | .imcWrCasRank0Bank8 o => Sys2Proof.Machine.execImcWrCasRank0Bank8 o s
  | .imcWrCasRank0Bank9 o => Sys2Proof.Machine.execImcWrCasRank0Bank9 o s
  | .imcWrCasRank0Bank10 o => Sys2Proof.Machine.execImcWrCasRank0Bank10 o s
  | .imcWrCasRank0Bank11 o => Sys2Proof.Machine.execImcWrCasRank0Bank11 o s
  | .imcWrCasRank0Bank12 o => Sys2Proof.Machine.execImcWrCasRank0Bank12 o s
  | .imcWrCasRank0Bank13 o => Sys2Proof.Machine.execImcWrCasRank0Bank13 o s
  | .imcWrCasRank0Bank14 o => Sys2Proof.Machine.execImcWrCasRank0Bank14 o s
  | .imcWrCasRank0Bank15 o => Sys2Proof.Machine.execImcWrCasRank0Bank15 o s
  | .imcWrCasRank0Allbanks o => Sys2Proof.Machine.execImcWrCasRank0Allbanks o s
  | .imcWrCasRank0Bankg0 o => Sys2Proof.Machine.execImcWrCasRank0Bankg0 o s
  | .imcWrCasRank0Bankg1 o => Sys2Proof.Machine.execImcWrCasRank0Bankg1 o s
  | .imcWrCasRank0Bankg2 o => Sys2Proof.Machine.execImcWrCasRank0Bankg2 o s
  | .imcWrCasRank0Bankg3 o => Sys2Proof.Machine.execImcWrCasRank0Bankg3 o s
  | .imcWrCasRank1Bank0 o => Sys2Proof.Machine.execImcWrCasRank1Bank0 o s
  | .imcWrCasRank1Bank1 o => Sys2Proof.Machine.execImcWrCasRank1Bank1 o s
  | .imcWrCasRank1Bank2 o => Sys2Proof.Machine.execImcWrCasRank1Bank2 o s
  | .imcWrCasRank1Bank3 o => Sys2Proof.Machine.execImcWrCasRank1Bank3 o s
  | .imcWrCasRank1Bank4 o => Sys2Proof.Machine.execImcWrCasRank1Bank4 o s
  | .imcWrCasRank1Bank5 o => Sys2Proof.Machine.execImcWrCasRank1Bank5 o s
  | .imcWrCasRank1Bank6 o => Sys2Proof.Machine.execImcWrCasRank1Bank6 o s
  | .imcWrCasRank1Bank7 o => Sys2Proof.Machine.execImcWrCasRank1Bank7 o s
  | .imcWrCasRank1Bank8 o => Sys2Proof.Machine.execImcWrCasRank1Bank8 o s
  | .imcWrCasRank1Bank9 o => Sys2Proof.Machine.execImcWrCasRank1Bank9 o s
  | .imcWrCasRank1Bank10 o => Sys2Proof.Machine.execImcWrCasRank1Bank10 o s
  | .imcWrCasRank1Bank11 o => Sys2Proof.Machine.execImcWrCasRank1Bank11 o s
  | .imcWrCasRank1Bank12 o => Sys2Proof.Machine.execImcWrCasRank1Bank12 o s
  | .imcWrCasRank1Bank13 o => Sys2Proof.Machine.execImcWrCasRank1Bank13 o s
  | .imcWrCasRank1Bank14 o => Sys2Proof.Machine.execImcWrCasRank1Bank14 o s
  | .imcWrCasRank1Bank15 o => Sys2Proof.Machine.execImcWrCasRank1Bank15 o s
  | .imcWrCasRank1Allbanks o => Sys2Proof.Machine.execImcWrCasRank1Allbanks o s
  | .imcWrCasRank1Bankg0 o => Sys2Proof.Machine.execImcWrCasRank1Bankg0 o s
  | .imcWrCasRank1Bankg1 o => Sys2Proof.Machine.execImcWrCasRank1Bankg1 o s
  | .imcWrCasRank1Bankg2 o => Sys2Proof.Machine.execImcWrCasRank1Bankg2 o s
  | .imcWrCasRank1Bankg3 o => Sys2Proof.Machine.execImcWrCasRank1Bankg3 o s
  | .imcWrCasRank2 o => Sys2Proof.Machine.execImcWrCasRank2 o s
  | .imcWrCasRank3 o => Sys2Proof.Machine.execImcWrCasRank3 o s
  | .imcWrCasRank4Bank0 o => Sys2Proof.Machine.execImcWrCasRank4Bank0 o s
  | .imcWrCasRank4Bank1 o => Sys2Proof.Machine.execImcWrCasRank4Bank1 o s
  | .imcWrCasRank4Bank2 o => Sys2Proof.Machine.execImcWrCasRank4Bank2 o s
  | .imcWrCasRank4Bank3 o => Sys2Proof.Machine.execImcWrCasRank4Bank3 o s
  | .imcWrCasRank4Bank4 o => Sys2Proof.Machine.execImcWrCasRank4Bank4 o s
  | .imcWrCasRank4Bank5 o => Sys2Proof.Machine.execImcWrCasRank4Bank5 o s
  | .imcWrCasRank4Bank6 o => Sys2Proof.Machine.execImcWrCasRank4Bank6 o s
  | .imcWrCasRank4Bank7 o => Sys2Proof.Machine.execImcWrCasRank4Bank7 o s
  | .imcWrCasRank4Bank8 o => Sys2Proof.Machine.execImcWrCasRank4Bank8 o s
  | .imcWrCasRank4Bank9 o => Sys2Proof.Machine.execImcWrCasRank4Bank9 o s
  | .imcWrCasRank4Bank10 o => Sys2Proof.Machine.execImcWrCasRank4Bank10 o s
  | .imcWrCasRank4Bank11 o => Sys2Proof.Machine.execImcWrCasRank4Bank11 o s
  | .imcWrCasRank4Bank12 o => Sys2Proof.Machine.execImcWrCasRank4Bank12 o s
  | .imcWrCasRank4Bank13 o => Sys2Proof.Machine.execImcWrCasRank4Bank13 o s
  | .imcWrCasRank4Bank14 o => Sys2Proof.Machine.execImcWrCasRank4Bank14 o s
  | .imcWrCasRank4Bank15 o => Sys2Proof.Machine.execImcWrCasRank4Bank15 o s
  | .imcWrCasRank4Allbanks o => Sys2Proof.Machine.execImcWrCasRank4Allbanks o s
  | .imcWrCasRank4Bankg0 o => Sys2Proof.Machine.execImcWrCasRank4Bankg0 o s
  | .imcWrCasRank4Bankg1 o => Sys2Proof.Machine.execImcWrCasRank4Bankg1 o s
  | .imcWrCasRank4Bankg2 o => Sys2Proof.Machine.execImcWrCasRank4Bankg2 o s
  | .imcWrCasRank4Bankg3 o => Sys2Proof.Machine.execImcWrCasRank4Bankg3 o s
  | .imcWrCasRank5Bank0 o => Sys2Proof.Machine.execImcWrCasRank5Bank0 o s
  | .imcWrCasRank5Bank1 o => Sys2Proof.Machine.execImcWrCasRank5Bank1 o s
  | .imcWrCasRank5Bank2 o => Sys2Proof.Machine.execImcWrCasRank5Bank2 o s
  | .imcWrCasRank5Bank3 o => Sys2Proof.Machine.execImcWrCasRank5Bank3 o s
  | .imcWrCasRank5Bank4 o => Sys2Proof.Machine.execImcWrCasRank5Bank4 o s
  | .imcWrCasRank5Bank5 o => Sys2Proof.Machine.execImcWrCasRank5Bank5 o s
  | .imcWrCasRank5Bank6 o => Sys2Proof.Machine.execImcWrCasRank5Bank6 o s
  | .imcWrCasRank5Bank7 o => Sys2Proof.Machine.execImcWrCasRank5Bank7 o s
  | .imcWrCasRank5Bank8 o => Sys2Proof.Machine.execImcWrCasRank5Bank8 o s
  | .imcWrCasRank5Bank9 o => Sys2Proof.Machine.execImcWrCasRank5Bank9 o s
  | .imcWrCasRank5Bank10 o => Sys2Proof.Machine.execImcWrCasRank5Bank10 o s
  | .imcWrCasRank5Bank11 o => Sys2Proof.Machine.execImcWrCasRank5Bank11 o s
  | .imcWrCasRank5Bank12 o => Sys2Proof.Machine.execImcWrCasRank5Bank12 o s
  | .imcWrCasRank5Bank13 o => Sys2Proof.Machine.execImcWrCasRank5Bank13 o s
  | .imcWrCasRank5Bank14 o => Sys2Proof.Machine.execImcWrCasRank5Bank14 o s
  | .imcWrCasRank5Bank15 o => Sys2Proof.Machine.execImcWrCasRank5Bank15 o s
  | .imcWrCasRank5Allbanks o => Sys2Proof.Machine.execImcWrCasRank5Allbanks o s
  | .imcWrCasRank5Bankg0 o => Sys2Proof.Machine.execImcWrCasRank5Bankg0 o s
  | .imcWrCasRank5Bankg1 o => Sys2Proof.Machine.execImcWrCasRank5Bankg1 o s
  | .imcWrCasRank5Bankg2 o => Sys2Proof.Machine.execImcWrCasRank5Bankg2 o s
  | .imcWrCasRank5Bankg3 o => Sys2Proof.Machine.execImcWrCasRank5Bankg3 o s
  | .imcWrCasRank6Bank0 o => Sys2Proof.Machine.execImcWrCasRank6Bank0 o s
  | .imcWrCasRank6Bank1 o => Sys2Proof.Machine.execImcWrCasRank6Bank1 o s
  | .imcWrCasRank6Bank2 o => Sys2Proof.Machine.execImcWrCasRank6Bank2 o s
  | .imcWrCasRank6Bank3 o => Sys2Proof.Machine.execImcWrCasRank6Bank3 o s
  | .imcWrCasRank6Bank4 o => Sys2Proof.Machine.execImcWrCasRank6Bank4 o s
  | .imcWrCasRank6Bank5 o => Sys2Proof.Machine.execImcWrCasRank6Bank5 o s
  | .imcWrCasRank6Bank6 o => Sys2Proof.Machine.execImcWrCasRank6Bank6 o s
  | .imcWrCasRank6Bank7 o => Sys2Proof.Machine.execImcWrCasRank6Bank7 o s
  | .imcWrCasRank6Bank8 o => Sys2Proof.Machine.execImcWrCasRank6Bank8 o s
  | .imcWrCasRank6Bank9 o => Sys2Proof.Machine.execImcWrCasRank6Bank9 o s
  | .imcWrCasRank6Bank10 o => Sys2Proof.Machine.execImcWrCasRank6Bank10 o s
  | .imcWrCasRank6Bank11 o => Sys2Proof.Machine.execImcWrCasRank6Bank11 o s
  | .imcWrCasRank6Bank12 o => Sys2Proof.Machine.execImcWrCasRank6Bank12 o s
  | .imcWrCasRank6Bank13 o => Sys2Proof.Machine.execImcWrCasRank6Bank13 o s
  | .imcWrCasRank6Bank14 o => Sys2Proof.Machine.execImcWrCasRank6Bank14 o s
  | .imcWrCasRank6Bank15 o => Sys2Proof.Machine.execImcWrCasRank6Bank15 o s
  | .imcWrCasRank6Allbanks o => Sys2Proof.Machine.execImcWrCasRank6Allbanks o s
  | .imcWrCasRank6Bankg0 o => Sys2Proof.Machine.execImcWrCasRank6Bankg0 o s
  | .imcWrCasRank6Bankg1 o => Sys2Proof.Machine.execImcWrCasRank6Bankg1 o s
  | .imcWrCasRank6Bankg2 o => Sys2Proof.Machine.execImcWrCasRank6Bankg2 o s
  | .imcWrCasRank6Bankg3 o => Sys2Proof.Machine.execImcWrCasRank6Bankg3 o s
  | .imcWrCasRank7Bank0 o => Sys2Proof.Machine.execImcWrCasRank7Bank0 o s
  | .imcWrCasRank7Bank1 o => Sys2Proof.Machine.execImcWrCasRank7Bank1 o s
  | .imcWrCasRank7Bank2 o => Sys2Proof.Machine.execImcWrCasRank7Bank2 o s
  | .imcWrCasRank7Bank3 o => Sys2Proof.Machine.execImcWrCasRank7Bank3 o s
  | .imcWrCasRank7Bank4 o => Sys2Proof.Machine.execImcWrCasRank7Bank4 o s
  | .imcWrCasRank7Bank5 o => Sys2Proof.Machine.execImcWrCasRank7Bank5 o s
  | .imcWrCasRank7Bank6 o => Sys2Proof.Machine.execImcWrCasRank7Bank6 o s
  | .imcWrCasRank7Bank7 o => Sys2Proof.Machine.execImcWrCasRank7Bank7 o s
  | .imcWrCasRank7Bank8 o => Sys2Proof.Machine.execImcWrCasRank7Bank8 o s
  | .imcWrCasRank7Bank9 o => Sys2Proof.Machine.execImcWrCasRank7Bank9 o s
  | .imcWrCasRank7Bank10 o => Sys2Proof.Machine.execImcWrCasRank7Bank10 o s
  | .imcWrCasRank7Bank11 o => Sys2Proof.Machine.execImcWrCasRank7Bank11 o s
  | .imcWrCasRank7Bank12 o => Sys2Proof.Machine.execImcWrCasRank7Bank12 o s
  | .imcWrCasRank7Bank13 o => Sys2Proof.Machine.execImcWrCasRank7Bank13 o s
  | .imcWrCasRank7Bank14 o => Sys2Proof.Machine.execImcWrCasRank7Bank14 o s
  | .imcWrCasRank7Bank15 o => Sys2Proof.Machine.execImcWrCasRank7Bank15 o s
  | .imcWrCasRank7Allbanks o => Sys2Proof.Machine.execImcWrCasRank7Allbanks o s
  | .imcWrCasRank7Bankg0 o => Sys2Proof.Machine.execImcWrCasRank7Bankg0 o s
  | .imcWrCasRank7Bankg1 o => Sys2Proof.Machine.execImcWrCasRank7Bankg1 o s
  | .imcWrCasRank7Bankg2 o => Sys2Proof.Machine.execImcWrCasRank7Bankg2 o s
  | .imcWrCasRank7Bankg3 o => Sys2Proof.Machine.execImcWrCasRank7Bankg3 o s
  | .irpCacheTotalOccupancyAny o => Sys2Proof.Machine.execIrpCacheTotalOccupancyAny o s
  | .irpCacheTotalOccupancySource o => Sys2Proof.Machine.execIrpCacheTotalOccupancySource o s
  | .irpClockticks o => Sys2Proof.Machine.execIrpClockticks o s
  | .irpCoherentOpsPcirdcur o => Sys2Proof.Machine.execIrpCoherentOpsPcirdcur o s
  | .irpCoherentOpsCrd o => Sys2Proof.Machine.execIrpCoherentOpsCrd o s
  | .irpCoherentOpsDrd o => Sys2Proof.Machine.execIrpCoherentOpsDrd o s
  | .irpCoherentOpsRfo o => Sys2Proof.Machine.execIrpCoherentOpsRfo o s
  | .irpCoherentOpsPcitom o => Sys2Proof.Machine.execIrpCoherentOpsPcitom o s
  | .irpCoherentOpsPcidcahint o => Sys2Proof.Machine.execIrpCoherentOpsPcidcahint o s
  | .irpCoherentOpsWbmtoi o => Sys2Proof.Machine.execIrpCoherentOpsWbmtoi o s
  | .irpCoherentOpsClflush o => Sys2Proof.Machine.execIrpCoherentOpsClflush o s
  | .irpMisc0FastReq o => Sys2Proof.Machine.execIrpMisc0FastReq o s
  | .irpMisc0FastRej o => Sys2Proof.Machine.execIrpMisc0FastRej o s
  | .irpMisc02ndRdInsert o => Sys2Proof.Machine.execIrpMisc02ndRdInsert o s
  | .irpMisc02ndWrInsert o => Sys2Proof.Machine.execIrpMisc02ndWrInsert o s
  | .irpMisc02ndAtomicInsert o => Sys2Proof.Machine.execIrpMisc02ndAtomicInsert o s
  | .irpMisc0FastXfer o => Sys2Proof.Machine.execIrpMisc0FastXfer o s
  | .irpMisc0PfAckHint o => Sys2Proof.Machine.execIrpMisc0PfAckHint o s
  | .irpMisc0PfTimeout o => Sys2Proof.Machine.execIrpMisc0PfTimeout o s
  | .irpMisc1SlowI o => Sys2Proof.Machine.execIrpMisc1SlowI o s
  | .irpMisc1SlowS o => Sys2Proof.Machine.execIrpMisc1SlowS o s
  | .irpMisc1SlowE o => Sys2Proof.Machine.execIrpMisc1SlowE o s
  | .irpMisc1SlowM o => Sys2Proof.Machine.execIrpMisc1SlowM o s
  | .irpMisc1LostFwd o => Sys2Proof.Machine.execIrpMisc1LostFwd o s
  | .irpMisc1SecRcvdInvld o => Sys2Proof.Machine.execIrpMisc1SecRcvdInvld o s
  | .irpMisc1SecRcvdVld o => Sys2Proof.Machine.execIrpMisc1SecRcvdVld o s
  | .irpMisc1DataThrottle o => Sys2Proof.Machine.execIrpMisc1DataThrottle o s
  | .irpRxRAkInserts o => Sys2Proof.Machine.execIrpRxRAkInserts o s
  | .irpRxRBlDrsCyclesFull o => Sys2Proof.Machine.execIrpRxRBlDrsCyclesFull o s
  | .irpRxRBlDrsInserts o => Sys2Proof.Machine.execIrpRxRBlDrsInserts o s
  | .irpRxRBlDrsOccupancy o => Sys2Proof.Machine.execIrpRxRBlDrsOccupancy o s
  | .irpRxRBlNcbCyclesFull o => Sys2Proof.Machine.execIrpRxRBlNcbCyclesFull o s
  | .irpRxRBlNcbInserts o => Sys2Proof.Machine.execIrpRxRBlNcbInserts o s
  | .irpRxRBlNcbOccupancy o => Sys2Proof.Machine.execIrpRxRBlNcbOccupancy o s
  | .irpRxRBlNcsCyclesFull o => Sys2Proof.Machine.execIrpRxRBlNcsCyclesFull o s
  | .irpRxRBlNcsInserts o => Sys2Proof.Machine.execIrpRxRBlNcsInserts o s
  | .irpRxRBlNcsOccupancy o => Sys2Proof.Machine.execIrpRxRBlNcsOccupancy o s
  | .irpSnoopRespMiss o => Sys2Proof.Machine.execIrpSnoopRespMiss o s
  | .irpSnoopRespHitI o => Sys2Proof.Machine.execIrpSnoopRespHitI o s
  | .irpSnoopRespHitEs o => Sys2Proof.Machine.execIrpSnoopRespHitEs o s
  | .irpSnoopRespHitM o => Sys2Proof.Machine.execIrpSnoopRespHitM o s
  | .irpSnoopRespSnpcode o => Sys2Proof.Machine.execIrpSnoopRespSnpcode o s
  | .irpSnoopRespSnpdata o => Sys2Proof.Machine.execIrpSnoopRespSnpdata o s
  | .irpSnoopRespSnpinv o => Sys2Proof.Machine.execIrpSnoopRespSnpinv o s
  | .irpTransactionsReads o => Sys2Proof.Machine.execIrpTransactionsReads o s
  | .irpTransactionsWrites o => Sys2Proof.Machine.execIrpTransactionsWrites o s
  | .irpTransactionsRdPref o => Sys2Proof.Machine.execIrpTransactionsRdPref o s
  | .irpTransactionsWrPref o => Sys2Proof.Machine.execIrpTransactionsWrPref o s
  | .irpTransactionsAtomic o => Sys2Proof.Machine.execIrpTransactionsAtomic o s
  | .irpTransactionsOther o => Sys2Proof.Machine.execIrpTransactionsOther o s
  | .irpTransactionsOrderingq o => Sys2Proof.Machine.execIrpTransactionsOrderingq o s
  | .irpTxRAdStallCreditCycles o => Sys2Proof.Machine.execIrpTxRAdStallCreditCycles o s
  | .irpTxRBlStallCreditCycles o => Sys2Proof.Machine.execIrpTxRBlStallCreditCycles o s
  | .irpTxRDataInsertsNcb o => Sys2Proof.Machine.execIrpTxRDataInsertsNcb o s
  | .irpTxRDataInsertsNcs o => Sys2Proof.Machine.execIrpTxRDataInsertsNcs o s
  | .irpTxRRequestOccupancy o => Sys2Proof.Machine.execIrpTxRRequestOccupancy o s
  | .pcuClockticks o => Sys2Proof.Machine.execPcuClockticks o s
  | .pcuCore0TransitionCycles o => Sys2Proof.Machine.execPcuCore0TransitionCycles o s
  | .pcuCore10TransitionCycles o => Sys2Proof.Machine.execPcuCore10TransitionCycles o s
  | .pcuCore11TransitionCycles o => Sys2Proof.Machine.execPcuCore11TransitionCycles o s
  | .pcuCore12TransitionCycles o => Sys2Proof.Machine.execPcuCore12TransitionCycles o s
  | .pcuCore13TransitionCycles o => Sys2Proof.Machine.execPcuCore13TransitionCycles o s
  | .pcuCore14TransitionCycles o => Sys2Proof.Machine.execPcuCore14TransitionCycles o s
  | .pcuCore15TransitionCycles o => Sys2Proof.Machine.execPcuCore15TransitionCycles o s
  | .pcuCore16TransitionCycles o => Sys2Proof.Machine.execPcuCore16TransitionCycles o s
  | .pcuCore17TransitionCycles o => Sys2Proof.Machine.execPcuCore17TransitionCycles o s
  | .pcuCore1TransitionCycles o => Sys2Proof.Machine.execPcuCore1TransitionCycles o s
  | .pcuCore2TransitionCycles o => Sys2Proof.Machine.execPcuCore2TransitionCycles o s
  | .pcuCore3TransitionCycles o => Sys2Proof.Machine.execPcuCore3TransitionCycles o s
  | .pcuCore4TransitionCycles o => Sys2Proof.Machine.execPcuCore4TransitionCycles o s
  | .pcuCore5TransitionCycles o => Sys2Proof.Machine.execPcuCore5TransitionCycles o s
  | .pcuCore6TransitionCycles o => Sys2Proof.Machine.execPcuCore6TransitionCycles o s
  | .pcuCore7TransitionCycles o => Sys2Proof.Machine.execPcuCore7TransitionCycles o s
  | .pcuCore8TransitionCycles o => Sys2Proof.Machine.execPcuCore8TransitionCycles o s
  | .pcuCore9TransitionCycles o => Sys2Proof.Machine.execPcuCore9TransitionCycles o s
  | .pcuDemotionsCore0 o => Sys2Proof.Machine.execPcuDemotionsCore0 o s
  | .pcuDemotionsCore1 o => Sys2Proof.Machine.execPcuDemotionsCore1 o s
  | .pcuDemotionsCore10 o => Sys2Proof.Machine.execPcuDemotionsCore10 o s
  | .pcuDemotionsCore11 o => Sys2Proof.Machine.execPcuDemotionsCore11 o s
  | .pcuDemotionsCore12 o => Sys2Proof.Machine.execPcuDemotionsCore12 o s
  | .pcuDemotionsCore13 o => Sys2Proof.Machine.execPcuDemotionsCore13 o s
  | .pcuDemotionsCore14 o => Sys2Proof.Machine.execPcuDemotionsCore14 o s
  | .pcuDemotionsCore15 o => Sys2Proof.Machine.execPcuDemotionsCore15 o s
  | .pcuDemotionsCore16 o => Sys2Proof.Machine.execPcuDemotionsCore16 o s
  | .pcuDemotionsCore17 o => Sys2Proof.Machine.execPcuDemotionsCore17 o s
  | .pcuDemotionsCore2 o => Sys2Proof.Machine.execPcuDemotionsCore2 o s
  | .pcuDemotionsCore3 o => Sys2Proof.Machine.execPcuDemotionsCore3 o s
  | .pcuDemotionsCore4 o => Sys2Proof.Machine.execPcuDemotionsCore4 o s
  | .pcuDemotionsCore5 o => Sys2Proof.Machine.execPcuDemotionsCore5 o s
  | .pcuDemotionsCore6 o => Sys2Proof.Machine.execPcuDemotionsCore6 o s
  | .pcuDemotionsCore7 o => Sys2Proof.Machine.execPcuDemotionsCore7 o s
  | .pcuDemotionsCore8 o => Sys2Proof.Machine.execPcuDemotionsCore8 o s
  | .pcuDemotionsCore9 o => Sys2Proof.Machine.execPcuDemotionsCore9 o s
  | .pcuFreqBand0Cycles o => Sys2Proof.Machine.execPcuFreqBand0Cycles o s
  | .pcuFreqBand1Cycles o => Sys2Proof.Machine.execPcuFreqBand1Cycles o s
  | .pcuFreqBand2Cycles o => Sys2Proof.Machine.execPcuFreqBand2Cycles o s
  | .pcuFreqBand3Cycles o => Sys2Proof.Machine.execPcuFreqBand3Cycles o s
  | .pcuFreqMaxLimitThermalCycles o => Sys2Proof.Machine.execPcuFreqMaxLimitThermalCycles o s
  | .pcuFreqMaxOsCycles o => Sys2Proof.Machine.execPcuFreqMaxOsCycles o s
  | .pcuFreqMaxPowerCycles o => Sys2Proof.Machine.execPcuFreqMaxPowerCycles o s
  | .pcuFreqMinIoPCycles o => Sys2Proof.Machine.execPcuFreqMinIoPCycles o s
  | .pcuFreqTransCycles o => Sys2Proof.Machine.execPcuFreqTransCycles o s
  | .pcuMemoryPhaseSheddingCycles o => Sys2Proof.Machine.execPcuMemoryPhaseSheddingCycles o s
  | .pcuPkgResidencyC0Cycles o => Sys2Proof.Machine.execPcuPkgResidencyC0Cycles o s
  | .pcuPkgResidencyC1eCycles o => Sys2Proof.Machine.execPcuPkgResidencyC1eCycles o s
  | .pcuPkgResidencyC2eCycles o => Sys2Proof.Machine.execPcuPkgResidencyC2eCycles o s
  | .pcuPkgResidencyC3Cycles o => Sys2Proof.Machine.execPcuPkgResidencyC3Cycles o s
  | .pcuPkgResidencyC6Cycles o => Sys2Proof.Machine.execPcuPkgResidencyC6Cycles o s
  | .pcuPkgResidencyC7Cycles o => Sys2Proof.Machine.execPcuPkgResidencyC7Cycles o s
  | .pcuPowerStateOccupancyCoresC0 o => Sys2Proof.Machine.execPcuPowerStateOccupancyCoresC0 o s
  | .pcuPowerStateOccupancyCoresC3 o => Sys2Proof.Machine.execPcuPowerStateOccupancyCoresC3 o s
  | .pcuPowerStateOccupancyCoresC6 o => Sys2Proof.Machine.execPcuPowerStateOccupancyCoresC6 o s
  | .pcuProchotExternalCycles o => Sys2Proof.Machine.execPcuProchotExternalCycles o s
  | .pcuProchotInternalCycles o => Sys2Proof.Machine.execPcuProchotInternalCycles o s
  | .pcuTotalTransitionCycles o => Sys2Proof.Machine.execPcuTotalTransitionCycles o s
  | .pcuUfsTransitionsRingGv o => Sys2Proof.Machine.execPcuUfsTransitionsRingGv o s
  | .pcuVrHotCycles o => Sys2Proof.Machine.execPcuVrHotCycles o s
  | .qpiClockticks o => Sys2Proof.Machine.execQpiClockticks o s
  | .qpiCtoCount o => Sys2Proof.Machine.execQpiCtoCount o s
  | .qpiDirect2coreSuccessRbtHit o => Sys2Proof.Machine.execQpiDirect2coreSuccessRbtHit o s
  | .qpiDirect2coreFailureCredits o => Sys2Proof.Machine.execQpiDirect2coreFailureCredits o s
  | .qpiDirect2coreFailureRbtHit o => Sys2Proof.Machine.execQpiDirect2coreFailureRbtHit o s
  | .qpiDirect2coreFailureCreditsRbt o => Sys2Proof.Machine.execQpiDirect2coreFailureCreditsRbt o s
  | .qpiDirect2coreFailureMiss o => Sys2Proof.Machine.execQpiDirect2coreFailureMiss o s
  | .qpiDirect2coreFailureCreditsMiss o => Sys2Proof.Machine.execQpiDirect2coreFailureCreditsMiss o s
  | .qpiDirect2coreFailureRbtMiss o => Sys2Proof.Machine.execQpiDirect2coreFailureRbtMiss o s
  | .qpiDirect2coreFailureCreditsRbtMiss o => Sys2Proof.Machine.execQpiDirect2coreFailureCreditsRbtMiss o s
  | .qpiL1PowerCycles o => Sys2Proof.Machine.execQpiL1PowerCycles o s
  | .qpiRxL0PPowerCycles o => Sys2Proof.Machine.execQpiRxL0PPowerCycles o s
  | .qpiRxL0PowerCycles o => Sys2Proof.Machine.execQpiRxL0PowerCycles o s
  | .qpiRxLBypassed o => Sys2Proof.Machine.execQpiRxLBypassed o s
  | .qpiRxLCreditsConsumedVn0Drs o => Sys2Proof.Machine.execQpiRxLCreditsConsumedVn0Drs o s
  | .qpiRxLCreditsConsumedVn0Ncb o => Sys2Proof.Machine.execQpiRxLCreditsConsumedVn0Ncb o s
  | .qpiRxLCreditsConsumedVn0Ncs o => Sys2Proof.Machine.execQpiRxLCreditsConsumedVn0Ncs o s
  | .qpiRxLCreditsConsumedVn0Hom o => Sys2Proof.Machine.execQpiRxLCreditsConsumedVn0Hom o s
  | .qpiRxLCreditsConsumedVn0Snp o => Sys2Proof.Machine.execQpiRxLCreditsConsumedVn0Snp o s
  | .qpiRxLCreditsConsumedVn0Ndr o => Sys2Proof.Machine.execQpiRxLCreditsConsumedVn0Ndr o s
  | .qpiRxLCreditsConsumedVn1Drs o => Sys2Proof.Machine.execQpiRxLCreditsConsumedVn1Drs o s
  | .qpiRxLCreditsConsumedVn1Ncb o => Sys2Proof.Machine.execQpiRxLCreditsConsumedVn1Ncb o s
  | .qpiRxLCreditsConsumedVn1Ncs o => Sys2Proof.Machine.execQpiRxLCreditsConsumedVn1Ncs o s
  | .qpiRxLCreditsConsumedVn1Hom o => Sys2Proof.Machine.execQpiRxLCreditsConsumedVn1Hom o s
  | .qpiRxLCreditsConsumedVn1Snp o => Sys2Proof.Machine.execQpiRxLCreditsConsumedVn1Snp o s
  | .qpiRxLCreditsConsumedVn1Ndr o => Sys2Proof.Machine.execQpiRxLCreditsConsumedVn1Ndr o s
  | .qpiRxLCreditsConsumedVna o => Sys2Proof.Machine.execQpiRxLCreditsConsumedVna o s
  | .qpiRxLCyclesNe o => Sys2Proof.Machine.execQpiRxLCyclesNe o s
  | .qpiRxLFlitsG1Snp o => Sys2Proof.Machine.execQpiRxLFlitsG1Snp o s
  | .qpiRxLFlitsG1HomReq o => Sys2Proof.Machine.execQpiRxLFlitsG1HomReq o s
  | .qpiRxLFlitsG1HomNonreq o => Sys2Proof.Machine.execQpiRxLFlitsG1HomNonreq o s
  | .qpiRxLFlitsG1Hom o => Sys2Proof.Machine.execQpiRxLFlitsG1Hom o s
  | .qpiRxLFlitsG1DrsData o => Sys2Proof.Machine.execQpiRxLFlitsG1DrsData o s
  | .qpiRxLFlitsG1DrsNondata o => Sys2Proof.Machine.execQpiRxLFlitsG1DrsNondata o s
  | .qpiRxLFlitsG1Drs o => Sys2Proof.Machine.execQpiRxLFlitsG1Drs o s
  | .qpiRxLFlitsG2NdrAd o => Sys2Proof.Machine.execQpiRxLFlitsG2NdrAd o s
  | .qpiRxLFlitsG2NdrAk o => Sys2Proof.Machine.execQpiRxLFlitsG2NdrAk o s
  | .qpiRxLFlitsG2NcbData o => Sys2Proof.Machine.execQpiRxLFlitsG2NcbData o s
  | .qpiRxLFlitsG2NcbNondata o => Sys2Proof.Machine.execQpiRxLFlitsG2NcbNondata o s
  | .qpiRxLFlitsG2Ncb o => Sys2Proof.Machine.execQpiRxLFlitsG2Ncb o s
  | .qpiRxLFlitsG2Ncs o => Sys2Proof.Machine.execQpiRxLFlitsG2Ncs o s
  | .qpiRxLInserts o => Sys2Proof.Machine.execQpiRxLInserts o s
  | .qpiRxLInsertsDrsVn0 o => Sys2Proof.Machine.execQpiRxLInsertsDrsVn0 o s
  | .qpiRxLInsertsDrsVn1 o => Sys2Proof.Machine.execQpiRxLInsertsDrsVn1 o s
  | .qpiRxLInsertsHomVn0 o => Sys2Proof.Machine.execQpiRxLInsertsHomVn0 o s
  | .qpiRxLInsertsHomVn1 o => Sys2Proof.Machine.execQpiRxLInsertsHomVn1 o s
  | .qpiRxLInsertsNcbVn0 o => Sys2Proof.Machine.execQpiRxLInsertsNcbVn0 o s
  | .qpiRxLInsertsNcbVn1 o => Sys2Proof.Machine.execQpiRxLInsertsNcbVn1 o s
  | .qpiRxLInsertsNcsVn0 o => Sys2Proof.Machine.execQpiRxLInsertsNcsVn0 o s
  | .qpiRxLInsertsNcsVn1 o => Sys2Proof.Machine.execQpiRxLInsertsNcsVn1 o s
  | .qpiRxLInsertsNdrVn0 o => Sys2Proof.Machine.execQpiRxLInsertsNdrVn0 o s
  | .qpiRxLInsertsNdrVn1 o => Sys2Proof.Machine.execQpiRxLInsertsNdrVn1 o s
  | .qpiRxLInsertsSnpVn0 o => Sys2Proof.Machine.execQpiRxLInsertsSnpVn0 o s
  | .qpiRxLInsertsSnpVn1 o => Sys2Proof.Machine.execQpiRxLInsertsSnpVn1 o s
  | .qpiRxLOccupancy o => Sys2Proof.Machine.execQpiRxLOccupancy o s
  | .qpiRxLOccupancyDrsVn0 o => Sys2Proof.Machine.execQpiRxLOccupancyDrsVn0 o s
  | .qpiRxLOccupancyDrsVn1 o => Sys2Proof.Machine.execQpiRxLOccupancyDrsVn1 o s
  | .qpiRxLOccupancyHomVn0 o => Sys2Proof.Machine.execQpiRxLOccupancyHomVn0 o s
  | .qpiRxLOccupancyHomVn1 o => Sys2Proof.Machine.execQpiRxLOccupancyHomVn1 o s
  | .qpiRxLOccupancyNcbVn0 o => Sys2Proof.Machine.execQpiRxLOccupancyNcbVn0 o s
  | .qpiRxLOccupancyNcbVn1 o => Sys2Proof.Machine.execQpiRxLOccupancyNcbVn1 o s
  | .qpiRxLOccupancyNcsVn0 o => Sys2Proof.Machine.execQpiRxLOccupancyNcsVn0 o s
  | .qpiRxLOccupancyNcsVn1 o => Sys2Proof.Machine.execQpiRxLOccupancyNcsVn1 o s
  | .qpiRxLOccupancyNdrVn0 o => Sys2Proof.Machine.execQpiRxLOccupancyNdrVn0 o s
  | .qpiRxLOccupancyNdrVn1 o => Sys2Proof.Machine.execQpiRxLOccupancyNdrVn1 o s
  | .qpiRxLOccupancySnpVn0 o => Sys2Proof.Machine.execQpiRxLOccupancySnpVn0 o s
  | .qpiRxLOccupancySnpVn1 o => Sys2Proof.Machine.execQpiRxLOccupancySnpVn1 o s
  | .qpiTxL0PPowerCycles o => Sys2Proof.Machine.execQpiTxL0PPowerCycles o s
  | .qpiTxL0PowerCycles o => Sys2Proof.Machine.execQpiTxL0PowerCycles o s
  | .qpiTxLBypassed o => Sys2Proof.Machine.execQpiTxLBypassed o s
  | .qpiTxLCyclesNe o => Sys2Proof.Machine.execQpiTxLCyclesNe o s
  | .qpiTxLFlitsG0Data o => Sys2Proof.Machine.execQpiTxLFlitsG0Data o s
  | .qpiTxLFlitsG0NonData o => Sys2Proof.Machine.execQpiTxLFlitsG0NonData o s
  | .qpiTxLFlitsG1Snp o => Sys2Proof.Machine.execQpiTxLFlitsG1Snp o s
  | .qpiTxLFlitsG1HomReq o => Sys2Proof.Machine.execQpiTxLFlitsG1HomReq o s
  | .qpiTxLFlitsG1HomNonreq o => Sys2Proof.Machine.execQpiTxLFlitsG1HomNonreq o s
  | .qpiTxLFlitsG1Hom o => Sys2Proof.Machine.execQpiTxLFlitsG1Hom o s
  | .qpiTxLFlitsG1DrsData o => Sys2Proof.Machine.execQpiTxLFlitsG1DrsData o s
  | .qpiTxLFlitsG1DrsNondata o => Sys2Proof.Machine.execQpiTxLFlitsG1DrsNondata o s
  | .qpiTxLFlitsG1Drs o => Sys2Proof.Machine.execQpiTxLFlitsG1Drs o s
  | .qpiTxLFlitsG2NdrAd o => Sys2Proof.Machine.execQpiTxLFlitsG2NdrAd o s
  | .qpiTxLFlitsG2NdrAk o => Sys2Proof.Machine.execQpiTxLFlitsG2NdrAk o s
  | .qpiTxLFlitsG2NcbData o => Sys2Proof.Machine.execQpiTxLFlitsG2NcbData o s
  | .qpiTxLFlitsG2NcbNondata o => Sys2Proof.Machine.execQpiTxLFlitsG2NcbNondata o s
  | .qpiTxLFlitsG2Ncb o => Sys2Proof.Machine.execQpiTxLFlitsG2Ncb o s
  | .qpiTxLFlitsG2Ncs o => Sys2Proof.Machine.execQpiTxLFlitsG2Ncs o s
  | .qpiTxLInserts o => Sys2Proof.Machine.execQpiTxLInserts o s
  | .qpiTxLOccupancy o => Sys2Proof.Machine.execQpiTxLOccupancy o s
  | .qpiTxRAdHomCreditAcquiredVn0 o => Sys2Proof.Machine.execQpiTxRAdHomCreditAcquiredVn0 o s
  | .qpiTxRAdHomCreditAcquiredVn1 o => Sys2Proof.Machine.execQpiTxRAdHomCreditAcquiredVn1 o s
  | .qpiTxRAdHomCreditOccupancyVn0 o => Sys2Proof.Machine.execQpiTxRAdHomCreditOccupancyVn0 o s
  | .qpiTxRAdHomCreditOccupancyVn1 o => Sys2Proof.Machine.execQpiTxRAdHomCreditOccupancyVn1 o s
  | .qpiTxRAdNdrCreditAcquiredVn0 o => Sys2Proof.Machine.execQpiTxRAdNdrCreditAcquiredVn0 o s
  | .qpiTxRAdNdrCreditAcquiredVn1 o => Sys2Proof.Machine.execQpiTxRAdNdrCreditAcquiredVn1 o s
  | .qpiTxRAdNdrCreditOccupancyVn0 o => Sys2Proof.Machine.execQpiTxRAdNdrCreditOccupancyVn0 o s
  | .qpiTxRAdNdrCreditOccupancyVn1 o => Sys2Proof.Machine.execQpiTxRAdNdrCreditOccupancyVn1 o s
  | .qpiTxRAdSnpCreditAcquiredVn0 o => Sys2Proof.Machine.execQpiTxRAdSnpCreditAcquiredVn0 o s
  | .qpiTxRAdSnpCreditAcquiredVn1 o => Sys2Proof.Machine.execQpiTxRAdSnpCreditAcquiredVn1 o s
  | .qpiTxRAdSnpCreditOccupancyVn0 o => Sys2Proof.Machine.execQpiTxRAdSnpCreditOccupancyVn0 o s
  | .qpiTxRAdSnpCreditOccupancyVn1 o => Sys2Proof.Machine.execQpiTxRAdSnpCreditOccupancyVn1 o s
  | .qpiTxRAkNdrCreditAcquired o => Sys2Proof.Machine.execQpiTxRAkNdrCreditAcquired o s
  | .qpiTxRAkNdrCreditOccupancy o => Sys2Proof.Machine.execQpiTxRAkNdrCreditOccupancy o s
  | .qpiTxRBlDrsCreditAcquiredVn0 o => Sys2Proof.Machine.execQpiTxRBlDrsCreditAcquiredVn0 o s
  | .qpiTxRBlDrsCreditAcquiredVn1 o => Sys2Proof.Machine.execQpiTxRBlDrsCreditAcquiredVn1 o s
  | .qpiTxRBlDrsCreditAcquiredVnShr o => Sys2Proof.Machine.execQpiTxRBlDrsCreditAcquiredVnShr o s
  | .qpiTxRBlDrsCreditOccupancyVn0 o => Sys2Proof.Machine.execQpiTxRBlDrsCreditOccupancyVn0 o s
  | .qpiTxRBlDrsCreditOccupancyVn1 o => Sys2Proof.Machine.execQpiTxRBlDrsCreditOccupancyVn1 o s
  | .qpiTxRBlDrsCreditOccupancyVnShr o => Sys2Proof.Machine.execQpiTxRBlDrsCreditOccupancyVnShr o s
  | .qpiTxRBlNcbCreditAcquiredVn0 o => Sys2Proof.Machine.execQpiTxRBlNcbCreditAcquiredVn0 o s
  | .qpiTxRBlNcbCreditAcquiredVn1 o => Sys2Proof.Machine.execQpiTxRBlNcbCreditAcquiredVn1 o s
  | .qpiTxRBlNcbCreditOccupancyVn0 o => Sys2Proof.Machine.execQpiTxRBlNcbCreditOccupancyVn0 o s
  | .qpiTxRBlNcbCreditOccupancyVn1 o => Sys2Proof.Machine.execQpiTxRBlNcbCreditOccupancyVn1 o s
  | .qpiTxRBlNcsCreditAcquiredVn0 o => Sys2Proof.Machine.execQpiTxRBlNcsCreditAcquiredVn0 o s
  | .qpiTxRBlNcsCreditAcquiredVn1 o => Sys2Proof.Machine.execQpiTxRBlNcsCreditAcquiredVn1 o s
  | .qpiTxRBlNcsCreditOccupancyVn0 o => Sys2Proof.Machine.execQpiTxRBlNcsCreditOccupancyVn0 o s
  | .qpiTxRBlNcsCreditOccupancyVn1 o => Sys2Proof.Machine.execQpiTxRBlNcsCreditOccupancyVn1 o s
  | .qpiVnaCreditReturns o => Sys2Proof.Machine.execQpiVnaCreditReturns o s
  | .qpiVnaCreditReturnOccupancy o => Sys2Proof.Machine.execQpiVnaCreditReturnOccupancy o s
  | .r2PCIeClockticks o => Sys2Proof.Machine.execR2PCIeClockticks o s
  | .r2PCIeIioCreditPrqQpi0 o => Sys2Proof.Machine.execR2PCIeIioCreditPrqQpi0 o s
  | .r2PCIeIioCreditPrqQpi1 o => Sys2Proof.Machine.execR2PCIeIioCreditPrqQpi1 o s
  | .r2PCIeIioCreditIsochQpi0 o => Sys2Proof.Machine.execR2PCIeIioCreditIsochQpi0 o s
  | .r2PCIeIioCreditIsochQpi1 o => Sys2Proof.Machine.execR2PCIeIioCreditIsochQpi1 o s
  | .r2PCIeRingAdUsedCwEven o => Sys2Proof.Machine.execR2PCIeRingAdUsedCwEven o s
  | .r2PCIeRingAdUsedCwOdd o => Sys2Proof.Machine.execR2PCIeRingAdUsedCwOdd o s
  | .r2PCIeRingAdUsedCw o => Sys2Proof.Machine.execR2PCIeRingAdUsedCw o s
  | .r2PCIeRingAdUsedCcwEven o => Sys2Proof.Machine.execR2PCIeRingAdUsedCcwEven o s
  | .r2PCIeRingAdUsedCcwOdd o => Sys2Proof.Machine.execR2PCIeRingAdUsedCcwOdd o s
  | .r2PCIeRingAdUsedCcw o => Sys2Proof.Machine.execR2PCIeRingAdUsedCcw o s
  | .r2PCIeRingAkBouncesUp o => Sys2Proof.Machine.execR2PCIeRingAkBouncesUp o s
  | .r2PCIeRingAkBouncesDn o => Sys2Proof.Machine.execR2PCIeRingAkBouncesDn o s
  | .r2PCIeRingAkUsedCwEven o => Sys2Proof.Machine.execR2PCIeRingAkUsedCwEven o s
  | .r2PCIeRingAkUsedCwOdd o => Sys2Proof.Machine.execR2PCIeRingAkUsedCwOdd o s
  | .r2PCIeRingAkUsedCw o => Sys2Proof.Machine.execR2PCIeRingAkUsedCw o s
  | .r2PCIeRingAkUsedCcwEven o => Sys2Proof.Machine.execR2PCIeRingAkUsedCcwEven o s
  | .r2PCIeRingAkUsedCcwOdd o => Sys2Proof.Machine.execR2PCIeRingAkUsedCcwOdd o s
  | .r2PCIeRingAkUsedCcw o => Sys2Proof.Machine.execR2PCIeRingAkUsedCcw o s
  | .r2PCIeRingBlUsedCwEven o => Sys2Proof.Machine.execR2PCIeRingBlUsedCwEven o s
  | .r2PCIeRingBlUsedCwOdd o => Sys2Proof.Machine.execR2PCIeRingBlUsedCwOdd o s
  | .r2PCIeRingBlUsedCw o => Sys2Proof.Machine.execR2PCIeRingBlUsedCw o s
  | .r2PCIeRingBlUsedCcwEven o => Sys2Proof.Machine.execR2PCIeRingBlUsedCcwEven o s
  | .r2PCIeRingBlUsedCcwOdd o => Sys2Proof.Machine.execR2PCIeRingBlUsedCcwOdd o s
  | .r2PCIeRingBlUsedCcw o => Sys2Proof.Machine.execR2PCIeRingBlUsedCcw o s
  | .r2PCIeRingIvUsedCw o => Sys2Proof.Machine.execR2PCIeRingIvUsedCw o s
  | .r2PCIeRingIvUsedCcw o => Sys2Proof.Machine.execR2PCIeRingIvUsedCcw o s
  | .r2PCIeRingIvUsedAny o => Sys2Proof.Machine.execR2PCIeRingIvUsedAny o s
  | .r2PCIeRxRCyclesNeNcb o => Sys2Proof.Machine.execR2PCIeRxRCyclesNeNcb o s
  | .r2PCIeRxRCyclesNeNcs o => Sys2Proof.Machine.execR2PCIeRxRCyclesNeNcs o s
  | .r2PCIeRxRInsertsNcb o => Sys2Proof.Machine.execR2PCIeRxRInsertsNcb o s
  | .r2PCIeRxRInsertsNcs o => Sys2Proof.Machine.execR2PCIeRxRInsertsNcs o s
  | .r2PCIeRxROccupancyDrs o => Sys2Proof.Machine.execR2PCIeRxROccupancyDrs o s
  | .r2PCIeSbo0CreditsAcquiredAd o => Sys2Proof.Machine.execR2PCIeSbo0CreditsAcquiredAd o s
  | .r2PCIeSbo0CreditsAcquiredBl o => Sys2Proof.Machine.execR2PCIeSbo0CreditsAcquiredBl o s
  | .r2PCIeStallNoSboCreditSbo0Ad o => Sys2Proof.Machine.execR2PCIeStallNoSboCreditSbo0Ad o s
  | .r2PCIeStallNoSboCreditSbo1Ad o => Sys2Proof.Machine.execR2PCIeStallNoSboCreditSbo1Ad o s
  | .r2PCIeStallNoSboCreditSbo0Bl o => Sys2Proof.Machine.execR2PCIeStallNoSboCreditSbo0Bl o s
  | .r2PCIeStallNoSboCreditSbo1Bl o => Sys2Proof.Machine.execR2PCIeStallNoSboCreditSbo1Bl o s
  | .r2PCIeTxRNackCwDnAd o => Sys2Proof.Machine.execR2PCIeTxRNackCwDnAd o s
  | .r2PCIeTxRNackCwDnBl o => Sys2Proof.Machine.execR2PCIeTxRNackCwDnBl o s
  | .r2PCIeTxRNackCwDnAk o => Sys2Proof.Machine.execR2PCIeTxRNackCwDnAk o s
  | .r2PCIeTxRNackCwUpAd o => Sys2Proof.Machine.execR2PCIeTxRNackCwUpAd o s
  | .r2PCIeTxRNackCwUpBl o => Sys2Proof.Machine.execR2PCIeTxRNackCwUpBl o s
  | .r2PCIeTxRNackCwUpAk o => Sys2Proof.Machine.execR2PCIeTxRNackCwUpAk o s
  | .r3qpiClockticks o => Sys2Proof.Machine.execR3qpiClockticks o s
  | .r3qpiCHiAdCreditsEmptyCbo8 o => Sys2Proof.Machine.execR3qpiCHiAdCreditsEmptyCbo8 o s
  | .r3qpiCHiAdCreditsEmptyCb09 o => Sys2Proof.Machine.execR3qpiCHiAdCreditsEmptyCb09 o s
  | .r3qpiCHiAdCreditsEmptyCbo10 o => Sys2Proof.Machine.execR3qpiCHiAdCreditsEmptyCbo10 o s
  | .r3qpiCHiAdCreditsEmptyCb011 o => Sys2Proof.Machine.execR3qpiCHiAdCreditsEmptyCb011 o s
  | .r3qpiCHiAdCreditsEmptyCbo12 o => Sys2Proof.Machine.execR3qpiCHiAdCreditsEmptyCbo12 o s
  | .r3qpiCHiAdCreditsEmptyCbo13 o => Sys2Proof.Machine.execR3qpiCHiAdCreditsEmptyCbo13 o s
  | .r3qpiCHiAdCreditsEmptyCbo1416 o => Sys2Proof.Machine.execR3qpiCHiAdCreditsEmptyCbo1416 o s
  | .r3qpiCHiAdCreditsEmptyCbo1517 o => Sys2Proof.Machine.execR3qpiCHiAdCreditsEmptyCbo1517 o s
  | .r3qpiCLoAdCreditsEmptyCbo0 o => Sys2Proof.Machine.execR3qpiCLoAdCreditsEmptyCbo0 o s
  | .r3qpiCLoAdCreditsEmptyCbo1 o => Sys2Proof.Machine.execR3qpiCLoAdCreditsEmptyCbo1 o s
  | .r3qpiCLoAdCreditsEmptyCbo2 o => Sys2Proof.Machine.execR3qpiCLoAdCreditsEmptyCbo2 o s
  | .r3qpiCLoAdCreditsEmptyCbo3 o => Sys2Proof.Machine.execR3qpiCLoAdCreditsEmptyCbo3 o s
  | .r3qpiCLoAdCreditsEmptyCb04 o => Sys2Proof.Machine.execR3qpiCLoAdCreditsEmptyCb04 o s
  | .r3qpiCLoAdCreditsEmptyCb05 o => Sys2Proof.Machine.execR3qpiCLoAdCreditsEmptyCb05 o s
  | .r3qpiCLoAdCreditsEmptyCb06 o => Sys2Proof.Machine.execR3qpiCLoAdCreditsEmptyCb06 o s
  | .r3qpiCLoAdCreditsEmptyCb07 o => Sys2Proof.Machine.execR3qpiCLoAdCreditsEmptyCb07 o s
  | .r3qpiHaR2BlCreditsEmptyHa0 o => Sys2Proof.Machine.execR3qpiHaR2BlCreditsEmptyHa0 o s
  | .r3qpiHaR2BlCreditsEmptyHa1 o => Sys2Proof.Machine.execR3qpiHaR2BlCreditsEmptyHa1 o s
  | .r3qpiHaR2BlCreditsEmptyR2Ncb o => Sys2Proof.Machine.execR3qpiHaR2BlCreditsEmptyR2Ncb o s
  | .r3qpiHaR2BlCreditsEmptyR2Ncs o => Sys2Proof.Machine.execR3qpiHaR2BlCreditsEmptyR2Ncs o s
  | .r3qpiQpi0AdCreditsEmptyVna o => Sys2Proof.Machine.execR3qpiQpi0AdCreditsEmptyVna o s
  | .r3qpiQpi0AdCreditsEmptyVn0Hom o => Sys2Proof.Machine.execR3qpiQpi0AdCreditsEmptyVn0Hom o s
  | .r3qpiQpi0AdCreditsEmptyVn0Snp o => Sys2Proof.Machine.execR3qpiQpi0AdCreditsEmptyVn0Snp o s
  | .r3qpiQpi0AdCreditsEmptyVn0Ndr o => Sys2Proof.Machine.execR3qpiQpi0AdCreditsEmptyVn0Ndr o s
  | .r3qpiQpi0AdCreditsEmptyVn1Hom o => Sys2Proof.Machine.execR3qpiQpi0AdCreditsEmptyVn1Hom o s
  | .r3qpiQpi0AdCreditsEmptyVn1Snp o => Sys2Proof.Machine.execR3qpiQpi0AdCreditsEmptyVn1Snp o s
  | .r3qpiQpi0AdCreditsEmptyVn1Ndr o => Sys2Proof.Machine.execR3qpiQpi0AdCreditsEmptyVn1Ndr o s
  | .r3qpiQpi0BlCreditsEmptyVna o => Sys2Proof.Machine.execR3qpiQpi0BlCreditsEmptyVna o s
  | .r3qpiQpi0BlCreditsEmptyVn1Hom o => Sys2Proof.Machine.execR3qpiQpi0BlCreditsEmptyVn1Hom o s
  | .r3qpiQpi0BlCreditsEmptyVn1Snp o => Sys2Proof.Machine.execR3qpiQpi0BlCreditsEmptyVn1Snp o s
  | .r3qpiQpi0BlCreditsEmptyVn1Ndr o => Sys2Proof.Machine.execR3qpiQpi0BlCreditsEmptyVn1Ndr o s
  | .r3qpiQpi1AdCreditsEmptyVna o => Sys2Proof.Machine.execR3qpiQpi1AdCreditsEmptyVna o s
  | .r3qpiQpi1AdCreditsEmptyVn1Hom o => Sys2Proof.Machine.execR3qpiQpi1AdCreditsEmptyVn1Hom o s
  | .r3qpiQpi1AdCreditsEmptyVn1Snp o => Sys2Proof.Machine.execR3qpiQpi1AdCreditsEmptyVn1Snp o s
  | .r3qpiQpi1AdCreditsEmptyVn1Ndr o => Sys2Proof.Machine.execR3qpiQpi1AdCreditsEmptyVn1Ndr o s
  | .r3qpiQpi1BlCreditsEmptyVna o => Sys2Proof.Machine.execR3qpiQpi1BlCreditsEmptyVna o s
  | .r3qpiQpi1BlCreditsEmptyVn0Hom o => Sys2Proof.Machine.execR3qpiQpi1BlCreditsEmptyVn0Hom o s
  | .r3qpiQpi1BlCreditsEmptyVn0Snp o => Sys2Proof.Machine.execR3qpiQpi1BlCreditsEmptyVn0Snp o s
  | .r3qpiQpi1BlCreditsEmptyVn0Ndr o => Sys2Proof.Machine.execR3qpiQpi1BlCreditsEmptyVn0Ndr o s
  | .r3qpiQpi1BlCreditsEmptyVn1Hom o => Sys2Proof.Machine.execR3qpiQpi1BlCreditsEmptyVn1Hom o s
  | .r3qpiQpi1BlCreditsEmptyVn1Snp o => Sys2Proof.Machine.execR3qpiQpi1BlCreditsEmptyVn1Snp o s
  | .r3qpiQpi1BlCreditsEmptyVn1Ndr o => Sys2Proof.Machine.execR3qpiQpi1BlCreditsEmptyVn1Ndr o s
  | .r3qpiRingAdUsedCwEven o => Sys2Proof.Machine.execR3qpiRingAdUsedCwEven o s
  | .r3qpiRingAdUsedCwOdd o => Sys2Proof.Machine.execR3qpiRingAdUsedCwOdd o s
  | .r3qpiRingAdUsedCw o => Sys2Proof.Machine.execR3qpiRingAdUsedCw o s
  | .r3qpiRingAdUsedCcwEven o => Sys2Proof.Machine.execR3qpiRingAdUsedCcwEven o s
  | .r3qpiRingAdUsedCcwOdd o => Sys2Proof.Machine.execR3qpiRingAdUsedCcwOdd o s
  | .r3qpiRingAdUsedCcw o => Sys2Proof.Machine.execR3qpiRingAdUsedCcw o s
  | .r3qpiRingAkUsedCwEven o => Sys2Proof.Machine.execR3qpiRingAkUsedCwEven o s
  | .r3qpiRingAkUsedCwOdd o => Sys2Proof.Machine.execR3qpiRingAkUsedCwOdd o s
  | .r3qpiRingAkUsedCw o => Sys2Proof.Machine.execR3qpiRingAkUsedCw o s
  | .r3qpiRingAkUsedCcwEven o => Sys2Proof.Machine.execR3qpiRingAkUsedCcwEven o s
  | .r3qpiRingAkUsedCcwOdd o => Sys2Proof.Machine.execR3qpiRingAkUsedCcwOdd o s
  | .r3qpiRingAkUsedCcw o => Sys2Proof.Machine.execR3qpiRingAkUsedCcw o s
  | .r3qpiRingBlUsedCwEven o => Sys2Proof.Machine.execR3qpiRingBlUsedCwEven o s
  | .r3qpiRingBlUsedCwOdd o => Sys2Proof.Machine.execR3qpiRingBlUsedCwOdd o s
  | .r3qpiRingBlUsedCw o => Sys2Proof.Machine.execR3qpiRingBlUsedCw o s
  | .r3qpiRingBlUsedCcwEven o => Sys2Proof.Machine.execR3qpiRingBlUsedCcwEven o s
  | .r3qpiRingBlUsedCcwOdd o => Sys2Proof.Machine.execR3qpiRingBlUsedCcwOdd o s
  | .r3qpiRingBlUsedCcw o => Sys2Proof.Machine.execR3qpiRingBlUsedCcw o s
  | .r3qpiRingIvUsedCw o => Sys2Proof.Machine.execR3qpiRingIvUsedCw o s
  | .r3qpiRingIvUsedAny o => Sys2Proof.Machine.execR3qpiRingIvUsedAny o s
  | .r3qpiRingSinkStarvedAk o => Sys2Proof.Machine.execR3qpiRingSinkStarvedAk o s
  | .r3qpiRxRCyclesNeHom o => Sys2Proof.Machine.execR3qpiRxRCyclesNeHom o s
  | .r3qpiRxRCyclesNeSnp o => Sys2Proof.Machine.execR3qpiRxRCyclesNeSnp o s
  | .r3qpiRxRCyclesNeNdr o => Sys2Proof.Machine.execR3qpiRxRCyclesNeNdr o s
  | .r3qpiRxRCyclesNeVn1Hom o => Sys2Proof.Machine.execR3qpiRxRCyclesNeVn1Hom o s
  | .r3qpiRxRCyclesNeVn1Snp o => Sys2Proof.Machine.execR3qpiRxRCyclesNeVn1Snp o s
  | .r3qpiRxRCyclesNeVn1Ndr o => Sys2Proof.Machine.execR3qpiRxRCyclesNeVn1Ndr o s
  | .r3qpiRxRCyclesNeVn1Drs o => Sys2Proof.Machine.execR3qpiRxRCyclesNeVn1Drs o s
  | .r3qpiRxRCyclesNeVn1Ncb o => Sys2Proof.Machine.execR3qpiRxRCyclesNeVn1Ncb o s
  | .r3qpiRxRCyclesNeVn1Ncs o => Sys2Proof.Machine.execR3qpiRxRCyclesNeVn1Ncs o s
  | .r3qpiRxRInsertsHom o => Sys2Proof.Machine.execR3qpiRxRInsertsHom o s
  | .r3qpiRxRInsertsSnp o => Sys2Proof.Machine.execR3qpiRxRInsertsSnp o s
  | .r3qpiRxRInsertsNdr o => Sys2Proof.Machine.execR3qpiRxRInsertsNdr o s
  | .r3qpiRxRInsertsDrs o => Sys2Proof.Machine.execR3qpiRxRInsertsDrs o s
  | .r3qpiRxRInsertsNcb o => Sys2Proof.Machine.execR3qpiRxRInsertsNcb o s
  | .r3qpiRxRInsertsNcs o => Sys2Proof.Machine.execR3qpiRxRInsertsNcs o s
  | .r3qpiRxRInsertsVn1Hom o => Sys2Proof.Machine.execR3qpiRxRInsertsVn1Hom o s
  | .r3qpiRxRInsertsVn1Snp o => Sys2Proof.Machine.execR3qpiRxRInsertsVn1Snp o s
  | .r3qpiRxRInsertsVn1Ndr o => Sys2Proof.Machine.execR3qpiRxRInsertsVn1Ndr o s
  | .r3qpiRxRInsertsVn1Drs o => Sys2Proof.Machine.execR3qpiRxRInsertsVn1Drs o s
  | .r3qpiRxRInsertsVn1Ncb o => Sys2Proof.Machine.execR3qpiRxRInsertsVn1Ncb o s
  | .r3qpiRxRInsertsVn1Ncs o => Sys2Proof.Machine.execR3qpiRxRInsertsVn1Ncs o s
  | .r3qpiRxROccupancyVn1Hom o => Sys2Proof.Machine.execR3qpiRxROccupancyVn1Hom o s
  | .r3qpiRxROccupancyVn1Snp o => Sys2Proof.Machine.execR3qpiRxROccupancyVn1Snp o s
  | .r3qpiRxROccupancyVn1Ndr o => Sys2Proof.Machine.execR3qpiRxROccupancyVn1Ndr o s
  | .r3qpiRxROccupancyVn1Drs o => Sys2Proof.Machine.execR3qpiRxROccupancyVn1Drs o s
  | .r3qpiRxROccupancyVn1Ncb o => Sys2Proof.Machine.execR3qpiRxROccupancyVn1Ncb o s
  | .r3qpiRxROccupancyVn1Ncs o => Sys2Proof.Machine.execR3qpiRxROccupancyVn1Ncs o s
  | .r3qpiSbo0CreditsAcquiredAd o => Sys2Proof.Machine.execR3qpiSbo0CreditsAcquiredAd o s
  | .r3qpiSbo0CreditsAcquiredBl o => Sys2Proof.Machine.execR3qpiSbo0CreditsAcquiredBl o s
  | .r3qpiSbo1CreditsAcquiredAd o => Sys2Proof.Machine.execR3qpiSbo1CreditsAcquiredAd o s
  | .r3qpiSbo1CreditsAcquiredBl o => Sys2Proof.Machine.execR3qpiSbo1CreditsAcquiredBl o s
  | .r3qpiStallNoSboCreditSbo0Ad o => Sys2Proof.Machine.execR3qpiStallNoSboCreditSbo0Ad o s
  | .r3qpiStallNoSboCreditSbo1Ad o => Sys2Proof.Machine.execR3qpiStallNoSboCreditSbo1Ad o s
  | .r3qpiStallNoSboCreditSbo0Bl o => Sys2Proof.Machine.execR3qpiStallNoSboCreditSbo0Bl o s
  | .r3qpiStallNoSboCreditSbo1Bl o => Sys2Proof.Machine.execR3qpiStallNoSboCreditSbo1Bl o s
  | .r3qpiTxRNackDnAd o => Sys2Proof.Machine.execR3qpiTxRNackDnAd o s
  | .r3qpiTxRNackDnBl o => Sys2Proof.Machine.execR3qpiTxRNackDnBl o s
  | .r3qpiTxRNackDnAk o => Sys2Proof.Machine.execR3qpiTxRNackDnAk o s
  | .r3qpiTxRNackUpAd o => Sys2Proof.Machine.execR3qpiTxRNackUpAd o s
  | .r3qpiTxRNackUpBl o => Sys2Proof.Machine.execR3qpiTxRNackUpBl o s
  | .r3qpiTxRNackUpAk o => Sys2Proof.Machine.execR3qpiTxRNackUpAk o s
  | .r3qpiVn0CreditsRejectHom o => Sys2Proof.Machine.execR3qpiVn0CreditsRejectHom o s
  | .r3qpiVn0CreditsRejectSnp o => Sys2Proof.Machine.execR3qpiVn0CreditsRejectSnp o s
  | .r3qpiVn0CreditsRejectNdr o => Sys2Proof.Machine.execR3qpiVn0CreditsRejectNdr o s
  | .r3qpiVn0CreditsRejectDrs o => Sys2Proof.Machine.execR3qpiVn0CreditsRejectDrs o s
  | .r3qpiVn0CreditsRejectNcb o => Sys2Proof.Machine.execR3qpiVn0CreditsRejectNcb o s
  | .r3qpiVn0CreditsRejectNcs o => Sys2Proof.Machine.execR3qpiVn0CreditsRejectNcs o s
  | .r3qpiVn0CreditsUsedHom o => Sys2Proof.Machine.execR3qpiVn0CreditsUsedHom o s
  | .r3qpiVn0CreditsUsedSnp o => Sys2Proof.Machine.execR3qpiVn0CreditsUsedSnp o s
  | .r3qpiVn0CreditsUsedNdr o => Sys2Proof.Machine.execR3qpiVn0CreditsUsedNdr o s
  | .r3qpiVn0CreditsUsedDrs o => Sys2Proof.Machine.execR3qpiVn0CreditsUsedDrs o s
  | .r3qpiVn0CreditsUsedNcb o => Sys2Proof.Machine.execR3qpiVn0CreditsUsedNcb o s
  | .r3qpiVn0CreditsUsedNcs o => Sys2Proof.Machine.execR3qpiVn0CreditsUsedNcs o s
  | .r3qpiVn1CreditsRejectHom o => Sys2Proof.Machine.execR3qpiVn1CreditsRejectHom o s
  | .r3qpiVn1CreditsRejectSnp o => Sys2Proof.Machine.execR3qpiVn1CreditsRejectSnp o s
  | .r3qpiVn1CreditsRejectNdr o => Sys2Proof.Machine.execR3qpiVn1CreditsRejectNdr o s
  | .r3qpiVn1CreditsRejectDrs o => Sys2Proof.Machine.execR3qpiVn1CreditsRejectDrs o s
  | .r3qpiVn1CreditsRejectNcb o => Sys2Proof.Machine.execR3qpiVn1CreditsRejectNcb o s
  | .r3qpiVn1CreditsRejectNcs o => Sys2Proof.Machine.execR3qpiVn1CreditsRejectNcs o s
  | .r3qpiVn1CreditsUsedHom o => Sys2Proof.Machine.execR3qpiVn1CreditsUsedHom o s
  | .r3qpiVn1CreditsUsedSnp o => Sys2Proof.Machine.execR3qpiVn1CreditsUsedSnp o s
  | .r3qpiVn1CreditsUsedNdr o => Sys2Proof.Machine.execR3qpiVn1CreditsUsedNdr o s
  | .r3qpiVn1CreditsUsedDrs o => Sys2Proof.Machine.execR3qpiVn1CreditsUsedDrs o s
  | .r3qpiVn1CreditsUsedNcb o => Sys2Proof.Machine.execR3qpiVn1CreditsUsedNcb o s
  | .r3qpiVn1CreditsUsedNcs o => Sys2Proof.Machine.execR3qpiVn1CreditsUsedNcs o s
  | .r3qpiVnaCreditsAcquiredAd o => Sys2Proof.Machine.execR3qpiVnaCreditsAcquiredAd o s
  | .r3qpiVnaCreditsAcquiredBl o => Sys2Proof.Machine.execR3qpiVnaCreditsAcquiredBl o s
  | .r3qpiVnaCreditsRejectHom o => Sys2Proof.Machine.execR3qpiVnaCreditsRejectHom o s
  | .r3qpiVnaCreditsRejectSnp o => Sys2Proof.Machine.execR3qpiVnaCreditsRejectSnp o s
  | .r3qpiVnaCreditsRejectNdr o => Sys2Proof.Machine.execR3qpiVnaCreditsRejectNdr o s
  | .r3qpiVnaCreditsRejectDrs o => Sys2Proof.Machine.execR3qpiVnaCreditsRejectDrs o s
  | .r3qpiVnaCreditsRejectNcb o => Sys2Proof.Machine.execR3qpiVnaCreditsRejectNcb o s
  | .r3qpiVnaCreditsRejectNcs o => Sys2Proof.Machine.execR3qpiVnaCreditsRejectNcs o s
  | .uMsrPmonGlobalCtl a => Sys2Proof.Machine.execUMsrPmonGlobalCtl a s
  | .uMsrPmonGlobalStatus a => Sys2Proof.Machine.execUMsrPmonGlobalStatus a s
  | .uMsrPmonGlobalConfig a => Sys2Proof.Machine.execUMsrPmonGlobalConfig a s
  | .uMsrPmonUclkFixedCtl a => Sys2Proof.Machine.execUMsrPmonUclkFixedCtl a s
  | .uMsrPmonUclkFixedCtr a => Sys2Proof.Machine.execUMsrPmonUclkFixedCtr a s
  | .uMsrPmonCtl0 a => Sys2Proof.Machine.execUMsrPmonCtl0 a s
  | .uMsrPmonCtl1 a => Sys2Proof.Machine.execUMsrPmonCtl1 a s
  | .uMsrPmonBoxStatus a => Sys2Proof.Machine.execUMsrPmonBoxStatus a s
  | .uMsrPmonCtr0 a => Sys2Proof.Machine.execUMsrPmonCtr0 a s
  | .uMsrPmonCtr1 a => Sys2Proof.Machine.execUMsrPmonCtr1 a s
  | .c0MsrPmonBoxCtl a => Sys2Proof.Machine.execC0MsrPmonBoxCtl a s
  | .c0MsrPmonCtl0 a => Sys2Proof.Machine.execC0MsrPmonCtl0 a s
  | .c0MsrPmonCtl1 a => Sys2Proof.Machine.execC0MsrPmonCtl1 a s
  | .c0MsrPmonCtl2 a => Sys2Proof.Machine.execC0MsrPmonCtl2 a s
  | .c0MsrPmonCtl3 a => Sys2Proof.Machine.execC0MsrPmonCtl3 a s
  | .c0MsrPmonBoxFilter0 a => Sys2Proof.Machine.execC0MsrPmonBoxFilter0 a s
  | .c0MsrPmonBoxFilter1 a => Sys2Proof.Machine.execC0MsrPmonBoxFilter1 a s
  | .c0MsrPmonBoxStatus a => Sys2Proof.Machine.execC0MsrPmonBoxStatus a s
  | .c0MsrPmonCtr0 a => Sys2Proof.Machine.execC0MsrPmonCtr0 a s
  | .c0MsrPmonCtr1 a => Sys2Proof.Machine.execC0MsrPmonCtr1 a s
  | .c0MsrPmonCtr2 a => Sys2Proof.Machine.execC0MsrPmonCtr2 a s
  | .c0MsrPmonCtr3 a => Sys2Proof.Machine.execC0MsrPmonCtr3 a s
  | .c1MsrPmonBoxCtl a => Sys2Proof.Machine.execC1MsrPmonBoxCtl a s
  | .c1MsrPmonCtl0 a => Sys2Proof.Machine.execC1MsrPmonCtl0 a s
  | .c1MsrPmonCtl1 a => Sys2Proof.Machine.execC1MsrPmonCtl1 a s
  | .c1MsrPmonCtl2 a => Sys2Proof.Machine.execC1MsrPmonCtl2 a s
  | .c1MsrPmonCtl3 a => Sys2Proof.Machine.execC1MsrPmonCtl3 a s
  | .c1MsrPmonBoxFilter0 a => Sys2Proof.Machine.execC1MsrPmonBoxFilter0 a s
  | .c1MsrPmonBoxFilter1 a => Sys2Proof.Machine.execC1MsrPmonBoxFilter1 a s
  | .c1MsrPmonBoxStatus a => Sys2Proof.Machine.execC1MsrPmonBoxStatus a s
  | .c1MsrPmonCtr0 a => Sys2Proof.Machine.execC1MsrPmonCtr0 a s
  | .c1MsrPmonCtr1 a => Sys2Proof.Machine.execC1MsrPmonCtr1 a s
  | .c1MsrPmonCtr2 a => Sys2Proof.Machine.execC1MsrPmonCtr2 a s
  | .c1MsrPmonCtr3 a => Sys2Proof.Machine.execC1MsrPmonCtr3 a s
  | .c2MsrPmonBoxCtl a => Sys2Proof.Machine.execC2MsrPmonBoxCtl a s
  | .c2MsrPmonCtl0 a => Sys2Proof.Machine.execC2MsrPmonCtl0 a s
  | .c2MsrPmonCtl1 a => Sys2Proof.Machine.execC2MsrPmonCtl1 a s
  | .c2MsrPmonCtl2 a => Sys2Proof.Machine.execC2MsrPmonCtl2 a s
  | .c2MsrPmonCtl3 a => Sys2Proof.Machine.execC2MsrPmonCtl3 a s
  | .c2MsrPmonBoxFilter0 a => Sys2Proof.Machine.execC2MsrPmonBoxFilter0 a s
  | .c2MsrPmonBoxFilter1 a => Sys2Proof.Machine.execC2MsrPmonBoxFilter1 a s
  | .c2MsrPmonBoxStatus a => Sys2Proof.Machine.execC2MsrPmonBoxStatus a s
  | .c2MsrPmonCtr0 a => Sys2Proof.Machine.execC2MsrPmonCtr0 a s
  | .c2MsrPmonCtr1 a => Sys2Proof.Machine.execC2MsrPmonCtr1 a s
  | .c2MsrPmonCtr2 a => Sys2Proof.Machine.execC2MsrPmonCtr2 a s
  | .c2MsrPmonCtr3 a => Sys2Proof.Machine.execC2MsrPmonCtr3 a s
  | .c3MsrPmonBoxCtl a => Sys2Proof.Machine.execC3MsrPmonBoxCtl a s
  | .c3MsrPmonCtl0 a => Sys2Proof.Machine.execC3MsrPmonCtl0 a s
  | .c3MsrPmonCtl1 a => Sys2Proof.Machine.execC3MsrPmonCtl1 a s
  | .c3MsrPmonCtl2 a => Sys2Proof.Machine.execC3MsrPmonCtl2 a s
  | .c3MsrPmonCtl3 a => Sys2Proof.Machine.execC3MsrPmonCtl3 a s
  | .c3MsrPmonBoxFilter0 a => Sys2Proof.Machine.execC3MsrPmonBoxFilter0 a s
  | .c3MsrPmonBoxFilter1 a => Sys2Proof.Machine.execC3MsrPmonBoxFilter1 a s
  | .c3MsrPmonBoxStatus a => Sys2Proof.Machine.execC3MsrPmonBoxStatus a s
  | .c3MsrPmonCtr0 a => Sys2Proof.Machine.execC3MsrPmonCtr0 a s
  | .c3MsrPmonCtr1 a => Sys2Proof.Machine.execC3MsrPmonCtr1 a s
  | .c3MsrPmonCtr2 a => Sys2Proof.Machine.execC3MsrPmonCtr2 a s
  | .c3MsrPmonCtr3 a => Sys2Proof.Machine.execC3MsrPmonCtr3 a s
  | .c4MsrPmonBoxCtl a => Sys2Proof.Machine.execC4MsrPmonBoxCtl a s
  | .c4MsrPmonCtl0 a => Sys2Proof.Machine.execC4MsrPmonCtl0 a s
  | .c4MsrPmonCtl1 a => Sys2Proof.Machine.execC4MsrPmonCtl1 a s
  | .c4MsrPmonCtl2 a => Sys2Proof.Machine.execC4MsrPmonCtl2 a s
  | .c4MsrPmonCtl3 a => Sys2Proof.Machine.execC4MsrPmonCtl3 a s
  | .c4MsrPmonBoxFilter0 a => Sys2Proof.Machine.execC4MsrPmonBoxFilter0 a s
  | .c4MsrPmonBoxFilter1 a => Sys2Proof.Machine.execC4MsrPmonBoxFilter1 a s
  | .c4MsrPmonBoxStatus a => Sys2Proof.Machine.execC4MsrPmonBoxStatus a s
  | .c4MsrPmonCtr0 a => Sys2Proof.Machine.execC4MsrPmonCtr0 a s
  | .c4MsrPmonCtr1 a => Sys2Proof.Machine.execC4MsrPmonCtr1 a s
  | .c4MsrPmonCtr2 a => Sys2Proof.Machine.execC4MsrPmonCtr2 a s
  | .c4MsrPmonCtr3 a => Sys2Proof.Machine.execC4MsrPmonCtr3 a s
  | .c5MsrPmonBoxCtl a => Sys2Proof.Machine.execC5MsrPmonBoxCtl a s
  | .c5MsrPmonCtl0 a => Sys2Proof.Machine.execC5MsrPmonCtl0 a s
  | .c5MsrPmonCtl1 a => Sys2Proof.Machine.execC5MsrPmonCtl1 a s
  | .c5MsrPmonCtl2 a => Sys2Proof.Machine.execC5MsrPmonCtl2 a s
  | .c5MsrPmonCtl3 a => Sys2Proof.Machine.execC5MsrPmonCtl3 a s
  | .c5MsrPmonBoxFilter0 a => Sys2Proof.Machine.execC5MsrPmonBoxFilter0 a s
  | .c5MsrPmonBoxFilter1 a => Sys2Proof.Machine.execC5MsrPmonBoxFilter1 a s
  | .c5MsrPmonBoxStatus a => Sys2Proof.Machine.execC5MsrPmonBoxStatus a s
  | .c5MsrPmonCtr0 a => Sys2Proof.Machine.execC5MsrPmonCtr0 a s
  | .c5MsrPmonCtr1 a => Sys2Proof.Machine.execC5MsrPmonCtr1 a s
  | .c5MsrPmonCtr2 a => Sys2Proof.Machine.execC5MsrPmonCtr2 a s
  | .c5MsrPmonCtr3 a => Sys2Proof.Machine.execC5MsrPmonCtr3 a s
  | .c6MsrPmonBoxCtl a => Sys2Proof.Machine.execC6MsrPmonBoxCtl a s
  | .c6MsrPmonCtl0 a => Sys2Proof.Machine.execC6MsrPmonCtl0 a s
  | .c6MsrPmonCtl1 a => Sys2Proof.Machine.execC6MsrPmonCtl1 a s
  | .c6MsrPmonCtl2 a => Sys2Proof.Machine.execC6MsrPmonCtl2 a s
  | .c6MsrPmonCtl3 a => Sys2Proof.Machine.execC6MsrPmonCtl3 a s
  | .c6MsrPmonBoxFilter0 a => Sys2Proof.Machine.execC6MsrPmonBoxFilter0 a s
  | .c6MsrPmonBoxFilter1 a => Sys2Proof.Machine.execC6MsrPmonBoxFilter1 a s
  | .c6MsrPmonBoxStatus a => Sys2Proof.Machine.execC6MsrPmonBoxStatus a s
  | .c6MsrPmonCtr0 a => Sys2Proof.Machine.execC6MsrPmonCtr0 a s
  | .c6MsrPmonCtr1 a => Sys2Proof.Machine.execC6MsrPmonCtr1 a s
  | .c6MsrPmonCtr2 a => Sys2Proof.Machine.execC6MsrPmonCtr2 a s
  | .c6MsrPmonCtr3 a => Sys2Proof.Machine.execC6MsrPmonCtr3 a s
  | .c7MsrPmonBoxCtl a => Sys2Proof.Machine.execC7MsrPmonBoxCtl a s
  | .c7MsrPmonCtl0 a => Sys2Proof.Machine.execC7MsrPmonCtl0 a s
  | .c7MsrPmonCtl1 a => Sys2Proof.Machine.execC7MsrPmonCtl1 a s
  | .c7MsrPmonCtl2 a => Sys2Proof.Machine.execC7MsrPmonCtl2 a s
  | .c7MsrPmonCtl3 a => Sys2Proof.Machine.execC7MsrPmonCtl3 a s
  | .c7MsrPmonBoxFilter0 a => Sys2Proof.Machine.execC7MsrPmonBoxFilter0 a s
  | .c7MsrPmonBoxFilter1 a => Sys2Proof.Machine.execC7MsrPmonBoxFilter1 a s
  | .c7MsrPmonBoxStatus a => Sys2Proof.Machine.execC7MsrPmonBoxStatus a s
  | .c7MsrPmonCtr0 a => Sys2Proof.Machine.execC7MsrPmonCtr0 a s
  | .c7MsrPmonCtr1 a => Sys2Proof.Machine.execC7MsrPmonCtr1 a s
  | .c7MsrPmonCtr2 a => Sys2Proof.Machine.execC7MsrPmonCtr2 a s
  | .c7MsrPmonCtr3 a => Sys2Proof.Machine.execC7MsrPmonCtr3 a s
  | .c8MsrPmonBoxCtl a => Sys2Proof.Machine.execC8MsrPmonBoxCtl a s
  | .c8MsrPmonCtl0 a => Sys2Proof.Machine.execC8MsrPmonCtl0 a s
  | .c8MsrPmonCtl1 a => Sys2Proof.Machine.execC8MsrPmonCtl1 a s
  | .c8MsrPmonCtl2 a => Sys2Proof.Machine.execC8MsrPmonCtl2 a s
  | .c8MsrPmonCtl3 a => Sys2Proof.Machine.execC8MsrPmonCtl3 a s
  | .c8MsrPmonBoxFilter0 a => Sys2Proof.Machine.execC8MsrPmonBoxFilter0 a s
  | .c8MsrPmonBoxFilter1 a => Sys2Proof.Machine.execC8MsrPmonBoxFilter1 a s
  | .c8MsrPmonBoxStatus a => Sys2Proof.Machine.execC8MsrPmonBoxStatus a s
  | .c8MsrPmonCtr0 a => Sys2Proof.Machine.execC8MsrPmonCtr0 a s
  | .c8MsrPmonCtr1 a => Sys2Proof.Machine.execC8MsrPmonCtr1 a s
  | .c8MsrPmonCtr2 a => Sys2Proof.Machine.execC8MsrPmonCtr2 a s
  | .c8MsrPmonCtr3 a => Sys2Proof.Machine.execC8MsrPmonCtr3 a s
  | .c9MsrPmonBoxCtl a => Sys2Proof.Machine.execC9MsrPmonBoxCtl a s
  | .c9MsrPmonCtl0 a => Sys2Proof.Machine.execC9MsrPmonCtl0 a s
  | .c9MsrPmonCtl1 a => Sys2Proof.Machine.execC9MsrPmonCtl1 a s
  | .c9MsrPmonCtl2 a => Sys2Proof.Machine.execC9MsrPmonCtl2 a s
  | .c9MsrPmonCtl3 a => Sys2Proof.Machine.execC9MsrPmonCtl3 a s
  | .c9MsrPmonBoxFilter0 a => Sys2Proof.Machine.execC9MsrPmonBoxFilter0 a s
  | .c9MsrPmonBoxFilter1 a => Sys2Proof.Machine.execC9MsrPmonBoxFilter1 a s
  | .c9MsrPmonBoxStatus a => Sys2Proof.Machine.execC9MsrPmonBoxStatus a s
  | .c9MsrPmonCtr0 a => Sys2Proof.Machine.execC9MsrPmonCtr0 a s
  | .c9MsrPmonCtr1 a => Sys2Proof.Machine.execC9MsrPmonCtr1 a s
  | .c9MsrPmonCtr2 a => Sys2Proof.Machine.execC9MsrPmonCtr2 a s
  | .c9MsrPmonCtr3 a => Sys2Proof.Machine.execC9MsrPmonCtr3 a s
  | .c10MsrPmonBoxCtl a => Sys2Proof.Machine.execC10MsrPmonBoxCtl a s
  | .c10MsrPmonCtl0 a => Sys2Proof.Machine.execC10MsrPmonCtl0 a s
  | .c10MsrPmonCtl1 a => Sys2Proof.Machine.execC10MsrPmonCtl1 a s
  | .c10MsrPmonCtl2 a => Sys2Proof.Machine.execC10MsrPmonCtl2 a s
  | .c10MsrPmonCtl3 a => Sys2Proof.Machine.execC10MsrPmonCtl3 a s
  | .c10MsrPmonBoxFilter0 a => Sys2Proof.Machine.execC10MsrPmonBoxFilter0 a s
  | .c10MsrPmonBoxFilter1 a => Sys2Proof.Machine.execC10MsrPmonBoxFilter1 a s
  | .c10MsrPmonBoxStatus a => Sys2Proof.Machine.execC10MsrPmonBoxStatus a s
  | .c10MsrPmonCtr0 a => Sys2Proof.Machine.execC10MsrPmonCtr0 a s
  | .c10MsrPmonCtr1 a => Sys2Proof.Machine.execC10MsrPmonCtr1 a s
  | .c10MsrPmonCtr2 a => Sys2Proof.Machine.execC10MsrPmonCtr2 a s
  | .c10MsrPmonCtr3 a => Sys2Proof.Machine.execC10MsrPmonCtr3 a s
  | .c11MsrPmonBoxCtl a => Sys2Proof.Machine.execC11MsrPmonBoxCtl a s
  | .c11MsrPmonCtl0 a => Sys2Proof.Machine.execC11MsrPmonCtl0 a s
  | .c11MsrPmonCtl1 a => Sys2Proof.Machine.execC11MsrPmonCtl1 a s
  | .c11MsrPmonCtl2 a => Sys2Proof.Machine.execC11MsrPmonCtl2 a s
  | .c11MsrPmonCtl3 a => Sys2Proof.Machine.execC11MsrPmonCtl3 a s
  | .c11MsrPmonBoxFilter0 a => Sys2Proof.Machine.execC11MsrPmonBoxFilter0 a s
  | .c11MsrPmonBoxFilter1 a => Sys2Proof.Machine.execC11MsrPmonBoxFilter1 a s
  | .c11MsrPmonBoxStatus a => Sys2Proof.Machine.execC11MsrPmonBoxStatus a s
  | .c11MsrPmonCtr0 a => Sys2Proof.Machine.execC11MsrPmonCtr0 a s
  | .c11MsrPmonCtr1 a => Sys2Proof.Machine.execC11MsrPmonCtr1 a s
  | .c11MsrPmonCtr2 a => Sys2Proof.Machine.execC11MsrPmonCtr2 a s
  | .c11MsrPmonCtr3 a => Sys2Proof.Machine.execC11MsrPmonCtr3 a s
  | .c12MsrPmonBoxCtl a => Sys2Proof.Machine.execC12MsrPmonBoxCtl a s
  | .c12MsrPmonCtl0 a => Sys2Proof.Machine.execC12MsrPmonCtl0 a s
  | .c12MsrPmonCtl1 a => Sys2Proof.Machine.execC12MsrPmonCtl1 a s
  | .c12MsrPmonCtl2 a => Sys2Proof.Machine.execC12MsrPmonCtl2 a s
  | .c12MsrPmonCtl3 a => Sys2Proof.Machine.execC12MsrPmonCtl3 a s
  | .c12MsrPmonBoxFilter0 a => Sys2Proof.Machine.execC12MsrPmonBoxFilter0 a s
  | .c12MsrPmonBoxFilter1 a => Sys2Proof.Machine.execC12MsrPmonBoxFilter1 a s
  | .c12MsrPmonBoxStatus a => Sys2Proof.Machine.execC12MsrPmonBoxStatus a s
  | .c12MsrPmonCtr0 a => Sys2Proof.Machine.execC12MsrPmonCtr0 a s
  | .c12MsrPmonCtr1 a => Sys2Proof.Machine.execC12MsrPmonCtr1 a s
  | .c12MsrPmonCtr2 a => Sys2Proof.Machine.execC12MsrPmonCtr2 a s
  | .c12MsrPmonCtr3 a => Sys2Proof.Machine.execC12MsrPmonCtr3 a s
  | .c13MsrPmonBoxCtl a => Sys2Proof.Machine.execC13MsrPmonBoxCtl a s
  | .c13MsrPmonCtl0 a => Sys2Proof.Machine.execC13MsrPmonCtl0 a s
  | .c13MsrPmonCtl1 a => Sys2Proof.Machine.execC13MsrPmonCtl1 a s
  | .c13MsrPmonCtl2 a => Sys2Proof.Machine.execC13MsrPmonCtl2 a s
  | .c13MsrPmonCtl3 a => Sys2Proof.Machine.execC13MsrPmonCtl3 a s
  | .c13MsrPmonBoxFilter0 a => Sys2Proof.Machine.execC13MsrPmonBoxFilter0 a s
  | .c13MsrPmonBoxFilter1 a => Sys2Proof.Machine.execC13MsrPmonBoxFilter1 a s
  | .c13MsrPmonBoxStatus a => Sys2Proof.Machine.execC13MsrPmonBoxStatus a s
  | .c13MsrPmonCtr0 a => Sys2Proof.Machine.execC13MsrPmonCtr0 a s
  | .c13MsrPmonCtr1 a => Sys2Proof.Machine.execC13MsrPmonCtr1 a s
  | .c13MsrPmonCtr2 a => Sys2Proof.Machine.execC13MsrPmonCtr2 a s
  | .c13MsrPmonCtr3 a => Sys2Proof.Machine.execC13MsrPmonCtr3 a s
  | .c14MsrPmonBoxCtl a => Sys2Proof.Machine.execC14MsrPmonBoxCtl a s
  | .c14MsrPmonCtl0 a => Sys2Proof.Machine.execC14MsrPmonCtl0 a s
  | .c14MsrPmonCtl1 a => Sys2Proof.Machine.execC14MsrPmonCtl1 a s
  | .c14MsrPmonCtl2 a => Sys2Proof.Machine.execC14MsrPmonCtl2 a s
  | .c14MsrPmonCtl3 a => Sys2Proof.Machine.execC14MsrPmonCtl3 a s
  | .c14MsrPmonBoxFilter0 a => Sys2Proof.Machine.execC14MsrPmonBoxFilter0 a s
  | .c14MsrPmonBoxFilter1 a => Sys2Proof.Machine.execC14MsrPmonBoxFilter1 a s
  | .c14MsrPmonBoxStatus a => Sys2Proof.Machine.execC14MsrPmonBoxStatus a s
  | .c14MsrPmonCtr0 a => Sys2Proof.Machine.execC14MsrPmonCtr0 a s
  | .c14MsrPmonCtr1 a => Sys2Proof.Machine.execC14MsrPmonCtr1 a s
  | .c14MsrPmonCtr2 a => Sys2Proof.Machine.execC14MsrPmonCtr2 a s
  | .c14MsrPmonCtr3 a => Sys2Proof.Machine.execC14MsrPmonCtr3 a s
  | .c15MsrPmonBoxCtl a => Sys2Proof.Machine.execC15MsrPmonBoxCtl a s
  | .c15MsrPmonCtl0 a => Sys2Proof.Machine.execC15MsrPmonCtl0 a s
  | .c15MsrPmonCtl1 a => Sys2Proof.Machine.execC15MsrPmonCtl1 a s
  | .c15MsrPmonCtl2 a => Sys2Proof.Machine.execC15MsrPmonCtl2 a s
  | .c15MsrPmonCtl3 a => Sys2Proof.Machine.execC15MsrPmonCtl3 a s
  | .c15MsrPmonBoxFilter0 a => Sys2Proof.Machine.execC15MsrPmonBoxFilter0 a s
  | .c15MsrPmonBoxFilter1 a => Sys2Proof.Machine.execC15MsrPmonBoxFilter1 a s
  | .c15MsrPmonBoxStatus a => Sys2Proof.Machine.execC15MsrPmonBoxStatus a s
  | .c15MsrPmonCtr0 a => Sys2Proof.Machine.execC15MsrPmonCtr0 a s
  | .c15MsrPmonCtr1 a => Sys2Proof.Machine.execC15MsrPmonCtr1 a s
  | .c15MsrPmonCtr2 a => Sys2Proof.Machine.execC15MsrPmonCtr2 a s
  | .c15MsrPmonCtr3 a => Sys2Proof.Machine.execC15MsrPmonCtr3 a s
  | .c16MsrPmonBoxCtl a => Sys2Proof.Machine.execC16MsrPmonBoxCtl a s
  | .c16MsrPmonCtl0 a => Sys2Proof.Machine.execC16MsrPmonCtl0 a s
  | .c16MsrPmonCtl1 a => Sys2Proof.Machine.execC16MsrPmonCtl1 a s
  | .c16MsrPmonCtl2 a => Sys2Proof.Machine.execC16MsrPmonCtl2 a s
  | .c16MsrPmonCtl3 a => Sys2Proof.Machine.execC16MsrPmonCtl3 a s
  | .c16MsrPmonBoxFilter0 a => Sys2Proof.Machine.execC16MsrPmonBoxFilter0 a s
  | .c16MsrPmonBoxFilter1 a => Sys2Proof.Machine.execC16MsrPmonBoxFilter1 a s
  | .c16MsrPmonBoxStatus a => Sys2Proof.Machine.execC16MsrPmonBoxStatus a s
  | .c16MsrPmonCtr0 a => Sys2Proof.Machine.execC16MsrPmonCtr0 a s
  | .c16MsrPmonCtr1 a => Sys2Proof.Machine.execC16MsrPmonCtr1 a s
  | .c16MsrPmonCtr2 a => Sys2Proof.Machine.execC16MsrPmonCtr2 a s
  | .c16MsrPmonCtr3 a => Sys2Proof.Machine.execC16MsrPmonCtr3 a s
  | .c17MsrPmonBoxCtl a => Sys2Proof.Machine.execC17MsrPmonBoxCtl a s
  | .c17MsrPmonCtl0 a => Sys2Proof.Machine.execC17MsrPmonCtl0 a s
  | .c17MsrPmonCtl1 a => Sys2Proof.Machine.execC17MsrPmonCtl1 a s
  | .c17MsrPmonCtl2 a => Sys2Proof.Machine.execC17MsrPmonCtl2 a s
  | .c17MsrPmonCtl3 a => Sys2Proof.Machine.execC17MsrPmonCtl3 a s
  | .c17MsrPmonBoxFilter0 a => Sys2Proof.Machine.execC17MsrPmonBoxFilter0 a s
  | .c17MsrPmonBoxFilter1 a => Sys2Proof.Machine.execC17MsrPmonBoxFilter1 a s
  | .c17MsrPmonBoxStatus a => Sys2Proof.Machine.execC17MsrPmonBoxStatus a s
  | .c17MsrPmonCtr0 a => Sys2Proof.Machine.execC17MsrPmonCtr0 a s
  | .c17MsrPmonCtr1 a => Sys2Proof.Machine.execC17MsrPmonCtr1 a s
  | .c17MsrPmonCtr2 a => Sys2Proof.Machine.execC17MsrPmonCtr2 a s
  | .c17MsrPmonCtr3 a => Sys2Proof.Machine.execC17MsrPmonCtr3 a s
  | .s0MsrPmonBoxCtl a => Sys2Proof.Machine.execS0MsrPmonBoxCtl a s
  | .s0MsrPmonCtl0 a => Sys2Proof.Machine.execS0MsrPmonCtl0 a s
  | .s0MsrPmonCtl1 a => Sys2Proof.Machine.execS0MsrPmonCtl1 a s
  | .s0MsrPmonCtl2 a => Sys2Proof.Machine.execS0MsrPmonCtl2 a s
  | .s0MsrPmonCtl3 a => Sys2Proof.Machine.execS0MsrPmonCtl3 a s
  | .s0MsrPmonBoxStatus a => Sys2Proof.Machine.execS0MsrPmonBoxStatus a s
  | .s0MsrPmonCtr0 a => Sys2Proof.Machine.execS0MsrPmonCtr0 a s
  | .s0MsrPmonCtr1 a => Sys2Proof.Machine.execS0MsrPmonCtr1 a s
  | .s0MsrPmonCtr2 a => Sys2Proof.Machine.execS0MsrPmonCtr2 a s
  | .s0MsrPmonCtr3 a => Sys2Proof.Machine.execS0MsrPmonCtr3 a s
  | .s1MsrPmonBoxCtl a => Sys2Proof.Machine.execS1MsrPmonBoxCtl a s
  | .s1MsrPmonCtl0 a => Sys2Proof.Machine.execS1MsrPmonCtl0 a s
  | .s1MsrPmonCtl1 a => Sys2Proof.Machine.execS1MsrPmonCtl1 a s
  | .s1MsrPmonCtl2 a => Sys2Proof.Machine.execS1MsrPmonCtl2 a s
  | .s1MsrPmonCtl3 a => Sys2Proof.Machine.execS1MsrPmonCtl3 a s
  | .s1MsrPmonBoxStatus a => Sys2Proof.Machine.execS1MsrPmonBoxStatus a s
  | .s1MsrPmonCtr0 a => Sys2Proof.Machine.execS1MsrPmonCtr0 a s
  | .s1MsrPmonCtr1 a => Sys2Proof.Machine.execS1MsrPmonCtr1 a s
  | .s1MsrPmonCtr2 a => Sys2Proof.Machine.execS1MsrPmonCtr2 a s
  | .s1MsrPmonCtr3 a => Sys2Proof.Machine.execS1MsrPmonCtr3 a s
  | .s2MsrPmonBoxCtl a => Sys2Proof.Machine.execS2MsrPmonBoxCtl a s
  | .s2MsrPmonCtl0 a => Sys2Proof.Machine.execS2MsrPmonCtl0 a s
  | .s2MsrPmonCtl1 a => Sys2Proof.Machine.execS2MsrPmonCtl1 a s
  | .s2MsrPmonCtl2 a => Sys2Proof.Machine.execS2MsrPmonCtl2 a s
  | .s2MsrPmonCtl3 a => Sys2Proof.Machine.execS2MsrPmonCtl3 a s
  | .s2MsrPmonBoxStatus a => Sys2Proof.Machine.execS2MsrPmonBoxStatus a s
  | .s2MsrPmonCtr0 a => Sys2Proof.Machine.execS2MsrPmonCtr0 a s
  | .s2MsrPmonCtr1 a => Sys2Proof.Machine.execS2MsrPmonCtr1 a s
  | .s2MsrPmonCtr2 a => Sys2Proof.Machine.execS2MsrPmonCtr2 a s
  | .s2MsrPmonCtr3 a => Sys2Proof.Machine.execS2MsrPmonCtr3 a s
  | .s3MsrPmonBoxCtl a => Sys2Proof.Machine.execS3MsrPmonBoxCtl a s
  | .s3MsrPmonCtl0 a => Sys2Proof.Machine.execS3MsrPmonCtl0 a s
  | .s3MsrPmonCtl1 a => Sys2Proof.Machine.execS3MsrPmonCtl1 a s
  | .s3MsrPmonCtl2 a => Sys2Proof.Machine.execS3MsrPmonCtl2 a s
  | .s3MsrPmonCtl3 a => Sys2Proof.Machine.execS3MsrPmonCtl3 a s
  | .s3MsrPmonBoxStatus a => Sys2Proof.Machine.execS3MsrPmonBoxStatus a s
  | .s3MsrPmonCtr0 a => Sys2Proof.Machine.execS3MsrPmonCtr0 a s
  | .s3MsrPmonCtr1 a => Sys2Proof.Machine.execS3MsrPmonCtr1 a s
  | .s3MsrPmonCtr2 a => Sys2Proof.Machine.execS3MsrPmonCtr2 a s
  | .s3MsrPmonCtr3 a => Sys2Proof.Machine.execS3MsrPmonCtr3 a s
  | .pcuMsrPmonBoxCtl a => Sys2Proof.Machine.execPcuMsrPmonBoxCtl a s
  | .pcuMsrPmonCtl0 a => Sys2Proof.Machine.execPcuMsrPmonCtl0 a s
  | .pcuMsrPmonCtl1 a => Sys2Proof.Machine.execPcuMsrPmonCtl1 a s
  | .pcuMsrPmonCtl2 a => Sys2Proof.Machine.execPcuMsrPmonCtl2 a s
  | .pcuMsrPmonCtl3 a => Sys2Proof.Machine.execPcuMsrPmonCtl3 a s
  | .pcuMsrPmonBoxFilter a => Sys2Proof.Machine.execPcuMsrPmonBoxFilter a s
  | .pcuMsrPmonBoxStatus a => Sys2Proof.Machine.execPcuMsrPmonBoxStatus a s
  | .pcuMsrPmonCtr0 a => Sys2Proof.Machine.execPcuMsrPmonCtr0 a s
  | .pcuMsrPmonCtr1 a => Sys2Proof.Machine.execPcuMsrPmonCtr1 a s
  | .pcuMsrPmonCtr2 a => Sys2Proof.Machine.execPcuMsrPmonCtr2 a s
  | .pcuMsrPmonCtr3 a => Sys2Proof.Machine.execPcuMsrPmonCtr3 a s
  | .pcuMsrCoreCc6Ctr a => Sys2Proof.Machine.execPcuMsrCoreCc6Ctr a s
  | .pcuMsrCoreCc3Ctr a => Sys2Proof.Machine.execPcuMsrCoreCc3Ctr a s
  | .pcuMsrCorePc2Ctr a => Sys2Proof.Machine.execPcuMsrCorePc2Ctr a s
  | .pcuMsrCorePc3Ctr a => Sys2Proof.Machine.execPcuMsrCorePc3Ctr a s
  | .ha0PciPmonBoxStatus a => Sys2Proof.Machine.execHa0PciPmonBoxStatus a s
  | .ha0PciPmonBoxCtl a => Sys2Proof.Machine.execHa0PciPmonBoxCtl a s
  | .ha0PciPmonCtl0 a => Sys2Proof.Machine.execHa0PciPmonCtl0 a s
  | .ha0PciPmonCtl1 a => Sys2Proof.Machine.execHa0PciPmonCtl1 a s
  | .ha0PciPmonCtl2 a => Sys2Proof.Machine.execHa0PciPmonCtl2 a s
  | .ha0PciPmonCtl3 a => Sys2Proof.Machine.execHa0PciPmonCtl3 a s
  | .ha0PciPmonCtr0 a => Sys2Proof.Machine.execHa0PciPmonCtr0 a s
  | .ha0PciPmonCtr1 a => Sys2Proof.Machine.execHa0PciPmonCtr1 a s
  | .ha0PciPmonCtr2 a => Sys2Proof.Machine.execHa0PciPmonCtr2 a s
  | .ha0PciPmonCtr3 a => Sys2Proof.Machine.execHa0PciPmonCtr3 a s
  | .ha0PciPmonBoxOpcodematch a => Sys2Proof.Machine.execHa0PciPmonBoxOpcodematch a s
  | .ha0PciPmonBoxAddrmatch1 a => Sys2Proof.Machine.execHa0PciPmonBoxAddrmatch1 a s
  | .ha0PciPmonBoxAddrmatch0 a => Sys2Proof.Machine.execHa0PciPmonBoxAddrmatch0 a s
  | .ha1PciPmonBoxStatus a => Sys2Proof.Machine.execHa1PciPmonBoxStatus a s
  | .ha1PciPmonBoxCtl a => Sys2Proof.Machine.execHa1PciPmonBoxCtl a s
  | .ha1PciPmonCtl0 a => Sys2Proof.Machine.execHa1PciPmonCtl0 a s
  | .ha1PciPmonCtl1 a => Sys2Proof.Machine.execHa1PciPmonCtl1 a s
  | .ha1PciPmonCtl2 a => Sys2Proof.Machine.execHa1PciPmonCtl2 a s
  | .ha1PciPmonCtl3 a => Sys2Proof.Machine.execHa1PciPmonCtl3 a s
  | .ha1PciPmonCtr0 a => Sys2Proof.Machine.execHa1PciPmonCtr0 a s
  | .ha1PciPmonCtr1 a => Sys2Proof.Machine.execHa1PciPmonCtr1 a s
  | .ha1PciPmonCtr2 a => Sys2Proof.Machine.execHa1PciPmonCtr2 a s
  | .ha1PciPmonCtr3 a => Sys2Proof.Machine.execHa1PciPmonCtr3 a s
  | .ha1PciPmonBoxOpcodematch a => Sys2Proof.Machine.execHa1PciPmonBoxOpcodematch a s
  | .ha1PciPmonBoxAddrmatch1 a => Sys2Proof.Machine.execHa1PciPmonBoxAddrmatch1 a s
  | .ha1PciPmonBoxAddrmatch0 a => Sys2Proof.Machine.execHa1PciPmonBoxAddrmatch0 a s
  | .mc0Ch0PciPmonBoxStatus a => Sys2Proof.Machine.execMc0Ch0PciPmonBoxStatus a s
  | .mc0Ch0PciPmonBoxCtl a => Sys2Proof.Machine.execMc0Ch0PciPmonBoxCtl a s
  | .mc0Ch0PciPmonCtl0 a => Sys2Proof.Machine.execMc0Ch0PciPmonCtl0 a s
  | .mc0Ch0PciPmonCtl1 a => Sys2Proof.Machine.execMc0Ch0PciPmonCtl1 a s
  | .mc0Ch0PciPmonCtl2 a => Sys2Proof.Machine.execMc0Ch0PciPmonCtl2 a s
  | .mc0Ch0PciPmonCtl3 a => Sys2Proof.Machine.execMc0Ch0PciPmonCtl3 a s
  | .mc0Ch0PciPmonCtr0 a => Sys2Proof.Machine.execMc0Ch0PciPmonCtr0 a s
  | .mc0Ch0PciPmonCtr1 a => Sys2Proof.Machine.execMc0Ch0PciPmonCtr1 a s
  | .mc0Ch0PciPmonCtr2 a => Sys2Proof.Machine.execMc0Ch0PciPmonCtr2 a s
  | .mc0Ch0PciPmonCtr3 a => Sys2Proof.Machine.execMc0Ch0PciPmonCtr3 a s
  | .mc0Ch0PciPmonFixedCtl a => Sys2Proof.Machine.execMc0Ch0PciPmonFixedCtl a s
  | .mc0Ch0PciPmonFixedCtr a => Sys2Proof.Machine.execMc0Ch0PciPmonFixedCtr a s
  | .mc0Ch1PciPmonBoxStatus a => Sys2Proof.Machine.execMc0Ch1PciPmonBoxStatus a s
  | .mc0Ch1PciPmonBoxCtl a => Sys2Proof.Machine.execMc0Ch1PciPmonBoxCtl a s
  | .mc0Ch1PciPmonCtl0 a => Sys2Proof.Machine.execMc0Ch1PciPmonCtl0 a s
  | .mc0Ch1PciPmonCtl1 a => Sys2Proof.Machine.execMc0Ch1PciPmonCtl1 a s
  | .mc0Ch1PciPmonCtl2 a => Sys2Proof.Machine.execMc0Ch1PciPmonCtl2 a s
  | .mc0Ch1PciPmonCtl3 a => Sys2Proof.Machine.execMc0Ch1PciPmonCtl3 a s
  | .mc0Ch1PciPmonCtr0 a => Sys2Proof.Machine.execMc0Ch1PciPmonCtr0 a s
  | .mc0Ch1PciPmonCtr1 a => Sys2Proof.Machine.execMc0Ch1PciPmonCtr1 a s
  | .mc0Ch1PciPmonCtr2 a => Sys2Proof.Machine.execMc0Ch1PciPmonCtr2 a s
  | .mc0Ch1PciPmonCtr3 a => Sys2Proof.Machine.execMc0Ch1PciPmonCtr3 a s
  | .mc0Ch1PciPmonFixedCtl a => Sys2Proof.Machine.execMc0Ch1PciPmonFixedCtl a s
  | .mc0Ch1PciPmonFixedCtr a => Sys2Proof.Machine.execMc0Ch1PciPmonFixedCtr a s
  | .mc0Ch2PciPmonBoxStatus a => Sys2Proof.Machine.execMc0Ch2PciPmonBoxStatus a s
  | .mc0Ch2PciPmonBoxCtl a => Sys2Proof.Machine.execMc0Ch2PciPmonBoxCtl a s
  | .mc0Ch2PciPmonCtl0 a => Sys2Proof.Machine.execMc0Ch2PciPmonCtl0 a s
  | .mc0Ch2PciPmonCtl1 a => Sys2Proof.Machine.execMc0Ch2PciPmonCtl1 a s
  | .mc0Ch2PciPmonCtl2 a => Sys2Proof.Machine.execMc0Ch2PciPmonCtl2 a s
  | .mc0Ch2PciPmonCtl3 a => Sys2Proof.Machine.execMc0Ch2PciPmonCtl3 a s
  | .mc0Ch2PciPmonCtr0 a => Sys2Proof.Machine.execMc0Ch2PciPmonCtr0 a s
  | .mc0Ch2PciPmonCtr1 a => Sys2Proof.Machine.execMc0Ch2PciPmonCtr1 a s
  | .mc0Ch2PciPmonCtr2 a => Sys2Proof.Machine.execMc0Ch2PciPmonCtr2 a s
  | .mc0Ch2PciPmonCtr3 a => Sys2Proof.Machine.execMc0Ch2PciPmonCtr3 a s
  | .mc0Ch2PciPmonFixedCtl a => Sys2Proof.Machine.execMc0Ch2PciPmonFixedCtl a s
  | .mc0Ch2PciPmonFixedCtr a => Sys2Proof.Machine.execMc0Ch2PciPmonFixedCtr a s
  | .mc0Ch3PciPmonBoxStatus a => Sys2Proof.Machine.execMc0Ch3PciPmonBoxStatus a s
  | .mc0Ch3PciPmonBoxCtl a => Sys2Proof.Machine.execMc0Ch3PciPmonBoxCtl a s
  | .mc0Ch3PciPmonCtl0 a => Sys2Proof.Machine.execMc0Ch3PciPmonCtl0 a s
  | .mc0Ch3PciPmonCtl1 a => Sys2Proof.Machine.execMc0Ch3PciPmonCtl1 a s
  | .mc0Ch3PciPmonCtl2 a => Sys2Proof.Machine.execMc0Ch3PciPmonCtl2 a s
  | .mc0Ch3PciPmonCtl3 a => Sys2Proof.Machine.execMc0Ch3PciPmonCtl3 a s
  | .mc0Ch3PciPmonCtr0 a => Sys2Proof.Machine.execMc0Ch3PciPmonCtr0 a s
  | .mc0Ch3PciPmonCtr1 a => Sys2Proof.Machine.execMc0Ch3PciPmonCtr1 a s
  | .mc0Ch3PciPmonCtr2 a => Sys2Proof.Machine.execMc0Ch3PciPmonCtr2 a s
  | .mc0Ch3PciPmonCtr3 a => Sys2Proof.Machine.execMc0Ch3PciPmonCtr3 a s
  | .mc0Ch3PciPmonFixedCtl a => Sys2Proof.Machine.execMc0Ch3PciPmonFixedCtl a s
  | .mc0Ch3PciPmonFixedCtr a => Sys2Proof.Machine.execMc0Ch3PciPmonFixedCtr a s
  | .mc1Ch0PciPmonBoxStatus a => Sys2Proof.Machine.execMc1Ch0PciPmonBoxStatus a s
  | .mc1Ch0PciPmonBoxCtl a => Sys2Proof.Machine.execMc1Ch0PciPmonBoxCtl a s
  | .mc1Ch0PciPmonCtl0 a => Sys2Proof.Machine.execMc1Ch0PciPmonCtl0 a s
  | .mc1Ch0PciPmonCtl1 a => Sys2Proof.Machine.execMc1Ch0PciPmonCtl1 a s
  | .mc1Ch0PciPmonCtl2 a => Sys2Proof.Machine.execMc1Ch0PciPmonCtl2 a s
  | .mc1Ch0PciPmonCtl3 a => Sys2Proof.Machine.execMc1Ch0PciPmonCtl3 a s
  | .mc1Ch0PciPmonCtr0 a => Sys2Proof.Machine.execMc1Ch0PciPmonCtr0 a s
  | .mc1Ch0PciPmonCtr1 a => Sys2Proof.Machine.execMc1Ch0PciPmonCtr1 a s
  | .mc1Ch0PciPmonCtr2 a => Sys2Proof.Machine.execMc1Ch0PciPmonCtr2 a s
  | .mc1Ch0PciPmonCtr3 a => Sys2Proof.Machine.execMc1Ch0PciPmonCtr3 a s
  | .mc1Ch0PciPmonFixedCtl a => Sys2Proof.Machine.execMc1Ch0PciPmonFixedCtl a s
  | .mc1Ch0PciPmonFixedCtr a => Sys2Proof.Machine.execMc1Ch0PciPmonFixedCtr a s
  | .mc1Ch1PciPmonBoxStatus a => Sys2Proof.Machine.execMc1Ch1PciPmonBoxStatus a s
  | .mc1Ch1PciPmonBoxCtl a => Sys2Proof.Machine.execMc1Ch1PciPmonBoxCtl a s
  | .mc1Ch1PciPmonCtl0 a => Sys2Proof.Machine.execMc1Ch1PciPmonCtl0 a s
  | .mc1Ch1PciPmonCtl1 a => Sys2Proof.Machine.execMc1Ch1PciPmonCtl1 a s
  | .mc1Ch1PciPmonCtl2 a => Sys2Proof.Machine.execMc1Ch1PciPmonCtl2 a s
  | .mc1Ch1PciPmonCtl3 a => Sys2Proof.Machine.execMc1Ch1PciPmonCtl3 a s
  | .mc1Ch1PciPmonCtr0 a => Sys2Proof.Machine.execMc1Ch1PciPmonCtr0 a s
  | .mc1Ch1PciPmonCtr1 a => Sys2Proof.Machine.execMc1Ch1PciPmonCtr1 a s
  | .mc1Ch1PciPmonCtr2 a => Sys2Proof.Machine.execMc1Ch1PciPmonCtr2 a s
  | .mc1Ch1PciPmonCtr3 a => Sys2Proof.Machine.execMc1Ch1PciPmonCtr3 a s
  | .mc1Ch1PciPmonFixedCtl a => Sys2Proof.Machine.execMc1Ch1PciPmonFixedCtl a s
  | .mc1Ch1PciPmonFixedCtr a => Sys2Proof.Machine.execMc1Ch1PciPmonFixedCtr a s
  | .mc1Ch2PciPmonBoxStatus a => Sys2Proof.Machine.execMc1Ch2PciPmonBoxStatus a s
  | .mc1Ch2PciPmonBoxCtl a => Sys2Proof.Machine.execMc1Ch2PciPmonBoxCtl a s
  | .mc1Ch2PciPmonCtl0 a => Sys2Proof.Machine.execMc1Ch2PciPmonCtl0 a s
  | .mc1Ch2PciPmonCtl1 a => Sys2Proof.Machine.execMc1Ch2PciPmonCtl1 a s
  | .mc1Ch2PciPmonCtl2 a => Sys2Proof.Machine.execMc1Ch2PciPmonCtl2 a s
  | .mc1Ch2PciPmonCtl3 a => Sys2Proof.Machine.execMc1Ch2PciPmonCtl3 a s
  | .mc1Ch2PciPmonCtr0 a => Sys2Proof.Machine.execMc1Ch2PciPmonCtr0 a s
  | .mc1Ch2PciPmonCtr1 a => Sys2Proof.Machine.execMc1Ch2PciPmonCtr1 a s
  | .mc1Ch2PciPmonCtr2 a => Sys2Proof.Machine.execMc1Ch2PciPmonCtr2 a s
  | .mc1Ch2PciPmonCtr3 a => Sys2Proof.Machine.execMc1Ch2PciPmonCtr3 a s
  | .mc1Ch2PciPmonFixedCtl a => Sys2Proof.Machine.execMc1Ch2PciPmonFixedCtl a s
  | .mc1Ch2PciPmonFixedCtr a => Sys2Proof.Machine.execMc1Ch2PciPmonFixedCtr a s
  | .mc1Ch3PciPmonBoxStatus a => Sys2Proof.Machine.execMc1Ch3PciPmonBoxStatus a s
  | .mc1Ch3PciPmonBoxCtl a => Sys2Proof.Machine.execMc1Ch3PciPmonBoxCtl a s
  | .mc1Ch3PciPmonCtl0 a => Sys2Proof.Machine.execMc1Ch3PciPmonCtl0 a s
  | .mc1Ch3PciPmonCtl1 a => Sys2Proof.Machine.execMc1Ch3PciPmonCtl1 a s
  | .mc1Ch3PciPmonCtl2 a => Sys2Proof.Machine.execMc1Ch3PciPmonCtl2 a s
  | .mc1Ch3PciPmonCtl3 a => Sys2Proof.Machine.execMc1Ch3PciPmonCtl3 a s
  | .mc1Ch3PciPmonCtr0 a => Sys2Proof.Machine.execMc1Ch3PciPmonCtr0 a s
  | .mc1Ch3PciPmonCtr1 a => Sys2Proof.Machine.execMc1Ch3PciPmonCtr1 a s
  | .mc1Ch3PciPmonCtr2 a => Sys2Proof.Machine.execMc1Ch3PciPmonCtr2 a s
  | .mc1Ch3PciPmonCtr3 a => Sys2Proof.Machine.execMc1Ch3PciPmonCtr3 a s
  | .mc1Ch3PciPmonFixedCtl a => Sys2Proof.Machine.execMc1Ch3PciPmonFixedCtl a s
  | .mc1Ch3PciPmonFixedCtr a => Sys2Proof.Machine.execMc1Ch3PciPmonFixedCtr a s
  | .irpPciPmonBoxStatus a => Sys2Proof.Machine.execIrpPciPmonBoxStatus a s
  | .irpPciPmonBoxCtl a => Sys2Proof.Machine.execIrpPciPmonBoxCtl a s
  | .irp0PciPmonCtl0 a => Sys2Proof.Machine.execIrp0PciPmonCtl0 a s
  | .irp0PciPmonCtl1 a => Sys2Proof.Machine.execIrp0PciPmonCtl1 a s
  | .irp1PciPmonCtl0 a => Sys2Proof.Machine.execIrp1PciPmonCtl0 a s
  | .irp1PciPmonCtl1 a => Sys2Proof.Machine.execIrp1PciPmonCtl1 a s
  | .irp0PciPmonCtr0 a => Sys2Proof.Machine.execIrp0PciPmonCtr0 a s
  | .irp0PciPmonCtr1 a => Sys2Proof.Machine.execIrp0PciPmonCtr1 a s
  | .irp1PciPmonCtr0 a => Sys2Proof.Machine.execIrp1PciPmonCtr0 a s
  | .irp1PciPmonCtr1 a => Sys2Proof.Machine.execIrp1PciPmonCtr1 a s
  | .qP0PciPmonBoxStatus a => Sys2Proof.Machine.execQP0PciPmonBoxStatus a s
  | .qP0PciPmonBoxCtl a => Sys2Proof.Machine.execQP0PciPmonBoxCtl a s
  | .qP0PciPmonCtl0 a => Sys2Proof.Machine.execQP0PciPmonCtl0 a s
  | .qP0PciPmonCtl1 a => Sys2Proof.Machine.execQP0PciPmonCtl1 a s
  | .qP0PciPmonCtl2 a => Sys2Proof.Machine.execQP0PciPmonCtl2 a s
  | .qP0PciPmonCtl3 a => Sys2Proof.Machine.execQP0PciPmonCtl3 a s
  | .qP0PciPmonCtr0 a => Sys2Proof.Machine.execQP0PciPmonCtr0 a s
  | .qP0PciPmonCtr1 a => Sys2Proof.Machine.execQP0PciPmonCtr1 a s
  | .qP0PciPmonCtr2 a => Sys2Proof.Machine.execQP0PciPmonCtr2 a s
  | .qP0PciPmonCtr3 a => Sys2Proof.Machine.execQP0PciPmonCtr3 a s
  | .qP0PciPmonLinkLlr a => Sys2Proof.Machine.execQP0PciPmonLinkLlr a s
  | .qP0PciPmonLinkIdle a => Sys2Proof.Machine.execQP0PciPmonLinkIdle a s
  | .qP0PciPmonRxPktMask1 a => Sys2Proof.Machine.execQP0PciPmonRxPktMask1 a s
  | .qP0PciPmonRxPktMask0 a => Sys2Proof.Machine.execQP0PciPmonRxPktMask0 a s
  | .qP0PciPmonRxPktMatch1 a => Sys2Proof.Machine.execQP0PciPmonRxPktMatch1 a s
  | .qP0PciPmonRxPktMatch0 a => Sys2Proof.Machine.execQP0PciPmonRxPktMatch0 a s
  | .qP0PciPmonTxPktMask1 a => Sys2Proof.Machine.execQP0PciPmonTxPktMask1 a s
  | .qP0PciPmonTxPktMask0 a => Sys2Proof.Machine.execQP0PciPmonTxPktMask0 a s
  | .qP0PciPmonTxPktMatch1 a => Sys2Proof.Machine.execQP0PciPmonTxPktMatch1 a s
  | .qP0PciPmonTxPktMatch0 a => Sys2Proof.Machine.execQP0PciPmonTxPktMatch0 a s
  | .qP1PciPmonBoxStatus a => Sys2Proof.Machine.execQP1PciPmonBoxStatus a s
  | .qP1PciPmonBoxCtl a => Sys2Proof.Machine.execQP1PciPmonBoxCtl a s
  | .qP1PciPmonCtl0 a => Sys2Proof.Machine.execQP1PciPmonCtl0 a s
  | .qP1PciPmonCtl1 a => Sys2Proof.Machine.execQP1PciPmonCtl1 a s
  | .qP1PciPmonCtl2 a => Sys2Proof.Machine.execQP1PciPmonCtl2 a s
  | .qP1PciPmonCtl3 a => Sys2Proof.Machine.execQP1PciPmonCtl3 a s
  | .qP1PciPmonCtr0 a => Sys2Proof.Machine.execQP1PciPmonCtr0 a s
  | .qP1PciPmonCtr1 a => Sys2Proof.Machine.execQP1PciPmonCtr1 a s
  | .qP1PciPmonCtr2 a => Sys2Proof.Machine.execQP1PciPmonCtr2 a s
  | .qP1PciPmonCtr3 a => Sys2Proof.Machine.execQP1PciPmonCtr3 a s
  | .qP1PciPmonLinkLlr a => Sys2Proof.Machine.execQP1PciPmonLinkLlr a s
  | .qP1PciPmonLinkIdle a => Sys2Proof.Machine.execQP1PciPmonLinkIdle a s
  | .qP1PciPmonRxPktMask1 a => Sys2Proof.Machine.execQP1PciPmonRxPktMask1 a s
  | .qP1PciPmonRxPktMask0 a => Sys2Proof.Machine.execQP1PciPmonRxPktMask0 a s
  | .qP1PciPmonRxPktMatch1 a => Sys2Proof.Machine.execQP1PciPmonRxPktMatch1 a s
  | .qP1PciPmonRxPktMatch0 a => Sys2Proof.Machine.execQP1PciPmonRxPktMatch0 a s
  | .qP1PciPmonTxPktMask1 a => Sys2Proof.Machine.execQP1PciPmonTxPktMask1 a s
  | .qP1PciPmonTxPktMask0 a => Sys2Proof.Machine.execQP1PciPmonTxPktMask0 a s
  | .qP1PciPmonTxPktMatch1 a => Sys2Proof.Machine.execQP1PciPmonTxPktMatch1 a s
  | .qP1PciPmonTxPktMatch0 a => Sys2Proof.Machine.execQP1PciPmonTxPktMatch0 a s
  | .qP2PciPmonBoxStatus a => Sys2Proof.Machine.execQP2PciPmonBoxStatus a s
  | .qP2PciPmonBoxCtl a => Sys2Proof.Machine.execQP2PciPmonBoxCtl a s
  | .qP2PciPmonCtl0 a => Sys2Proof.Machine.execQP2PciPmonCtl0 a s
  | .qP2PciPmonCtl1 a => Sys2Proof.Machine.execQP2PciPmonCtl1 a s
  | .qP2PciPmonCtl2 a => Sys2Proof.Machine.execQP2PciPmonCtl2 a s
  | .qP2PciPmonCtl3 a => Sys2Proof.Machine.execQP2PciPmonCtl3 a s
  | .qP2PciPmonCtr0 a => Sys2Proof.Machine.execQP2PciPmonCtr0 a s
  | .qP2PciPmonCtr1 a => Sys2Proof.Machine.execQP2PciPmonCtr1 a s
  | .qP2PciPmonCtr2 a => Sys2Proof.Machine.execQP2PciPmonCtr2 a s
  | .qP2PciPmonCtr3 a => Sys2Proof.Machine.execQP2PciPmonCtr3 a s
  | .qP2PciPmonLinkLlr a => Sys2Proof.Machine.execQP2PciPmonLinkLlr a s
  | .qP2PciPmonLinkIdle a => Sys2Proof.Machine.execQP2PciPmonLinkIdle a s
  | .qP2PciPmonRxPktMask1 a => Sys2Proof.Machine.execQP2PciPmonRxPktMask1 a s
  | .qP2PciPmonRxPktMask0 a => Sys2Proof.Machine.execQP2PciPmonRxPktMask0 a s
  | .qP2PciPmonRxPktMatch1 a => Sys2Proof.Machine.execQP2PciPmonRxPktMatch1 a s
  | .qP2PciPmonRxPktMatch0 a => Sys2Proof.Machine.execQP2PciPmonRxPktMatch0 a s
  | .qP2PciPmonTxPktMask1 a => Sys2Proof.Machine.execQP2PciPmonTxPktMask1 a s
  | .qP2PciPmonTxPktMask0 a => Sys2Proof.Machine.execQP2PciPmonTxPktMask0 a s
  | .qP2PciPmonTxPktMatch1 a => Sys2Proof.Machine.execQP2PciPmonTxPktMatch1 a s
  | .qP2PciPmonTxPktMatch0 a => Sys2Proof.Machine.execQP2PciPmonTxPktMatch0 a s
  | .qpi0RateStatus a => Sys2Proof.Machine.execQpi0RateStatus a s
  | .qpi1RateStatus a => Sys2Proof.Machine.execQpi1RateStatus a s
  | .r2PciPmonBoxStatus a => Sys2Proof.Machine.execR2PciPmonBoxStatus a s
  | .r2PciPmonBoxCtl a => Sys2Proof.Machine.execR2PciPmonBoxCtl a s
  | .r2PciPmonCtl0 a => Sys2Proof.Machine.execR2PciPmonCtl0 a s
  | .r2PciPmonCtl1 a => Sys2Proof.Machine.execR2PciPmonCtl1 a s
  | .r2PciPmonCtl2 a => Sys2Proof.Machine.execR2PciPmonCtl2 a s
  | .r2PciPmonCtl3 a => Sys2Proof.Machine.execR2PciPmonCtl3 a s
  | .r2PciPmonCtr0 a => Sys2Proof.Machine.execR2PciPmonCtr0 a s
  | .r2PciPmonCtr1 a => Sys2Proof.Machine.execR2PciPmonCtr1 a s
  | .r2PciPmonCtr2 a => Sys2Proof.Machine.execR2PciPmonCtr2 a s
  | .r2PciPmonCtr3 a => Sys2Proof.Machine.execR2PciPmonCtr3 a s
  | .r3L0PciPmonBoxStatus a => Sys2Proof.Machine.execR3L0PciPmonBoxStatus a s
  | .r3L0PciPmonBoxCtl a => Sys2Proof.Machine.execR3L0PciPmonBoxCtl a s
  | .r3L0PciPmonCtl0 a => Sys2Proof.Machine.execR3L0PciPmonCtl0 a s
  | .r3L0PciPmonCtl1 a => Sys2Proof.Machine.execR3L0PciPmonCtl1 a s
  | .r3L0PciPmonCtl2 a => Sys2Proof.Machine.execR3L0PciPmonCtl2 a s
  | .r3L0PciPmonCtr0 a => Sys2Proof.Machine.execR3L0PciPmonCtr0 a s
  | .r3L0PciPmonCtr1 a => Sys2Proof.Machine.execR3L0PciPmonCtr1 a s
  | .r3L0PciPmonCtr2 a => Sys2Proof.Machine.execR3L0PciPmonCtr2 a s
  | .r3L1PciPmonBoxStatus a => Sys2Proof.Machine.execR3L1PciPmonBoxStatus a s
  | .r3L1PciPmonBoxCtl a => Sys2Proof.Machine.execR3L1PciPmonBoxCtl a s
  | .r3L1PciPmonCtl0 a => Sys2Proof.Machine.execR3L1PciPmonCtl0 a s
  | .r3L1PciPmonCtl1 a => Sys2Proof.Machine.execR3L1PciPmonCtl1 a s
  | .r3L1PciPmonCtl2 a => Sys2Proof.Machine.execR3L1PciPmonCtl2 a s
  | .r3L1PciPmonCtr0 a => Sys2Proof.Machine.execR3L1PciPmonCtr0 a s
  | .r3L1PciPmonCtr1 a => Sys2Proof.Machine.execR3L1PciPmonCtr1 a s
  | .r3L1PciPmonCtr2 a => Sys2Proof.Machine.execR3L1PciPmonCtr2 a s
  | .r3L2PciPmonBoxStatus a => Sys2Proof.Machine.execR3L2PciPmonBoxStatus a s
  | .r3L2PciPmonBoxCtl a => Sys2Proof.Machine.execR3L2PciPmonBoxCtl a s
  | .r3L2PciPmonCtl0 a => Sys2Proof.Machine.execR3L2PciPmonCtl0 a s
  | .r3L2PciPmonCtl1 a => Sys2Proof.Machine.execR3L2PciPmonCtl1 a s
  | .r3L2PciPmonCtl2 a => Sys2Proof.Machine.execR3L2PciPmonCtl2 a s
  | .r3L2PciPmonCtr0 a => Sys2Proof.Machine.execR3L2PciPmonCtr0 a s
  | .r3L2PciPmonCtr1 a => Sys2Proof.Machine.execR3L2PciPmonCtr1 a s
  | .r3L2PciPmonCtr2 a => Sys2Proof.Machine.execR3L2PciPmonCtr2 a s

end Sys2Proof.Machine
end

