-- ==== Sys2Proof/Machine/Step.lean ====
section
/-! DEFINITION. One step: the next counter of the box cycle in progress, the end of that cycle, or the next turn. -/

namespace Sys2Proof.Machine

/- Decoding builds an `Instr`, which Lean's compiler cannot (Sys2Proof/Decode.lean). -/
noncomputable section

/-- The count step of counter `i` of the cycle in progress: the word of its control register is fetched and decoded, and
its instruction runs; a word that names no row counts as 30_encoding.md R163 says. -/
def stepCounter (r : Run) (i : Fin r.box.kind.ctrs) (s : State) : Host.Outcome State Fault Refusal :=
  let j := r.box.kind.unit i
  match decode (.counter r.box.kind r.box.inst i) (bytesOf (s.unit r.box j).ctl) with
  | .ok ins => mapNext (advance r) (exec ins s)
  | .error _ => .next (advance r (countUnlisted r.box j s))

/-- The host's turn: its bytes are decoded and the instruction runs. -/
def stepHost (cmd : List Byte) (s : State) : Host.Outcome State Fault Refusal :=
  match decode (.host s.cfg.irpAlt) cmd with
  | .ok ins => exec ins s
  | .error e => declined e s

/-- One step of the machine. -/
def step (s : State) : Host.Outcome State Fault Refusal :=
  match s.run with
  | some r => if h : r.next < r.box.kind.ctrs then stepCounter r ⟨r.next, h⟩ s else .next (finishCycle r.box s)
  | none =>
    let t := nextTurn s
    match t.1 with
    | .host cmd => stepHost cmd t.2
    | other => .next (platformTurn other t.2)

/-- The instruction whose table word is `w`, placed where the next step fetches: in the host's command queue, or in the
control register of a counter whose turn it is (log 5, log 6). -/
def State.withFetchWord (s : State) (nbits w : Nat) : State := placeWord (tableSlot nbits w) w s

end

end Sys2Proof.Machine
end

