-- ==== Sys2Proof/Safety.lean ====
section
/-! DEFINITION. The terms the claims use: what keeps the state well formed, when a counter counts, what one count step
may change, and when a step stays inside the source's contract (60_exceptions.md R1000). -/

namespace Sys2Proof.Machine

/-- A step inside the source's contract: nothing is declined. -/
def Completes (s : State) : Prop := ∃ t, step s = .next t

/-- Every stored field of a counter is one the register has, the counter fits W, thresh is not 0 under invert or edge
detect (40_global_ubox.md R208), and the hidden latches are used only where they exist (10_state.md R92 to R98). -/
structure CtrUnit.Ok (p : Params) (b : BoxId) (u : CtrUnit) : Prop where
  stored : u.ctl &&& ~~~ctlStored b.kind = 0
  thresh : Reg.threshZero (.ctl b 0) u.ctl = false
  width : u.ctr.toNat < 2 ^ b.width p
  pair : b.doubleWrite = false → u.dw = none ∧ u.settled = true
  sticky : b.kind ≠ .qpi → u.qrst = false
  occ : b.kind ≠ .pcu → u.oprev = none

/-- A block's counters are well formed, and its status and fixed control hold only bits they have. -/
structure Blk.Ok (p : Params) (b : BoxId) (x : Blk) : Prop where
  unit : ∀ i, (x.unit i).Ok p b
  ov : x.ov &&& ~~~ovMask b.kind = 0
  fixed : x.fixCtl &&& ~~~0x00500000 = 0

/-- The invariant: the parameters are in their ranges (00_scope.md R7), reserved and ignored bits are 0 in every register
(10_state.md R22), counters fit their widths, and the messages in flight name bits of U_MSR_PMON_GLOBAL_STATUS (R98). -/
structure State.Inv (s : State) : Prop where
  cfg : s.cfg.Ok
  blk : ∀ b, (s.blk b).Ok s.cfg b
  status : s.status &&& ~~~globalOvMask = 0
  pend : ∀ m ∈ s.pend, m ≠ 0 ∧ m &&& ~~~globalOvMask = 0
  filter0 : ∀ n : Fin 18, s.cboFilter0[n] &&& ~~~0x00FE003F = 0
  filter1 : ∀ n : Fin 18, s.cboFilter1[n] &&& ~~~0xDFF0FFFF = 0
  opcodeMatch : ∀ n : Fin 2, s.haOpcodeMatch[n] &&& ~~~0x0000003F = 0
  addrMatch1 : ∀ n : Fin 2, s.haAddrMatch1[n] &&& ~~~0x00003FFF = 0
  addrMatch0 : ∀ n : Fin 2, s.haAddrMatch0[n] &&& ~~~0xFFFFFFC0 = 0
  packet : ∀ (p : Fin 3) (r : PktReg), s.qpiPkt[p].get r &&& ~~~r.stored = 0

/-- Counter `j` of box `b` counts for certain in this cycle (40_global_ubox.md R219): it is enabled, its box is not frozen
(the UBox has no box freeze), the global freeze the box sees is off, a QPI counter is not held in reset, and its control
register has taken hold (10_state.md R95). -/
structure Counting (b : BoxId) (j : Fin 4) (en : Bool) (s : State) : Prop where
  en : en = true
  box : b ≠ .ubox → (s.blk b).bfrz = false
  global : s.freezeSeen b = some false
  sticky : (s.unit b j).qrst = false
  settled : (s.unit b j).settled = true

/-- Counter `j` of box `b` does not count in this cycle (R219). -/
def NotCounting (b : BoxId) (j : Fin 4) (en : Bool) (s : State) : Prop :=
  en = false ∨ (b ≠ .ubox ∧ (s.blk b).bfrz = true) ∨ s.freezeSeen b = some true ∨ (s.unit b j).qrst = true

/-- The frame of a count step: `t` is `s` but for counter `j`'s value and edge latches, its overflow bit in the box
status, at most one message of its box in flight, and how many values have been drawn. -/
def CountFrame (b : BoxId) (j : Fin 4) (s t : State) : Prop :=
  ∃ (ctr : Counter) (prev oprev : Option Bool) (ov : BitVec 5) (sent : List Quad) (draws : Nat),
    t = ((s.setBlk b (((s.blk b).setUnit j { s.unit b j with ctr := ctr, prev := prev, oprev := oprev }).setOv ov)).setPend
      (s.pend ++ sent)).setDraws draws ∧
    (∀ n, n ≠ b.ovIndex j → ov.getLsbD n = (s.blk b).ov.getLsbD n) ∧
    ((s.blk b).ov.getLsbD (b.ovIndex j) = true → ov.getLsbD (b.ovIndex j) = true) ∧
    (sent = [] ∨ (b.globalBits ≠ 0 ∧ sent = [b.globalBits])) ∧
    s.draws ≤ draws

/-- What adding `a` to counter `j` of box `b` does (40_global_ubox.md R215 to R217, R231): the sum modulo 2^W; without a
carry the status and the messages in flight stay; with one the counter's status bit is set, nothing is sent when `ovEn`
is 0 or the box has no global status bit, and one message is sent for certain when that status bit and the box's global
bits were all 0 (otherwise it is open whether one is sent). -/
structure Adds (b : BoxId) (j : Fin 4) (a : Nat) (ovEn : Bool) (s t : State) : Prop where
  frame : CountFrame b j s t
  sum : (t.unit b j).ctr.toNat = ((s.unit b j).ctr.toNat + a) % 2 ^ b.width s.cfg
  quiet : (s.unit b j).ctr.toNat + a < 2 ^ b.width s.cfg → (t.blk b).ov = (s.blk b).ov ∧ t.pend = s.pend
  carry : 2 ^ b.width s.cfg ≤ (s.unit b j).ctr.toNat + a → (t.blk b).ov.getLsbD (b.ovIndex j) = true
  mute : ovEn = false ∨ b.globalBits = 0 → t.pend = s.pend
  sent : 2 ^ b.width s.cfg ≤ (s.unit b j).ctr.toNat + a → ovEn = true → b.globalBits ≠ 0 →
    (s.blk b).ov.getLsbD (b.ovIndex j) = false → s.status &&& b.globalBits = 0 → t.pend = s.pend ++ [b.globalBits]

/-- The instruction writes the 64-bit value `v` to register `r`, which the part has: a WRMSR, or a CFGWR on the right
bus whose dword is merged into a two-dword counter (40_global_ubox.md R201, R203). -/
def WritesReg (i : Instr) (r : Reg) (v : Quad) (s : State) : Prop :=
  r.present s.cfg = true ∧
    ((∃ addr, i.view = .msr addr r (.write v)) ∨
      ∃ addr a w, i.view = .cfg addr r a ∧ a.bus = s.cfg.bus ∧ a.op = .write w ∧ v = mergeDword r a.high w s)

/-- The shape of a control word is one the source allows (40_global_ubox.md R208): no invert and no edge detect with
thresh = 0, nor in the PCU's occupancy events occ_invert or occ_edge_det. -/
def ThreshAllows (k : Kind) (w : Word) : Prop :=
  threshField k w ≠ 0 ∨
    (w.getLsbD 23 = false ∧ w.getLsbD 18 = false ∧
      (k = .pcu → w.getLsbD 7 = true → w.getLsbD 30 = false ∧ w.getLsbD 31 = false))

/-- What a write elsewhere in the box leaves of a control register's double-write latch (10_state.md R95). -/
def CtrUnit.pairBroken (b : BoxId) (u : CtrUnit) : CtrUnit := { u with dw := if b.doubleWrite then none else u.dw }

end Sys2Proof.Machine

namespace Sys2Proof

open Machine

/-- The box an event instruction names. -/
def EvOp.box {k : Kind} (o : EvOp k) : BoxId := k.box o.inst

/-- The counter an event instruction names. -/
def EvOp.unit {k : Kind} (o : EvOp k) : Fin 4 := k.unit o.ctr

/-- The raw increment of an event instruction in this cycle, and the state after its draws. -/
def EvOp.raw {k : Kind} (o : EvOp k) (e : Event) (base : BitVec 8) (s : State) : Nat × State :=
  rawIncrement o.box o.unit e (base ||| o.ctl.extra) o.ctl.tidEn s

end Sys2Proof

namespace Sys2Proof.Machine

/-- The row `mk` is the unit mask row `base` of event `e`: with every operand it completes in every state, inside the frame
of a count step, and a counter that counts with thresh = 0 adds the event's raw increment (40_global_ubox.md R212 to R217;
on a CBo, counter 0, 41_cbo.md R272). -/
def CountsRow (k : Kind) (mk : EvOp k → Instr) (e : Event) (base : BitVec 8) : Prop :=
  ∀ (o : EvOp k) (s : State), ∃ t, exec (mk o) s = .next t ∧ CountFrame o.box o.unit s t ∧
    (Counting o.box o.unit o.ctl.en s → o.ctl.thresh = 0 → (k ≠ .cbo ∨ o.unit = 0) →
      Adds o.box o.unit (o.raw e base s).1 o.ctl.ovEn s t)

end Sys2Proof.Machine
end

