-- ==== Sys2Proof/Certificates/Slice0/Obligations.lean ====
section
/-! DEFINITION. The statements for the provers. Those about an event row speak of every instruction whose view is that of
an event; those about a register row of every instruction that reads or writes that register. -/

open Sys2Proof Sys2Proof.Machine

/-! ### Encoding -/

/-- Decoding what the encoder writes gives the instruction back, for every well-formed instruction of the table and
both settings of IRP_CTR_OFFSETS (30_encoding.md R150 to R182; the layout of a host access as four dwords is the
model's, log 2). -/
def Obligations.DecodeEncode : Prop :=
  ∀ (alt : Bool) (i : Instr), i.wf = true → decode (i.slot alt) (encode alt i) = .ok i

/-- A control word has one meaning: what decodes from a counter's control word encodes to that word and to no other
(30_encoding.md R151 to R154, R157). -/
def Obligations.ControlWordDecodesOneWay : Prop :=
  ∀ (alt : Bool) (k : Kind) (n : Fin k.insts) (c : Fin k.ctrs) (w : Word) (i : Instr),
    decode (.counter k n c) (bytesOf w) = .ok i → encode alt i = bytesOf w ∧ i.slot alt = .counter k n c

/-- Six words of 95_test_vectors.md section 2.14 and of the address lists (30_encoding.md R151 to R154, R182) decode
to the rows they name; the layout of the two host accesses is the model's (log 2). -/
def Obligations.DecodesPrintedWords : Prop :=
  decode (.counter .cbo (0 : Fin 18) (2 : Fin 4)) (bytesOf 0x00400137) =
      .ok (.cBoLlcVictimsMState ⟨(0 : Fin 18), (2 : Fin 4), ⟨0, false, true, false, false, false, false, false, 0⟩⟩) ∧
  decode (.counter .ha (0 : Fin 2) (0 : Fin 4)) (bytesOf 0x00500301) =
      .ok (.haRequestsReads ⟨(0 : Fin 2), (0 : Fin 4), ⟨0, false, true, true, false, false, false, false, 0⟩⟩) ∧
  decode (.counter .pcu (0 : Fin 1) (0 : Fin 4)) (bytesOf 0x05404080) =
      .ok (.pcuPowerStateOccupancyCoresC0 ⟨(0 : Fin 1), (0 : Fin 4), ⟨5, false, true, false, false, false, false, false, 0⟩⟩) ∧
  decode (.counter .qpi (1 : Fin 3) (0 : Fin 4)) (bytesOf 0x00600038) =
      .ok (.qpiCtoCount ⟨(1 : Fin 3), (0 : Fin 4), ⟨0, false, true, false, false, false, false, false, 0⟩⟩) ∧
  decode (.host false) (bytesOf 0x0E01 ++ bytesOf 1 ++ bytesOf 0x00400137 ++ bytesOf 0) =
      .ok (.c0MsrPmonCtl0 (.write 0x00400137)) ∧
  decode (.host false) (bytesOf 0x000910F4 ++ bytesOf 0 ++ bytesOf 0 ++ bytesOf 0) =
      .ok (.ha0PciPmonBoxCtl ⟨0, false, .read⟩)

/-! ### Steps -/

/-- In a box's cycle the step runs, for the counter whose turn it is, the instruction its control register decodes to,
and then moves the cycle to the next counter (40_global_ubox.md R215; one step per counter is the model's
cut, log 7). -/
def Obligations.StepRunsCounterInstruction : Prop :=
  ∀ (s : State) (r : Run) (h : r.next < r.box.kind.ctrs) (i : Instr), s.run = some r →
    decode (.counter r.box.kind r.box.inst ⟨r.next, h⟩) (bytesOf (s.unit r.box (r.box.kind.unit ⟨r.next, h⟩)).ctl) = .ok i →
    step s = mapNext (fun t => t.setRun (some ⟨r.box, r.next + 1⟩)) (exec i s)

/-- Between box cycles, on the host's turn, the step runs the instruction the host's bytes decode to; the turn is used
up (40_global_ubox.md R200 to R203; the turns and the layout of an access are the model's, logs 2 and 6). -/
def Obligations.StepRunsHostInstruction : Prop :=
  ∀ (s : State) (cmd : List Byte) (rest : List Turn) (i : Instr), s.run = none → s.agenda = .host cmd :: rest →
    decode (.host s.cfg.irpAlt) cmd = .ok i → step s = exec i (s.setAgenda rest)

/-- A word a control register cannot name a row with still counts (30_encoding.md R163, 40_global_ubox.md R236,
41_cbo.md R277, 45_irp.md R605): the counter adds at most RAW_BOUND, and nothing for UBox code 0, for the IRP's
TRANSACTIONS without a request type and SNOOP_RESP without a bit in each group, and for LLC_LOOKUP without unit mask
bit 0 or a state; the cycle moves on. Stated for a counter that adds its raw increment (thresh = 0). -/
def Obligations.UnlistedWordCounts : Prop :=
  ∀ (s : State) (r : Run) (h : r.next < r.box.kind.ctrs) (e : Reject), s.run = some r →
    let j := r.box.kind.unit ⟨r.next, h⟩
    let w := (s.unit r.box j).ctl
    decode (.counter r.box.kind r.box.inst ⟨r.next, h⟩) (bytesOf w) = .error e →
    Counting r.box j (w.getLsbD 22) s → threshField r.box.kind w = 0 →
    ∃ t a, step s = .next (t.setRun (some ⟨r.box, r.next + 1⟩)) ∧
      Adds r.box j a (w.getLsbD 20) s t ∧ a ≤ s.cfg.rawBound ∧
      (r.box = .ubox → w.extractLsb' 0 8 = 0 → a = 0) ∧
      (r.box = .irp → (w.extractLsb' 0 8 = 0x16 ∧ w.extractLsb' 8 6 = 0) ∨
        (w.extractLsb' 0 8 = 0x17 ∧ (w.extractLsb' 8 4 = 0 ∨ w.extractLsb' 12 3 = 0)) → a = 0) ∧
      (∀ n, r.box = .cbo n → w.extractLsb' 0 8 = 0x34 → w.getLsbD 8 = false ∨ s.cboFilter0[n].extractLsb' 17 7 = 0 → a = 0)

/-! ### Events: the count step -/

/-- Every event row completes in every state, inside the frame of one count step (40_global_ubox.md R215): only its
own counter's value and edge latches, that counter's status bit, and PEND by at most one message of its box. -/
def Obligations.EventCompletesInFrame : Prop :=
  ∀ (i : Instr) (k : Kind) (e : Event) (base : BitVec 8) (o : EvOp k) (s : State), i.view = .event k e base o →
    ∃ t, exec i s = .next t ∧ CountFrame o.box o.unit s t

/-- With thresh = 0 a counting counter adds the raw increment itself (40_global_ubox.md R213, R215 to R217, R231). Not
the CBo's counters 1 to 3, which `CboCounterSpreads` covers. -/
def Obligations.EventAccumulates : Prop :=
  ∀ (i : Instr) (k : Kind) (e : Event) (base : BitVec 8) (o : EvOp k) (s : State), i.view = .event k e base o →
    Counting o.box o.unit o.ctl.en s → o.ctl.thresh = 0 → (k ≠ .cbo ∨ o.unit = 0) →
    ∃ t, exec i s = .next t ∧ Adds o.box o.unit (o.raw e base s).1 o.ctl.ovEn s t

/-- On counters 1 to 3 of a CBo, with thresh = 0, an increment above 1 adds something from 1 up to it, and 0 or 1 adds
itself (41_cbo.md R272). -/
def Obligations.CboCounterSpreads : Prop :=
  ∀ (i : Instr) (e : Event) (base : BitVec 8) (o : EvOp .cbo) (s : State), i.view = .event .cbo e base o →
    Counting o.box o.unit o.ctl.en s → o.ctl.thresh = 0 → o.unit ≠ 0 →
    ∃ t a, exec i s = .next t ∧ Adds o.box o.unit a o.ctl.ovEn s t ∧
      a ≤ (o.raw e base s).1 ∧ (1 ≤ (o.raw e base s).1 → 1 ≤ a)

/-- With thresh not 0 and no edge detect a counting counter adds 1 when the raw increment is at least thresh, or with
invert below it, and 0 otherwise (40_global_ubox.md R213, 46_pcu.md R656 for the occupancy events' own invert bit). -/
def Obligations.EventThreshold : Prop :=
  ∀ (i : Instr) (k : Kind) (e : Event) (base : BitVec 8) (o : EvOp k) (s : State), i.view = .event k e base o →
    Counting o.box o.unit o.ctl.en s → o.ctl.thresh ≠ 0 →
    let occ := k == .pcu && e.code.getLsbD 7
    let raw := (o.raw e base s).1
    (if occ then o.ctl.occEdge else o.ctl.edge) = false →
    ∃ t, exec i s = .next t ∧
      Adds o.box o.unit
        (if (if occ then o.ctl.occInvert else o.ctl.invert) then (if raw < o.ctl.thresh.toNat then 1 else 0)
          else (if o.ctl.thresh.toNat ≤ raw then 1 else 0)) o.ctl.ovEn s t

/-- With edge detect a counting counter adds 1 exactly when the comparison was false at the previous sample and is
true now, the sample is kept, and without a previous sample a true comparison adds 0 or 1 (40_global_ubox.md R214). -/
def Obligations.EventEdgeDetect : Prop :=
  ∀ (i : Instr) (k : Kind) (e : Event) (base : BitVec 8) (o : EvOp k) (s : State), i.view = .event k e base o →
    Counting o.box o.unit o.ctl.en s → o.ctl.thresh ≠ 0 → (k == .pcu && e.code.getLsbD 7) = false → o.ctl.edge = true →
    let raw := (o.raw e base s).1
    let c := if o.ctl.invert then decide (raw < o.ctl.thresh.toNat) else decide (o.ctl.thresh.toNat ≤ raw)
    ∃ t a, exec i s = .next t ∧ Adds o.box o.unit a o.ctl.ovEn s t ∧ (t.unit o.box o.unit).prev = some c ∧
      (t.unit o.box o.unit).oprev = (s.unit o.box o.unit).oprev ∧
      (∀ p, (s.unit o.box o.unit).prev = some p → a = if p = false ∧ c = true then 1 else 0) ∧
      ((s.unit o.box o.unit).prev = none → a ≤ 1 ∧ (c = false → a = 0))

/-- The PCU's occupancy events (ev_sel[7] = 1) use occ_edge_det and their own previous sample instead (46_pcu.md R655,
R656). -/
def Obligations.PcuOccupancyEdgeDetect : Prop :=
  ∀ (i : Instr) (e : Event) (base : BitVec 8) (o : EvOp .pcu) (s : State), i.view = .event .pcu e base o →
    Counting o.box o.unit o.ctl.en s → o.ctl.thresh ≠ 0 → e.code.getLsbD 7 = true → o.ctl.occEdge = true →
    let raw := (o.raw e base s).1
    let c := if o.ctl.occInvert then decide (raw < o.ctl.thresh.toNat) else decide (o.ctl.thresh.toNat ≤ raw)
    ∃ t a, exec i s = .next t ∧ Adds o.box o.unit a o.ctl.ovEn s t ∧ (t.unit o.box o.unit).oprev = some c ∧
      (t.unit o.box o.unit).prev = (s.unit o.box o.unit).prev ∧
      (∀ p, (s.unit o.box o.unit).oprev = some p → a = if p = false ∧ c = true then 1 else 0) ∧
      ((s.unit o.box o.unit).oprev = none → a ≤ 1 ∧ (c = false → a = 0))

/-- A counter that does not count (disabled, its box frozen, the socket frozen, or a QPI counter held in reset) keeps
everything but its edge detector's sample (40_global_ubox.md R215, R219). -/
def Obligations.EventIdle : Prop :=
  ∀ (i : Instr) (k : Kind) (e : Event) (base : BitVec 8) (o : EvOp k) (s : State), i.view = .event k e base o →
    NotCounting o.box o.unit o.ctl.en s →
    exec i s = .next (s.setUnit o.box o.unit { s.unit o.box o.unit with prev := none, oprev := none })

/-- While a control register is unsettled its counter adds an open amount of at most RAW_BOUND (10_state.md R95;
70_reset_and_hazards.md R1051; that ov_en is open too is the model's reading, log 8). -/
def Obligations.UnsettledCounts : Prop :=
  ∀ (i : Instr) (k : Kind) (e : Event) (base : BitVec 8) (o : EvOp k) (s : State), i.view = .event k e base o →
    o.ctl.en = true → (o.box ≠ .ubox → (s.blk o.box).bfrz = false) → s.freezeSeen o.box = some false →
    (s.unit o.box o.unit).qrst = false → (s.unit o.box o.unit).settled = false →
    ∃ t a ovEn, exec i s = .next t ∧ a ≤ s.cfg.rawBound ∧ Adds o.box o.unit a ovEn s t

/-- Every event row of the UBox, the SBo, the HA, the IRP, the PCU, the R2PCIe and the R3QPI by name, with its event and
its unit mask row (30_encoding.md R172, R174, R175, R177, R178, R180, R181): it completes in every state with every
operand, inside the frame of a count step, and a counter that counts with thresh = 0 adds that event's raw increment
(40_global_ubox.md R212, R215). -/
def Obligations.RingAndPlatformRowsComplete : Prop :=
  (∀ p ∈ ([
    (evUBoxEventMsg, [(0x08, .uBoxEventMsgDoorbellRcvd)]),
    (evUBoxPholdCycles, [(0x01, .uBoxPholdCyclesAssertToAck)]),
    (evUBoxRacuRequests, [(0x00, .uBoxRacuRequests)])]
      : EventTable .ubox), ∀ r ∈ p.2, CountsRow .ubox r.2 p.1 r.1) ∧
  (∀ p ∈ ([
    (evSBoClockticks, [(0x00, .sBoClockticks)]),
    (evSBoTxROccupancy, [(0x01, .sBoTxROccupancyAdCrd), (0x02, .sBoTxROccupancyAdBnc),
      (0x04, .sBoTxROccupancyBlCrd), (0x08, .sBoTxROccupancyBlBnc), (0x10, .sBoTxROccupancyAk),
      (0x20, .sBoTxROccupancyIv)]),
    (evSBoTxRInserts, [(0x01, .sBoTxRInsertsAdCrd), (0x02, .sBoTxRInsertsAdBnc), (0x04, .sBoTxRInsertsBlCrd),
      (0x08, .sBoTxRInsertsBlBnc), (0x10, .sBoTxRInsertsAk), (0x20, .sBoTxRInsertsIv)]),
    (evSBoTxRAdsUsed, [(0x01, .sBoTxRAdsUsedAd), (0x02, .sBoTxRAdsUsedAk), (0x04, .sBoTxRAdsUsedBl)]),
    (evSBoRingBounces, [(0x01, .sBoRingBouncesAdCache), (0x02, .sBoRingBouncesAkCore),
      (0x04, .sBoRingBouncesBlCore), (0x08, .sBoRingBouncesIvCore)]),
    (evSBoFastAsserted, [(0x00, .sBoFastAsserted)]),
    (evSBoBounceControl, [(0x00, .sBoBounceControl)]),
    (evSBoRxROccupancy, [(0x01, .sBoRxROccupancyAdCrd), (0x02, .sBoRxROccupancyAdBnc),
      (0x04, .sBoRxROccupancyBlCrd), (0x08, .sBoRxROccupancyBlBnc), (0x10, .sBoRxROccupancyAk),
      (0x20, .sBoRxROccupancyIv)]),
    (evSBoRxRBypass, [(0x01, .sBoRxRBypassAdCrd), (0x02, .sBoRxRBypassAdBnc), (0x04, .sBoRxRBypassBlCrd),
      (0x08, .sBoRxRBypassBlBnc), (0x10, .sBoRxRBypassAk), (0x20, .sBoRxRBypassIv)]),
    (evSBoRxRInserts, [(0x01, .sBoRxRInsertsAdCrd), (0x02, .sBoRxRInsertsAdBnc), (0x04, .sBoRxRInsertsBlCrd),
      (0x08, .sBoRxRInsertsBlBnc), (0x10, .sBoRxRInsertsAk), (0x20, .sBoRxRInsertsIv)]),
    (evSBoRingAdUsed, [(0x03, .sBoRingAdUsedUp), (0x0C, .sBoRingAdUsedDown), (0x01, .sBoRingAdUsedUpEven),
      (0x02, .sBoRingAdUsedUpOdd), (0x04, .sBoRingAdUsedDownEven), (0x08, .sBoRingAdUsedDownOdd)]),
    (evSBoRingAkUsed, [(0x03, .sBoRingAkUsedUp), (0x0C, .sBoRingAkUsedDown), (0x01, .sBoRingAkUsedUpEven),
      (0x02, .sBoRingAkUsedUpOdd), (0x04, .sBoRingAkUsedDownEven), (0x08, .sBoRingAkUsedDownOdd)]),
    (evSBoRingBlUsed, [(0x03, .sBoRingBlUsedUp), (0x0C, .sBoRingBlUsedDown), (0x01, .sBoRingBlUsedUpEven),
      (0x02, .sBoRingBlUsedUpOdd), (0x04, .sBoRingBlUsedDownEven), (0x08, .sBoRingBlUsedDownOdd)]),
    (evSBoRingIvUsed, [(0x03, .sBoRingIvUsedUp), (0x0C, .sBoRingIvUsedDn)])]
      : EventTable .sbo), ∀ r ∈ p.2, CountsRow .sbo r.2 p.1 r.1) ∧
  (∀ p ∈ ([
    (evHaClockticks, [(0x00, .haClockticks)]),
    (evHaRequests, [(0x03, .haRequestsReads), (0x0C, .haRequestsWrites), (0x01, .haRequestsReadsLocal),
      (0x02, .haRequestsReadsRemote), (0x04, .haRequestsWritesLocal), (0x08, .haRequestsWritesRemote),
      (0x10, .haRequestsInvitoeLocal), (0x20, .haRequestsInvitoeRemote)]),
    (evHaTrackerCyclesFull, [(0x01, .haTrackerCyclesFullGp), (0x02, .haTrackerCyclesFullAll)]),
    (evHaTrackerCyclesNe, [(0x03, .haTrackerCyclesNeAll), (0x01, .haTrackerCyclesNeLocal),
      (0x02, .haTrackerCyclesNeRemote)]),
    (evHaTrackerOccupancy, [(0x04, .haTrackerOccupancyReadsLocal), (0x08, .haTrackerOccupancyReadsRemote),
      (0x10, .haTrackerOccupancyWritesLocal), (0x20, .haTrackerOccupancyWritesRemote),
      (0x40, .haTrackerOccupancyInvitoeLocal), (0x80, .haTrackerOccupancyInvitoeRemote)]),
    (evHaTrackerPendingOccupancy, [(0x01, .haTrackerPendingOccupancyLocal),
      (0x02, .haTrackerPendingOccupancyRemote)]),
    (evHaSnoopCyclesNe, [(0x03, .haSnoopCyclesNeAll), (0x01, .haSnoopCyclesNeLocal),
      (0x02, .haSnoopCyclesNeRemote)]),
    (evHaSnoopOccupancy, [(0x01, .haSnoopOccupancyLocal), (0x02, .haSnoopOccupancyRemote)]),
    (evHaSnoopsRspAfterData, [(0x01, .haSnoopsRspAfterDataLocal), (0x02, .haSnoopsRspAfterDataRemote)]),
    (evHaConflictCycles, [(0x00, .haConflictCycles)]),
    (evHaDirectoryLookup, [(0x01, .haDirectoryLookupSnp), (0x02, .haDirectoryLookupNoSnp)]),
    (evHaDirectoryUpdate, [(0x03, .haDirectoryUpdateAny), (0x01, .haDirectoryUpdateSet),
      (0x02, .haDirectoryUpdateClear)]),
    (evHaTxRAk, [(0x00, .haTxRAk)]),
    (evHaTxRBl, [(0x01, .haTxRBlDrsCache), (0x02, .haTxRBlDrsCore), (0x04, .haTxRBlDrsQpi)]),
    (evHaDirect2coreCount, [(0x00, .haDirect2coreCount)]),
    (evHaDirect2coreCyclesDisabled, [(0x00, .haDirect2coreCyclesDisabled)]),
    (evHaDirect2coreTxnOverride, [(0x00, .haDirect2coreTxnOverride)]),
    (evHaBypassImc, [(0x01, .haBypassImcTaken), (0x02, .haBypassImcNotTaken)]),
    (evHaRpqCyclesNoRegCredits, [(0x01, .haRpqCyclesNoRegCreditsChn0), (0x02, .haRpqCyclesNoRegCreditsChn1),
      (0x04, .haRpqCyclesNoRegCreditsChn2), (0x08, .haRpqCyclesNoRegCreditsChn3)]),
    (evHaImcReads, [(0x01, .haImcReadsNormal)]),
    (evHaWpqCyclesNoRegCredits, [(0x01, .haWpqCyclesNoRegCreditsChn0), (0x02, .haWpqCyclesNoRegCreditsChn1),
      (0x04, .haWpqCyclesNoRegCreditsChn2), (0x08, .haWpqCyclesNoRegCreditsChn3)]),
    (evHaImcWrites, [(0x0F, .haImcWritesAll), (0x01, .haImcWritesFull), (0x02, .haImcWritesPartial),
      (0x04, .haImcWritesFullIsoch), (0x08, .haImcWritesPartialIsoch)]),
    (evHaTadRequestsG0, [(0x01, .haTadRequestsG0Region0), (0x02, .haTadRequestsG0Region1),
      (0x04, .haTadRequestsG0Region2), (0x08, .haTadRequestsG0Region3), (0x10, .haTadRequestsG0Region4),
      (0x20, .haTadRequestsG0Region5), (0x40, .haTadRequestsG0Region6), (0x80, .haTadRequestsG0Region7)]),
    (evHaTadRequestsG1, [(0x01, .haTadRequestsG1Region8), (0x02, .haTadRequestsG1Region9),
      (0x04, .haTadRequestsG1Region10), (0x08, .haTadRequestsG1Region11)]),
    (evHaImcRetry, [(0x00, .haImcRetry)]),
    (evHaAddrOpcMatch, [(0x03, .haAddrOpcMatchFilt), (0x01, .haAddrOpcMatchAddr), (0x02, .haAddrOpcMatchOpc),
      (0x04, .haAddrOpcMatchAd), (0x08, .haAddrOpcMatchBl), (0x10, .haAddrOpcMatchAk)]),
    (evHaSnoopResp, [(0x01, .haSnoopRespRspi), (0x02, .haSnoopRespRsps), (0x04, .haSnoopRespRspifwd),
      (0x08, .haSnoopRespRspsfwd), (0x10, .haSnoopRespRspWb), (0x20, .haSnoopRespRspFwdWb),
      (0x40, .haSnoopRespRspcnflct)]),
    (evHaIgrNoCreditCycles, [(0x01, .haIgrNoCreditCyclesAdQpi0), (0x02, .haIgrNoCreditCyclesAdQpi1),
      (0x04, .haIgrNoCreditCyclesBlQpi0), (0x08, .haIgrNoCreditCyclesBlQpi1), (0x10, .haIgrNoCreditCyclesAdQpi2),
      (0x20, .haIgrNoCreditCyclesBlQpi2)]),
    (evHaTxRAdCyclesFull, [(0x03, .haTxRAdCyclesFullAll), (0x01, .haTxRAdCyclesFullSched0),
      (0x02, .haTxRAdCyclesFullSched1)]),
    (evHaTxRAkCyclesFull, [(0x03, .haTxRAkCyclesFullAll), (0x01, .haTxRAkCyclesFullSched0),
      (0x02, .haTxRAkCyclesFullSched1)]),
    (evHaTxRBlOccupancy, [(0x00, .haTxRBlOccupancy)]),
    (evHaTxRBlCyclesFull, [(0x03, .haTxRBlCyclesFullAll), (0x01, .haTxRBlCyclesFullSched0),
      (0x02, .haTxRBlCyclesFullSched1)]),
    (evHaRingAdUsed, [(0x03, .haRingAdUsedCw), (0x0C, .haRingAdUsedCcw), (0x01, .haRingAdUsedCwEven),
      (0x02, .haRingAdUsedCwOdd), (0x04, .haRingAdUsedCcwEven), (0x08, .haRingAdUsedCcwOdd)]),
    (evHaRingAkUsed, [(0x03, .haRingAkUsedCw), (0x0C, .haRingAkUsedCcw), (0x01, .haRingAkUsedCwEven),
      (0x02, .haRingAkUsedCwOdd), (0x04, .haRingAkUsedCcwEven), (0x08, .haRingAkUsedCcwOdd)]),
    (evHaRingBlUsed, [(0x03, .haRingBlUsedCw), (0x0C, .haRingBlUsedCcw), (0x01, .haRingBlUsedCwEven),
      (0x02, .haRingBlUsedCwOdd), (0x04, .haRingBlUsedCcwEven), (0x08, .haRingBlUsedCcwOdd)]),
    (evHaDirectoryLatOpt, [(0x00, .haDirectoryLatOpt)]),
    (evHaBtCyclesNe, [(0x00, .haBtCyclesNe)]),
    (evHaBtOccupancy, [(0x00, .haBtOccupancy)]),
    (evHaOsb, [(0x02, .haOsbReadsLocal), (0x04, .haOsbInvitoeLocal), (0x08, .haOsbRemote), (0x10, .haOsbCancelled),
      (0x20, .haOsbReadsLocalUseful), (0x40, .haOsbRemoteUseful)]),
    (evHaOsbEdr, [(0x01, .haOsbEdrAll), (0x02, .haOsbEdrReadsLocalI), (0x04, .haOsbEdrReadsRemoteI),
      (0x08, .haOsbEdrReadsLocalS), (0x10, .haOsbEdrReadsRemoteS)]),
    (evHaSnpRespRecvLocal, [(0x01, .haSnpRespRecvLocalRspi), (0x02, .haSnpRespRecvLocalRsps),
      (0x04, .haSnpRespRecvLocalRspifwd), (0x08, .haSnpRespRecvLocalRspsfwd), (0x10, .haSnpRespRecvLocalRSPxWB),
      (0x20, .haSnpRespRecvLocalRSPxFWDxWB), (0x40, .haSnpRespRecvLocalRspcnflct),
      (0x80, .haSnpRespRecvLocalOther)]),
    (evHaSbo0CreditsAcquired, [(0x01, .haSbo0CreditsAcquiredAd), (0x02, .haSbo0CreditsAcquiredBl)]),
    (evHaSbo1CreditsAcquired, [(0x01, .haSbo1CreditsAcquiredAd), (0x02, .haSbo1CreditsAcquiredBl)]),
    (evHaSbo0CreditOccupancy, [(0x01, .haSbo0CreditOccupancyAd), (0x02, .haSbo0CreditOccupancyBl)]),
    (evHaSbo1CreditOccupancy, [(0x01, .haSbo1CreditOccupancyAd), (0x02, .haSbo1CreditOccupancyBl)]),
    (evHaStallNoSboCredit, [(0x01, .haStallNoSboCreditSbo0Ad), (0x02, .haStallNoSboCreditSbo1Ad),
      (0x04, .haStallNoSboCreditSbo0Bl), (0x08, .haStallNoSboCreditSb01Bl)]),
    (evHaTxRStarved, [(0x01, .haTxRStarvedAk), (0x02, .haTxRStarvedBl)]),
    (evHaHitmeLookup, [(0x0F, .haHitmeLookupHom), (0x26, .haHitmeLookupInvals), (0x70, .haHitmeLookupAllocs),
      (0xFF, .haHitmeLookupAll), (0x01, .haHitmeLookupReadOrInvitoe), (0x02, .haHitmeLookupWbmtoi),
      (0x04, .haHitmeLookupAckcnfltwbi), (0x08, .haHitmeLookupWbmtoeOrS), (0x10, .haHitmeLookupRspfwdiRemote),
      (0x20, .haHitmeLookupRspfwdiLocal), (0x40, .haHitmeLookupRspfwds), (0x80, .haHitmeLookupRsp)]),
    (evHaHitmeHit, [(0x0F, .haHitmeHitHom), (0x26, .haHitmeHitInvals), (0x42, .haHitmeHitEvicts),
      (0x70, .haHitmeHitAllocs), (0xFF, .haHitmeHitAll), (0x01, .haHitmeHitReadOrInvitoe),
      (0x02, .haHitmeHitWbmtoi), (0x04, .haHitmeHitAckcnfltwbi), (0x08, .haHitmeHitWbmtoeOrS),
      (0x10, .haHitmeHitRspfwdiRemote), (0x20, .haHitmeHitRspfwdiLocal), (0x40, .haHitmeHitRspfwds),
      (0x80, .haHitmeHitRsp)]),
    (evHaHitmeHitPvBitsSet, [(0x0F, .haHitmeHitPvBitsSetHom), (0xFF, .haHitmeHitPvBitsSetAll),
      (0x01, .haHitmeHitPvBitsSetReadOrInvitoe), (0x02, .haHitmeHitPvBitsSetWbmtoi),
      (0x04, .haHitmeHitPvBitsSetAckcnfltwbi), (0x08, .haHitmeHitPvBitsSetWbmtoeOrS),
      (0x10, .haHitmeHitPvBitsSetRspfwdiRemote), (0x20, .haHitmeHitPvBitsSetRspfwdiLocal),
      (0x40, .haHitmeHitPvBitsSetRspfwds), (0x80, .haHitmeHitPvBitsSetRsp)])]
      : EventTable .ha), ∀ r ∈ p.2, CountsRow .ha r.2 p.1 r.1) ∧
  (∀ p ∈ ([
    (evIrpClockticks, [(0x00, .irpClockticks)]),
    (evIrpRxRBlDrsInserts, [(0x00, .irpRxRBlDrsInserts)]),
    (evIrpRxRBlNcbInserts, [(0x00, .irpRxRBlNcbInserts)]),
    (evIrpRxRBlNcsInserts, [(0x00, .irpRxRBlNcsInserts)]),
    (evIrpRxRBlDrsCyclesFull, [(0x00, .irpRxRBlDrsCyclesFull)]),
    (evIrpRxRBlNcbCyclesFull, [(0x00, .irpRxRBlNcbCyclesFull)]),
    (evIrpRxRBlNcsCyclesFull, [(0x00, .irpRxRBlNcsCyclesFull)]),
    (evIrpRxRBlDrsOccupancy, [(0x00, .irpRxRBlDrsOccupancy)]),
    (evIrpRxRBlNcbOccupancy, [(0x00, .irpRxRBlNcbOccupancy)]),
    (evIrpRxRBlNcsOccupancy, [(0x00, .irpRxRBlNcsOccupancy)]),
    (evIrpRxRAkInserts, [(0x00, .irpRxRAkInserts)]),
    (evIrpTxRRequestOccupancy, [(0x00, .irpTxRRequestOccupancy)]),
    (evIrpTxRDataInsertsNcb, [(0x00, .irpTxRDataInsertsNcb)]),
    (evIrpTxRDataInsertsNcs, [(0x00, .irpTxRDataInsertsNcs)]),
    (evIrpCacheTotalOccupancy, [(0x01, .irpCacheTotalOccupancyAny), (0x02, .irpCacheTotalOccupancySource)]),
    (evIrpCoherentOps, [(0x01, .irpCoherentOpsPcirdcur), (0x02, .irpCoherentOpsCrd), (0x04, .irpCoherentOpsDrd),
      (0x08, .irpCoherentOpsRfo), (0x10, .irpCoherentOpsPcitom), (0x20, .irpCoherentOpsPcidcahint),
      (0x40, .irpCoherentOpsWbmtoi), (0x80, .irpCoherentOpsClflush)]),
    (evIrpMisc0, [(0x01, .irpMisc0FastReq), (0x02, .irpMisc0FastRej), (0x04, .irpMisc02ndRdInsert),
      (0x08, .irpMisc02ndWrInsert), (0x10, .irpMisc02ndAtomicInsert), (0x20, .irpMisc0FastXfer),
      (0x40, .irpMisc0PfAckHint), (0x80, .irpMisc0PfTimeout)]),
    (evIrpMisc1, [(0x01, .irpMisc1SlowI), (0x02, .irpMisc1SlowS), (0x04, .irpMisc1SlowE), (0x08, .irpMisc1SlowM),
      (0x10, .irpMisc1LostFwd), (0x20, .irpMisc1SecRcvdInvld), (0x40, .irpMisc1SecRcvdVld),
      (0x80, .irpMisc1DataThrottle)]),
    (evIrpTransactions, [(0x01, .irpTransactionsReads), (0x02, .irpTransactionsWrites),
      (0x04, .irpTransactionsRdPref), (0x08, .irpTransactionsWrPref), (0x10, .irpTransactionsAtomic),
      (0x20, .irpTransactionsOther), (0x40, .irpTransactionsOrderingq)]),
    (evIrpSnoopResp, [(0x01, .irpSnoopRespMiss), (0x02, .irpSnoopRespHitI), (0x04, .irpSnoopRespHitEs),
      (0x08, .irpSnoopRespHitM), (0x10, .irpSnoopRespSnpcode), (0x20, .irpSnoopRespSnpdata),
      (0x40, .irpSnoopRespSnpinv)]),
    (evIrpTxRAdStallCreditCycles, [(0x00, .irpTxRAdStallCreditCycles)]),
    (evIrpTxRBlStallCreditCycles, [(0x00, .irpTxRBlStallCreditCycles)])]
      : EventTable .irp), ∀ r ∈ p.2, CountsRow .irp r.2 p.1 r.1) ∧
  (∀ p ∈ ([
    (evPcuClockticks, [(0x00, .pcuClockticks)]),
    (evPcuFreqMaxLimitThermalCycles, [(0x00, .pcuFreqMaxLimitThermalCycles)]),
    (evPcuFreqMaxPowerCycles, [(0x00, .pcuFreqMaxPowerCycles)]),
    (evPcuFreqMaxOsCycles, [(0x00, .pcuFreqMaxOsCycles)]),
    (evPcuProchotInternalCycles, [(0x00, .pcuProchotInternalCycles)]),
    (evPcuProchotExternalCycles, [(0x00, .pcuProchotExternalCycles)]),
    (evPcuFreqBand0Cycles, [(0x00, .pcuFreqBand0Cycles)]),
    (evPcuFreqBand1Cycles, [(0x00, .pcuFreqBand1Cycles)]),
    (evPcuFreqBand2Cycles, [(0x00, .pcuFreqBand2Cycles)]),
    (evPcuFreqBand3Cycles, [(0x00, .pcuFreqBand3Cycles)]),
    (evPcuPkgResidencyC0Cycles, [(0x00, .pcuPkgResidencyC0Cycles)]),
    (evPcuPkgResidencyC2eCycles, [(0x00, .pcuPkgResidencyC2eCycles)]),
    (evPcuPkgResidencyC3Cycles, [(0x00, .pcuPkgResidencyC3Cycles)]),
    (evPcuPkgResidencyC6Cycles, [(0x00, .pcuPkgResidencyC6Cycles)]),
    (evPcuPkgResidencyC7Cycles, [(0x00, .pcuPkgResidencyC7Cycles)]),
    (evPcuMemoryPhaseSheddingCycles, [(0x00, .pcuMemoryPhaseSheddingCycles)]),
    (evPcuDemotionsCore0, [(0x00, .pcuDemotionsCore0)]),
    (evPcuDemotionsCore1, [(0x00, .pcuDemotionsCore1)]),
    (evPcuDemotionsCore2, [(0x00, .pcuDemotionsCore2)]),
    (evPcuDemotionsCore3, [(0x00, .pcuDemotionsCore3)]),
    (evPcuDemotionsCore4, [(0x00, .pcuDemotionsCore4)]),
    (evPcuDemotionsCore5, [(0x00, .pcuDemotionsCore5)]),
    (evPcuDemotionsCore6, [(0x00, .pcuDemotionsCore6)]),
    (evPcuDemotionsCore7, [(0x00, .pcuDemotionsCore7)]),
    (evPcuDemotionsCore8, [(0x00, .pcuDemotionsCore8)]),
    (evPcuDemotionsCore9, [(0x00, .pcuDemotionsCore9)]),
    (evPcuDemotionsCore10, [(0x00, .pcuDemotionsCore10)]),
    (evPcuDemotionsCore11, [(0x00, .pcuDemotionsCore11)]),
    (evPcuDemotionsCore12, [(0x00, .pcuDemotionsCore12)]),
    (evPcuDemotionsCore13, [(0x00, .pcuDemotionsCore13)]),
    (evPcuDemotionsCore14, [(0x00, .pcuDemotionsCore14)]),
    (evPcuDemotionsCore15, [(0x00, .pcuDemotionsCore15)]),
    (evPcuDemotionsCore16, [(0x00, .pcuDemotionsCore16)]),
    (evPcuDemotionsCore17, [(0x00, .pcuDemotionsCore17)]),
    (evPcuVrHotCycles, [(0x00, .pcuVrHotCycles)]),
    (evPcuPkgResidencyC1eCycles, [(0x00, .pcuPkgResidencyC1eCycles)]),
    (evPcuCore0TransitionCycles, [(0x00, .pcuCore0TransitionCycles)]),
    (evPcuCore1TransitionCycles, [(0x00, .pcuCore1TransitionCycles)]),
    (evPcuCore2TransitionCycles, [(0x00, .pcuCore2TransitionCycles)]),
    (evPcuCore3TransitionCycles, [(0x00, .pcuCore3TransitionCycles)]),
    (evPcuCore4TransitionCycles, [(0x00, .pcuCore4TransitionCycles)]),
    (evPcuCore5TransitionCycles, [(0x00, .pcuCore5TransitionCycles)]),
    (evPcuCore6TransitionCycles, [(0x00, .pcuCore6TransitionCycles)]),
    (evPcuCore7TransitionCycles, [(0x00, .pcuCore7TransitionCycles)]),
    (evPcuCore8TransitionCycles, [(0x00, .pcuCore8TransitionCycles)]),
    (evPcuCore9TransitionCycles, [(0x00, .pcuCore9TransitionCycles)]),
    (evPcuCore10TransitionCycles, [(0x00, .pcuCore10TransitionCycles)]),
    (evPcuCore11TransitionCycles, [(0x00, .pcuCore11TransitionCycles)]),
    (evPcuCore12TransitionCycles, [(0x00, .pcuCore12TransitionCycles)]),
    (evPcuCore13TransitionCycles, [(0x00, .pcuCore13TransitionCycles)]),
    (evPcuCore14TransitionCycles, [(0x00, .pcuCore14TransitionCycles)]),
    (evPcuCore15TransitionCycles, [(0x00, .pcuCore15TransitionCycles)]),
    (evPcuCore16TransitionCycles, [(0x00, .pcuCore16TransitionCycles)]),
    (evPcuCore17TransitionCycles, [(0x00, .pcuCore17TransitionCycles)]),
    (evPcuTotalTransitionCycles, [(0x00, .pcuTotalTransitionCycles)]),
    (evPcuFreqMinIoPCycles, [(0x00, .pcuFreqMinIoPCycles)]),
    (evPcuFreqTransCycles, [(0x00, .pcuFreqTransCycles)]),
    (evPcuUfsTransitionsRingGv, [(0x00, .pcuUfsTransitionsRingGv)]),
    (evPcuPowerStateOccupancy, [(0x40, .pcuPowerStateOccupancyCoresC0), (0x80, .pcuPowerStateOccupancyCoresC3),
      (0xC0, .pcuPowerStateOccupancyCoresC6)])]
      : EventTable .pcu), ∀ r ∈ p.2, CountsRow .pcu r.2 p.1 r.1) ∧
  (∀ p ∈ ([
    (evR2PCIeClockticks, [(0x00, .r2PCIeClockticks)]),
    (evR2PCIeRingAdUsed, [(0x03, .r2PCIeRingAdUsedCw), (0x0C, .r2PCIeRingAdUsedCcw),
      (0x01, .r2PCIeRingAdUsedCwEven), (0x02, .r2PCIeRingAdUsedCwOdd), (0x04, .r2PCIeRingAdUsedCcwEven),
      (0x08, .r2PCIeRingAdUsedCcwOdd)]),
    (evR2PCIeRingAkUsed, [(0x03, .r2PCIeRingAkUsedCw), (0x0C, .r2PCIeRingAkUsedCcw),
      (0x01, .r2PCIeRingAkUsedCwEven), (0x02, .r2PCIeRingAkUsedCwOdd), (0x04, .r2PCIeRingAkUsedCcwEven),
      (0x08, .r2PCIeRingAkUsedCcwOdd)]),
    (evR2PCIeRingBlUsed, [(0x03, .r2PCIeRingBlUsedCw), (0x0C, .r2PCIeRingBlUsedCcw),
      (0x01, .r2PCIeRingBlUsedCwEven), (0x02, .r2PCIeRingBlUsedCwOdd), (0x04, .r2PCIeRingBlUsedCcwEven),
      (0x08, .r2PCIeRingBlUsedCcwOdd)]),
    (evR2PCIeRingIvUsed, [(0x03, .r2PCIeRingIvUsedCw), (0x0C, .r2PCIeRingIvUsedCcw), (0x0F, .r2PCIeRingIvUsedAny)]),
    (evR2PCIeRxRCyclesNe, [(0x10, .r2PCIeRxRCyclesNeNcb), (0x20, .r2PCIeRxRCyclesNeNcs)]),
    (evR2PCIeRxRInserts, [(0x10, .r2PCIeRxRInsertsNcb), (0x20, .r2PCIeRxRInsertsNcs)]),
    (evR2PCIeRingAkBounces, [(0x01, .r2PCIeRingAkBouncesUp), (0x02, .r2PCIeRingAkBouncesDn)]),
    (evR2PCIeRxROccupancy, [(0x08, .r2PCIeRxROccupancyDrs)]),
    (evR2PCIeTxRNackCw, [(0x01, .r2PCIeTxRNackCwDnAd), (0x02, .r2PCIeTxRNackCwDnBl), (0x04, .r2PCIeTxRNackCwDnAk),
      (0x08, .r2PCIeTxRNackCwUpAd), (0x10, .r2PCIeTxRNackCwUpBl), (0x20, .r2PCIeTxRNackCwUpAk)]),
    (evR2PCIeSbo0CreditsAcquired, [(0x01, .r2PCIeSbo0CreditsAcquiredAd), (0x02, .r2PCIeSbo0CreditsAcquiredBl)]),
    (evR2PCIeStallNoSboCredit, [(0x01, .r2PCIeStallNoSboCreditSbo0Ad), (0x02, .r2PCIeStallNoSboCreditSbo1Ad),
      (0x04, .r2PCIeStallNoSboCreditSbo0Bl), (0x08, .r2PCIeStallNoSboCreditSbo1Bl)]),
    (evR2PCIeIioCredit, [(0x01, .r2PCIeIioCreditPrqQpi0), (0x02, .r2PCIeIioCreditPrqQpi1),
      (0x04, .r2PCIeIioCreditIsochQpi0), (0x08, .r2PCIeIioCreditIsochQpi1)])]
      : EventTable .r2), ∀ r ∈ p.2, CountsRow .r2 r.2 p.1 r.1) ∧
  (∀ p ∈ ([
    (evR3qpiClockticks, [(0x00, .r3qpiClockticks)]),
    (evR3qpiRingAdUsed, [(0x03, .r3qpiRingAdUsedCw), (0x0C, .r3qpiRingAdUsedCcw), (0x01, .r3qpiRingAdUsedCwEven),
      (0x02, .r3qpiRingAdUsedCwOdd), (0x04, .r3qpiRingAdUsedCcwEven), (0x08, .r3qpiRingAdUsedCcwOdd)]),
    (evR3qpiRingAkUsed, [(0x03, .r3qpiRingAkUsedCw), (0x0C, .r3qpiRingAkUsedCcw), (0x01, .r3qpiRingAkUsedCwEven),
      (0x02, .r3qpiRingAkUsedCwOdd), (0x04, .r3qpiRingAkUsedCcwEven), (0x08, .r3qpiRingAkUsedCcwOdd)]),
    (evR3qpiRingBlUsed, [(0x03, .r3qpiRingBlUsedCw), (0x0C, .r3qpiRingBlUsedCcw), (0x01, .r3qpiRingBlUsedCwEven),
      (0x02, .r3qpiRingBlUsedCwOdd), (0x04, .r3qpiRingBlUsedCcwEven), (0x08, .r3qpiRingBlUsedCcwOdd)]),
    (evR3qpiRingIvUsed, [(0x03, .r3qpiRingIvUsedCw), (0x0F, .r3qpiRingIvUsedAny)]),
    (evR3qpiRingSinkStarved, [(0x02, .r3qpiRingSinkStarvedAk)]),
    (evR3qpiRxRCyclesNe, [(0x01, .r3qpiRxRCyclesNeHom), (0x02, .r3qpiRxRCyclesNeSnp), (0x04, .r3qpiRxRCyclesNeNdr)]),
    (evR3qpiRxRInserts, [(0x01, .r3qpiRxRInsertsHom), (0x02, .r3qpiRxRInsertsSnp), (0x04, .r3qpiRxRInsertsNdr),
      (0x08, .r3qpiRxRInsertsDrs), (0x10, .r3qpiRxRInsertsNcb), (0x20, .r3qpiRxRInsertsNcs)]),
    (evR3qpiRxROccupancyVn1, [(0x01, .r3qpiRxROccupancyVn1Hom), (0x02, .r3qpiRxROccupancyVn1Snp),
      (0x04, .r3qpiRxROccupancyVn1Ndr), (0x08, .r3qpiRxROccupancyVn1Drs), (0x10, .r3qpiRxROccupancyVn1Ncb),
      (0x20, .r3qpiRxROccupancyVn1Ncs)]),
    (evR3qpiRxRCyclesNeVn1, [(0x01, .r3qpiRxRCyclesNeVn1Hom), (0x02, .r3qpiRxRCyclesNeVn1Snp),
      (0x04, .r3qpiRxRCyclesNeVn1Ndr), (0x08, .r3qpiRxRCyclesNeVn1Drs), (0x10, .r3qpiRxRCyclesNeVn1Ncb),
      (0x20, .r3qpiRxRCyclesNeVn1Ncs)]),
    (evR3qpiRxRInsertsVn1, [(0x01, .r3qpiRxRInsertsVn1Hom), (0x02, .r3qpiRxRInsertsVn1Snp),
      (0x04, .r3qpiRxRInsertsVn1Ndr), (0x08, .r3qpiRxRInsertsVn1Drs), (0x10, .r3qpiRxRInsertsVn1Ncb),
      (0x20, .r3qpiRxRInsertsVn1Ncs)]),
    (evR3qpiCHiAdCreditsEmpty, [(0x01, .r3qpiCHiAdCreditsEmptyCbo8), (0x02, .r3qpiCHiAdCreditsEmptyCb09),
      (0x04, .r3qpiCHiAdCreditsEmptyCbo10), (0x08, .r3qpiCHiAdCreditsEmptyCb011),
      (0x10, .r3qpiCHiAdCreditsEmptyCbo12), (0x20, .r3qpiCHiAdCreditsEmptyCbo13),
      (0x40, .r3qpiCHiAdCreditsEmptyCbo1416), (0x80, .r3qpiCHiAdCreditsEmptyCbo1517)]),
    (evR3qpiQpi0AdCreditsEmpty, [(0x01, .r3qpiQpi0AdCreditsEmptyVna), (0x02, .r3qpiQpi0AdCreditsEmptyVn0Hom),
      (0x04, .r3qpiQpi0AdCreditsEmptyVn0Snp), (0x08, .r3qpiQpi0AdCreditsEmptyVn0Ndr),
      (0x10, .r3qpiQpi0AdCreditsEmptyVn1Hom), (0x20, .r3qpiQpi0AdCreditsEmptyVn1Snp),
      (0x40, .r3qpiQpi0AdCreditsEmptyVn1Ndr)]),
    (evR3qpiQpi0BlCreditsEmpty, [(0x01, .r3qpiQpi0BlCreditsEmptyVna), (0x10, .r3qpiQpi0BlCreditsEmptyVn1Hom),
      (0x20, .r3qpiQpi0BlCreditsEmptyVn1Snp), (0x40, .r3qpiQpi0BlCreditsEmptyVn1Ndr)]),
    (evR3qpiCLoAdCreditsEmpty, [(0x01, .r3qpiCLoAdCreditsEmptyCbo0), (0x02, .r3qpiCLoAdCreditsEmptyCbo1),
      (0x04, .r3qpiCLoAdCreditsEmptyCbo2), (0x08, .r3qpiCLoAdCreditsEmptyCbo3),
      (0x10, .r3qpiCLoAdCreditsEmptyCb04), (0x20, .r3qpiCLoAdCreditsEmptyCb05),
      (0x40, .r3qpiCLoAdCreditsEmptyCb06), (0x80, .r3qpiCLoAdCreditsEmptyCb07)]),
    (evR3qpiTxRNack, [(0x01, .r3qpiTxRNackDnAd), (0x02, .r3qpiTxRNackDnBl), (0x04, .r3qpiTxRNackDnAk),
      (0x08, .r3qpiTxRNackUpAd), (0x10, .r3qpiTxRNackUpBl), (0x20, .r3qpiTxRNackUpAk)]),
    (evR3qpiSbo0CreditsAcquired, [(0x01, .r3qpiSbo0CreditsAcquiredAd), (0x02, .r3qpiSbo0CreditsAcquiredBl)]),
    (evR3qpiSbo1CreditsAcquired, [(0x01, .r3qpiSbo1CreditsAcquiredAd), (0x02, .r3qpiSbo1CreditsAcquiredBl)]),
    (evR3qpiStallNoSboCredit, [(0x01, .r3qpiStallNoSboCreditSbo0Ad), (0x02, .r3qpiStallNoSboCreditSbo1Ad),
      (0x04, .r3qpiStallNoSboCreditSbo0Bl), (0x08, .r3qpiStallNoSboCreditSbo1Bl)]),
    (evR3qpiHaR2BlCreditsEmpty, [(0x01, .r3qpiHaR2BlCreditsEmptyHa0), (0x02, .r3qpiHaR2BlCreditsEmptyHa1),
      (0x04, .r3qpiHaR2BlCreditsEmptyR2Ncb), (0x08, .r3qpiHaR2BlCreditsEmptyR2Ncs)]),
    (evR3qpiQpi1AdCreditsEmpty, [(0x01, .r3qpiQpi1AdCreditsEmptyVna), (0x10, .r3qpiQpi1AdCreditsEmptyVn1Hom),
      (0x20, .r3qpiQpi1AdCreditsEmptyVn1Snp), (0x40, .r3qpiQpi1AdCreditsEmptyVn1Ndr)]),
    (evR3qpiQpi1BlCreditsEmpty, [(0x01, .r3qpiQpi1BlCreditsEmptyVna), (0x02, .r3qpiQpi1BlCreditsEmptyVn0Hom),
      (0x04, .r3qpiQpi1BlCreditsEmptyVn0Snp), (0x08, .r3qpiQpi1BlCreditsEmptyVn0Ndr),
      (0x10, .r3qpiQpi1BlCreditsEmptyVn1Hom), (0x20, .r3qpiQpi1BlCreditsEmptyVn1Snp),
      (0x40, .r3qpiQpi1BlCreditsEmptyVn1Ndr)]),
    (evR3qpiVnaCreditsAcquired, [(0x01, .r3qpiVnaCreditsAcquiredAd), (0x04, .r3qpiVnaCreditsAcquiredBl)]),
    (evR3qpiVnaCreditsReject, [(0x01, .r3qpiVnaCreditsRejectHom), (0x02, .r3qpiVnaCreditsRejectSnp),
      (0x04, .r3qpiVnaCreditsRejectNdr), (0x08, .r3qpiVnaCreditsRejectDrs), (0x10, .r3qpiVnaCreditsRejectNcb),
      (0x20, .r3qpiVnaCreditsRejectNcs)]),
    (evR3qpiVn0CreditsUsed, [(0x01, .r3qpiVn0CreditsUsedHom), (0x02, .r3qpiVn0CreditsUsedSnp),
      (0x04, .r3qpiVn0CreditsUsedNdr), (0x08, .r3qpiVn0CreditsUsedDrs), (0x10, .r3qpiVn0CreditsUsedNcb),
      (0x20, .r3qpiVn0CreditsUsedNcs)]),
    (evR3qpiVn0CreditsReject, [(0x01, .r3qpiVn0CreditsRejectHom), (0x02, .r3qpiVn0CreditsRejectSnp),
      (0x04, .r3qpiVn0CreditsRejectNdr), (0x08, .r3qpiVn0CreditsRejectDrs), (0x10, .r3qpiVn0CreditsRejectNcb),
      (0x20, .r3qpiVn0CreditsRejectNcs)]),
    (evR3qpiVn1CreditsUsed, [(0x01, .r3qpiVn1CreditsUsedHom), (0x02, .r3qpiVn1CreditsUsedSnp),
      (0x04, .r3qpiVn1CreditsUsedNdr), (0x08, .r3qpiVn1CreditsUsedDrs), (0x10, .r3qpiVn1CreditsUsedNcb),
      (0x20, .r3qpiVn1CreditsUsedNcs)]),
    (evR3qpiVn1CreditsReject, [(0x01, .r3qpiVn1CreditsRejectHom), (0x02, .r3qpiVn1CreditsRejectSnp),
      (0x04, .r3qpiVn1CreditsRejectNdr), (0x08, .r3qpiVn1CreditsRejectDrs), (0x10, .r3qpiVn1CreditsRejectNcb),
      (0x20, .r3qpiVn1CreditsRejectNcs)])]
      : EventTable .r3), ∀ r ∈ p.2, CountsRow .r3 r.2 p.1 r.1)

/-- Every event row of the CBo, the IMC and the QPI by name, with its event and its unit mask row (30_encoding.md R173,
R176, R179): it completes in every state with every operand, inside the frame of a count step, and a counter that
counts with thresh = 0 adds that event's raw increment (40_global_ubox.md R212, R215; on a CBo's counters 1 to 3 see
`CboCounterSpreads`). -/
def Obligations.CacheMemoryAndLinkRowsComplete : Prop :=
  (∀ p ∈ ([
    (evCBoClockticks, [(0x00, .cBoClockticks)]),
    (evCBoTxRInserts, [(0x01, .cBoTxRInsertsAdCache), (0x02, .cBoTxRInsertsAkCache), (0x04, .cBoTxRInsertsBlCache),
      (0x08, .cBoTxRInsertsIvCache), (0x10, .cBoTxRInsertsAdCore), (0x20, .cBoTxRInsertsAkCore),
      (0x40, .cBoTxRInsertsBlCore)]),
    (evCBoTxRAdsUsed, [(0x01, .cBoTxRAdsUsedAd), (0x02, .cBoTxRAdsUsedAk), (0x04, .cBoTxRAdsUsedBl)]),
    (evCBoRingBounces, [(0x01, .cBoRingBouncesAd), (0x02, .cBoRingBouncesAk), (0x04, .cBoRingBouncesBl),
      (0x10, .cBoRingBouncesIv)]),
    (evCBoRingSrcThrtl, [(0x00, .cBoRingSrcThrtl)]),
    (evCBoFastAsserted, [(0x00, .cBoFastAsserted)]),
    (evCBoBounceControl, [(0x00, .cBoBounceControl)]),
    (evCBoRxROccupancy, [(0x01, .cBoRxROccupancyIrq), (0x02, .cBoRxROccupancyIrqRej), (0x04, .cBoRxROccupancyIpq),
      (0x20, .cBoRxROccupancyPrqRej)]),
    (evCBoRxRExtStarved, [(0x01, .cBoRxRExtStarvedIrq), (0x02, .cBoRxRExtStarvedIpq), (0x04, .cBoRxRExtStarvedPrq),
      (0x08, .cBoRxRExtStarvedIsmqBids)]),
    (evCBoRxRInserts, [(0x01, .cBoRxRInsertsIrq), (0x02, .cBoRxRInsertsIrqRej), (0x04, .cBoRxRInsertsIpq),
      (0x10, .cBoRxRInsertsPrq), (0x20, .cBoRxRInsertsPrqRej)]),
    (evCBoRingAdUsed, [(0x03, .cBoRingAdUsedUp), (0x0C, .cBoRingAdUsedDown), (0x0F, .cBoRingAdUsedAll),
      (0x01, .cBoRingAdUsedUpEven), (0x02, .cBoRingAdUsedUpOdd), (0x04, .cBoRingAdUsedDownEven),
      (0x08, .cBoRingAdUsedDownOdd)]),
    (evCBoRingAkUsed, [(0x03, .cBoRingAkUsedUp), (0x0C, .cBoRingAkUsedDown), (0x0F, .cBoRingAkUsedAll),
      (0x01, .cBoRingAkUsedUpEven), (0x02, .cBoRingAkUsedUpOdd), (0x04, .cBoRingAkUsedDownEven),
      (0x08, .cBoRingAkUsedDownOdd)]),
    (evCBoRingBlUsed, [(0x03, .cBoRingBlUsedUp), (0x0C, .cBoRingBlUsedDown), (0x0F, .cBoRingBlUsedAll),
      (0x01, .cBoRingBlUsedUpEven), (0x02, .cBoRingBlUsedUpOdd), (0x04, .cBoRingBlUsedDownEven),
      (0x08, .cBoRingBlUsedDownOdd)]),
    (evCBoRingIvUsed, [(0x03, .cBoRingIvUsedUp), (0x0C, .cBoRingIvUsedDn), (0x0F, .cBoRingIvUsedAny),
      (0xCC, .cBoRingIvUsedDown)]),
    (evCBoCounter0Occupancy, [(0x00, .cBoCounter0Occupancy)]),
    (evCBoRxRIpqRetry2, [(0x01, .cBoRxRIpqRetry2AdSbo), (0x40, .cBoRxRIpqRetry2Target)]),
    (evCBoRxRIrqRetry2, [(0x01, .cBoRxRIrqRetry2AdSbo), (0x02, .cBoRxRIrqRetry2BlSbo),
      (0x40, .cBoRxRIrqRetry2Target)]),
    (evCBoRxRIsmqRetry2, [(0x01, .cBoRxRIsmqRetry2AdSbo), (0x02, .cBoRxRIsmqRetry2BlSbo),
      (0x40, .cBoRxRIsmqRetry2Target)]),
    (evCBoRxRIpqRetry, [(0x01, .cBoRxRIpqRetryAny), (0x02, .cBoRxRIpqRetryFull),
      (0x04, .cBoRxRIpqRetryAddrConflict), (0x10, .cBoRxRIpqRetryQpiCredits)]),
    (evCBoRxRIrqRetry, [(0x01, .cBoRxRIrqRetryAny), (0x02, .cBoRxRIrqRetryFull),
      (0x04, .cBoRxRIrqRetryAddrConflict), (0x08, .cBoRxRIrqRetryRtid), (0x10, .cBoRxRIrqRetryQpiCredits),
      (0x20, .cBoRxRIrqRetryIioCredits), (0x40, .cBoRxRIrqRetryNid)]),
    (evCBoRxRIsmqRetry, [(0x01, .cBoRxRIsmqRetryAny), (0x02, .cBoRxRIsmqRetryFull), (0x08, .cBoRxRIsmqRetryRtid),
      (0x10, .cBoRxRIsmqRetryQpiCredits), (0x20, .cBoRxRIsmqRetryIioCredits), (0x40, .cBoRxRIsmqRetryNid),
      (0x80, .cBoRxRIsmqRetryWbCredits)]),
    (evCBoLlcLookup, [(0x03, .cBoLlcLookupDataRead), (0x05, .cBoLlcLookupWrite), (0x09, .cBoLlcLookupRemoteSnoop),
      (0x11, .cBoLlcLookupAny), (0x21, .cBoLlcLookupRead), (0x41, .cBoLlcLookupNid)]),
    (evCBoTorInserts, [(0x01, .cBoTorInsertsOpcode), (0x03, .cBoTorInsertsMissOpcode),
      (0x04, .cBoTorInsertsEviction), (0x08, .cBoTorInsertsAll), (0x10, .cBoTorInsertsWb),
      (0x21, .cBoTorInsertsLocalOpcode), (0x23, .cBoTorInsertsMissLocalOpcode), (0x28, .cBoTorInsertsLocal),
      (0x2A, .cBoTorInsertsMissLocal), (0x41, .cBoTorInsertsNidOpcode), (0x43, .cBoTorInsertsNidMissOpcode),
      (0x44, .cBoTorInsertsNidEviction), (0x48, .cBoTorInsertsNidAll), (0x4A, .cBoTorInsertsNidMissAll),
      (0x50, .cBoTorInsertsNidWb), (0x81, .cBoTorInsertsRemoteOpcode), (0x83, .cBoTorInsertsMissRemoteOpcode),
      (0x88, .cBoTorInsertsRemote), (0x8A, .cBoTorInsertsMissRemote)]),
    (evCBoTorOccupancy, [(0x01, .cBoTorOccupancyOpcode), (0x03, .cBoTorOccupancyMissOpcode),
      (0x04, .cBoTorOccupancyEviction), (0x08, .cBoTorOccupancyAll), (0x0A, .cBoTorOccupancyMissAll),
      (0x10, .cBoTorOccupancyWb), (0x21, .cBoTorOccupancyLocalOpcode), (0x23, .cBoTorOccupancyMissLocalOpcode),
      (0x28, .cBoTorOccupancyLocal), (0x2A, .cBoTorOccupancyMissLocal), (0x41, .cBoTorOccupancyNidOpcode),
      (0x43, .cBoTorOccupancyNidMissOpcode), (0x44, .cBoTorOccupancyNidEviction), (0x48, .cBoTorOccupancyNidAll),
      (0x4A, .cBoTorOccupancyNidMissAll), (0x50, .cBoTorOccupancyNidWb), (0x81, .cBoTorOccupancyRemoteOpcode),
      (0x83, .cBoTorOccupancyMissRemoteOpcode), (0x88, .cBoTorOccupancyRemote),
      (0x8A, .cBoTorOccupancyMissRemote)]),
    (evCBoLlcVictims, [(0x01, .cBoLlcVictimsMState), (0x02, .cBoLlcVictimsEState), (0x04, .cBoLlcVictimsIState),
      (0x08, .cBoLlcVictimsFState), (0x10, .cBoLlcVictimsMiss), (0x40, .cBoLlcVictimsNid)]),
    (evCBoMisc, [(0x01, .cBoMiscRspiWasFse), (0x02, .cBoMiscWcAliasing), (0x04, .cBoMiscStarted),
      (0x08, .cBoMiscRfoHitS), (0x10, .cBoMiscCvzeroPrefetchVictim), (0x20, .cBoMiscCvzeroPrefetchMiss)]),
    (evCBoSboCreditsAcquired, [(0x01, .cBoSboCreditsAcquiredAd), (0x02, .cBoSboCreditsAcquiredBl)]),
    (evCBoSboCreditOccupancy, [(0x01, .cBoSboCreditOccupancyAd), (0x02, .cBoSboCreditOccupancyBl)])]
      : EventTable .cbo), ∀ r ∈ p.2, CountsRow .cbo r.2 p.1 r.1) ∧
  (∀ p ∈ ([
    (evImcDclockticks, [(0x00, .imcDclockticks)]),
    (evImcActCount, [(0x01, .imcActCountRd), (0x02, .imcActCountWr), (0x08, .imcActCountByp)]),
    (evImcPreCount, [(0x01, .imcPreCountPageMiss), (0x02, .imcPreCountPageClose), (0x04, .imcPreCountRd),
      (0x08, .imcPreCountWr), (0x10, .imcPreCountByp)]),
    (evImcCasCount, [(0x03, .imcCasCountRd), (0x0C, .imcCasCountWr), (0x0F, .imcCasCountAll),
      (0x01, .imcCasCountRdReg), (0x02, .imcCasCountRdUnderfill), (0x04, .imcCasCountWrWmm),
      (0x08, .imcCasCountWrRmm), (0x10, .imcCasCountRdWmm), (0x20, .imcCasCountRdRmm)]),
    (evImcDramRefresh, [(0x02, .imcDramRefreshPanic), (0x04, .imcDramRefreshHigh)]),
    (evImcDramPreAll, [(0x00, .imcDramPreAll)]),
    (evImcMajorModes, [(0x01, .imcMajorModesRead), (0x02, .imcMajorModesWrite), (0x04, .imcMajorModesPartial),
      (0x08, .imcMajorModesIsoch)]),
    (evImcPreemption, [(0x01, .imcPreemptionRdPreemptRd), (0x02, .imcPreemptionRdPreemptWr)]),
    (evImcEccCorrectableErrors, [(0x00, .imcEccCorrectableErrors)]),
    (evImcRpqInserts, [(0x00, .imcRpqInserts)]),
    (evImcRpqCyclesNe, [(0x00, .imcRpqCyclesNe)]),
    (evImcWpqCyclesNe, [(0x00, .imcWpqCyclesNe)]),
    (evImcWpqCyclesFull, [(0x00, .imcWpqCyclesFull)]),
    (evImcWpqReadHit, [(0x00, .imcWpqReadHit)]),
    (evImcWpqWriteHit, [(0x00, .imcWpqWriteHit)]),
    (evImcPowerThrottleCycles, [(0x01, .imcPowerThrottleCyclesRank0), (0x02, .imcPowerThrottleCyclesRank1),
      (0x04, .imcPowerThrottleCyclesRank2), (0x08, .imcPowerThrottleCyclesRank3),
      (0x10, .imcPowerThrottleCyclesRank4), (0x20, .imcPowerThrottleCyclesRank5),
      (0x40, .imcPowerThrottleCyclesRank6), (0x80, .imcPowerThrottleCyclesRank7)]),
    (evImcPowerPcuThrottling, [(0x00, .imcPowerPcuThrottling)]),
    (evImcPowerSelfRefresh, [(0x00, .imcPowerSelfRefresh)]),
    (evImcPowerCkeCycles, [(0x01, .imcPowerCkeCyclesRank0), (0x02, .imcPowerCkeCyclesRank1),
      (0x04, .imcPowerCkeCyclesRank2), (0x08, .imcPowerCkeCyclesRank3), (0x10, .imcPowerCkeCyclesRank4),
      (0x20, .imcPowerCkeCyclesRank5), (0x40, .imcPowerCkeCyclesRank6), (0x80, .imcPowerCkeCyclesRank7)]),
    (evImcPowerChannelDlloff, [(0x00, .imcPowerChannelDlloff)]),
    (evImcPowerChannelPpd, [(0x00, .imcPowerChannelPpd)]),
    (evImcPowerCriticalThrottleCycles, [(0x00, .imcPowerCriticalThrottleCycles)]),
    (evImcVmseWrPush, [(0x01, .imcVmseWrPushWmm), (0x02, .imcVmseWrPushRmm)]),
    (evImcVmseMxbWrOccupancy, [(0x00, .imcVmseMxbWrOccupancy)]),
    (evImcRdCasPrio, [(0x01, .imcRdCasPrioLow), (0x02, .imcRdCasPrioMed), (0x04, .imcRdCasPrioHigh),
      (0x08, .imcRdCasPrioPanic)]),
    (evImcBypCmds, [(0x01, .imcBypCmdsAct), (0x02, .imcBypCmdsCas), (0x04, .imcBypCmdsPre)]),
    (evImcRdCasRank0, [(0x00, .imcRdCasRank0Bank0), (0x01, .imcRdCasRank0Bank1), (0x02, .imcRdCasRank0Bank2),
      (0x03, .imcRdCasRank0Bank3), (0x04, .imcRdCasRank0Bank4), (0x05, .imcRdCasRank0Bank5),
      (0x06, .imcRdCasRank0Bank6), (0x07, .imcRdCasRank0Bank7), (0x08, .imcRdCasRank0Bank8),
      (0x09, .imcRdCasRank0Bank9), (0x0A, .imcRdCasRank0Bank10), (0x0B, .imcRdCasRank0Bank11),
      (0x0C, .imcRdCasRank0Bank12), (0x0D, .imcRdCasRank0Bank13), (0x0E, .imcRdCasRank0Bank14),
      (0x0F, .imcRdCasRank0Bank15), (0x10, .imcRdCasRank0Allbanks), (0x11, .imcRdCasRank0Bankg0),
      (0x12, .imcRdCasRank0Bankg1), (0x13, .imcRdCasRank0Bankg2), (0x14, .imcRdCasRank0Bankg3)]),
    (evImcRdCasRank1, [(0x00, .imcRdCasRank1Bank0), (0x01, .imcRdCasRank1Bank1), (0x02, .imcRdCasRank1Bank2),
      (0x03, .imcRdCasRank1Bank3), (0x04, .imcRdCasRank1Bank4), (0x05, .imcRdCasRank1Bank5),
      (0x06, .imcRdCasRank1Bank6), (0x07, .imcRdCasRank1Bank7), (0x08, .imcRdCasRank1Bank8),
      (0x09, .imcRdCasRank1Bank9), (0x0A, .imcRdCasRank1Bank10), (0x0B, .imcRdCasRank1Bank11),
      (0x0C, .imcRdCasRank1Bank12), (0x0D, .imcRdCasRank1Bank13), (0x0E, .imcRdCasRank1Bank14),
      (0x0F, .imcRdCasRank1Bank15), (0x10, .imcRdCasRank1Allbanks), (0x11, .imcRdCasRank1Bankg0),
      (0x12, .imcRdCasRank1Bankg1), (0x13, .imcRdCasRank1Bankg2), (0x14, .imcRdCasRank1Bankg3)]),
    (evImcRdCasRank2, [(0x00, .imcRdCasRank2Bank0)]),
    (evImcRdCasRank4, [(0x00, .imcRdCasRank4Bank0), (0x01, .imcRdCasRank4Bank1), (0x02, .imcRdCasRank4Bank2),
      (0x03, .imcRdCasRank4Bank3), (0x04, .imcRdCasRank4Bank4), (0x05, .imcRdCasRank4Bank5),
      (0x06, .imcRdCasRank4Bank6), (0x07, .imcRdCasRank4Bank7), (0x08, .imcRdCasRank4Bank8),
      (0x09, .imcRdCasRank4Bank9), (0x0A, .imcRdCasRank4Bank10), (0x0B, .imcRdCasRank4Bank11),
      (0x0C, .imcRdCasRank4Bank12), (0x0D, .imcRdCasRank4Bank13), (0x0E, .imcRdCasRank4Bank14),
      (0x0F, .imcRdCasRank4Bank15), (0x10, .imcRdCasRank4Allbanks), (0x11, .imcRdCasRank4Bankg0),
      (0x12, .imcRdCasRank4Bankg1), (0x13, .imcRdCasRank4Bankg2), (0x14, .imcRdCasRank4Bankg3)]),
    (evImcRdCasRank5, [(0x00, .imcRdCasRank5Bank0), (0x01, .imcRdCasRank5Bank1), (0x02, .imcRdCasRank5Bank2),
      (0x03, .imcRdCasRank5Bank3), (0x04, .imcRdCasRank5Bank4), (0x05, .imcRdCasRank5Bank5),
      (0x06, .imcRdCasRank5Bank6), (0x07, .imcRdCasRank5Bank7), (0x08, .imcRdCasRank5Bank8),
      (0x09, .imcRdCasRank5Bank9), (0x0A, .imcRdCasRank5Bank10), (0x0B, .imcRdCasRank5Bank11),
      (0x0C, .imcRdCasRank5Bank12), (0x0D, .imcRdCasRank5Bank13), (0x0E, .imcRdCasRank5Bank14),
      (0x0F, .imcRdCasRank5Bank15), (0x10, .imcRdCasRank5Allbanks), (0x11, .imcRdCasRank5Bankg0),
      (0x12, .imcRdCasRank5Bankg1), (0x13, .imcRdCasRank5Bankg2), (0x14, .imcRdCasRank5Bankg3)]),
    (evImcRdCasRank6, [(0x00, .imcRdCasRank6Bank0), (0x01, .imcRdCasRank6Bank1), (0x02, .imcRdCasRank6Bank2),
      (0x03, .imcRdCasRank6Bank3), (0x04, .imcRdCasRank6Bank4), (0x05, .imcRdCasRank6Bank5),
      (0x06, .imcRdCasRank6Bank6), (0x07, .imcRdCasRank6Bank7), (0x08, .imcRdCasRank6Bank8),
      (0x09, .imcRdCasRank6Bank9), (0x0A, .imcRdCasRank6Bank10), (0x0B, .imcRdCasRank6Bank11),
      (0x0C, .imcRdCasRank6Bank12), (0x0D, .imcRdCasRank6Bank13), (0x0E, .imcRdCasRank6Bank14),
      (0x0F, .imcRdCasRank6Bank15), (0x10, .imcRdCasRank6Allbanks), (0x11, .imcRdCasRank6Bankg0),
      (0x12, .imcRdCasRank6Bankg1), (0x13, .imcRdCasRank6Bankg2), (0x14, .imcRdCasRank6Bankg3)]),
    (evImcRdCasRank7, [(0x00, .imcRdCasRank7Bank0), (0x01, .imcRdCasRank7Bank1), (0x02, .imcRdCasRank7Bank2),
      (0x03, .imcRdCasRank7Bank3), (0x04, .imcRdCasRank7Bank4), (0x05, .imcRdCasRank7Bank5),
      (0x06, .imcRdCasRank7Bank6), (0x07, .imcRdCasRank7Bank7), (0x08, .imcRdCasRank7Bank8),
      (0x09, .imcRdCasRank7Bank9), (0x0A, .imcRdCasRank7Bank10), (0x0B, .imcRdCasRank7Bank11),
      (0x0C, .imcRdCasRank7Bank12), (0x0D, .imcRdCasRank7Bank13), (0x0E, .imcRdCasRank7Bank14),
      (0x0F, .imcRdCasRank7Bank15), (0x10, .imcRdCasRank7Allbanks), (0x11, .imcRdCasRank7Bankg0),
      (0x12, .imcRdCasRank7Bankg1), (0x13, .imcRdCasRank7Bankg2), (0x14, .imcRdCasRank7Bankg3)]),
    (evImcWrCasRank0, [(0x00, .imcWrCasRank0Bank0), (0x01, .imcWrCasRank0Bank1), (0x02, .imcWrCasRank0Bank2),
      (0x03, .imcWrCasRank0Bank3), (0x04, .imcWrCasRank0Bank4), (0x05, .imcWrCasRank0Bank5),
      (0x06, .imcWrCasRank0Bank6), (0x07, .imcWrCasRank0Bank7), (0x08, .imcWrCasRank0Bank8),
      (0x09, .imcWrCasRank0Bank9), (0x0A, .imcWrCasRank0Bank10), (0x0B, .imcWrCasRank0Bank11),
      (0x0C, .imcWrCasRank0Bank12), (0x0D, .imcWrCasRank0Bank13), (0x0E, .imcWrCasRank0Bank14),
      (0x0F, .imcWrCasRank0Bank15), (0x10, .imcWrCasRank0Allbanks), (0x11, .imcWrCasRank0Bankg0),
      (0x12, .imcWrCasRank0Bankg1), (0x13, .imcWrCasRank0Bankg2), (0x14, .imcWrCasRank0Bankg3)]),
    (evImcWrCasRank1, [(0x00, .imcWrCasRank1Bank0), (0x01, .imcWrCasRank1Bank1), (0x02, .imcWrCasRank1Bank2),
      (0x03, .imcWrCasRank1Bank3), (0x04, .imcWrCasRank1Bank4), (0x05, .imcWrCasRank1Bank5),
      (0x06, .imcWrCasRank1Bank6), (0x07, .imcWrCasRank1Bank7), (0x08, .imcWrCasRank1Bank8),
      (0x09, .imcWrCasRank1Bank9), (0x0A, .imcWrCasRank1Bank10), (0x0B, .imcWrCasRank1Bank11),
      (0x0C, .imcWrCasRank1Bank12), (0x0D, .imcWrCasRank1Bank13), (0x0E, .imcWrCasRank1Bank14),
      (0x0F, .imcWrCasRank1Bank15), (0x10, .imcWrCasRank1Allbanks), (0x11, .imcWrCasRank1Bankg0),
      (0x12, .imcWrCasRank1Bankg1), (0x13, .imcWrCasRank1Bankg2), (0x14, .imcWrCasRank1Bankg3)]),
    (evImcWrCasRank2, [(0x00, .imcWrCasRank2)]),
    (evImcWrCasRank3, [(0x00, .imcWrCasRank3)]),
    (evImcWrCasRank4, [(0x00, .imcWrCasRank4Bank0), (0x01, .imcWrCasRank4Bank1), (0x02, .imcWrCasRank4Bank2),
      (0x03, .imcWrCasRank4Bank3), (0x04, .imcWrCasRank4Bank4), (0x05, .imcWrCasRank4Bank5),
      (0x06, .imcWrCasRank4Bank6), (0x07, .imcWrCasRank4Bank7), (0x08, .imcWrCasRank4Bank8),
      (0x09, .imcWrCasRank4Bank9), (0x0A, .imcWrCasRank4Bank10), (0x0B, .imcWrCasRank4Bank11),
      (0x0C, .imcWrCasRank4Bank12), (0x0D, .imcWrCasRank4Bank13), (0x0E, .imcWrCasRank4Bank14),
      (0x0F, .imcWrCasRank4Bank15), (0x10, .imcWrCasRank4Allbanks), (0x11, .imcWrCasRank4Bankg0),
      (0x12, .imcWrCasRank4Bankg1), (0x13, .imcWrCasRank4Bankg2), (0x14, .imcWrCasRank4Bankg3)]),
    (evImcWrCasRank5, [(0x00, .imcWrCasRank5Bank0), (0x01, .imcWrCasRank5Bank1), (0x02, .imcWrCasRank5Bank2),
      (0x03, .imcWrCasRank5Bank3), (0x04, .imcWrCasRank5Bank4), (0x05, .imcWrCasRank5Bank5),
      (0x06, .imcWrCasRank5Bank6), (0x07, .imcWrCasRank5Bank7), (0x08, .imcWrCasRank5Bank8),
      (0x09, .imcWrCasRank5Bank9), (0x0A, .imcWrCasRank5Bank10), (0x0B, .imcWrCasRank5Bank11),
      (0x0C, .imcWrCasRank5Bank12), (0x0D, .imcWrCasRank5Bank13), (0x0E, .imcWrCasRank5Bank14),
      (0x0F, .imcWrCasRank5Bank15), (0x10, .imcWrCasRank5Allbanks), (0x11, .imcWrCasRank5Bankg0),
      (0x12, .imcWrCasRank5Bankg1), (0x13, .imcWrCasRank5Bankg2), (0x14, .imcWrCasRank5Bankg3)]),
    (evImcWrCasRank6, [(0x00, .imcWrCasRank6Bank0), (0x01, .imcWrCasRank6Bank1), (0x02, .imcWrCasRank6Bank2),
      (0x03, .imcWrCasRank6Bank3), (0x04, .imcWrCasRank6Bank4), (0x05, .imcWrCasRank6Bank5),
      (0x06, .imcWrCasRank6Bank6), (0x07, .imcWrCasRank6Bank7), (0x08, .imcWrCasRank6Bank8),
      (0x09, .imcWrCasRank6Bank9), (0x0A, .imcWrCasRank6Bank10), (0x0B, .imcWrCasRank6Bank11),
      (0x0C, .imcWrCasRank6Bank12), (0x0D, .imcWrCasRank6Bank13), (0x0E, .imcWrCasRank6Bank14),
      (0x0F, .imcWrCasRank6Bank15), (0x10, .imcWrCasRank6Allbanks), (0x11, .imcWrCasRank6Bankg0),
      (0x12, .imcWrCasRank6Bankg1), (0x13, .imcWrCasRank6Bankg2), (0x14, .imcWrCasRank6Bankg3)]),
    (evImcWrCasRank7, [(0x00, .imcWrCasRank7Bank0), (0x01, .imcWrCasRank7Bank1), (0x02, .imcWrCasRank7Bank2),
      (0x03, .imcWrCasRank7Bank3), (0x04, .imcWrCasRank7Bank4), (0x05, .imcWrCasRank7Bank5),
      (0x06, .imcWrCasRank7Bank6), (0x07, .imcWrCasRank7Bank7), (0x08, .imcWrCasRank7Bank8),
      (0x09, .imcWrCasRank7Bank9), (0x0A, .imcWrCasRank7Bank10), (0x0B, .imcWrCasRank7Bank11),
      (0x0C, .imcWrCasRank7Bank12), (0x0D, .imcWrCasRank7Bank13), (0x0E, .imcWrCasRank7Bank14),
      (0x0F, .imcWrCasRank7Bank15), (0x10, .imcWrCasRank7Allbanks), (0x11, .imcWrCasRank7Bankg0),
      (0x12, .imcWrCasRank7Bankg1), (0x13, .imcWrCasRank7Bankg2), (0x14, .imcWrCasRank7Bankg3)]),
    (evImcWmmToRmm, [(0x01, .imcWmmToRmmLowThresh), (0x02, .imcWmmToRmmStarve), (0x04, .imcWmmToRmmVmseRetry)]),
    (evImcWrongMm, [(0x00, .imcWrongMm)])]
      : EventTable .imc), ∀ r ∈ p.2, CountsRow .imc r.2 p.1 r.1) ∧
  (∀ p ∈ ([
    (evQpiTxLFlitsG0, [(0x02, .qpiTxLFlitsG0Data), (0x04, .qpiTxLFlitsG0NonData)]),
    (evQpiTxLInserts, [(0x00, .qpiTxLInserts)]),
    (evQpiTxLBypassed, [(0x00, .qpiTxLBypassed)]),
    (evQpiTxLCyclesNe, [(0x00, .qpiTxLCyclesNe)]),
    (evQpiTxLOccupancy, [(0x00, .qpiTxLOccupancy)]),
    (evQpiRxLInserts, [(0x00, .qpiRxLInserts)]),
    (evQpiRxLBypassed, [(0x00, .qpiRxLBypassed)]),
    (evQpiRxLCyclesNe, [(0x00, .qpiRxLCyclesNe)]),
    (evQpiRxLOccupancy, [(0x00, .qpiRxLOccupancy)]),
    (evQpiTxL0PowerCycles, [(0x00, .qpiTxL0PowerCycles)]),
    (evQpiTxL0PPowerCycles, [(0x00, .qpiTxL0PPowerCycles)]),
    (evQpiRxL0PowerCycles, [(0x00, .qpiRxL0PowerCycles)]),
    (evQpiRxL0PPowerCycles, [(0x00, .qpiRxL0PPowerCycles)]),
    (evQpiL1PowerCycles, [(0x00, .qpiL1PowerCycles)]),
    (evQpiDirect2core, [(0x01, .qpiDirect2coreSuccessRbtHit), (0x02, .qpiDirect2coreFailureCredits),
      (0x04, .qpiDirect2coreFailureRbtHit), (0x08, .qpiDirect2coreFailureCreditsRbt),
      (0x10, .qpiDirect2coreFailureMiss), (0x20, .qpiDirect2coreFailureCreditsMiss),
      (0x40, .qpiDirect2coreFailureRbtMiss), (0x80, .qpiDirect2coreFailureCreditsRbtMiss)]),
    (evQpiClockticks, [(0x00, .qpiClockticks)]),
    (evQpiTxLFlitsG1, [(0x01, .qpiTxLFlitsG1Snp), (0x02, .qpiTxLFlitsG1HomReq), (0x04, .qpiTxLFlitsG1HomNonreq),
      (0x06, .qpiTxLFlitsG1Hom), (0x08, .qpiTxLFlitsG1DrsData), (0x10, .qpiTxLFlitsG1DrsNondata),
      (0x18, .qpiTxLFlitsG1Drs)]),
    (evQpiTxLFlitsG2, [(0x01, .qpiTxLFlitsG2NdrAd), (0x02, .qpiTxLFlitsG2NdrAk), (0x04, .qpiTxLFlitsG2NcbData),
      (0x08, .qpiTxLFlitsG2NcbNondata), (0x0C, .qpiTxLFlitsG2Ncb), (0x10, .qpiTxLFlitsG2Ncs)]),
    (evQpiRxLFlitsG1, [(0x01, .qpiRxLFlitsG1Snp), (0x02, .qpiRxLFlitsG1HomReq), (0x04, .qpiRxLFlitsG1HomNonreq),
      (0x06, .qpiRxLFlitsG1Hom), (0x08, .qpiRxLFlitsG1DrsData), (0x10, .qpiRxLFlitsG1DrsNondata),
      (0x18, .qpiRxLFlitsG1Drs)]),
    (evQpiRxLFlitsG2, [(0x01, .qpiRxLFlitsG2NdrAd), (0x02, .qpiRxLFlitsG2NdrAk), (0x04, .qpiRxLFlitsG2NcbData),
      (0x08, .qpiRxLFlitsG2NcbNondata), (0x0C, .qpiRxLFlitsG2Ncb), (0x10, .qpiRxLFlitsG2Ncs)]),
    (evQpiRxLInsertsDrs, [(0x01, .qpiRxLInsertsDrsVn0), (0x02, .qpiRxLInsertsDrsVn1)]),
    (evQpiRxLInsertsNcb, [(0x01, .qpiRxLInsertsNcbVn0), (0x02, .qpiRxLInsertsNcbVn1)]),
    (evQpiRxLInsertsNcs, [(0x01, .qpiRxLInsertsNcsVn0), (0x02, .qpiRxLInsertsNcsVn1)]),
    (evQpiRxLInsertsHom, [(0x01, .qpiRxLInsertsHomVn0), (0x02, .qpiRxLInsertsHomVn1)]),
    (evQpiRxLInsertsSnp, [(0x01, .qpiRxLInsertsSnpVn0), (0x02, .qpiRxLInsertsSnpVn1)]),
    (evQpiRxLInsertsNdr, [(0x01, .qpiRxLInsertsNdrVn0), (0x02, .qpiRxLInsertsNdrVn1)]),
    (evQpiRxLOccupancyDrs, [(0x01, .qpiRxLOccupancyDrsVn0), (0x02, .qpiRxLOccupancyDrsVn1)]),
    (evQpiRxLOccupancyNcb, [(0x01, .qpiRxLOccupancyNcbVn0), (0x02, .qpiRxLOccupancyNcbVn1)]),
    (evQpiRxLOccupancyNcs, [(0x01, .qpiRxLOccupancyNcsVn0), (0x02, .qpiRxLOccupancyNcsVn1)]),
    (evQpiRxLOccupancyHom, [(0x01, .qpiRxLOccupancyHomVn0), (0x02, .qpiRxLOccupancyHomVn1)]),
    (evQpiRxLOccupancySnp, [(0x01, .qpiRxLOccupancySnpVn0), (0x02, .qpiRxLOccupancySnpVn1)]),
    (evQpiRxLOccupancyNdr, [(0x01, .qpiRxLOccupancyNdrVn0), (0x02, .qpiRxLOccupancyNdrVn1)]),
    (evQpiVnaCreditReturnOccupancy, [(0x00, .qpiVnaCreditReturnOccupancy)]),
    (evQpiVnaCreditReturns, [(0x00, .qpiVnaCreditReturns)]),
    (evQpiRxLCreditsConsumedVna, [(0x00, .qpiRxLCreditsConsumedVna)]),
    (evQpiRxLCreditsConsumedVn0, [(0x01, .qpiRxLCreditsConsumedVn0Drs), (0x02, .qpiRxLCreditsConsumedVn0Ncb),
      (0x04, .qpiRxLCreditsConsumedVn0Ncs), (0x08, .qpiRxLCreditsConsumedVn0Hom),
      (0x10, .qpiRxLCreditsConsumedVn0Snp), (0x20, .qpiRxLCreditsConsumedVn0Ndr)]),
    (evQpiTxRBlDrsCreditOccupancy, [(0x01, .qpiTxRBlDrsCreditOccupancyVn0), (0x02, .qpiTxRBlDrsCreditOccupancyVn1),
      (0x04, .qpiTxRBlDrsCreditOccupancyVnShr)]),
    (evQpiTxRBlNcbCreditOccupancy, [(0x01, .qpiTxRBlNcbCreditOccupancyVn0), (0x02, .qpiTxRBlNcbCreditOccupancyVn1)]),
    (evQpiTxRBlNcsCreditOccupancy, [(0x01, .qpiTxRBlNcsCreditOccupancyVn0), (0x02, .qpiTxRBlNcsCreditOccupancyVn1)]),
    (evQpiTxRAdHomCreditOccupancy, [(0x01, .qpiTxRAdHomCreditOccupancyVn0), (0x02, .qpiTxRAdHomCreditOccupancyVn1)]),
    (evQpiTxRAdSnpCreditOccupancy, [(0x01, .qpiTxRAdSnpCreditOccupancyVn0), (0x02, .qpiTxRAdSnpCreditOccupancyVn1)]),
    (evQpiTxRAdNdrCreditOccupancy, [(0x01, .qpiTxRAdNdrCreditOccupancyVn0), (0x02, .qpiTxRAdNdrCreditOccupancyVn1)]),
    (evQpiTxRAkNdrCreditOccupancy, [(0x00, .qpiTxRAkNdrCreditOccupancy)]),
    (evQpiTxRAdHomCreditAcquired, [(0x01, .qpiTxRAdHomCreditAcquiredVn0), (0x02, .qpiTxRAdHomCreditAcquiredVn1)]),
    (evQpiTxRAdSnpCreditAcquired, [(0x01, .qpiTxRAdSnpCreditAcquiredVn0), (0x02, .qpiTxRAdSnpCreditAcquiredVn1)]),
    (evQpiTxRAdNdrCreditAcquired, [(0x01, .qpiTxRAdNdrCreditAcquiredVn0), (0x02, .qpiTxRAdNdrCreditAcquiredVn1)]),
    (evQpiTxRAkNdrCreditAcquired, [(0x00, .qpiTxRAkNdrCreditAcquired)]),
    (evQpiTxRBlDrsCreditAcquired, [(0x01, .qpiTxRBlDrsCreditAcquiredVn0), (0x02, .qpiTxRBlDrsCreditAcquiredVn1),
      (0x04, .qpiTxRBlDrsCreditAcquiredVnShr)]),
    (evQpiTxRBlNcbCreditAcquired, [(0x01, .qpiTxRBlNcbCreditAcquiredVn0), (0x02, .qpiTxRBlNcbCreditAcquiredVn1)]),
    (evQpiTxRBlNcsCreditAcquired, [(0x01, .qpiTxRBlNcsCreditAcquiredVn0), (0x02, .qpiTxRBlNcsCreditAcquiredVn1)]),
    (evQpiCtoCount, [(0x00, .qpiCtoCount)]),
    (evQpiRxLCreditsConsumedVn1, [(0x01, .qpiRxLCreditsConsumedVn1Drs), (0x02, .qpiRxLCreditsConsumedVn1Ncb),
      (0x04, .qpiRxLCreditsConsumedVn1Ncs), (0x08, .qpiRxLCreditsConsumedVn1Hom),
      (0x10, .qpiRxLCreditsConsumedVn1Snp), (0x20, .qpiRxLCreditsConsumedVn1Ndr)])]
      : EventTable .qpi), ∀ r ∈ p.2, CountsRow .qpi r.2 p.1 r.1)

/-! ### Events: the raw increment -/

/-- The raw increment is at most the event's bound where the unit mask and the counter are listed, which is MaxInc
(00_scope.md R12) but 1 for POWER_CKE_CYCLES, whose rows select one rank (44_imc.md R506(d), R520), else at most
RAW_BOUND (30_encoding.md R163, R164). -/
def Obligations.RawIncrementBounds : Prop :=
  (∀ (i : Instr) (k : Kind) (e : Event) (base : BitVec 8) (o : EvOp k) (s : State), i.view = .event k e base o →
    (o.raw e base s).1 ≤
      if e.listed (base ||| o.ctl.extra) && Event.allows e s.cfg o.unit then e.bound else s.cfg.rawBound) ∧
  (∀ e : Event, e.bound ≤ e.maxInc) ∧
  ∀ (c : Fin 8) (j : Fin 4) (u : BitVec 8) (t : Bool) (s : State), (rawListed (.imc c) j evImcPowerCkeCycles u t s).1 ≤ 1

/-- A clock event adds 1 in every cycle in which its counter counts, whatever the unit mask (00_scope.md R12,
30_encoding.md R163(b)). -/
def Obligations.ClockEventCountsEveryCycle : Prop :=
  ∀ (i : Instr) (k : Kind) (e : Event) (base : BitVec 8) (o : EvOp k) (s : State), i.view = .event k e base o →
    e.kind = .clock → Counting o.box o.unit o.ctl.en s → o.ctl.thresh = 0 →
    ∃ t, exec i s = .next t ∧ Adds o.box o.unit 1 o.ctl.ovEn s t

/-- The three laws of an unfiltered event whose rows are all bit rows (00_scope.md R12): more unit mask bits never
lower the increment of a cycle, two masks together give at most the sum (where each bit of a row is a row of its own),
and no bit gives 0. The third is R12's law of the listed increment, `rawListed`; a counter whose control word has unit
mask 0 draws up to RAW_BOUND instead (30_encoding.md R163; log 36). Then the R2PCIe's ring events: CW is the OR of
CW_EVEN and CW_ODD, CCW that of CCW_EVEN and CCW_ODD, and both directions together the OR of the two (48_r2pcie.md
R877(d), (e)). -/
def Obligations.UnitMaskLaws : Prop :=
  (∀ (b : BoxId) (j : Fin 4) (e : Event) (t : Bool) (s : State), e.kind = .env →
    (∀ r ∈ e.rows, ∃ m, m ≠ 0 ∧ r.sel = .bits m) →
    (∀ u v, u &&& v = u → (rawListed b j e u t s).1 ≤ (rawListed b j e v t s).1) ∧
    (∀ u v, (∀ r ∈ e.rows, ∀ m, r.sel = .bits m → ∀ n < 8, m.getLsbD n = true →
        ∃ q ∈ e.rows, q.sel = .bits (BitVec.ofNat 8 (2 ^ n))) →
      (rawListed b j e (u ||| v) t s).1 ≤ (rawListed b j e u t s).1 + (rawListed b j e v t s).1) ∧
    (rawListed b j e 0 t s).1 = 0) ∧
  ∀ (j : Fin 4) (t : Bool) (s : State),
    let raw := fun (e : Event) (u : BitVec 8) => (rawListed .r2 j e u t s).1
    (∀ e ∈ [evR2PCIeRingAdUsed, evR2PCIeRingAkUsed, evR2PCIeRingBlUsed],
      raw e 0x03 = max (raw e 0x01) (raw e 0x02) ∧ raw e 0x0C = max (raw e 0x04) (raw e 0x08)) ∧
    ∀ e ∈ [evR2PCIeRingAdUsed, evR2PCIeRingAkUsed, evR2PCIeRingBlUsed, evR2PCIeRingIvUsed],
      raw e 0x0F = max (raw e 0x03) (raw e 0x0C)

/-- LLC_LOOKUP counts nothing while FILTER0.state is 0 or unit mask bit 0 is clear, and enlarging the state set within
the five named states never lowers the increment of a cycle (41_cbo.md R276, R277). The third clause is the model's
choice and no rule's (log 39): the state bits 5 and 6 match no lookup, as 90_conflicts.md C11 has it, so that the
increment is what it is with them cleared. R277 gives at least that, and otherwise a draw. -/
def Obligations.LookupStateFilter : Prop :=
  ∀ (n : Fin 18) (u : BitVec 8) (t : Bool) (s : State),
    (s.cboFilter0[n].extractLsb' 17 7 = 0 ∨ u.getLsbD 0 = false → rawLookup n evCBoLlcLookup u t s = 0) ∧
    (∀ w : Word, s.cboFilter0[n] &&& w = s.cboFilter0[n] → w.extractLsb' 0 17 = s.cboFilter0[n].extractLsb' 0 17 →
      w.extractLsb' 22 2 = 0 →
      rawLookup n evCBoLlcLookup u t s ≤
        rawLookup n evCBoLlcLookup u t { s with cboFilter0 := s.cboFilter0.set n w }) ∧
    rawLookup n evCBoLlcLookup u t s =
      rawLookup n evCBoLlcLookup u t { s with cboFilter0 := s.cboFilter0.set n (s.cboFilter0[n] &&& 0xFF3FFFFF) }

/-- The node filter: a larger mask never lowers the increment of a cycle, and an empty one selects nothing where every
selected row reads it (41_cbo.md R276, R279). So for the events under the opcode filter too while opc and its
attributes stay and opc is of the source's table, and for LLC_LOOKUP under the state filter. That the rows which read it
include RxR_ISMQ_RETRY's WB_CREDITS (unit mask 0x80), as the filter column of R309 has it and R279 has not, is the model's
choice (log 17). -/
def Obligations.NodeFilterLaws : Prop :=
  ∀ (n : Fin 18) (u : BitVec 8) (t : Bool) (s : State),
    let wider := fun w : Word => { s with cboFilter1 := s.cboFilter1.set n w }
    (∀ e : Event, (e.readsOpc u = true → filterOpc s.cboFilter1[n] ∈ opcodeTable) →
      (∀ w : Word, s.cboFilter1[n] &&& w = s.cboFilter1[n] →
        (e.readsOpc u = true → w.extractLsb' 16 16 = s.cboFilter1[n].extractLsb' 16 16) →
        (rawCbo n e u t s).1 ≤ (rawCbo n e u t (wider w)).1) ∧
      (s.cboFilter1[n].extractLsb' 0 16 = 0 → (∀ r ∈ e.rows, r.sel.selected u = true → r.nid = true) →
        (rawCbo n e u t s).1 = 0)) ∧
    (∀ w : Word, s.cboFilter1[n] &&& w = s.cboFilter1[n] →
      rawLookup n evCBoLlcLookup u t s ≤ rawLookup n evCBoLlcLookup u t (wider w)) ∧
    (s.cboFilter1[n].extractLsb' 0 16 = 0 → rawLookup n evCBoLlcLookup 0x41 t s = 0)

/-- Where every selected row reads the opcode filter, only occurrences of that opcode count, and with nc or isoc set
only those with the attribute; an opcode outside the source's table gives an open increment within MaxInc (41_cbo.md
R280, R281). The thread filter (41_cbo.md R278): with tid_en = 1 only occurrences whose thread id equals FILTER0.tid
count, with tid_en = 0 the field has no effect. -/
def Obligations.OpcodeFilterSelects : Prop :=
  ∀ (n : Fin 18) (e : Event) (u : BitVec 8) (s : State),
    (∀ t : Bool, (∀ r ∈ e.rows, r.sel.selected u = true → r.opc = true) →
      (filterOpc s.cboFilter1[n] ∈ opcodeTable →
        (rawCbo n e u t s).1 ≤ (s.occurrences (.cbo n) 0 e).countP (fun o => o.opc == filterOpc s.cboFilter1[n] &&
          (!s.cboFilter1[n].getLsbD 30 || o.nonCoherent) && (!s.cboFilter1[n].getLsbD 31 || o.isoc))) ∧
      (rawCbo n e u t s).1 ≤ e.maxInc) ∧
    (let ofThread := (s.occurrences (.cbo n) 0 e).countP (fun o => o.tid == s.cboFilter0[n].extractLsb' 0 6);
      ((e.readsOpc u = true → filterOpc s.cboFilter1[n] ∈ opcodeTable) → (rawCbo n e u true s).1 ≤ ofThread) ∧
      rawLookup n e u true s ≤ ofThread) ∧
    ∀ w : Word, w.extractLsb' 6 26 = s.cboFilter0[n].extractLsb' 6 26 →
      let other := { s with cboFilter0 := s.cboFilter0.set n w }
      (rawCbo n e u false other).1 = (rawCbo n e u false s).1 ∧ rawLookup n e u false other = rawLookup n e u false s

/-- COUNTER0_OCCUPANCY on any counter has the raw increment that counter 0's control register selects in the same
cycle when it selects one of the three occupancy events with a listed unit mask, and at most 20 otherwise (41_cbo.md
R273). -/
def Obligations.Counter0OccupancyFollowsCounter0 : Prop :=
  ∀ (n : Fin 18) (j : Fin 4) (u : BitVec 8) (t : Bool) (s : State),
    let w := (s.unit (.cbo n) 0).ctl
    (∀ e ∈ [evCBoRxROccupancy, evCBoTorOccupancy, evCBoSboCreditOccupancy],
      w.extractLsb' 0 8 = e.code → e.listed (w.extractLsb' 8 8) = true →
      rawListed (.cbo n) j evCBoCounter0Occupancy u t s = rawIncrement (.cbo n) 0 e (w.extractLsb' 8 8) (w.getLsbD 19) s) ∧
    (rawListed (.cbo n) j evCBoCounter0Occupancy u t s).1 ≤ 20

/-- ADDR_OPC_MATCH counts, at most one a cycle, row ADDR (unit mask 0x01) the packets whose cache-line address equals
the two address registers, row OPC (0x02) those whose class and opcode equal OPCODEMATCH, and FILT (exactly 0x03)
those that do both (43_ha.md R403, R404). An NDR response has no address and cannot match one (R404), so with the class
NDR in OPCODEMATCH row FILT counts nothing. Rows AD, BL and AK do not depend on the address registers (R404). The match
registers act only through this event: no other increment depends on them (R404); and after reset no counter of an HA
selects it, which is the model's reading of 70_reset_and_hazards.md R1043(d), that the match is off there (log 40). The
test `carriesOpcode` and the last clause are the model's reading and no rule's (logs 20 and 38;
93_implementation_defined.md 1.4): a packet carries only an opcode that the tables list for its class, those marked as
not on this family included, so with another in OPCODEMATCH rows OPC and FILT count nothing. -/
def Obligations.HaFiltMatches : Prop :=
  ∀ (n : Fin 2) (j : Fin 4) (t : Bool) (s : State),
    let m := s.haOpcodeMatch[n]
    let addr := fun o : Occ => o.cls != 0x2 &&
      o.addr == some (s.haAddrMatch1[n].extractLsb' 0 14 ++ s.haAddrMatch0[n].extractLsb' 6 26)
    let opc := fun o : Occ => carriesOpcode o.cls o.pktOpc && decide (o.cls.toNat < 4) &&
      (m.extractLsb' 4 2).toNat == o.cls.toNat && m.extractLsb' 0 4 == o.pktOpc
    let raw := fun (u : BitVec 8) (s : State) => (rawListed (.ha n) j evHaAddrOpcMatch u t s).1
    let counts := fun (u : BitVec 8) (hit : Occ → Bool) =>
      raw u s = min 1 ((s.occurrences (.ha n) j evHaAddrOpcMatch).countP hit)
    let withAddr := fun (a1 a0 : Word) =>
      { s with haAddrMatch1 := s.haAddrMatch1.set n a1, haAddrMatch0 := s.haAddrMatch0.set n a0 }
    (counts 0x01 addr ∧ counts 0x02 opc ∧ counts 0x03 (fun o => addr o && opc o)) ∧
      (m.extractLsb' 4 2 = 2 → raw 0x03 s = 0) ∧
      (∀ (u : BitVec 8) (a1 a0 : Word), u &&& 0x03 = 0 → raw u (withAddr a1 a0) = raw u s) ∧
      (∀ (e : Event) (u : BitVec 8) (a1 a0 w : Word), e.kind ≠ .haMatch →
        (rawIncrement (.ha n) j e u t { withAddr a1 a0 with haOpcodeMatch := s.haOpcodeMatch.set n w }).1 =
          (rawIncrement (.ha n) j e u t s).1) ∧
      (State.reset.unit (.ha n) j).ctl.extractLsb' 0 8 ≠ evHaAddrOpcMatch.code ∧
      (carriesOpcode ((0 : BitVec 2) ++ m.extractLsb' 4 2) (m.extractLsb' 0 4) = false → raw 0x02 s = 0 ∧ raw 0x03 s = 0)

/-- IRP TRANSACTIONS counts nothing without a request type in unit mask bits 5:0, whatever its other bits, and setting
the ORDERINGQ bit never raises its increment (45_irp.md R604, R605); SNOOP_RESP counts nothing unless both its groups
have a bit (R605). -/
def Obligations.IrpCombinationRules : Prop :=
  ∀ (j : Fin 4) (u : BitVec 8) (t : Bool) (s : State),
    (u &&& 0x3F = 0 → (rawIncrement .irp j evIrpTransactions u t s).1 = 0) ∧
    (rawListed .irp j evIrpTransactions (u ||| 0x40) t s).1 ≤ (rawListed .irp j evIrpTransactions u t s).1 ∧
    (u &&& 0x0F = 0 ∨ u &&& 0x70 = 0 → (rawIncrement .irp j evIrpSnoopResp u t s).1 = 0)

/-- The QPI packet match (47_qpi.md R757, R759): a packet's fields are packed as the registers pack them; it matches
exactly when every bit that the masks of its own direction compare agrees with the match registers; so a filter that
compares fewer bits matches at least as much, and one that compares nothing matches every packet. -/
def Obligations.PacketMaskLaws : Prop :=
  ∀ (p : Packet) (x y : PktRegs),
    (Packet.word0 p = ((p.rnid.extractLsb' 4 1).setWidth 32 <<< 31 ||| p.dnid.setWidth 32 <<< 13 |||
        p.mc.setWidth 32 <<< 9 ||| p.opc.setWidth 32 <<< 5 ||| p.vnw.setWidth 32 <<< 3) ∧
      Packet.word1 p = (p.rds.setWidth 32 <<< 16 ||| (p.rnid.extractLsb' 0 4).setWidth 32)) ∧
    (Packet.hits p x = true ↔ ∀ n < 32,
      ((if p.rx then x.rxMask0 else x.txMask0).getLsbD n = true →
        (Packet.word0 p).getLsbD n = (if p.rx then x.rxMatch0 else x.txMatch0).getLsbD n) ∧
      ((if p.rx then x.rxMask1 else x.txMask1).getLsbD n = true →
        (Packet.word1 p).getLsbD n = (if p.rx then x.rxMatch1 else x.txMatch1).getLsbD n)) ∧
    (x.rxMatch0 = y.rxMatch0 ∧ x.rxMatch1 = y.rxMatch1 ∧ x.txMatch0 = y.txMatch0 ∧ x.txMatch1 = y.txMatch1 →
      x.rxMask0 &&& y.rxMask0 = x.rxMask0 ∧ x.rxMask1 &&& y.rxMask1 = x.rxMask1 ∧
        x.txMask0 &&& y.txMask0 = x.txMask0 ∧ x.txMask1 &&& y.txMask1 = x.txMask1 →
      Packet.hits p y = true → Packet.hits p x = true) ∧
    (x.rxMask0 = 0 ∧ x.rxMask1 = 0 ∧ x.txMask0 = 0 ∧ x.txMask1 = 0 → Packet.hits p x = true)

/-- With all match and mask registers of a port 0, CTO_COUNT's increment is the number of slots that hold a packet,
and with fewer mask bits under the same match values it is never less (47_qpi.md R759; a packet's RDS field is the
environment's where R757 gives it no meaning, log 21). The last clause is the model's reading (logs 20 and 38;
93_implementation_defined.md 1.4): a packet has a class and opcode of the tables (49_packet_matching.md R971 to R974),
those marked as not on this family included, and, in DRS opcodes 0 to 2, one of the five response states (R757): a port
whose filters demand anything else in both directions counts nothing. -/
def Obligations.CtoCountsEveryPacket : Prop :=
  ∀ (p : Fin 3) (s : State),
    (s.qpiPkt[p] = .reset →
      rawCto p s = ((Config.slot p false s.time).toList ++ (Config.slot p true s.time).toList).countP
        (fun k => Packet.carried k)) ∧
    (∀ m0 m1 m2 m3 : Word,
      let x := s.qpiPkt[p]
      rawCto p s ≤ rawCto p { s with qpiPkt := s.qpiPkt.set p { x with
        rxMask0 := x.rxMask0 &&& m0, rxMask1 := x.rxMask1 &&& m1, txMask0 := x.txMask0 &&& m2, txMask1 := x.txMask1 &&& m3 } }) ∧
    (let unsent := fun match0 match1 mask0 mask1 : Word => mask0 &&& 0x1FE0 = 0x1FE0 ∧
        (carriesOpcode (match0.extractLsb' 9 4) (match0.extractLsb' 5 4) = false ∨
          match0.extractLsb' 9 4 = 0xE ∧ (match0.extractLsb' 5 4).toNat ≤ 2 ∧ mask1 &&& 0xF0000 = 0xF0000 ∧
            match1.extractLsb' 16 4 ∉ [(8 : BitVec 4), 4, 2, 1, 0])
      let x := s.qpiPkt[p]
      unsent x.rxMatch0 x.rxMatch1 x.rxMask0 x.rxMask1 → unsent x.txMatch0 x.txMatch1 x.txMask0 x.txMask1 →
        rawCto p s = 0)

/-- FREQ_BANDk_CYCLES counts, but for the cycles of a frequency transition, those whose ratio reaches the threshold in
use; the events of a core the part lacks count nothing (46_pcu.md R656, R660). -/
def Obligations.PcuBandAndCoreEvents : Prop :=
  ∀ (j : Fin 4) (e : Event) (u : BitVec 8) (t : Bool) (s : State),
    (∀ k v, e.kind = .freqBand k → s.effband[k] = some v →
      (rawListed .pcu j e u t s).1 =
        if Config.inTransition s.time = true then 0 else if v.toNat ≤ Config.ratio s.time then 1 else 0) ∧
    (∀ n, e.kind = .perCore n → s.cfg.nCore ≤ n → (rawListed .pcu j e u t s).1 = 0)

/-! ### Register reads -/

/-- RDMSR of a register the part has returns it and changes nothing else (40_global_ubox.md R200, R204, 20_memory.md
R114; `hostRead` holds what it returns, log 13); then the same of each MSR row by name, with the register it names
(30_encoding.md R182, 20_memory.md R101). -/
def Obligations.MsrReadReturnsRegister : Prop :=
  (∀ (i : Instr) (addr : Nat) (r : Reg) (s : State), i.view = .msr addr r .read → r.present s.cfg = true →
    exec i s = .next (s.setHostRead (some (readReg r s)))) ∧
  let reads := fun (mk : MsrAccess → Instr) (r : Reg) => ∀ s : State, r.present s.cfg = true →
    exec (mk .read) s = .next (s.setHostRead (some (readReg r s)))
  ∀ p ∈ ([
    (.uMsrPmonGlobalCtl, .globalCtl), (.uMsrPmonGlobalStatus, .globalStatus), (.uMsrPmonGlobalConfig, .globalConfig),
    (.uMsrPmonUclkFixedCtl, .fixedCtl .ubox), (.uMsrPmonUclkFixedCtr, .fixedCtr .ubox), (.uMsrPmonCtl0, .ctl .ubox 0),
    (.uMsrPmonCtl1, .ctl .ubox 1), (.uMsrPmonBoxStatus, .boxStatus .ubox), (.uMsrPmonCtr0, .ctr .ubox 0),
    (.uMsrPmonCtr1, .ctr .ubox 1), (.c0MsrPmonBoxCtl, .boxCtl (.cbo 0)), (.c0MsrPmonCtl0, .ctl (.cbo 0) 0),
    (.c0MsrPmonCtl1, .ctl (.cbo 0) 1), (.c0MsrPmonCtl2, .ctl (.cbo 0) 2), (.c0MsrPmonCtl3, .ctl (.cbo 0) 3),
    (.c0MsrPmonBoxFilter0, .cboFilter0 0), (.c0MsrPmonBoxFilter1, .cboFilter1 0),
    (.c0MsrPmonBoxStatus, .boxStatus (.cbo 0)), (.c0MsrPmonCtr0, .ctr (.cbo 0) 0), (.c0MsrPmonCtr1, .ctr (.cbo 0) 1),
    (.c0MsrPmonCtr2, .ctr (.cbo 0) 2), (.c0MsrPmonCtr3, .ctr (.cbo 0) 3), (.c1MsrPmonBoxCtl, .boxCtl (.cbo 1)),
    (.c1MsrPmonCtl0, .ctl (.cbo 1) 0), (.c1MsrPmonCtl1, .ctl (.cbo 1) 1), (.c1MsrPmonCtl2, .ctl (.cbo 1) 2),
    (.c1MsrPmonCtl3, .ctl (.cbo 1) 3), (.c1MsrPmonBoxFilter0, .cboFilter0 1), (.c1MsrPmonBoxFilter1, .cboFilter1 1),
    (.c1MsrPmonBoxStatus, .boxStatus (.cbo 1)), (.c1MsrPmonCtr0, .ctr (.cbo 1) 0), (.c1MsrPmonCtr1, .ctr (.cbo 1) 1),
    (.c1MsrPmonCtr2, .ctr (.cbo 1) 2), (.c1MsrPmonCtr3, .ctr (.cbo 1) 3), (.c2MsrPmonBoxCtl, .boxCtl (.cbo 2)),
    (.c2MsrPmonCtl0, .ctl (.cbo 2) 0), (.c2MsrPmonCtl1, .ctl (.cbo 2) 1), (.c2MsrPmonCtl2, .ctl (.cbo 2) 2),
    (.c2MsrPmonCtl3, .ctl (.cbo 2) 3), (.c2MsrPmonBoxFilter0, .cboFilter0 2), (.c2MsrPmonBoxFilter1, .cboFilter1 2),
    (.c2MsrPmonBoxStatus, .boxStatus (.cbo 2)), (.c2MsrPmonCtr0, .ctr (.cbo 2) 0), (.c2MsrPmonCtr1, .ctr (.cbo 2) 1),
    (.c2MsrPmonCtr2, .ctr (.cbo 2) 2), (.c2MsrPmonCtr3, .ctr (.cbo 2) 3), (.c3MsrPmonBoxCtl, .boxCtl (.cbo 3)),
    (.c3MsrPmonCtl0, .ctl (.cbo 3) 0), (.c3MsrPmonCtl1, .ctl (.cbo 3) 1), (.c3MsrPmonCtl2, .ctl (.cbo 3) 2),
    (.c3MsrPmonCtl3, .ctl (.cbo 3) 3), (.c3MsrPmonBoxFilter0, .cboFilter0 3), (.c3MsrPmonBoxFilter1, .cboFilter1 3),
    (.c3MsrPmonBoxStatus, .boxStatus (.cbo 3)), (.c3MsrPmonCtr0, .ctr (.cbo 3) 0), (.c3MsrPmonCtr1, .ctr (.cbo 3) 1),
    (.c3MsrPmonCtr2, .ctr (.cbo 3) 2), (.c3MsrPmonCtr3, .ctr (.cbo 3) 3), (.c4MsrPmonBoxCtl, .boxCtl (.cbo 4)),
    (.c4MsrPmonCtl0, .ctl (.cbo 4) 0), (.c4MsrPmonCtl1, .ctl (.cbo 4) 1), (.c4MsrPmonCtl2, .ctl (.cbo 4) 2),
    (.c4MsrPmonCtl3, .ctl (.cbo 4) 3), (.c4MsrPmonBoxFilter0, .cboFilter0 4), (.c4MsrPmonBoxFilter1, .cboFilter1 4),
    (.c4MsrPmonBoxStatus, .boxStatus (.cbo 4)), (.c4MsrPmonCtr0, .ctr (.cbo 4) 0), (.c4MsrPmonCtr1, .ctr (.cbo 4) 1),
    (.c4MsrPmonCtr2, .ctr (.cbo 4) 2), (.c4MsrPmonCtr3, .ctr (.cbo 4) 3), (.c5MsrPmonBoxCtl, .boxCtl (.cbo 5)),
    (.c5MsrPmonCtl0, .ctl (.cbo 5) 0), (.c5MsrPmonCtl1, .ctl (.cbo 5) 1), (.c5MsrPmonCtl2, .ctl (.cbo 5) 2),
    (.c5MsrPmonCtl3, .ctl (.cbo 5) 3), (.c5MsrPmonBoxFilter0, .cboFilter0 5), (.c5MsrPmonBoxFilter1, .cboFilter1 5),
    (.c5MsrPmonBoxStatus, .boxStatus (.cbo 5)), (.c5MsrPmonCtr0, .ctr (.cbo 5) 0), (.c5MsrPmonCtr1, .ctr (.cbo 5) 1),
    (.c5MsrPmonCtr2, .ctr (.cbo 5) 2), (.c5MsrPmonCtr3, .ctr (.cbo 5) 3), (.c6MsrPmonBoxCtl, .boxCtl (.cbo 6)),
    (.c6MsrPmonCtl0, .ctl (.cbo 6) 0), (.c6MsrPmonCtl1, .ctl (.cbo 6) 1), (.c6MsrPmonCtl2, .ctl (.cbo 6) 2),
    (.c6MsrPmonCtl3, .ctl (.cbo 6) 3), (.c6MsrPmonBoxFilter0, .cboFilter0 6), (.c6MsrPmonBoxFilter1, .cboFilter1 6),
    (.c6MsrPmonBoxStatus, .boxStatus (.cbo 6)), (.c6MsrPmonCtr0, .ctr (.cbo 6) 0), (.c6MsrPmonCtr1, .ctr (.cbo 6) 1),
    (.c6MsrPmonCtr2, .ctr (.cbo 6) 2), (.c6MsrPmonCtr3, .ctr (.cbo 6) 3), (.c7MsrPmonBoxCtl, .boxCtl (.cbo 7)),
    (.c7MsrPmonCtl0, .ctl (.cbo 7) 0), (.c7MsrPmonCtl1, .ctl (.cbo 7) 1), (.c7MsrPmonCtl2, .ctl (.cbo 7) 2),
    (.c7MsrPmonCtl3, .ctl (.cbo 7) 3), (.c7MsrPmonBoxFilter0, .cboFilter0 7), (.c7MsrPmonBoxFilter1, .cboFilter1 7),
    (.c7MsrPmonBoxStatus, .boxStatus (.cbo 7)), (.c7MsrPmonCtr0, .ctr (.cbo 7) 0), (.c7MsrPmonCtr1, .ctr (.cbo 7) 1),
    (.c7MsrPmonCtr2, .ctr (.cbo 7) 2), (.c7MsrPmonCtr3, .ctr (.cbo 7) 3), (.c8MsrPmonBoxCtl, .boxCtl (.cbo 8)),
    (.c8MsrPmonCtl0, .ctl (.cbo 8) 0), (.c8MsrPmonCtl1, .ctl (.cbo 8) 1), (.c8MsrPmonCtl2, .ctl (.cbo 8) 2),
    (.c8MsrPmonCtl3, .ctl (.cbo 8) 3), (.c8MsrPmonBoxFilter0, .cboFilter0 8), (.c8MsrPmonBoxFilter1, .cboFilter1 8),
    (.c8MsrPmonBoxStatus, .boxStatus (.cbo 8)), (.c8MsrPmonCtr0, .ctr (.cbo 8) 0), (.c8MsrPmonCtr1, .ctr (.cbo 8) 1),
    (.c8MsrPmonCtr2, .ctr (.cbo 8) 2), (.c8MsrPmonCtr3, .ctr (.cbo 8) 3), (.c9MsrPmonBoxCtl, .boxCtl (.cbo 9)),
    (.c9MsrPmonCtl0, .ctl (.cbo 9) 0), (.c9MsrPmonCtl1, .ctl (.cbo 9) 1), (.c9MsrPmonCtl2, .ctl (.cbo 9) 2),
    (.c9MsrPmonCtl3, .ctl (.cbo 9) 3), (.c9MsrPmonBoxFilter0, .cboFilter0 9), (.c9MsrPmonBoxFilter1, .cboFilter1 9),
    (.c9MsrPmonBoxStatus, .boxStatus (.cbo 9)), (.c9MsrPmonCtr0, .ctr (.cbo 9) 0), (.c9MsrPmonCtr1, .ctr (.cbo 9) 1),
    (.c9MsrPmonCtr2, .ctr (.cbo 9) 2), (.c9MsrPmonCtr3, .ctr (.cbo 9) 3), (.c10MsrPmonBoxCtl, .boxCtl (.cbo 10)),
    (.c10MsrPmonCtl0, .ctl (.cbo 10) 0), (.c10MsrPmonCtl1, .ctl (.cbo 10) 1), (.c10MsrPmonCtl2, .ctl (.cbo 10) 2),
    (.c10MsrPmonCtl3, .ctl (.cbo 10) 3), (.c10MsrPmonBoxFilter0, .cboFilter0 10), (.c10MsrPmonBoxFilter1, .cboFilter1 10),
    (.c10MsrPmonBoxStatus, .boxStatus (.cbo 10)), (.c10MsrPmonCtr0, .ctr (.cbo 10) 0), (.c10MsrPmonCtr1, .ctr (.cbo 10) 1),
    (.c10MsrPmonCtr2, .ctr (.cbo 10) 2), (.c10MsrPmonCtr3, .ctr (.cbo 10) 3), (.c11MsrPmonBoxCtl, .boxCtl (.cbo 11)),
    (.c11MsrPmonCtl0, .ctl (.cbo 11) 0), (.c11MsrPmonCtl1, .ctl (.cbo 11) 1), (.c11MsrPmonCtl2, .ctl (.cbo 11) 2),
    (.c11MsrPmonCtl3, .ctl (.cbo 11) 3), (.c11MsrPmonBoxFilter0, .cboFilter0 11), (.c11MsrPmonBoxFilter1, .cboFilter1 11),
    (.c11MsrPmonBoxStatus, .boxStatus (.cbo 11)), (.c11MsrPmonCtr0, .ctr (.cbo 11) 0), (.c11MsrPmonCtr1, .ctr (.cbo 11) 1),
    (.c11MsrPmonCtr2, .ctr (.cbo 11) 2), (.c11MsrPmonCtr3, .ctr (.cbo 11) 3), (.c12MsrPmonBoxCtl, .boxCtl (.cbo 12)),
    (.c12MsrPmonCtl0, .ctl (.cbo 12) 0), (.c12MsrPmonCtl1, .ctl (.cbo 12) 1), (.c12MsrPmonCtl2, .ctl (.cbo 12) 2),
    (.c12MsrPmonCtl3, .ctl (.cbo 12) 3), (.c12MsrPmonBoxFilter0, .cboFilter0 12), (.c12MsrPmonBoxFilter1, .cboFilter1 12),
    (.c12MsrPmonBoxStatus, .boxStatus (.cbo 12)), (.c12MsrPmonCtr0, .ctr (.cbo 12) 0), (.c12MsrPmonCtr1, .ctr (.cbo 12) 1),
    (.c12MsrPmonCtr2, .ctr (.cbo 12) 2), (.c12MsrPmonCtr3, .ctr (.cbo 12) 3), (.c13MsrPmonBoxCtl, .boxCtl (.cbo 13)),
    (.c13MsrPmonCtl0, .ctl (.cbo 13) 0), (.c13MsrPmonCtl1, .ctl (.cbo 13) 1), (.c13MsrPmonCtl2, .ctl (.cbo 13) 2),
    (.c13MsrPmonCtl3, .ctl (.cbo 13) 3), (.c13MsrPmonBoxFilter0, .cboFilter0 13), (.c13MsrPmonBoxFilter1, .cboFilter1 13),
    (.c13MsrPmonBoxStatus, .boxStatus (.cbo 13)), (.c13MsrPmonCtr0, .ctr (.cbo 13) 0), (.c13MsrPmonCtr1, .ctr (.cbo 13) 1),
    (.c13MsrPmonCtr2, .ctr (.cbo 13) 2), (.c13MsrPmonCtr3, .ctr (.cbo 13) 3), (.c14MsrPmonBoxCtl, .boxCtl (.cbo 14)),
    (.c14MsrPmonCtl0, .ctl (.cbo 14) 0), (.c14MsrPmonCtl1, .ctl (.cbo 14) 1), (.c14MsrPmonCtl2, .ctl (.cbo 14) 2),
    (.c14MsrPmonCtl3, .ctl (.cbo 14) 3), (.c14MsrPmonBoxFilter0, .cboFilter0 14), (.c14MsrPmonBoxFilter1, .cboFilter1 14),
    (.c14MsrPmonBoxStatus, .boxStatus (.cbo 14)), (.c14MsrPmonCtr0, .ctr (.cbo 14) 0), (.c14MsrPmonCtr1, .ctr (.cbo 14) 1),
    (.c14MsrPmonCtr2, .ctr (.cbo 14) 2), (.c14MsrPmonCtr3, .ctr (.cbo 14) 3), (.c15MsrPmonBoxCtl, .boxCtl (.cbo 15)),
    (.c15MsrPmonCtl0, .ctl (.cbo 15) 0), (.c15MsrPmonCtl1, .ctl (.cbo 15) 1), (.c15MsrPmonCtl2, .ctl (.cbo 15) 2),
    (.c15MsrPmonCtl3, .ctl (.cbo 15) 3), (.c15MsrPmonBoxFilter0, .cboFilter0 15), (.c15MsrPmonBoxFilter1, .cboFilter1 15),
    (.c15MsrPmonBoxStatus, .boxStatus (.cbo 15)), (.c15MsrPmonCtr0, .ctr (.cbo 15) 0), (.c15MsrPmonCtr1, .ctr (.cbo 15) 1),
    (.c15MsrPmonCtr2, .ctr (.cbo 15) 2), (.c15MsrPmonCtr3, .ctr (.cbo 15) 3), (.c16MsrPmonBoxCtl, .boxCtl (.cbo 16)),
    (.c16MsrPmonCtl0, .ctl (.cbo 16) 0), (.c16MsrPmonCtl1, .ctl (.cbo 16) 1), (.c16MsrPmonCtl2, .ctl (.cbo 16) 2),
    (.c16MsrPmonCtl3, .ctl (.cbo 16) 3), (.c16MsrPmonBoxFilter0, .cboFilter0 16), (.c16MsrPmonBoxFilter1, .cboFilter1 16),
    (.c16MsrPmonBoxStatus, .boxStatus (.cbo 16)), (.c16MsrPmonCtr0, .ctr (.cbo 16) 0), (.c16MsrPmonCtr1, .ctr (.cbo 16) 1),
    (.c16MsrPmonCtr2, .ctr (.cbo 16) 2), (.c16MsrPmonCtr3, .ctr (.cbo 16) 3), (.c17MsrPmonBoxCtl, .boxCtl (.cbo 17)),
    (.c17MsrPmonCtl0, .ctl (.cbo 17) 0), (.c17MsrPmonCtl1, .ctl (.cbo 17) 1), (.c17MsrPmonCtl2, .ctl (.cbo 17) 2),
    (.c17MsrPmonCtl3, .ctl (.cbo 17) 3), (.c17MsrPmonBoxFilter0, .cboFilter0 17), (.c17MsrPmonBoxFilter1, .cboFilter1 17),
    (.c17MsrPmonBoxStatus, .boxStatus (.cbo 17)), (.c17MsrPmonCtr0, .ctr (.cbo 17) 0), (.c17MsrPmonCtr1, .ctr (.cbo 17) 1),
    (.c17MsrPmonCtr2, .ctr (.cbo 17) 2), (.c17MsrPmonCtr3, .ctr (.cbo 17) 3), (.s0MsrPmonBoxCtl, .boxCtl (.sbo 0)),
    (.s0MsrPmonCtl0, .ctl (.sbo 0) 0), (.s0MsrPmonCtl1, .ctl (.sbo 0) 1), (.s0MsrPmonCtl2, .ctl (.sbo 0) 2),
    (.s0MsrPmonCtl3, .ctl (.sbo 0) 3), (.s0MsrPmonBoxStatus, .boxStatus (.sbo 0)), (.s0MsrPmonCtr0, .ctr (.sbo 0) 0),
    (.s0MsrPmonCtr1, .ctr (.sbo 0) 1), (.s0MsrPmonCtr2, .ctr (.sbo 0) 2), (.s0MsrPmonCtr3, .ctr (.sbo 0) 3),
    (.s1MsrPmonBoxCtl, .boxCtl (.sbo 1)), (.s1MsrPmonCtl0, .ctl (.sbo 1) 0), (.s1MsrPmonCtl1, .ctl (.sbo 1) 1),
    (.s1MsrPmonCtl2, .ctl (.sbo 1) 2), (.s1MsrPmonCtl3, .ctl (.sbo 1) 3), (.s1MsrPmonBoxStatus, .boxStatus (.sbo 1)),
    (.s1MsrPmonCtr0, .ctr (.sbo 1) 0), (.s1MsrPmonCtr1, .ctr (.sbo 1) 1), (.s1MsrPmonCtr2, .ctr (.sbo 1) 2),
    (.s1MsrPmonCtr3, .ctr (.sbo 1) 3), (.s2MsrPmonBoxCtl, .boxCtl (.sbo 2)), (.s2MsrPmonCtl0, .ctl (.sbo 2) 0),
    (.s2MsrPmonCtl1, .ctl (.sbo 2) 1), (.s2MsrPmonCtl2, .ctl (.sbo 2) 2), (.s2MsrPmonCtl3, .ctl (.sbo 2) 3),
    (.s2MsrPmonBoxStatus, .boxStatus (.sbo 2)), (.s2MsrPmonCtr0, .ctr (.sbo 2) 0), (.s2MsrPmonCtr1, .ctr (.sbo 2) 1),
    (.s2MsrPmonCtr2, .ctr (.sbo 2) 2), (.s2MsrPmonCtr3, .ctr (.sbo 2) 3), (.s3MsrPmonBoxCtl, .boxCtl (.sbo 3)),
    (.s3MsrPmonCtl0, .ctl (.sbo 3) 0), (.s3MsrPmonCtl1, .ctl (.sbo 3) 1), (.s3MsrPmonCtl2, .ctl (.sbo 3) 2),
    (.s3MsrPmonCtl3, .ctl (.sbo 3) 3), (.s3MsrPmonBoxStatus, .boxStatus (.sbo 3)), (.s3MsrPmonCtr0, .ctr (.sbo 3) 0),
    (.s3MsrPmonCtr1, .ctr (.sbo 3) 1), (.s3MsrPmonCtr2, .ctr (.sbo 3) 2), (.s3MsrPmonCtr3, .ctr (.sbo 3) 3),
    (.pcuMsrPmonBoxCtl, .boxCtl .pcu), (.pcuMsrPmonCtl0, .ctl .pcu 0), (.pcuMsrPmonCtl1, .ctl .pcu 1),
    (.pcuMsrPmonCtl2, .ctl .pcu 2), (.pcuMsrPmonCtl3, .ctl .pcu 3), (.pcuMsrPmonBoxFilter, .pcuFilter),
    (.pcuMsrPmonBoxStatus, .boxStatus .pcu), (.pcuMsrPmonCtr0, .ctr .pcu 0), (.pcuMsrPmonCtr1, .ctr .pcu 1),
    (.pcuMsrPmonCtr2, .ctr .pcu 2), (.pcuMsrPmonCtr3, .ctr .pcu 3), (.pcuMsrCoreCc6Ctr, .pcuFree .cc6),
    (.pcuMsrCoreCc3Ctr, .pcuFree .cc3), (.pcuMsrCorePc2Ctr, .pcuFree .pc2), (.pcuMsrCorePc3Ctr, .pcuFree .pc3)]
    : List ((MsrAccess → Instr) × Reg)), reads p.1 p.2

/-- CFGRD on the part's bus returns the register's lower dword, or of a two-dword counter the upper one, and changes
nothing else (40_global_ubox.md R202, R204, 20_memory.md R103; `hostRead`, log 13); then the same of each PCICFG row
by name, with the register it names (30_encoding.md R182, 20_memory.md R102). Offset 0 of a function of a box the part
has returns the device id above the vendor id and changes nothing else, and a write to it changes nothing
(20_memory.md R110, 40_global_ubox.md R203; that it is exposed and the vendor word 0x8086 are the model's, logs 22 and
31). -/
def Obligations.CfgReadReturnsDword : Prop :=
  (∀ (i : Instr) (addr : Nat) (r : Reg) (high : Bool) (s : State), i.view = .cfg addr r ⟨s.cfg.bus, high, .read⟩ →
    r.present s.cfg = true →
    exec i s = .next (s.setHostRead (some (((readReg r s).extractLsb' (if high then 32 else 0) 32).setWidth 64)))) ∧
  (let reads := fun (mk : CfgAccess → Instr) (r : Reg) => ∀ (high : Bool) (s : State), r.present s.cfg = true →
    exec (mk ⟨s.cfg.bus, high, .read⟩) s =
      .next (s.setHostRead (some (((readReg r s).extractLsb' (if high then 32 else 0) 32).setWidth 64)))
  ∀ p ∈ ([
    (.ha0PciPmonBoxStatus, .boxStatus (.ha 0)), (.ha0PciPmonBoxCtl, .boxCtl (.ha 0)), (.ha0PciPmonCtl0, .ctl (.ha 0) 0),
    (.ha0PciPmonCtl1, .ctl (.ha 0) 1), (.ha0PciPmonCtl2, .ctl (.ha 0) 2), (.ha0PciPmonCtl3, .ctl (.ha 0) 3),
    (.ha0PciPmonCtr0, .ctr (.ha 0) 0), (.ha0PciPmonCtr1, .ctr (.ha 0) 1), (.ha0PciPmonCtr2, .ctr (.ha 0) 2),
    (.ha0PciPmonCtr3, .ctr (.ha 0) 3), (.ha0PciPmonBoxOpcodematch, .haOpcodeMatch 0),
    (.ha0PciPmonBoxAddrmatch1, .haAddrMatch1 0), (.ha0PciPmonBoxAddrmatch0, .haAddrMatch0 0),
    (.ha1PciPmonBoxStatus, .boxStatus (.ha 1)), (.ha1PciPmonBoxCtl, .boxCtl (.ha 1)), (.ha1PciPmonCtl0, .ctl (.ha 1) 0),
    (.ha1PciPmonCtl1, .ctl (.ha 1) 1), (.ha1PciPmonCtl2, .ctl (.ha 1) 2), (.ha1PciPmonCtl3, .ctl (.ha 1) 3),
    (.ha1PciPmonCtr0, .ctr (.ha 1) 0), (.ha1PciPmonCtr1, .ctr (.ha 1) 1), (.ha1PciPmonCtr2, .ctr (.ha 1) 2),
    (.ha1PciPmonCtr3, .ctr (.ha 1) 3), (.ha1PciPmonBoxOpcodematch, .haOpcodeMatch 1),
    (.ha1PciPmonBoxAddrmatch1, .haAddrMatch1 1), (.ha1PciPmonBoxAddrmatch0, .haAddrMatch0 1),
    (.mc0Ch0PciPmonBoxStatus, .boxStatus (.imc 0)), (.mc0Ch0PciPmonBoxCtl, .boxCtl (.imc 0)),
    (.mc0Ch0PciPmonCtl0, .ctl (.imc 0) 0), (.mc0Ch0PciPmonCtl1, .ctl (.imc 0) 1), (.mc0Ch0PciPmonCtl2, .ctl (.imc 0) 2),
    (.mc0Ch0PciPmonCtl3, .ctl (.imc 0) 3), (.mc0Ch0PciPmonCtr0, .ctr (.imc 0) 0), (.mc0Ch0PciPmonCtr1, .ctr (.imc 0) 1),
    (.mc0Ch0PciPmonCtr2, .ctr (.imc 0) 2), (.mc0Ch0PciPmonCtr3, .ctr (.imc 0) 3),
    (.mc0Ch0PciPmonFixedCtl, .fixedCtl (.imc 0)), (.mc0Ch0PciPmonFixedCtr, .fixedCtr (.imc 0)),
    (.mc0Ch1PciPmonBoxStatus, .boxStatus (.imc 1)), (.mc0Ch1PciPmonBoxCtl, .boxCtl (.imc 1)),
    (.mc0Ch1PciPmonCtl0, .ctl (.imc 1) 0), (.mc0Ch1PciPmonCtl1, .ctl (.imc 1) 1), (.mc0Ch1PciPmonCtl2, .ctl (.imc 1) 2),
    (.mc0Ch1PciPmonCtl3, .ctl (.imc 1) 3), (.mc0Ch1PciPmonCtr0, .ctr (.imc 1) 0), (.mc0Ch1PciPmonCtr1, .ctr (.imc 1) 1),
    (.mc0Ch1PciPmonCtr2, .ctr (.imc 1) 2), (.mc0Ch1PciPmonCtr3, .ctr (.imc 1) 3),
    (.mc0Ch1PciPmonFixedCtl, .fixedCtl (.imc 1)), (.mc0Ch1PciPmonFixedCtr, .fixedCtr (.imc 1)),
    (.mc0Ch2PciPmonBoxStatus, .boxStatus (.imc 2)), (.mc0Ch2PciPmonBoxCtl, .boxCtl (.imc 2)),
    (.mc0Ch2PciPmonCtl0, .ctl (.imc 2) 0), (.mc0Ch2PciPmonCtl1, .ctl (.imc 2) 1), (.mc0Ch2PciPmonCtl2, .ctl (.imc 2) 2),
    (.mc0Ch2PciPmonCtl3, .ctl (.imc 2) 3), (.mc0Ch2PciPmonCtr0, .ctr (.imc 2) 0), (.mc0Ch2PciPmonCtr1, .ctr (.imc 2) 1),
    (.mc0Ch2PciPmonCtr2, .ctr (.imc 2) 2), (.mc0Ch2PciPmonCtr3, .ctr (.imc 2) 3),
    (.mc0Ch2PciPmonFixedCtl, .fixedCtl (.imc 2)), (.mc0Ch2PciPmonFixedCtr, .fixedCtr (.imc 2)),
    (.mc0Ch3PciPmonBoxStatus, .boxStatus (.imc 3)), (.mc0Ch3PciPmonBoxCtl, .boxCtl (.imc 3)),
    (.mc0Ch3PciPmonCtl0, .ctl (.imc 3) 0), (.mc0Ch3PciPmonCtl1, .ctl (.imc 3) 1), (.mc0Ch3PciPmonCtl2, .ctl (.imc 3) 2),
    (.mc0Ch3PciPmonCtl3, .ctl (.imc 3) 3), (.mc0Ch3PciPmonCtr0, .ctr (.imc 3) 0), (.mc0Ch3PciPmonCtr1, .ctr (.imc 3) 1),
    (.mc0Ch3PciPmonCtr2, .ctr (.imc 3) 2), (.mc0Ch3PciPmonCtr3, .ctr (.imc 3) 3),
    (.mc0Ch3PciPmonFixedCtl, .fixedCtl (.imc 3)), (.mc0Ch3PciPmonFixedCtr, .fixedCtr (.imc 3)),
    (.mc1Ch0PciPmonBoxStatus, .boxStatus (.imc 4)), (.mc1Ch0PciPmonBoxCtl, .boxCtl (.imc 4)),
    (.mc1Ch0PciPmonCtl0, .ctl (.imc 4) 0), (.mc1Ch0PciPmonCtl1, .ctl (.imc 4) 1), (.mc1Ch0PciPmonCtl2, .ctl (.imc 4) 2),
    (.mc1Ch0PciPmonCtl3, .ctl (.imc 4) 3), (.mc1Ch0PciPmonCtr0, .ctr (.imc 4) 0), (.mc1Ch0PciPmonCtr1, .ctr (.imc 4) 1),
    (.mc1Ch0PciPmonCtr2, .ctr (.imc 4) 2), (.mc1Ch0PciPmonCtr3, .ctr (.imc 4) 3),
    (.mc1Ch0PciPmonFixedCtl, .fixedCtl (.imc 4)), (.mc1Ch0PciPmonFixedCtr, .fixedCtr (.imc 4)),
    (.mc1Ch1PciPmonBoxStatus, .boxStatus (.imc 5)), (.mc1Ch1PciPmonBoxCtl, .boxCtl (.imc 5)),
    (.mc1Ch1PciPmonCtl0, .ctl (.imc 5) 0), (.mc1Ch1PciPmonCtl1, .ctl (.imc 5) 1), (.mc1Ch1PciPmonCtl2, .ctl (.imc 5) 2),
    (.mc1Ch1PciPmonCtl3, .ctl (.imc 5) 3), (.mc1Ch1PciPmonCtr0, .ctr (.imc 5) 0), (.mc1Ch1PciPmonCtr1, .ctr (.imc 5) 1),
    (.mc1Ch1PciPmonCtr2, .ctr (.imc 5) 2), (.mc1Ch1PciPmonCtr3, .ctr (.imc 5) 3),
    (.mc1Ch1PciPmonFixedCtl, .fixedCtl (.imc 5)), (.mc1Ch1PciPmonFixedCtr, .fixedCtr (.imc 5)),
    (.mc1Ch2PciPmonBoxStatus, .boxStatus (.imc 6)), (.mc1Ch2PciPmonBoxCtl, .boxCtl (.imc 6)),
    (.mc1Ch2PciPmonCtl0, .ctl (.imc 6) 0), (.mc1Ch2PciPmonCtl1, .ctl (.imc 6) 1), (.mc1Ch2PciPmonCtl2, .ctl (.imc 6) 2),
    (.mc1Ch2PciPmonCtl3, .ctl (.imc 6) 3), (.mc1Ch2PciPmonCtr0, .ctr (.imc 6) 0), (.mc1Ch2PciPmonCtr1, .ctr (.imc 6) 1),
    (.mc1Ch2PciPmonCtr2, .ctr (.imc 6) 2), (.mc1Ch2PciPmonCtr3, .ctr (.imc 6) 3),
    (.mc1Ch2PciPmonFixedCtl, .fixedCtl (.imc 6)), (.mc1Ch2PciPmonFixedCtr, .fixedCtr (.imc 6)),
    (.mc1Ch3PciPmonBoxStatus, .boxStatus (.imc 7)), (.mc1Ch3PciPmonBoxCtl, .boxCtl (.imc 7)),
    (.mc1Ch3PciPmonCtl0, .ctl (.imc 7) 0), (.mc1Ch3PciPmonCtl1, .ctl (.imc 7) 1), (.mc1Ch3PciPmonCtl2, .ctl (.imc 7) 2),
    (.mc1Ch3PciPmonCtl3, .ctl (.imc 7) 3), (.mc1Ch3PciPmonCtr0, .ctr (.imc 7) 0), (.mc1Ch3PciPmonCtr1, .ctr (.imc 7) 1),
    (.mc1Ch3PciPmonCtr2, .ctr (.imc 7) 2), (.mc1Ch3PciPmonCtr3, .ctr (.imc 7) 3),
    (.mc1Ch3PciPmonFixedCtl, .fixedCtl (.imc 7)), (.mc1Ch3PciPmonFixedCtr, .fixedCtr (.imc 7)),
    (.irpPciPmonBoxStatus, .boxStatus .irp), (.irpPciPmonBoxCtl, .boxCtl .irp), (.irp0PciPmonCtl0, .ctl .irp 0),
    (.irp0PciPmonCtl1, .ctl .irp 1), (.irp1PciPmonCtl0, .ctl .irp 2), (.irp1PciPmonCtl1, .ctl .irp 3),
    (.irp0PciPmonCtr0, .ctr .irp 0), (.irp0PciPmonCtr1, .ctr .irp 1), (.irp1PciPmonCtr0, .ctr .irp 2),
    (.irp1PciPmonCtr1, .ctr .irp 3), (.qP0PciPmonBoxStatus, .boxStatus (.qpi 0)), (.qP0PciPmonBoxCtl, .boxCtl (.qpi 0)),
    (.qP0PciPmonCtl0, .ctl (.qpi 0) 0), (.qP0PciPmonCtl1, .ctl (.qpi 0) 1), (.qP0PciPmonCtl2, .ctl (.qpi 0) 2),
    (.qP0PciPmonCtl3, .ctl (.qpi 0) 3), (.qP0PciPmonCtr0, .ctr (.qpi 0) 0), (.qP0PciPmonCtr1, .ctr (.qpi 0) 1),
    (.qP0PciPmonCtr2, .ctr (.qpi 0) 2), (.qP0PciPmonCtr3, .ctr (.qpi 0) 3), (.qP0PciPmonLinkLlr, .qpiLlr 0),
    (.qP0PciPmonLinkIdle, .qpiIdle 0), (.qP0PciPmonRxPktMask1, .qpiPkt 0 .rxMask1),
    (.qP0PciPmonRxPktMask0, .qpiPkt 0 .rxMask0), (.qP0PciPmonRxPktMatch1, .qpiPkt 0 .rxMatch1),
    (.qP0PciPmonRxPktMatch0, .qpiPkt 0 .rxMatch0), (.qP0PciPmonTxPktMask1, .qpiPkt 0 .txMask1),
    (.qP0PciPmonTxPktMask0, .qpiPkt 0 .txMask0), (.qP0PciPmonTxPktMatch1, .qpiPkt 0 .txMatch1),
    (.qP0PciPmonTxPktMatch0, .qpiPkt 0 .txMatch0), (.qP1PciPmonBoxStatus, .boxStatus (.qpi 1)),
    (.qP1PciPmonBoxCtl, .boxCtl (.qpi 1)), (.qP1PciPmonCtl0, .ctl (.qpi 1) 0), (.qP1PciPmonCtl1, .ctl (.qpi 1) 1),
    (.qP1PciPmonCtl2, .ctl (.qpi 1) 2), (.qP1PciPmonCtl3, .ctl (.qpi 1) 3), (.qP1PciPmonCtr0, .ctr (.qpi 1) 0),
    (.qP1PciPmonCtr1, .ctr (.qpi 1) 1), (.qP1PciPmonCtr2, .ctr (.qpi 1) 2), (.qP1PciPmonCtr3, .ctr (.qpi 1) 3),
    (.qP1PciPmonLinkLlr, .qpiLlr 1), (.qP1PciPmonLinkIdle, .qpiIdle 1), (.qP1PciPmonRxPktMask1, .qpiPkt 1 .rxMask1),
    (.qP1PciPmonRxPktMask0, .qpiPkt 1 .rxMask0), (.qP1PciPmonRxPktMatch1, .qpiPkt 1 .rxMatch1),
    (.qP1PciPmonRxPktMatch0, .qpiPkt 1 .rxMatch0), (.qP1PciPmonTxPktMask1, .qpiPkt 1 .txMask1),
    (.qP1PciPmonTxPktMask0, .qpiPkt 1 .txMask0), (.qP1PciPmonTxPktMatch1, .qpiPkt 1 .txMatch1),
    (.qP1PciPmonTxPktMatch0, .qpiPkt 1 .txMatch0), (.qP2PciPmonBoxStatus, .boxStatus (.qpi 2)),
    (.qP2PciPmonBoxCtl, .boxCtl (.qpi 2)), (.qP2PciPmonCtl0, .ctl (.qpi 2) 0), (.qP2PciPmonCtl1, .ctl (.qpi 2) 1),
    (.qP2PciPmonCtl2, .ctl (.qpi 2) 2), (.qP2PciPmonCtl3, .ctl (.qpi 2) 3), (.qP2PciPmonCtr0, .ctr (.qpi 2) 0),
    (.qP2PciPmonCtr1, .ctr (.qpi 2) 1), (.qP2PciPmonCtr2, .ctr (.qpi 2) 2), (.qP2PciPmonCtr3, .ctr (.qpi 2) 3),
    (.qP2PciPmonLinkLlr, .qpiLlr 2), (.qP2PciPmonLinkIdle, .qpiIdle 2), (.qP2PciPmonRxPktMask1, .qpiPkt 2 .rxMask1),
    (.qP2PciPmonRxPktMask0, .qpiPkt 2 .rxMask0), (.qP2PciPmonRxPktMatch1, .qpiPkt 2 .rxMatch1),
    (.qP2PciPmonRxPktMatch0, .qpiPkt 2 .rxMatch0), (.qP2PciPmonTxPktMask1, .qpiPkt 2 .txMask1),
    (.qP2PciPmonTxPktMask0, .qpiPkt 2 .txMask0), (.qP2PciPmonTxPktMatch1, .qpiPkt 2 .txMatch1),
    (.qP2PciPmonTxPktMatch0, .qpiPkt 2 .txMatch0), (.qpi0RateStatus, .qpiRate false), (.qpi1RateStatus, .qpiRate true),
    (.r2PciPmonBoxStatus, .boxStatus .r2), (.r2PciPmonBoxCtl, .boxCtl .r2), (.r2PciPmonCtl0, .ctl .r2 0),
    (.r2PciPmonCtl1, .ctl .r2 1), (.r2PciPmonCtl2, .ctl .r2 2), (.r2PciPmonCtl3, .ctl .r2 3), (.r2PciPmonCtr0, .ctr .r2 0),
    (.r2PciPmonCtr1, .ctr .r2 1), (.r2PciPmonCtr2, .ctr .r2 2), (.r2PciPmonCtr3, .ctr .r2 3),
    (.r3L0PciPmonBoxStatus, .boxStatus (.r3 0)), (.r3L0PciPmonBoxCtl, .boxCtl (.r3 0)), (.r3L0PciPmonCtl0, .ctl (.r3 0) 0),
    (.r3L0PciPmonCtl1, .ctl (.r3 0) 1), (.r3L0PciPmonCtl2, .ctl (.r3 0) 2), (.r3L0PciPmonCtr0, .ctr (.r3 0) 0),
    (.r3L0PciPmonCtr1, .ctr (.r3 0) 1), (.r3L0PciPmonCtr2, .ctr (.r3 0) 2), (.r3L1PciPmonBoxStatus, .boxStatus (.r3 1)),
    (.r3L1PciPmonBoxCtl, .boxCtl (.r3 1)), (.r3L1PciPmonCtl0, .ctl (.r3 1) 0), (.r3L1PciPmonCtl1, .ctl (.r3 1) 1),
    (.r3L1PciPmonCtl2, .ctl (.r3 1) 2), (.r3L1PciPmonCtr0, .ctr (.r3 1) 0), (.r3L1PciPmonCtr1, .ctr (.r3 1) 1),
    (.r3L1PciPmonCtr2, .ctr (.r3 1) 2), (.r3L2PciPmonBoxStatus, .boxStatus (.r3 2)), (.r3L2PciPmonBoxCtl, .boxCtl (.r3 2)),
    (.r3L2PciPmonCtl0, .ctl (.r3 2) 0), (.r3L2PciPmonCtl1, .ctl (.r3 2) 1), (.r3L2PciPmonCtl2, .ctl (.r3 2) 2),
    (.r3L2PciPmonCtr0, .ctr (.r3 2) 0), (.r3L2PciPmonCtr1, .ctr (.r3 2) 1), (.r3L2PciPmonCtr2, .ctr (.r3 2) 2)]
    : List ((CfgAccess → Instr) × Reg)), reads p.1 p.2) ∧
  ∀ (s : State) (cmd : List Byte) (rest : List Turn) (bus : BitVec 8) (fn : Nat) (write : Bool) (r : Reg)
    (device : BitVec 16), s.run = none → s.agenda = .host cmd :: rest →
    decode (.host s.cfg.irpAlt) cmd = .error (.identification bus fn write) →
    functionTable.lookup fn = some (r, device) → bus = s.cfg.bus → r.present s.cfg = true →
    step s = .next (if write then s.setAgenda rest
      else (s.setAgenda rest).setHostRead (some ((device ++ (0x8086 : BitVec 16)).setWidth 64)))

/-- No register shows the hidden latches: GFRZ, BFRZ, GFRZ_seen, the edge detectors' samples, DW, QRST, EFFBAND and
PEND leave every read as it is (10_state.md R92 to R98). -/
def Obligations.ReadsHideLatches : Prop :=
  ∀ (r : Reg) (b : BoxId) (j : Fin 4) (s : State) (u : CtrUnit) (g gs : Option Bool) (f : Bool)
    (bands : Vector (Option (BitVec 8)) 4) (messages : List Quad),
    u.ctl = (s.unit b j).ctl → u.ctr = (s.unit b j).ctr →
    readReg r { s.setBlk b { (s.blk b).setUnit j u with bfrz := f, gseen := gs } with
      gfrz := g, effband := bands, pend := messages } = readReg r s

/-! ### Register writes -/

/-- A write to a counter control register (40_global_ubox.md R208, 10_state.md R94 to R96): stored fields, the reset
bit, the edge detector, the QPI's sticky reset, the double-write latches; nothing else. -/
def Obligations.ControlWrite : Prop :=
  ∀ (i : Instr) (b : BoxId) (j : Fin 4) (v : Quad) (s : State), WritesReg i (.ctl b j) v s →
    let w := v.extractLsb' 0 32
    v.extractLsb' 32 32 = 0 → w &&& ctlMustZero b.kind = 0 → ThreshAllows b.kind w →
    ∃ x, exec i s = .next (s.setBlk b x) ∧
      (x.unit j).ctl = w &&& ctlStored b.kind ∧
      (x.unit j).ctr = (if w.getLsbD 17 then 0 else (s.unit b j).ctr) ∧
      (x.unit j).prev = none ∧ (x.unit j).oprev = none ∧
      (x.unit j).qrst = (if b.kind = .qpi then w.getLsbD 17 else (s.unit b j).qrst) ∧
      (b.doubleWrite = false → (x.unit j).dw = (s.unit b j).dw ∧ (x.unit j).settled = (s.unit b j).settled) ∧
      (b.doubleWrite = true → (x.unit j).dw = some w ∧
        ((x.unit j).settled = true ↔ ∃ old, (s.unit b j).dw = some old ∧ ∀ n < 32, n ≠ 22 → old.getLsbD n = w.getLsbD n)) ∧
      (∀ m, m ≠ j → x.unit m = (s.unit b m).pairBroken b) ∧
      x.ov = (s.blk b).ov ∧ x.bfrz = (s.blk b).bfrz ∧ x.gseen = (s.blk b).gseen ∧
      x.fixCtl = (s.blk b).fixCtl ∧ x.fixCtr = (s.blk b).fixCtr

/-- A write to a box control register (40_global_ubox.md R209): rst_ctrl resets and settles every generic control,
rst_ctrs every generic counter, bit 8 becomes the box freeze; the status, the fixed counter and every other block
stay. -/
def Obligations.BoxControlWrite : Prop :=
  ∀ (i : Instr) (b : BoxId) (v : Quad) (s : State), WritesReg i (.boxCtl b) v s →
    let w := v.extractLsb' 0 32
    v.extractLsb' 32 32 = 0 → (hasRsvOne b.kind = true → w.extractLsb' 16 2 = s.cfg.boxCtlOne) →
    ∃ x, exec i s = .next (s.setBlk b x) ∧ x.bfrz = w.getLsbD 8 ∧
      (∀ m, (x.unit m).ctr = (if w.getLsbD 1 then 0 else (s.unit b m).ctr) ∧
        (w.getLsbD 0 = true → (x.unit m).ctl = 0 ∧ (x.unit m).prev = none ∧ (x.unit m).oprev = none ∧
          (x.unit m).dw = none ∧ (x.unit m).settled = true ∧ (x.unit m).qrst = false) ∧
        (w.getLsbD 0 = false → (x.unit m).ctl = (s.unit b m).ctl ∧ (x.unit m).prev = (s.unit b m).prev ∧
          (x.unit m).oprev = (s.unit b m).oprev ∧ (x.unit m).dw = ((s.unit b m).pairBroken b).dw ∧
          (x.unit m).settled = (s.unit b m).settled ∧ (x.unit m).qrst = (s.unit b m).qrst)) ∧
      x.ov = (s.blk b).ov ∧ x.gseen = (s.blk b).gseen ∧ x.fixCtl = (s.blk b).fixCtl ∧ x.fixCtr = (s.blk b).fixCtr

/-- A write to a box status register clears the overflow bits written 1 that the box has, and nothing else
(40_global_ubox.md R210). -/
def Obligations.BoxStatusWrite : Prop :=
  ∀ (i : Instr) (b : BoxId) (v : Quad) (s : State), WritesReg i (.boxStatus b) v s →
    let w := v.extractLsb' 0 32
    v.extractLsb' 32 32 = 0 → w &&& statusMustZero b.kind = 0 →
    ∃ x, exec i s = .next (s.setBlk b x) ∧
      (∀ n < 5, x.ov.getLsbD n = ((s.blk b).ov.getLsbD n && !(w.getLsbD n && (ovMask b.kind).getLsbD n))) ∧
      (∀ m, x.unit m = (s.unit b m).pairBroken b) ∧ x.bfrz = (s.blk b).bfrz ∧ x.gseen = (s.blk b).gseen ∧
      x.fixCtl = (s.blk b).fixCtl ∧ x.fixCtr = (s.blk b).fixCtr

/-- A write to a generic counter stores the value's low W bits and leaves the control register, the edge detector, the
status and every other counter alone (40_global_ubox.md R211). -/
def Obligations.CounterWrite : Prop :=
  ∀ (i : Instr) (b : BoxId) (j : Fin 4) (v : Quad) (s : State), WritesReg i (.ctr b j) v s →
    ∃ x, exec i s = .next (s.setBlk b x) ∧
      x.unit j = { (s.unit b j).pairBroken b with ctr := BitVec.ofNat 48 (v.toNat % 2 ^ b.width s.cfg) } ∧
      (∀ m, m ≠ j → x.unit m = (s.unit b m).pairBroken b) ∧
      x.ov = (s.blk b).ov ∧ x.bfrz = (s.blk b).bfrz ∧ x.gseen = (s.blk b).gseen ∧
      x.fixCtl = (s.blk b).fixCtl ∧ x.fixCtr = (s.blk b).fixCtr

/-- A dword write to a two-dword counter replaces that half and keeps the other (40_global_ubox.md R203, 20_memory.md
R112): after it the counter is the old value with the half replaced, modulo 2^W. -/
def Obligations.CounterDwordWrite : Prop :=
  ∀ (i : Instr) (addr : Nat) (b : BoxId) (j : Fin 4) (high : Bool) (w : Word) (s : State),
    i.view = .cfg addr (.ctr b j) ⟨s.cfg.bus, high, .write w⟩ → b.present s.cfg = true →
    ∃ t, exec i s = .next t ∧
      (t.unit b j).ctr.toNat =
        (if high then w.toNat * 2 ^ 32 + (s.unit b j).ctr.toNat % 2 ^ 32
          else (s.unit b j).ctr.toNat / 2 ^ 32 * 2 ^ 32 + w.toNat) % 2 ^ b.width s.cfg

/-- Writes to the fixed counters and their controls (40_global_ubox.md R208, R211, R234; 44_imc.md R503): the control
keeps en and ov_en, the IMC's rst clears the counter, a counter write stores 48 bits; nothing else changes. -/
def Obligations.FixedCounterWrites : Prop :=
  ∀ (i : Instr) (b : BoxId) (v : Quad) (s : State),
    let w := v.extractLsb' 0 32
    (WritesReg i (.fixedCtl b) v s → v.extractLsb' 32 32 = 0 → w.getLsbD 21 = false →
      (b.kind = .imc → w.getLsbD 23 = false) →
      exec i s = .next (s.setBlk b { s.blk b with
        fixCtl := w &&& 0x00500000
        fixCtr := if b.kind = .imc ∧ w.getLsbD 19 = true then 0 else (s.blk b).fixCtr })) ∧
    (WritesReg i (.fixedCtr b) v s →
      exec i s = .next (s.setBlk b { s.blk b with fixCtr := v.extractLsb' 0 48 }))

/-- A write to U_MSR_PMON_GLOBAL_CTL: the checks, the two stored fields, and the freeze latch set by frz_all, cleared
by unfrz_all and kept without either; nothing else changes (40_global_ubox.md R225). -/
def Obligations.GlobalControlWrite : Prop :=
  ∀ (v : Quad) (s : State),
    let i := Instr.uMsrPmonGlobalCtl (.write v)
    (v.extractLsb' 32 32 ≠ 0 ∨ v.extractLsb' 27 2 ≠ 0 → exec i s = .refused .reservedNonzero) ∧
    (v.extractLsb' 32 32 = 0 → v.extractLsb' 27 2 = 0 →
      if v.getLsbD 31 = true ∧ v.getLsbD 29 = true then exec i s = .refused .freezeAndUnfreeze
      else exec i s = .next { s with
        wkOnPmi := v.getLsbD 30
        pmiCoreSel := v.extractLsb' 0 18
        gfrz := if v.getLsbD 31 then some true else if v.getLsbD 29 then some false else s.gfrz })

/-- A write to U_MSR_PMON_GLOBAL_STATUS clears the defined bits written 1 and drops the others; it neither unfreezes
nor recalls anything (40_global_ubox.md R229). -/
def Obligations.GlobalStatusWrite : Prop :=
  ∀ (v : Quad) (s : State),
    exec (.uMsrPmonGlobalStatus (.write v)) s = .next { s with status := s.status &&& ~~~(v &&& 0x0000000C3FE00007) }

/-- A write to U_MSR_PMON_GLOBAL_CONFIG stores num_c and has no other effect; bits 63:32 must be 0; num_c resets to 18
(40_global_ubox.md R230). -/
def Obligations.GlobalConfigWrite : Prop :=
  (∀ (v : Quad) (s : State), v.extractLsb' 32 32 = 0 →
    exec (.uMsrPmonGlobalConfig (.write v)) s = .next { s with numC := v.extractLsb' 0 5 }) ∧
  (∀ (v : Quad) (s : State), v.extractLsb' 32 32 ≠ 0 →
    exec (.uMsrPmonGlobalConfig (.write v)) s = .refused .reservedNonzero) ∧
  State.reset.numC = 18

/-- The filter, match and mask registers and the QPI free-running counters store the non-reserved fields of an
accepted write, and nothing else changes (40_global_ubox.md R201, R203; 10_state.md R40, R41, R52 to R54, R78, R79,
R81). -/
def Obligations.PlainRegisterWrites : Prop :=
  ∀ (i : Instr) (v : Quad) (s : State), v.extractLsb' 32 32 = 0 →
    let w := v.extractLsb' 0 32
    (∀ n : Fin 18, WritesReg i (.cboFilter0 n) v s → w &&& 0xFF01FFC0 = 0 →
      exec i s = .next { s with cboFilter0 := s.cboFilter0.set n w }) ∧
    (∀ n : Fin 18, WritesReg i (.cboFilter1 n) v s → w.getLsbD 29 = false →
      exec i s = .next { s with cboFilter1 := s.cboFilter1.set n (w &&& 0xDFF0FFFF) }) ∧
    (∀ n : Fin 2, WritesReg i (.haOpcodeMatch n) v s →
      exec i s = .next { s with haOpcodeMatch := s.haOpcodeMatch.set n (w &&& 0x3F) }) ∧
    (∀ n : Fin 2, WritesReg i (.haAddrMatch1 n) v s →
      exec i s = .next { s with haAddrMatch1 := s.haAddrMatch1.set n (w &&& 0x3FFF) }) ∧
    (∀ n : Fin 2, WritesReg i (.haAddrMatch0 n) v s →
      exec i s = .next { s with haAddrMatch0 := s.haAddrMatch0.set n (w &&& 0xFFFFFFC0) }) ∧
    (∀ (p : Fin 3) (r : PktReg), WritesReg i (.qpiPkt p r) v s → w &&& (Reg.qpiPkt p r).mustZero = 0 →
      exec i s = .next { s with qpiPkt := s.qpiPkt.set p (s.qpiPkt[p].set r w) }) ∧
    (∀ p : Fin 3, WritesReg i (.qpiIdle p) v s → exec i s = .next { s with qpiIdle := s.qpiIdle.set p w }) ∧
    (∀ p : Fin 3, WritesReg i (.qpiLlr p) v s → exec i s = .next { s with qpiLlr := s.qpiLlr.set p w })

/-- A write to PCU_MSR_PMON_BOX_FILTER is read back at once, while each band threshold in use stays or becomes the new
byte until the next frequency transition; one without a value keeps none (46_pcu.md R656, 10_state.md R97; log 19). At
a frequency transition every band threshold becomes the filter's byte, with or without a value before, and nothing
else changes. -/
def Obligations.PcuFilterWrite : Prop :=
  (∀ (v : Quad) (s : State), v.extractLsb' 32 32 = 0 →
    ∃ eff n, exec (.pcuMsrPmonBoxFilter (.write v)) s =
        .next ({ s with pcuFilter := v.extractLsb' 0 32, effband := eff }.setDraws n) ∧
      ∀ k : Fin 4, (s.effband[k] = none → eff[k] = none) ∧
        (eff[k] = s.effband[k] ∨ eff[k] = some (v.extractLsb' (8 * k.val) 8))) ∧
  ∀ (s : State) (rest : List Turn), s.run = none → s.agenda = .frequency :: rest →
    ∃ eff, step s = .next { s with effband := eff, agenda := rest } ∧
      ∀ k : Fin 4, eff[k] = some (s.pcuFilter.extractLsb' (8 * k.val) 8)

/-- Two writes in a row of the same value (bit 22 aside) settle a control register of an SBo, the R2PCIe or an R3QPI;
one write after a break does not, and a write to any other register of the box breaks the row (10_state.md R95,
70_reset_and_hazards.md R1051). -/
def Obligations.DoubleWriteDiscipline : Prop :=
  ∀ (i₁ i₂ : Instr) (b : BoxId) (j : Fin 4) (v₁ v₂ : Quad) (s t u : State), b.doubleWrite = true →
    WritesReg i₁ (.ctl b j) v₁ s → exec i₁ s = .next t →
    ((s.unit b j).dw = none → (t.unit b j).settled = false) ∧
    (WritesReg i₂ (.ctl b j) v₂ t → exec i₂ t = .next u →
      (∀ n < 32, n ≠ 22 → v₁.getLsbD n = v₂.getLsbD n) → (u.unit b j).settled = true) ∧
    ((∃ r, WritesReg i₂ r v₂ t ∧ r ≠ .ctl b j ∧
        (r = .boxCtl b ∨ r = .boxStatus b ∨ ∃ m, r = .ctr b m ∨ r = .ctl b m)) →
      exec i₂ t = .next u → (u.unit b j).dw = none)

/-- The writes the spec declines, in the order of its checks (60_exceptions.md R1001, R1002): non-zero upper bits of a
32-bit register, a read-only register, a must-be-0 field or the field at bits 17:16 of a box control, an event shaped
with thresh = 0, both action bits of the global control. -/
def Obligations.DeclinedWrites : Prop :=
  ∀ (i : Instr) (r : Reg) (v : Quad) (s : State), WritesReg i r v s →
    let w := v.extractLsb' 0 32
    if r.wide = false ∧ v.extractLsb' 32 32 ≠ 0 then exec i s = .refused .reservedNonzero
    else if r.readOnly = true then exec i s = .refused .readOnly
    else if w &&& r.mustZero ≠ 0 then exec i s = .refused .reservedNonzero
    else (∀ b, r = .boxCtl b → hasRsvOne b.kind = true → w.extractLsb' 16 2 ≠ s.cfg.boxCtlOne →
        exec i s = .refused .reservedNonzero) ∧
      (∀ b j, r = .ctl b j → ¬ ThreshAllows b.kind w → exec i s = .refused .threshZero) ∧
      (∀ n, r = .fixedCtl (.imc n) → w.getLsbD 23 = true → exec i s = .refused .threshZero) ∧
      (r = .globalCtl → w.getLsbD 31 = true → w.getLsbD 29 = true → exec i s = .refused .freezeAndUnfreeze)

/-- An access to an instance the part lacks, and a configuration access on another bus, are declined
(40_global_ubox.md R202, R207). -/
def Obligations.DeclinedAddresses : Prop :=
  ∀ (i : Instr) (addr : Nat) (r : Reg) (s : State),
    (∀ a, i.view = .msr addr r a → r.present s.cfg = false → exec i s = .refused .absentBox) ∧
    (∀ a, i.view = .cfg addr r a → a.bus ≠ s.cfg.bus → exec i s = .refused .unmapped) ∧
    (∀ a, i.view = .cfg addr r a → a.bus = s.cfg.bus → r.present s.cfg = false → exec i s = .refused .absentBox)

/-! ### Cycles -/

/-- A cycle of a box the part has begins by clearing the QPI counters held in reset (47_qpi.md R755), and changes
nothing else. -/
def Obligations.CycleBegins : Prop :=
  ∀ (s : State) (b : BoxId) (rest : List Turn), s.run = none → s.agenda = .clock b :: rest → b.present s.cfg = true →
    ∃ x, step s = .next (((s.setAgenda rest).setBlk b x).setRun (some ⟨b, 0⟩)) ∧
      (∀ j, x.unit j = if b.kind = .qpi ∧ (s.unit b j).qrst = true then { s.unit b j with ctr := 0 } else s.unit b j) ∧
      x.ov = (s.blk b).ov ∧ x.bfrz = (s.blk b).bfrz ∧ x.gseen = (s.blk b).gseen ∧
      x.fixCtl = (s.blk b).fixCtl ∧ x.fixCtr = (s.blk b).fixCtr

/-- At the end of a UBox cycle the fixed counter, enabled and not frozen, adds 1; on its wrap, with ov_en, a message
naming bit 0 joins PEND, and no box status bit is set; disabled or frozen it stays (40_global_ubox.md R234). That it is
sent also while ov_u_fixed is still set, by R234's pseudocode and without R231's draw, is the model's choice (log 42). -/
def Obligations.UBoxFixedCounter : Prop :=
  ∀ (s : State) (n : Nat), s.run = some ⟨.ubox, n⟩ → 2 ≤ n →
    let done := fun t : State => Host.Outcome.next (ρ := Refusal) (φ := Fault) ((t.setTime (s.time + 1)).setRun none)
    let x := s.ubox
    (x.fixCtl.getLsbD 22 = true → s.freezeSeen .ubox = some false →
      step s = done ((s.setBlk .ubox { x with fixCtr := x.fixCtr + 1 }).setPend
        (if x.fixCtr = BitVec.allOnes 48 ∧ x.fixCtl.getLsbD 20 = true then s.pend ++ [1] else s.pend))) ∧
    (x.fixCtl.getLsbD 22 = false ∨ s.freezeSeen .ubox = some true → step s = done s)

/-- At the end of an IMC channel's cycle the fixed counter, enabled and not frozen, adds 1; a wrap sets status bit 0
and with ov_en and clear status bits sends the controller's message (44_imc.md R503, R504). -/
def Obligations.ImcFixedCounter : Prop :=
  ∀ (s : State) (c : Fin 8) (n : Nat), s.run = some ⟨.imc c, n⟩ → 4 ≤ n →
    let x := s.blk (.imc c)
    let bits : Quad := if c.val < 4 then 0x800000 else 0x1000000
    (x.fixCtl.getLsbD 22 = true → x.bfrz = false → s.freezeSeen (.imc c) = some false →
      ∃ t, step s = .next t ∧ (t.blk (.imc c)).fixCtr = x.fixCtr + 1 ∧
        (∀ j, t.unit (.imc c) j = s.unit (.imc c) j) ∧ (∀ b, b ≠ .imc c → t.blk b = s.blk b) ∧
        (x.fixCtr ≠ BitVec.allOnes 48 → (t.blk (.imc c)).ov = x.ov ∧ t.pend = s.pend) ∧
        (x.fixCtr = BitVec.allOnes 48 → (t.blk (.imc c)).ov.getLsbD 0 = true ∧
          (x.fixCtl.getLsbD 20 = false → t.pend = s.pend) ∧
          (x.fixCtl.getLsbD 20 = true → x.ov.getLsbD 0 = false → s.status &&& bits = 0 → t.pend = s.pend ++ [bits]))) ∧
    (x.fixCtl.getLsbD 22 = false ∨ x.bfrz = true ∨ s.freezeSeen (.imc c) = some true →
      step s = .next ((s.setTime (s.time + 1)).setRun none))

/-- The free-running counters go on under every freeze: at the end of a PCU cycle each of the four adds 1 when its
condition holds, at the end of a QPI port's cycle LINK_IDLE and LINK_LLR do; nothing else changes (46_pcu.md R659,
47_qpi.md R760; that the PCU's step with its own cycle is the model's reading, log 15). -/
def Obligations.FreeRunningCounters : Prop :=
  ∀ (s : State) (n : Nat), 4 ≤ n →
    let tick := fun (c : FreeRun) (x : Quad) => if Config.freeRun c s.time then x + 1 else x
    (s.run = some ⟨.pcu, n⟩ →
      step s = .next (({ s with cc6 := tick .cc6 s.cc6, cc3 := tick .cc3 s.cc3, pc2 := tick .pc2 s.pc2,
                                pc3 := tick .pc3 s.pc3 }.setTime (s.time + 1)).setRun none)) ∧
    (∀ p : Fin 3, s.run = some ⟨.qpi p, n⟩ →
      ∃ idle llr, step s = .next (({ s with qpiIdle := idle, qpiLlr := llr }.setTime (s.time + 1)).setRun none) ∧
        (∀ q : Fin 3, idle[q] = if q = p ∧ Config.rxIdle p s.time = true then s.qpiIdle[q] + 1 else s.qpiIdle[q]) ∧
        (∀ q : Fin 3, llr[q] = if q = p ∧ Config.rxLlr p s.time = true then s.qpiLlr[q] + 1 else s.qpiLlr[q]))

/-! ### The interrupt, the platform and the whole machine -/

/-- Delivery of an overflow message (40_global_ubox.md R226 to R228, 60_exceptions.md R1008): the message leaves PEND,
its bits are set in U_MSR_PMON_GLOBAL_STATUS, the socket freezes, and a PMI goes to the selected cores the part has:
with wk_on_pmi to all of them after a wake to those asleep, without it to those awake; to none while pmi_core_sel is
0. That a signal to no core is no signal is the model's choice (log 14). -/
def Obligations.DeliveryFreezesAndInterrupts : Prop :=
  ∀ (s : State) (k : Nat) (rest : List Turn) (bits : Quad), s.run = none → s.agenda = .deliver k :: rest →
    s.pend[k]? = some bits →
    let cores := s.pmiCoreSel &&& BitVec.ofNat 18 (2 ^ s.cfg.nCore - 1)
    let asleep := Config.asleep s.draws
    let signal := fun (f : BitVec 18 → Signal) (m : BitVec 18) => if m = 0 then [] else [f m]
    ∃ n, step s = .next ({ s with
        status := s.status ||| bits
        gfrz := some true
        pend := s.pend.eraseIdx k
        agenda := rest
        draws := n
        out := s.out ++
          if s.pmiCoreSel = 0 then []
          else if s.wkOnPmi then signal .wake (cores &&& asleep) ++ signal .pmi cores
          else signal .pmi (cores &&& ~~~asleep) })

/-- Only the delivery of a message signals a core (60_exceptions.md R1005). -/
def Obligations.OnlyDeliverySignals : Prop :=
  ∀ s t : State, step s = .next t → t.out ≠ s.out → s.run = none ∧ ∃ k, (nextTurn s).1 = .deliver k

/-- The freeze latch changes only by a write of U_MSR_PMON_GLOBAL_CTL, a delivered overflow message, or the hardware
reset (10_state.md R92, 70_reset_and_hazards.md R1041). A box's own copy of it changes only on a turn at which it
takes the latch's value and nothing else changes, or by the hardware reset; under FREEZE_PROPAGATION = eventual a box
whose copy is 1 does not count (20_memory.md R116). -/
def Obligations.FreezeLatchChangers : Prop :=
  (∀ s t : State, step s = .next t → t.gfrz ≠ s.gfrz →
    s.run = none ∧ ((∃ k, (nextTurn s).1 = .deliver k) ∨ (nextTurn s).1 = .reset ∨
      ∃ cmd v, (nextTurn s).1 = .host cmd ∧
        decode (.host s.cfg.irpAlt) cmd = .ok (.uMsrPmonGlobalCtl (.write v)))) ∧
  (∀ (s t : State) (b : BoxId), step s = .next t → (t.blk b).gseen ≠ (s.blk b).gseen →
    s.run = none ∧ ((nextTurn s).1 = .seen b ∨ (nextTurn s).1 = .reset)) ∧
  (∀ (s : State) (b : BoxId) (rest : List Turn), s.run = none → s.agenda = .seen b :: rest →
    step s = .next ((s.setAgenda rest).setBlk b { s.blk b with gseen := s.gfrz })) ∧
  ∀ (s t : State) (r : Run), s.run = some r → s.cfg.propEventual = true → (s.blk r.box).gseen = some true →
    step s = .next t → t.pend = s.pend ∧ (t.blk r.box).ov = (s.blk r.box).ov ∧
      (t.blk r.box).fixCtr = (s.blk r.box).fixCtr ∧ ∀ j, (t.unit r.box j).ctr = (s.unit r.box j).ctr

/-- In a frozen socket no generic or fixed counter of any box moves, no overflow bit is set and no message is sent:
the steps of a box's cycle leave them all (40_global_ubox.md R227, for FREEZE_PROPAGATION = immediate). The
free-running counters go on (`FreeRunningCounters`). -/
def Obligations.FrozenSocketCountsNothing : Prop :=
  ∀ (s t : State) (r : Run), s.run = some r → s.cfg.propEventual = false → s.gfrz = some true → step s = .next t →
    t.pend = s.pend ∧ t.gfrz = s.gfrz ∧
      ∀ b, (t.blk b).ov = (s.blk b).ov ∧ (t.blk b).fixCtr = (s.blk b).fixCtr ∧
        ∀ j, (t.unit b j).ctr = (s.unit b j).ctr

/-- The CBo and the SBo never send an overflow message (40_global_ubox.md R217). -/
def Obligations.CboAndSboSendNothing : Prop :=
  ∀ (s t : State) (r : Run), s.run = some r → r.box.kind = .cbo ∨ r.box.kind = .sbo → step s = .next t →
    t.pend = s.pend ∧ t.status = s.status ∧ t.gfrz = s.gfrz

/-- The parameters of the part are fixed: no step changes them, the hardware reset included (70_reset_and_hazards.md
R1040). -/
def Obligations.ParametersAreFixed : Prop :=
  ∀ s t : State, step s = .next t → t.cfg = s.cfg

/-- A box's cycle is its own: no step of a cycle changes another box's block, its own block's control registers,
freeze latches or copy of the global freeze, a filter, a match or mask register, or a global register
(40_global_ubox.md R215 to R217, R227). -/
def Obligations.CycleTouchesOneBox : Prop :=
  ∀ (s t : State) (r : Run), s.run = some r → step s = .next t →
    (∀ b, b ≠ r.box → t.blk b = s.blk b) ∧ (∀ j, (t.unit r.box j).ctl = (s.unit r.box j).ctl) ∧
      (t.blk r.box).fixCtl = (s.blk r.box).fixCtl ∧ (t.blk r.box).bfrz = (s.blk r.box).bfrz ∧
      (t.blk r.box).gseen = (s.blk r.box).gseen ∧
      t.status = s.status ∧ t.gfrz = s.gfrz ∧ t.wkOnPmi = s.wkOnPmi ∧ t.pmiCoreSel = s.pmiCoreSel ∧ t.numC = s.numC ∧
      t.cboFilter0 = s.cboFilter0 ∧ t.cboFilter1 = s.cboFilter1 ∧ t.pcuFilter = s.pcuFilter ∧ t.effband = s.effband ∧
      t.haOpcodeMatch = s.haOpcodeMatch ∧ t.haAddrMatch1 = s.haAddrMatch1 ∧ t.haAddrMatch0 = s.haAddrMatch0 ∧
      t.qpiPkt = s.qpiPkt ∧ t.hostRead = s.hostRead ∧ t.agenda = s.agenda

/-! ### The invariant and reset -/

/-- Every step keeps the invariant: the parameters stay in their ranges (00_scope.md R7), reserved bits stay 0 in
every register, every counter fits its width, no control register holds invert or edge detect without a threshold, and
the messages in flight name defined bits (40_global_ubox.md R204 to R206, R208, R213, R217; 10_state.md R98). -/
def Obligations.StepKeepsInvariant : Prop :=
  ∀ s t : State, s.Inv → step s = .next t → t.Inv

/-- The state after reset meets the invariant (70_reset_and_hazards.md R1042). -/
def Obligations.ResetMeetsInvariant : Prop := State.reset.Inv

/-- What reset leaves: every register reads 0 but num_c (18) and the QPI rate (the parameter), the functions' first
dwords are their identification, no message is in flight, no box is frozen, every control register is settled, and
GFRZ, PREV, OPREV and EFFBAND hold no value (70_reset_and_hazards.md R1041, R1042; 20_memory.md R110). The parameters'
values and the vendor word 0x8086 are the model's (logs 3 and 31). -/
def Obligations.ResetLeaves : Prop :=
  (∀ r, r ≠ .globalConfig → (∀ x, r ≠ .qpiRate x) → readReg r State.reset = 0) ∧
  readReg .globalConfig State.reset = 18 ∧
  (∀ x, readReg (.qpiRate x) State.reset = State.reset.cfg.qpiRate.setWidth 64) ∧
  (∀ fn p, functionTable.lookup fn = some p → accessIdentification State.reset.cfg.bus fn false State.reset =
    .next (State.reset.setHostRead (some (p.2.setWidth 64 <<< 16 ||| 0x8086)))) ∧
  State.reset.pend = [] ∧ State.reset.gfrz = none ∧ (∀ k : Fin 4, State.reset.effband[k] = none) ∧
  (∀ b, (State.reset.blk b).bfrz = false ∧ (State.reset.blk b).gseen = State.reset.gfrz ∧
    ∀ j, (State.reset.unit b j).prev = none ∧ (State.reset.unit b j).oprev = none ∧
      (State.reset.unit b j).dw = none ∧ (State.reset.unit b j).settled = true ∧ (State.reset.unit b j).qrst = false)

/-- The hardware reset puts every register and latch of any state as `State.reset` has it and keeps the parameters
(70_reset_and_hazards.md R1040). -/
def Obligations.ResetTurn : Prop :=
  ∀ (s : State) (rest : List Turn), s.run = none → s.agenda = .reset :: rest →
    ∃ t, step s = .next t ∧ t.cfg = s.cfg ∧ (∀ b, t.blk b = State.reset.blk b) ∧ t.pend = [] ∧ t.gfrz = none ∧
      t.effband = State.reset.effband ∧ ∀ r, (∀ x, r ≠ .qpiRate x) → readReg r t = readReg r State.reset
end

