-- ==== Sys2Proof/Laws/Exec.lean ====
section
/-! SUPPORT. What `exec` does, said once: every instruction runs the meaning its row names. -/

namespace Sys2Proof.Machine

/-- The meaning of what an instruction names. -/
def View.run (v : View) (s : State) : Host.Outcome State Fault Refusal :=
  match v with
  | .event _ e base o => countEvent e base o s
  | .msr _ r a => accessMsr r a s
  | .cfg _ r a => accessCfg r a s

set_option maxHeartbeats 4000000 in
/-- Every instruction does what its row of the opcode table names. -/
theorem exec_eq_view_run (i : Instr) (s : State) : exec i s = i.view.run s := by
  cases i <;> rfl

end Sys2Proof.Machine
end

