-- ==== Sys2Proof/Laws/Decode.lean ====
section
/-! SUPPORT. What the decoder's tables hold: every entry builds an instruction whose view is that entry's own row, and no
two entries of a table share a key. -/

namespace Sys2Proof

open Machine

/-! ### The event tables -/

/-- Every row of an event builds the instruction that names the event and that row. -/
def RowsFaithful (k : Kind) (e : Event) (rows : List (BitVec 8 × (EvOp k → Instr))) : Prop :=
  ∀ q ∈ rows, ∀ o, (q.2 o).view = .event k e q.1 o

/-- Every entry of a kind's table builds the instruction that names the event and the row it stands at. -/
def TableFaithful (k : Kind) (t : EventTable k) : Prop := ∀ p ∈ t, RowsFaithful k p.1 p.2

theorem RowsFaithful.nil {k : Kind} {e : Event} : RowsFaithful k e [] := fun _ h => nomatch h

theorem RowsFaithful.cons {k : Kind} {e : Event} {base : BitVec 8} {mk : EvOp k → Instr}
    {rows : List (BitVec 8 × (EvOp k → Instr))} (h : ∀ o, (mk o).view = .event k e base o) (g : RowsFaithful k e rows) :
    RowsFaithful k e ((base, mk) :: rows) := fun q hq o => by
  rcases List.mem_cons.mp hq with rfl | hq
  exacts [h o, g q hq o]

theorem TableFaithful.nil {k : Kind} : TableFaithful k [] := fun _ h => nomatch h

theorem TableFaithful.cons {k : Kind} {e : Event} {rows : List (BitVec 8 × (EvOp k → Instr))} {t : EventTable k}
    (h : RowsFaithful k e rows) (g : TableFaithful k t) : TableFaithful k ((e, rows) :: t) := fun p hp => by
  rcases List.mem_cons.mp hp with rfl | hp
  exacts [h, g p hp]

theorem TableFaithful.append {k : Kind} {s t : EventTable k} (h : TableFaithful k s) (g : TableFaithful k t) :
    TableFaithful k (s ++ t) := fun p hp => by
  rcases List.mem_append.mp hp with hp | hp
  exacts [h p hp, g p hp]

theorem uboxEvents_faithful : TableFaithful .ubox uboxEvents := by
  repeat' first | exact fun _ => rfl | exact .nil | apply RowsFaithful.cons | apply TableFaithful.cons

theorem cboEvents_faithful : TableFaithful .cbo cboEvents := by
  repeat' first | exact fun _ => rfl | exact .nil | apply RowsFaithful.cons | apply TableFaithful.cons

theorem sboEvents_faithful : TableFaithful .sbo sboEvents := by
  repeat' first | exact fun _ => rfl | exact .nil | apply RowsFaithful.cons | apply TableFaithful.cons

theorem haEvents0_faithful : TableFaithful .ha haEvents0 := by
  repeat' first | exact fun _ => rfl | exact .nil | apply RowsFaithful.cons | apply TableFaithful.cons

theorem haEvents1_faithful : TableFaithful .ha haEvents1 := by
  repeat' first | exact fun _ => rfl | exact .nil | apply RowsFaithful.cons | apply TableFaithful.cons

theorem imcEvents0_faithful : TableFaithful .imc imcEvents0 := by
  repeat' first | exact fun _ => rfl | exact .nil | apply RowsFaithful.cons | apply TableFaithful.cons

theorem imcEvents1_faithful : TableFaithful .imc imcEvents1 := by
  repeat' first | exact fun _ => rfl | exact .nil | apply RowsFaithful.cons | apply TableFaithful.cons

theorem irpEvents_faithful : TableFaithful .irp irpEvents := by
  repeat' first | exact fun _ => rfl | exact .nil | apply RowsFaithful.cons | apply TableFaithful.cons

theorem pcuEvents0_faithful : TableFaithful .pcu pcuEvents0 := by
  repeat' first | exact fun _ => rfl | exact .nil | apply RowsFaithful.cons | apply TableFaithful.cons

theorem pcuEvents1_faithful : TableFaithful .pcu pcuEvents1 := by
  repeat' first | exact fun _ => rfl | exact .nil | apply RowsFaithful.cons | apply TableFaithful.cons

theorem qpiEvents0_faithful : TableFaithful .qpi qpiEvents0 := by
  repeat' first | exact fun _ => rfl | exact .nil | apply RowsFaithful.cons | apply TableFaithful.cons

theorem qpiEvents1_faithful : TableFaithful .qpi qpiEvents1 := by
  repeat' first | exact fun _ => rfl | exact .nil | apply RowsFaithful.cons | apply TableFaithful.cons

theorem r2Events_faithful : TableFaithful .r2 r2Events := by
  repeat' first | exact fun _ => rfl | exact .nil | apply RowsFaithful.cons | apply TableFaithful.cons

theorem r3Events_faithful : TableFaithful .r3 r3Events := by
  repeat' first | exact fun _ => rfl | exact .nil | apply RowsFaithful.cons | apply TableFaithful.cons

theorem haEvents_faithful : TableFaithful .ha haEvents := haEvents0_faithful.append haEvents1_faithful

theorem imcEvents_faithful : TableFaithful .imc imcEvents := imcEvents0_faithful.append imcEvents1_faithful

theorem pcuEvents_faithful : TableFaithful .pcu pcuEvents := pcuEvents0_faithful.append pcuEvents1_faithful

theorem qpiEvents_faithful : TableFaithful .qpi qpiEvents := qpiEvents0_faithful.append qpiEvents1_faithful

/-- Every entry of every event table builds the instruction that names its event and row. -/
theorem eventTable_faithful (k : Kind) : TableFaithful k (eventTable k) := by
  cases k
  · exact uboxEvents_faithful
  · exact cboEvents_faithful
  · exact sboEvents_faithful
  · exact haEvents_faithful
  · exact imcEvents_faithful
  · exact irpEvents_faithful
  · exact pcuEvents_faithful
  · exact qpiEvents_faithful
  · exact r2Events_faithful
  · exact r3Events_faithful

/-- No two events of a kind share their 9-bit code. -/
theorem eventTable_codes_nodup (k : Kind) : ((eventTable k).map (fun p => (p.1.code, p.1.ext))).Nodup := by
  cases k <;> decide

/-- No two rows of an event share their base. -/
theorem eventTable_bases_nodup (k : Kind) : ∀ p ∈ eventTable k, (p.2.map Prod.fst).Nodup := by
  cases k <;> decide

theorem mem_of_lookup {α β : Type} [BEq α] [LawfulBEq α] {l : List (α × β)} {a : α} {b : β} (h : l.lookup a = some b) :
    (a, b) ∈ l := by
  obtain ⟨l₁, l₂, rfl, -⟩ := List.lookup_eq_some_iff.mp h
  simp

/-- What decodes from a counter's control word is an event instruction of that counter. -/
theorem decode_counter_view {k : Kind} {n : Fin k.insts} {c : Fin k.ctrs} {bytes : List Byte} {i : Instr}
    (h : decode (.counter k n c) bytes = .ok i) :
    ∃ e base o, i.view = .event k e base o ∧ o.inst = n ∧ o.ctr = c := by
  unfold decode at h
  split at h
  · rename_i hs
    cases hs
    unfold decodeCtl at h
    dsimp only at h
    split at h
    · cases h
    · split at h
      · cases h
      · rename_i p hp
        split at h
        · cases h
        · rename_i base _
          split at h
          · cases h
          · rename_i mk hmk
            cases h
            exact ⟨_, _, _, eventTable_faithful k p (List.mem_of_find?_eq_some hp) _ (mem_of_lookup hmk) _, rfl, rfl⟩
  · rename_i hs
    cases hs
  · cases h

/-! ### The address tables -/

/-- Every entry of an MSR table builds accesses to the register at its address. -/
def MsrFaithful (t : List (Nat × (MsrAccess → Instr))) : Prop := ∀ p ∈ t, ∃ r, ∀ a, (p.2 a).view = .msr p.1 r a

theorem MsrFaithful.nil : MsrFaithful [] := fun _ h => nomatch h

theorem MsrFaithful.cons {addr : Nat} {mk : MsrAccess → Instr} {t : List (Nat × (MsrAccess → Instr))} (r : Reg)
    (h : ∀ a, (mk a).view = .msr addr r a) (g : MsrFaithful t) : MsrFaithful ((addr, mk) :: t) := fun p hp => by
  rcases List.mem_cons.mp hp with rfl | hp
  exacts [⟨r, h⟩, g p hp]

theorem MsrFaithful.append {s t : List (Nat × (MsrAccess → Instr))} (h : MsrFaithful s) (g : MsrFaithful t) :
    MsrFaithful (s ++ t) := fun p hp => by
  rcases List.mem_append.mp hp with hp | hp
  exacts [h p hp, g p hp]

/-- Every entry of a PCICFG table builds accesses to the register at its address, with two dwords where it says so. -/
def CfgFaithful (t : List (Nat × Bool × (CfgAccess → Instr))) : Prop :=
  ∀ p ∈ t, ∃ r, r.twoDwords = p.2.1 ∧ ∀ a, (p.2.2 a).view = .cfg p.1 r a

theorem CfgFaithful.nil : CfgFaithful [] := fun _ h => nomatch h

theorem CfgFaithful.cons {addr : Nat} {two : Bool} {mk : CfgAccess → Instr} {t : List (Nat × Bool × (CfgAccess → Instr))}
    (r : Reg) (h : ∀ a, (mk a).view = .cfg addr r a) (h2 : r.twoDwords = two) (g : CfgFaithful t) :
    CfgFaithful ((addr, two, mk) :: t) := fun p hp => by
  rcases List.mem_cons.mp hp with rfl | hp
  exacts [⟨r, h2, h⟩, g p hp]

theorem CfgFaithful.append {s t : List (Nat × Bool × (CfgAccess → Instr))} (h : CfgFaithful s) (g : CfgFaithful t) :
    CfgFaithful (s ++ t) := fun p hp => by
  rcases List.mem_append.mp hp with hp | hp
  exacts [h p hp, g p hp]

theorem msrTable0_faithful : MsrFaithful msrTable0 := by
  repeat' first | exact .nil | refine MsrFaithful.cons _ (fun _ => rfl) ?_

theorem msrTable1_faithful : MsrFaithful msrTable1 := by
  repeat' first | exact .nil | refine MsrFaithful.cons _ (fun _ => rfl) ?_

theorem msrTable2_faithful : MsrFaithful msrTable2 := by
  repeat' first | exact .nil | refine MsrFaithful.cons _ (fun _ => rfl) ?_

theorem msrTable3_faithful : MsrFaithful msrTable3 := by
  repeat' first | exact .nil | refine MsrFaithful.cons _ (fun _ => rfl) ?_

theorem msrTable4_faithful : MsrFaithful msrTable4 := by
  repeat' first | exact .nil | refine MsrFaithful.cons _ (fun _ => rfl) ?_

theorem msrTable5_faithful : MsrFaithful msrTable5 := by
  repeat' first | exact .nil | refine MsrFaithful.cons _ (fun _ => rfl) ?_

theorem cfgTable0_faithful : CfgFaithful cfgTable0 := by
  repeat' first | exact .nil | refine CfgFaithful.cons _ (fun _ => rfl) rfl ?_

theorem cfgTable1_faithful : CfgFaithful cfgTable1 := by
  repeat' first | exact .nil | refine CfgFaithful.cons _ (fun _ => rfl) rfl ?_

theorem cfgTable2_faithful : CfgFaithful cfgTable2 := by
  repeat' first | exact .nil | refine CfgFaithful.cons _ (fun _ => rfl) rfl ?_

theorem cfgTable3_faithful : CfgFaithful cfgTable3 := by
  repeat' first | exact .nil | refine CfgFaithful.cons _ (fun _ => rfl) rfl ?_

theorem cfgTable4_faithful : CfgFaithful cfgTable4 := by
  repeat' first | exact .nil | refine CfgFaithful.cons _ (fun _ => rfl) rfl ?_

theorem msrTable_faithful : MsrFaithful msrTable := by
  simpa [msrTable] using (((((msrTable0_faithful).append msrTable1_faithful).append msrTable2_faithful).append msrTable3_faithful).append msrTable4_faithful).append msrTable5_faithful

theorem cfgTable_faithful : CfgFaithful cfgTable := by
  simpa [cfgTable] using ((((cfgTable0_faithful).append cfgTable1_faithful).append cfgTable2_faithful).append cfgTable3_faithful).append cfgTable4_faithful

set_option maxRecDepth 100000 in
/-- No MSR address occurs twice. -/
theorem msrTable_nodup : (msrTable.map Prod.fst).Nodup := by decide

set_option maxRecDepth 100000 in
/-- No PCICFG address occurs twice. -/
theorem cfgTable_nodup : (cfgTable.map Prod.fst).Nodup := by decide

end Sys2Proof
end

