-- ==== Sys2Proof/Laws/State.lean ====
section
/-! SUPPORT. The small lemmas of the state: what each update leaves and what it writes. -/

namespace Sys2Proof.Machine

/-! ### Counters in a block -/

@[simp] theorem Blk.unit_setUnit_self (x : Blk) (i : Fin 4) (u : CtrUnit) : (x.setUnit i u).unit i = u := by
  fin_cases i <;> rfl

@[simp] theorem Blk.unit_setUnit_ne (x : Blk) (i j : Fin 4) (u : CtrUnit) (h : j ≠ i) :
    (x.setUnit i u).unit j = x.unit j := by
  fin_cases i <;> fin_cases j <;> first | rfl | exact absurd rfl h

@[simp] theorem Blk.unit_mapUnits (f : CtrUnit → CtrUnit) (x : Blk) (i : Fin 4) :
    (x.mapUnits f).unit i = f (x.unit i) := by
  fin_cases i <;> rfl

@[simp] theorem Blk.setUnit_setUnit (x : Blk) (i : Fin 4) (u v : CtrUnit) :
    (x.setUnit i u).setUnit i v = x.setUnit i v := by
  fin_cases i <;> rfl

@[simp] theorem Blk.setUnit_unit_self (x : Blk) (i : Fin 4) : x.setUnit i (x.unit i) = x := by
  fin_cases i <;> rfl

@[simp] theorem Blk.unit_setOv (x : Blk) (v : BitVec 5) (i : Fin 4) : (x.setOv v).unit i = x.unit i := by
  fin_cases i <;> rfl

@[simp] theorem Blk.setOv_ov (x : Blk) (v : BitVec 5) : (x.setOv v).ov = v := rfl

@[simp] theorem Blk.setOv_bfrz (x : Blk) (v : BitVec 5) : (x.setOv v).bfrz = x.bfrz := rfl

@[simp] theorem Blk.setOv_gseen (x : Blk) (v : BitVec 5) : (x.setOv v).gseen = x.gseen := rfl

@[simp] theorem Blk.setOv_fixCtl (x : Blk) (v : BitVec 5) : (x.setOv v).fixCtl = x.fixCtl := rfl

@[simp] theorem Blk.setOv_fixCtr (x : Blk) (v : BitVec 5) : (x.setOv v).fixCtr = x.fixCtr := rfl

@[simp] theorem Blk.setOv_self (x : Blk) : x.setOv x.ov = x := rfl

@[simp] theorem Blk.setOv_setOv (x : Blk) (v w : BitVec 5) : (x.setOv v).setOv w = x.setOv w := rfl

@[simp] theorem Blk.setUnit_setOv (x : Blk) (v : BitVec 5) (i : Fin 4) (u : CtrUnit) :
    (x.setOv v).setUnit i u = (x.setUnit i u).setOv v := by
  fin_cases i <;> rfl

@[simp] theorem Blk.setUnit_setOv_self (x : Blk) (i : Fin 4) (u : CtrUnit) :
    (x.setUnit i u).setOv x.ov = x.setUnit i u := by
  fin_cases i <;> rfl

@[simp] theorem Blk.setUnit_ov (x : Blk) (i : Fin 4) (u : CtrUnit) : (x.setUnit i u).ov = x.ov := by
  fin_cases i <;> rfl

@[simp] theorem Blk.mapUnits_ov (f : CtrUnit → CtrUnit) (x : Blk) : (x.mapUnits f).ov = x.ov := rfl

@[simp] theorem Blk.unit_with_ov (x : Blk) (v : BitVec 5) (i : Fin 4) : ({ x with ov := v } : Blk).unit i = x.unit i := by
  fin_cases i <;> rfl

@[simp] theorem Blk.setUnit_bfrz (x : Blk) (i : Fin 4) (u : CtrUnit) : (x.setUnit i u).bfrz = x.bfrz := by
  fin_cases i <;> rfl

@[simp] theorem Blk.mapUnits_bfrz (f : CtrUnit → CtrUnit) (x : Blk) : (x.mapUnits f).bfrz = x.bfrz := rfl

@[simp] theorem Blk.unit_with_bfrz (x : Blk) (v : Bool) (i : Fin 4) : ({ x with bfrz := v } : Blk).unit i = x.unit i := by
  fin_cases i <;> rfl

@[simp] theorem Blk.setUnit_gseen (x : Blk) (i : Fin 4) (u : CtrUnit) : (x.setUnit i u).gseen = x.gseen := by
  fin_cases i <;> rfl

@[simp] theorem Blk.mapUnits_gseen (f : CtrUnit → CtrUnit) (x : Blk) : (x.mapUnits f).gseen = x.gseen := rfl

@[simp] theorem Blk.unit_with_gseen (x : Blk) (v : Option Bool) (i : Fin 4) : ({ x with gseen := v } : Blk).unit i = x.unit i := by
  fin_cases i <;> rfl

@[simp] theorem Blk.setUnit_fixCtl (x : Blk) (i : Fin 4) (u : CtrUnit) : (x.setUnit i u).fixCtl = x.fixCtl := by
  fin_cases i <;> rfl

@[simp] theorem Blk.mapUnits_fixCtl (f : CtrUnit → CtrUnit) (x : Blk) : (x.mapUnits f).fixCtl = x.fixCtl := rfl

@[simp] theorem Blk.unit_with_fixCtl (x : Blk) (v : Word) (i : Fin 4) : ({ x with fixCtl := v } : Blk).unit i = x.unit i := by
  fin_cases i <;> rfl

@[simp] theorem Blk.setUnit_fixCtr (x : Blk) (i : Fin 4) (u : CtrUnit) : (x.setUnit i u).fixCtr = x.fixCtr := by
  fin_cases i <;> rfl

@[simp] theorem Blk.mapUnits_fixCtr (f : CtrUnit → CtrUnit) (x : Blk) : (x.mapUnits f).fixCtr = x.fixCtr := rfl

@[simp] theorem Blk.unit_with_fixCtr (x : Blk) (v : Counter) (i : Fin 4) : ({ x with fixCtr := v } : Blk).unit i = x.unit i := by
  fin_cases i <;> rfl

/-! ### Blocks in the state -/

@[simp] theorem State.blk_setBlk_self (s : State) (b : BoxId) (x : Blk) : (s.setBlk b x).blk b = x := by
  cases b <;> simp [State.blk, State.setBlk]

@[simp] theorem State.blk_setBlk_ne (s : State) (b c : BoxId) (x : Blk) (h : c ≠ b) :
    (s.setBlk b x).blk c = s.blk c := by
  cases b <;> cases c <;> simp_all [State.blk, State.setBlk, Fin.ext_iff] <;>
    (rw [Vector.getElem_set_ne]; omega)

@[simp] theorem State.unit_setBlk_self (s : State) (b : BoxId) (x : Blk) (i : Fin 4) :
    (s.setBlk b x).unit b i = x.unit i := by
  simp [State.unit]

@[simp] theorem State.unit_setUnit_self (s : State) (b : BoxId) (i : Fin 4) (u : CtrUnit) :
    (s.setUnit b i u).unit b i = u := by
  simp [State.unit, State.setUnit]

@[simp] theorem State.unit_setUnit_ne (s : State) (b c : BoxId) (i j : Fin 4) (u : CtrUnit)
    (h : (c, j) ≠ (b, i)) : (s.setUnit b i u).unit c j = s.unit c j := by
  by_cases hb : c = b
  · subst hb
    have hj : j ≠ i := fun e => h (by rw [e])
    simp [State.unit, State.setUnit, hj]
  · simp [State.unit, State.setUnit, hb]

@[simp] theorem State.setBlk_cfg (s : State) (b : BoxId) (x : Blk) : (s.setBlk b x).cfg = s.cfg := by
  cases b <;> rfl

@[simp] theorem State.setUnit_cfg (s : State) (b : BoxId) (i : Fin 4) (u : CtrUnit) : (s.setUnit b i u).cfg = s.cfg := by
  cases b <;> rfl

@[simp] theorem State.blk_with_cfg (s : State) (v : Params) (b : BoxId) : ({ s with cfg := v } : State).blk b = s.blk b := by
  cases b <;> rfl

@[simp] theorem State.setBlk_wkOnPmi (s : State) (b : BoxId) (x : Blk) : (s.setBlk b x).wkOnPmi = s.wkOnPmi := by
  cases b <;> rfl

@[simp] theorem State.setUnit_wkOnPmi (s : State) (b : BoxId) (i : Fin 4) (u : CtrUnit) : (s.setUnit b i u).wkOnPmi = s.wkOnPmi := by
  cases b <;> rfl

@[simp] theorem State.blk_with_wkOnPmi (s : State) (v : Bool) (b : BoxId) : ({ s with wkOnPmi := v } : State).blk b = s.blk b := by
  cases b <;> rfl

@[simp] theorem State.setBlk_pmiCoreSel (s : State) (b : BoxId) (x : Blk) : (s.setBlk b x).pmiCoreSel = s.pmiCoreSel := by
  cases b <;> rfl

@[simp] theorem State.setUnit_pmiCoreSel (s : State) (b : BoxId) (i : Fin 4) (u : CtrUnit) : (s.setUnit b i u).pmiCoreSel = s.pmiCoreSel := by
  cases b <;> rfl

@[simp] theorem State.blk_with_pmiCoreSel (s : State) (v : BitVec 18) (b : BoxId) : ({ s with pmiCoreSel := v } : State).blk b = s.blk b := by
  cases b <;> rfl

@[simp] theorem State.setBlk_status (s : State) (b : BoxId) (x : Blk) : (s.setBlk b x).status = s.status := by
  cases b <;> rfl

@[simp] theorem State.setUnit_status (s : State) (b : BoxId) (i : Fin 4) (u : CtrUnit) : (s.setUnit b i u).status = s.status := by
  cases b <;> rfl

@[simp] theorem State.blk_with_status (s : State) (v : Quad) (b : BoxId) : ({ s with status := v } : State).blk b = s.blk b := by
  cases b <;> rfl

@[simp] theorem State.setBlk_numC (s : State) (b : BoxId) (x : Blk) : (s.setBlk b x).numC = s.numC := by
  cases b <;> rfl

@[simp] theorem State.setUnit_numC (s : State) (b : BoxId) (i : Fin 4) (u : CtrUnit) : (s.setUnit b i u).numC = s.numC := by
  cases b <;> rfl

@[simp] theorem State.blk_with_numC (s : State) (v : BitVec 5) (b : BoxId) : ({ s with numC := v } : State).blk b = s.blk b := by
  cases b <;> rfl

@[simp] theorem State.setBlk_gfrz (s : State) (b : BoxId) (x : Blk) : (s.setBlk b x).gfrz = s.gfrz := by
  cases b <;> rfl

@[simp] theorem State.setUnit_gfrz (s : State) (b : BoxId) (i : Fin 4) (u : CtrUnit) : (s.setUnit b i u).gfrz = s.gfrz := by
  cases b <;> rfl

@[simp] theorem State.blk_with_gfrz (s : State) (v : Option Bool) (b : BoxId) : ({ s with gfrz := v } : State).blk b = s.blk b := by
  cases b <;> rfl

@[simp] theorem State.setBlk_pend (s : State) (b : BoxId) (x : Blk) : (s.setBlk b x).pend = s.pend := by
  cases b <;> rfl

@[simp] theorem State.setUnit_pend (s : State) (b : BoxId) (i : Fin 4) (u : CtrUnit) : (s.setUnit b i u).pend = s.pend := by
  cases b <;> rfl

@[simp] theorem State.setBlk_cboFilter0 (s : State) (b : BoxId) (x : Blk) : (s.setBlk b x).cboFilter0 = s.cboFilter0 := by
  cases b <;> rfl

@[simp] theorem State.setUnit_cboFilter0 (s : State) (b : BoxId) (i : Fin 4) (u : CtrUnit) : (s.setUnit b i u).cboFilter0 = s.cboFilter0 := by
  cases b <;> rfl

@[simp] theorem State.blk_with_cboFilter0 (s : State) (v : Vector Word 18) (b : BoxId) : ({ s with cboFilter0 := v } : State).blk b = s.blk b := by
  cases b <;> rfl

@[simp] theorem State.setBlk_cboFilter1 (s : State) (b : BoxId) (x : Blk) : (s.setBlk b x).cboFilter1 = s.cboFilter1 := by
  cases b <;> rfl

@[simp] theorem State.setUnit_cboFilter1 (s : State) (b : BoxId) (i : Fin 4) (u : CtrUnit) : (s.setUnit b i u).cboFilter1 = s.cboFilter1 := by
  cases b <;> rfl

@[simp] theorem State.blk_with_cboFilter1 (s : State) (v : Vector Word 18) (b : BoxId) : ({ s with cboFilter1 := v } : State).blk b = s.blk b := by
  cases b <;> rfl

@[simp] theorem State.setBlk_haOpcodeMatch (s : State) (b : BoxId) (x : Blk) : (s.setBlk b x).haOpcodeMatch = s.haOpcodeMatch := by
  cases b <;> rfl

@[simp] theorem State.setUnit_haOpcodeMatch (s : State) (b : BoxId) (i : Fin 4) (u : CtrUnit) : (s.setUnit b i u).haOpcodeMatch = s.haOpcodeMatch := by
  cases b <;> rfl

@[simp] theorem State.blk_with_haOpcodeMatch (s : State) (v : Vector Word 2) (b : BoxId) : ({ s with haOpcodeMatch := v } : State).blk b = s.blk b := by
  cases b <;> rfl

@[simp] theorem State.setBlk_haAddrMatch1 (s : State) (b : BoxId) (x : Blk) : (s.setBlk b x).haAddrMatch1 = s.haAddrMatch1 := by
  cases b <;> rfl

@[simp] theorem State.setUnit_haAddrMatch1 (s : State) (b : BoxId) (i : Fin 4) (u : CtrUnit) : (s.setUnit b i u).haAddrMatch1 = s.haAddrMatch1 := by
  cases b <;> rfl

@[simp] theorem State.blk_with_haAddrMatch1 (s : State) (v : Vector Word 2) (b : BoxId) : ({ s with haAddrMatch1 := v } : State).blk b = s.blk b := by
  cases b <;> rfl

@[simp] theorem State.setBlk_haAddrMatch0 (s : State) (b : BoxId) (x : Blk) : (s.setBlk b x).haAddrMatch0 = s.haAddrMatch0 := by
  cases b <;> rfl

@[simp] theorem State.setUnit_haAddrMatch0 (s : State) (b : BoxId) (i : Fin 4) (u : CtrUnit) : (s.setUnit b i u).haAddrMatch0 = s.haAddrMatch0 := by
  cases b <;> rfl

@[simp] theorem State.blk_with_haAddrMatch0 (s : State) (v : Vector Word 2) (b : BoxId) : ({ s with haAddrMatch0 := v } : State).blk b = s.blk b := by
  cases b <;> rfl

@[simp] theorem State.setBlk_pcuFilter (s : State) (b : BoxId) (x : Blk) : (s.setBlk b x).pcuFilter = s.pcuFilter := by
  cases b <;> rfl

@[simp] theorem State.setUnit_pcuFilter (s : State) (b : BoxId) (i : Fin 4) (u : CtrUnit) : (s.setUnit b i u).pcuFilter = s.pcuFilter := by
  cases b <;> rfl

@[simp] theorem State.blk_with_pcuFilter (s : State) (v : Word) (b : BoxId) : ({ s with pcuFilter := v } : State).blk b = s.blk b := by
  cases b <;> rfl

@[simp] theorem State.setBlk_effband (s : State) (b : BoxId) (x : Blk) : (s.setBlk b x).effband = s.effband := by
  cases b <;> rfl

@[simp] theorem State.setUnit_effband (s : State) (b : BoxId) (i : Fin 4) (u : CtrUnit) : (s.setUnit b i u).effband = s.effband := by
  cases b <;> rfl

@[simp] theorem State.blk_with_effband (s : State) (v : Vector (Option (BitVec 8)) 4) (b : BoxId) : ({ s with effband := v } : State).blk b = s.blk b := by
  cases b <;> rfl

@[simp] theorem State.setBlk_cc6 (s : State) (b : BoxId) (x : Blk) : (s.setBlk b x).cc6 = s.cc6 := by
  cases b <;> rfl

@[simp] theorem State.setUnit_cc6 (s : State) (b : BoxId) (i : Fin 4) (u : CtrUnit) : (s.setUnit b i u).cc6 = s.cc6 := by
  cases b <;> rfl

@[simp] theorem State.blk_with_cc6 (s : State) (v : Quad) (b : BoxId) : ({ s with cc6 := v } : State).blk b = s.blk b := by
  cases b <;> rfl

@[simp] theorem State.setBlk_cc3 (s : State) (b : BoxId) (x : Blk) : (s.setBlk b x).cc3 = s.cc3 := by
  cases b <;> rfl

@[simp] theorem State.setUnit_cc3 (s : State) (b : BoxId) (i : Fin 4) (u : CtrUnit) : (s.setUnit b i u).cc3 = s.cc3 := by
  cases b <;> rfl

@[simp] theorem State.blk_with_cc3 (s : State) (v : Quad) (b : BoxId) : ({ s with cc3 := v } : State).blk b = s.blk b := by
  cases b <;> rfl

@[simp] theorem State.setBlk_pc2 (s : State) (b : BoxId) (x : Blk) : (s.setBlk b x).pc2 = s.pc2 := by
  cases b <;> rfl

@[simp] theorem State.setUnit_pc2 (s : State) (b : BoxId) (i : Fin 4) (u : CtrUnit) : (s.setUnit b i u).pc2 = s.pc2 := by
  cases b <;> rfl

@[simp] theorem State.blk_with_pc2 (s : State) (v : Quad) (b : BoxId) : ({ s with pc2 := v } : State).blk b = s.blk b := by
  cases b <;> rfl

@[simp] theorem State.setBlk_pc3 (s : State) (b : BoxId) (x : Blk) : (s.setBlk b x).pc3 = s.pc3 := by
  cases b <;> rfl

@[simp] theorem State.setUnit_pc3 (s : State) (b : BoxId) (i : Fin 4) (u : CtrUnit) : (s.setUnit b i u).pc3 = s.pc3 := by
  cases b <;> rfl

@[simp] theorem State.blk_with_pc3 (s : State) (v : Quad) (b : BoxId) : ({ s with pc3 := v } : State).blk b = s.blk b := by
  cases b <;> rfl

@[simp] theorem State.setBlk_qpiPkt (s : State) (b : BoxId) (x : Blk) : (s.setBlk b x).qpiPkt = s.qpiPkt := by
  cases b <;> rfl

@[simp] theorem State.setUnit_qpiPkt (s : State) (b : BoxId) (i : Fin 4) (u : CtrUnit) : (s.setUnit b i u).qpiPkt = s.qpiPkt := by
  cases b <;> rfl

@[simp] theorem State.blk_with_qpiPkt (s : State) (v : Vector PktRegs 3) (b : BoxId) : ({ s with qpiPkt := v } : State).blk b = s.blk b := by
  cases b <;> rfl

@[simp] theorem State.setBlk_qpiIdle (s : State) (b : BoxId) (x : Blk) : (s.setBlk b x).qpiIdle = s.qpiIdle := by
  cases b <;> rfl

@[simp] theorem State.setUnit_qpiIdle (s : State) (b : BoxId) (i : Fin 4) (u : CtrUnit) : (s.setUnit b i u).qpiIdle = s.qpiIdle := by
  cases b <;> rfl

@[simp] theorem State.blk_with_qpiIdle (s : State) (v : Vector Word 3) (b : BoxId) : ({ s with qpiIdle := v } : State).blk b = s.blk b := by
  cases b <;> rfl

@[simp] theorem State.setBlk_qpiLlr (s : State) (b : BoxId) (x : Blk) : (s.setBlk b x).qpiLlr = s.qpiLlr := by
  cases b <;> rfl

@[simp] theorem State.setUnit_qpiLlr (s : State) (b : BoxId) (i : Fin 4) (u : CtrUnit) : (s.setUnit b i u).qpiLlr = s.qpiLlr := by
  cases b <;> rfl

@[simp] theorem State.blk_with_qpiLlr (s : State) (v : Vector Word 3) (b : BoxId) : ({ s with qpiLlr := v } : State).blk b = s.blk b := by
  cases b <;> rfl

@[simp] theorem State.setBlk_hostRead (s : State) (b : BoxId) (x : Blk) : (s.setBlk b x).hostRead = s.hostRead := by
  cases b <;> rfl

@[simp] theorem State.setUnit_hostRead (s : State) (b : BoxId) (i : Fin 4) (u : CtrUnit) : (s.setUnit b i u).hostRead = s.hostRead := by
  cases b <;> rfl

@[simp] theorem State.setBlk_out (s : State) (b : BoxId) (x : Blk) : (s.setBlk b x).out = s.out := by
  cases b <;> rfl

@[simp] theorem State.setUnit_out (s : State) (b : BoxId) (i : Fin 4) (u : CtrUnit) : (s.setUnit b i u).out = s.out := by
  cases b <;> rfl

@[simp] theorem State.setBlk_draws (s : State) (b : BoxId) (x : Blk) : (s.setBlk b x).draws = s.draws := by
  cases b <;> rfl

@[simp] theorem State.setUnit_draws (s : State) (b : BoxId) (i : Fin 4) (u : CtrUnit) : (s.setUnit b i u).draws = s.draws := by
  cases b <;> rfl

@[simp] theorem State.setBlk_time (s : State) (b : BoxId) (x : Blk) : (s.setBlk b x).time = s.time := by
  cases b <;> rfl

@[simp] theorem State.setUnit_time (s : State) (b : BoxId) (i : Fin 4) (u : CtrUnit) : (s.setUnit b i u).time = s.time := by
  cases b <;> rfl

@[simp] theorem State.setBlk_agenda (s : State) (b : BoxId) (x : Blk) : (s.setBlk b x).agenda = s.agenda := by
  cases b <;> rfl

@[simp] theorem State.setUnit_agenda (s : State) (b : BoxId) (i : Fin 4) (u : CtrUnit) : (s.setUnit b i u).agenda = s.agenda := by
  cases b <;> rfl

@[simp] theorem State.setBlk_run (s : State) (b : BoxId) (x : Blk) : (s.setBlk b x).run = s.run := by
  cases b <;> rfl

@[simp] theorem State.setUnit_run (s : State) (b : BoxId) (i : Fin 4) (u : CtrUnit) : (s.setUnit b i u).run = s.run := by
  cases b <;> rfl

/-! ### Updates of single fields -/

@[simp] theorem State.setDraws_cfg (s : State) (v : Nat) : (s.setDraws v).cfg = s.cfg := rfl

@[simp] theorem State.setDraws_wkOnPmi (s : State) (v : Nat) : (s.setDraws v).wkOnPmi = s.wkOnPmi := rfl

@[simp] theorem State.setDraws_pmiCoreSel (s : State) (v : Nat) : (s.setDraws v).pmiCoreSel = s.pmiCoreSel := rfl

@[simp] theorem State.setDraws_status (s : State) (v : Nat) : (s.setDraws v).status = s.status := rfl

@[simp] theorem State.setDraws_numC (s : State) (v : Nat) : (s.setDraws v).numC = s.numC := rfl

@[simp] theorem State.setDraws_gfrz (s : State) (v : Nat) : (s.setDraws v).gfrz = s.gfrz := rfl

@[simp] theorem State.setDraws_pend (s : State) (v : Nat) : (s.setDraws v).pend = s.pend := rfl

@[simp] theorem State.setDraws_ubox (s : State) (v : Nat) : (s.setDraws v).ubox = s.ubox := rfl

@[simp] theorem State.setDraws_cbo (s : State) (v : Nat) : (s.setDraws v).cbo = s.cbo := rfl

@[simp] theorem State.setDraws_sbo (s : State) (v : Nat) : (s.setDraws v).sbo = s.sbo := rfl

@[simp] theorem State.setDraws_ha (s : State) (v : Nat) : (s.setDraws v).ha = s.ha := rfl

@[simp] theorem State.setDraws_imc (s : State) (v : Nat) : (s.setDraws v).imc = s.imc := rfl

@[simp] theorem State.setDraws_irp (s : State) (v : Nat) : (s.setDraws v).irp = s.irp := rfl

@[simp] theorem State.setDraws_pcu (s : State) (v : Nat) : (s.setDraws v).pcu = s.pcu := rfl

@[simp] theorem State.setDraws_qpi (s : State) (v : Nat) : (s.setDraws v).qpi = s.qpi := rfl

@[simp] theorem State.setDraws_r2 (s : State) (v : Nat) : (s.setDraws v).r2 = s.r2 := rfl

@[simp] theorem State.setDraws_r3 (s : State) (v : Nat) : (s.setDraws v).r3 = s.r3 := rfl

@[simp] theorem State.setDraws_cboFilter0 (s : State) (v : Nat) : (s.setDraws v).cboFilter0 = s.cboFilter0 := rfl

@[simp] theorem State.setDraws_cboFilter1 (s : State) (v : Nat) : (s.setDraws v).cboFilter1 = s.cboFilter1 := rfl

@[simp] theorem State.setDraws_haOpcodeMatch (s : State) (v : Nat) : (s.setDraws v).haOpcodeMatch = s.haOpcodeMatch := rfl

@[simp] theorem State.setDraws_haAddrMatch1 (s : State) (v : Nat) : (s.setDraws v).haAddrMatch1 = s.haAddrMatch1 := rfl

@[simp] theorem State.setDraws_haAddrMatch0 (s : State) (v : Nat) : (s.setDraws v).haAddrMatch0 = s.haAddrMatch0 := rfl

@[simp] theorem State.setDraws_pcuFilter (s : State) (v : Nat) : (s.setDraws v).pcuFilter = s.pcuFilter := rfl

@[simp] theorem State.setDraws_effband (s : State) (v : Nat) : (s.setDraws v).effband = s.effband := rfl

@[simp] theorem State.setDraws_cc6 (s : State) (v : Nat) : (s.setDraws v).cc6 = s.cc6 := rfl

@[simp] theorem State.setDraws_cc3 (s : State) (v : Nat) : (s.setDraws v).cc3 = s.cc3 := rfl

@[simp] theorem State.setDraws_pc2 (s : State) (v : Nat) : (s.setDraws v).pc2 = s.pc2 := rfl

@[simp] theorem State.setDraws_pc3 (s : State) (v : Nat) : (s.setDraws v).pc3 = s.pc3 := rfl

@[simp] theorem State.setDraws_qpiPkt (s : State) (v : Nat) : (s.setDraws v).qpiPkt = s.qpiPkt := rfl

@[simp] theorem State.setDraws_qpiIdle (s : State) (v : Nat) : (s.setDraws v).qpiIdle = s.qpiIdle := rfl

@[simp] theorem State.setDraws_qpiLlr (s : State) (v : Nat) : (s.setDraws v).qpiLlr = s.qpiLlr := rfl

@[simp] theorem State.setDraws_hostRead (s : State) (v : Nat) : (s.setDraws v).hostRead = s.hostRead := rfl

@[simp] theorem State.setDraws_out (s : State) (v : Nat) : (s.setDraws v).out = s.out := rfl

@[simp] theorem State.setDraws_draws (s : State) (v : Nat) : (s.setDraws v).draws = v := rfl

@[simp] theorem State.setDraws_time (s : State) (v : Nat) : (s.setDraws v).time = s.time := rfl

@[simp] theorem State.setDraws_agenda (s : State) (v : Nat) : (s.setDraws v).agenda = s.agenda := rfl

@[simp] theorem State.setDraws_run (s : State) (v : Nat) : (s.setDraws v).run = s.run := rfl

@[simp] theorem State.blk_setDraws (s : State) (v : Nat) (b : BoxId) : (s.setDraws v).blk b = s.blk b := by
  cases b <;> rfl

@[simp] theorem State.unit_setDraws (s : State) (v : Nat) (b : BoxId) (i : Fin 4) : (s.setDraws v).unit b i = s.unit b i := by
  cases b <;> rfl

@[simp] theorem State.setBlk_setDraws (s : State) (v : Nat) (b : BoxId) (x : Blk) :
    (s.setDraws v).setBlk b x = (s.setBlk b x).setDraws v := by
  cases b <;> rfl

@[simp] theorem State.setDraws_setDraws (s : State) (v w : Nat) : (s.setDraws v).setDraws w = s.setDraws w := rfl

@[simp] theorem State.setDraws_self (s : State) : s.setDraws s.draws = s := rfl

@[simp] theorem State.setBlk_setDraws_self (s : State) (b : BoxId) (x : Blk) :
    (s.setBlk b x).setDraws s.draws = s.setBlk b x := by
  cases b <;> rfl

@[simp] theorem State.setPend_cfg (s : State) (v : List Quad) : (s.setPend v).cfg = s.cfg := rfl

@[simp] theorem State.setPend_wkOnPmi (s : State) (v : List Quad) : (s.setPend v).wkOnPmi = s.wkOnPmi := rfl

@[simp] theorem State.setPend_pmiCoreSel (s : State) (v : List Quad) : (s.setPend v).pmiCoreSel = s.pmiCoreSel := rfl

@[simp] theorem State.setPend_status (s : State) (v : List Quad) : (s.setPend v).status = s.status := rfl

@[simp] theorem State.setPend_numC (s : State) (v : List Quad) : (s.setPend v).numC = s.numC := rfl

@[simp] theorem State.setPend_gfrz (s : State) (v : List Quad) : (s.setPend v).gfrz = s.gfrz := rfl

@[simp] theorem State.setPend_pend (s : State) (v : List Quad) : (s.setPend v).pend = v := rfl

@[simp] theorem State.setPend_ubox (s : State) (v : List Quad) : (s.setPend v).ubox = s.ubox := rfl

@[simp] theorem State.setPend_cbo (s : State) (v : List Quad) : (s.setPend v).cbo = s.cbo := rfl

@[simp] theorem State.setPend_sbo (s : State) (v : List Quad) : (s.setPend v).sbo = s.sbo := rfl

@[simp] theorem State.setPend_ha (s : State) (v : List Quad) : (s.setPend v).ha = s.ha := rfl

@[simp] theorem State.setPend_imc (s : State) (v : List Quad) : (s.setPend v).imc = s.imc := rfl

@[simp] theorem State.setPend_irp (s : State) (v : List Quad) : (s.setPend v).irp = s.irp := rfl

@[simp] theorem State.setPend_pcu (s : State) (v : List Quad) : (s.setPend v).pcu = s.pcu := rfl

@[simp] theorem State.setPend_qpi (s : State) (v : List Quad) : (s.setPend v).qpi = s.qpi := rfl

@[simp] theorem State.setPend_r2 (s : State) (v : List Quad) : (s.setPend v).r2 = s.r2 := rfl

@[simp] theorem State.setPend_r3 (s : State) (v : List Quad) : (s.setPend v).r3 = s.r3 := rfl

@[simp] theorem State.setPend_cboFilter0 (s : State) (v : List Quad) : (s.setPend v).cboFilter0 = s.cboFilter0 := rfl

@[simp] theorem State.setPend_cboFilter1 (s : State) (v : List Quad) : (s.setPend v).cboFilter1 = s.cboFilter1 := rfl

@[simp] theorem State.setPend_haOpcodeMatch (s : State) (v : List Quad) : (s.setPend v).haOpcodeMatch = s.haOpcodeMatch := rfl

@[simp] theorem State.setPend_haAddrMatch1 (s : State) (v : List Quad) : (s.setPend v).haAddrMatch1 = s.haAddrMatch1 := rfl

@[simp] theorem State.setPend_haAddrMatch0 (s : State) (v : List Quad) : (s.setPend v).haAddrMatch0 = s.haAddrMatch0 := rfl

@[simp] theorem State.setPend_pcuFilter (s : State) (v : List Quad) : (s.setPend v).pcuFilter = s.pcuFilter := rfl

@[simp] theorem State.setPend_effband (s : State) (v : List Quad) : (s.setPend v).effband = s.effband := rfl

@[simp] theorem State.setPend_cc6 (s : State) (v : List Quad) : (s.setPend v).cc6 = s.cc6 := rfl

@[simp] theorem State.setPend_cc3 (s : State) (v : List Quad) : (s.setPend v).cc3 = s.cc3 := rfl

@[simp] theorem State.setPend_pc2 (s : State) (v : List Quad) : (s.setPend v).pc2 = s.pc2 := rfl

@[simp] theorem State.setPend_pc3 (s : State) (v : List Quad) : (s.setPend v).pc3 = s.pc3 := rfl

@[simp] theorem State.setPend_qpiPkt (s : State) (v : List Quad) : (s.setPend v).qpiPkt = s.qpiPkt := rfl

@[simp] theorem State.setPend_qpiIdle (s : State) (v : List Quad) : (s.setPend v).qpiIdle = s.qpiIdle := rfl

@[simp] theorem State.setPend_qpiLlr (s : State) (v : List Quad) : (s.setPend v).qpiLlr = s.qpiLlr := rfl

@[simp] theorem State.setPend_hostRead (s : State) (v : List Quad) : (s.setPend v).hostRead = s.hostRead := rfl

@[simp] theorem State.setPend_out (s : State) (v : List Quad) : (s.setPend v).out = s.out := rfl

@[simp] theorem State.setPend_draws (s : State) (v : List Quad) : (s.setPend v).draws = s.draws := rfl

@[simp] theorem State.setPend_time (s : State) (v : List Quad) : (s.setPend v).time = s.time := rfl

@[simp] theorem State.setPend_agenda (s : State) (v : List Quad) : (s.setPend v).agenda = s.agenda := rfl

@[simp] theorem State.setPend_run (s : State) (v : List Quad) : (s.setPend v).run = s.run := rfl

@[simp] theorem State.blk_setPend (s : State) (v : List Quad) (b : BoxId) : (s.setPend v).blk b = s.blk b := by
  cases b <;> rfl

@[simp] theorem State.unit_setPend (s : State) (v : List Quad) (b : BoxId) (i : Fin 4) : (s.setPend v).unit b i = s.unit b i := by
  cases b <;> rfl

@[simp] theorem State.setBlk_setPend (s : State) (v : List Quad) (b : BoxId) (x : Blk) :
    (s.setPend v).setBlk b x = (s.setBlk b x).setPend v := by
  cases b <;> rfl

@[simp] theorem State.setPend_setPend (s : State) (v w : List Quad) : (s.setPend v).setPend w = s.setPend w := rfl

@[simp] theorem State.setPend_self (s : State) : s.setPend s.pend = s := rfl

@[simp] theorem State.setBlk_setPend_self (s : State) (b : BoxId) (x : Blk) :
    (s.setBlk b x).setPend s.pend = s.setBlk b x := by
  cases b <;> rfl

@[simp] theorem State.setOut_cfg (s : State) (v : List Signal) : (s.setOut v).cfg = s.cfg := rfl

@[simp] theorem State.setOut_wkOnPmi (s : State) (v : List Signal) : (s.setOut v).wkOnPmi = s.wkOnPmi := rfl

@[simp] theorem State.setOut_pmiCoreSel (s : State) (v : List Signal) : (s.setOut v).pmiCoreSel = s.pmiCoreSel := rfl

@[simp] theorem State.setOut_status (s : State) (v : List Signal) : (s.setOut v).status = s.status := rfl

@[simp] theorem State.setOut_numC (s : State) (v : List Signal) : (s.setOut v).numC = s.numC := rfl

@[simp] theorem State.setOut_gfrz (s : State) (v : List Signal) : (s.setOut v).gfrz = s.gfrz := rfl

@[simp] theorem State.setOut_pend (s : State) (v : List Signal) : (s.setOut v).pend = s.pend := rfl

@[simp] theorem State.setOut_ubox (s : State) (v : List Signal) : (s.setOut v).ubox = s.ubox := rfl

@[simp] theorem State.setOut_cbo (s : State) (v : List Signal) : (s.setOut v).cbo = s.cbo := rfl

@[simp] theorem State.setOut_sbo (s : State) (v : List Signal) : (s.setOut v).sbo = s.sbo := rfl

@[simp] theorem State.setOut_ha (s : State) (v : List Signal) : (s.setOut v).ha = s.ha := rfl

@[simp] theorem State.setOut_imc (s : State) (v : List Signal) : (s.setOut v).imc = s.imc := rfl

@[simp] theorem State.setOut_irp (s : State) (v : List Signal) : (s.setOut v).irp = s.irp := rfl

@[simp] theorem State.setOut_pcu (s : State) (v : List Signal) : (s.setOut v).pcu = s.pcu := rfl

@[simp] theorem State.setOut_qpi (s : State) (v : List Signal) : (s.setOut v).qpi = s.qpi := rfl

@[simp] theorem State.setOut_r2 (s : State) (v : List Signal) : (s.setOut v).r2 = s.r2 := rfl

@[simp] theorem State.setOut_r3 (s : State) (v : List Signal) : (s.setOut v).r3 = s.r3 := rfl

@[simp] theorem State.setOut_cboFilter0 (s : State) (v : List Signal) : (s.setOut v).cboFilter0 = s.cboFilter0 := rfl

@[simp] theorem State.setOut_cboFilter1 (s : State) (v : List Signal) : (s.setOut v).cboFilter1 = s.cboFilter1 := rfl

@[simp] theorem State.setOut_haOpcodeMatch (s : State) (v : List Signal) : (s.setOut v).haOpcodeMatch = s.haOpcodeMatch := rfl

@[simp] theorem State.setOut_haAddrMatch1 (s : State) (v : List Signal) : (s.setOut v).haAddrMatch1 = s.haAddrMatch1 := rfl

@[simp] theorem State.setOut_haAddrMatch0 (s : State) (v : List Signal) : (s.setOut v).haAddrMatch0 = s.haAddrMatch0 := rfl

@[simp] theorem State.setOut_pcuFilter (s : State) (v : List Signal) : (s.setOut v).pcuFilter = s.pcuFilter := rfl

@[simp] theorem State.setOut_effband (s : State) (v : List Signal) : (s.setOut v).effband = s.effband := rfl

@[simp] theorem State.setOut_cc6 (s : State) (v : List Signal) : (s.setOut v).cc6 = s.cc6 := rfl

@[simp] theorem State.setOut_cc3 (s : State) (v : List Signal) : (s.setOut v).cc3 = s.cc3 := rfl

@[simp] theorem State.setOut_pc2 (s : State) (v : List Signal) : (s.setOut v).pc2 = s.pc2 := rfl

@[simp] theorem State.setOut_pc3 (s : State) (v : List Signal) : (s.setOut v).pc3 = s.pc3 := rfl

@[simp] theorem State.setOut_qpiPkt (s : State) (v : List Signal) : (s.setOut v).qpiPkt = s.qpiPkt := rfl

@[simp] theorem State.setOut_qpiIdle (s : State) (v : List Signal) : (s.setOut v).qpiIdle = s.qpiIdle := rfl

@[simp] theorem State.setOut_qpiLlr (s : State) (v : List Signal) : (s.setOut v).qpiLlr = s.qpiLlr := rfl

@[simp] theorem State.setOut_hostRead (s : State) (v : List Signal) : (s.setOut v).hostRead = s.hostRead := rfl

@[simp] theorem State.setOut_out (s : State) (v : List Signal) : (s.setOut v).out = v := rfl

@[simp] theorem State.setOut_draws (s : State) (v : List Signal) : (s.setOut v).draws = s.draws := rfl

@[simp] theorem State.setOut_time (s : State) (v : List Signal) : (s.setOut v).time = s.time := rfl

@[simp] theorem State.setOut_agenda (s : State) (v : List Signal) : (s.setOut v).agenda = s.agenda := rfl

@[simp] theorem State.setOut_run (s : State) (v : List Signal) : (s.setOut v).run = s.run := rfl

@[simp] theorem State.blk_setOut (s : State) (v : List Signal) (b : BoxId) : (s.setOut v).blk b = s.blk b := by
  cases b <;> rfl

@[simp] theorem State.unit_setOut (s : State) (v : List Signal) (b : BoxId) (i : Fin 4) : (s.setOut v).unit b i = s.unit b i := by
  cases b <;> rfl

@[simp] theorem State.setBlk_setOut (s : State) (v : List Signal) (b : BoxId) (x : Blk) :
    (s.setOut v).setBlk b x = (s.setBlk b x).setOut v := by
  cases b <;> rfl

@[simp] theorem State.setOut_setOut (s : State) (v w : List Signal) : (s.setOut v).setOut w = s.setOut w := rfl

@[simp] theorem State.setOut_self (s : State) : s.setOut s.out = s := rfl

@[simp] theorem State.setBlk_setOut_self (s : State) (b : BoxId) (x : Blk) :
    (s.setBlk b x).setOut s.out = s.setBlk b x := by
  cases b <;> rfl

@[simp] theorem State.setHostRead_cfg (s : State) (v : Option Quad) : (s.setHostRead v).cfg = s.cfg := rfl

@[simp] theorem State.setHostRead_wkOnPmi (s : State) (v : Option Quad) : (s.setHostRead v).wkOnPmi = s.wkOnPmi := rfl

@[simp] theorem State.setHostRead_pmiCoreSel (s : State) (v : Option Quad) : (s.setHostRead v).pmiCoreSel = s.pmiCoreSel := rfl

@[simp] theorem State.setHostRead_status (s : State) (v : Option Quad) : (s.setHostRead v).status = s.status := rfl

@[simp] theorem State.setHostRead_numC (s : State) (v : Option Quad) : (s.setHostRead v).numC = s.numC := rfl

@[simp] theorem State.setHostRead_gfrz (s : State) (v : Option Quad) : (s.setHostRead v).gfrz = s.gfrz := rfl

@[simp] theorem State.setHostRead_pend (s : State) (v : Option Quad) : (s.setHostRead v).pend = s.pend := rfl

@[simp] theorem State.setHostRead_ubox (s : State) (v : Option Quad) : (s.setHostRead v).ubox = s.ubox := rfl

@[simp] theorem State.setHostRead_cbo (s : State) (v : Option Quad) : (s.setHostRead v).cbo = s.cbo := rfl

@[simp] theorem State.setHostRead_sbo (s : State) (v : Option Quad) : (s.setHostRead v).sbo = s.sbo := rfl

@[simp] theorem State.setHostRead_ha (s : State) (v : Option Quad) : (s.setHostRead v).ha = s.ha := rfl

@[simp] theorem State.setHostRead_imc (s : State) (v : Option Quad) : (s.setHostRead v).imc = s.imc := rfl

@[simp] theorem State.setHostRead_irp (s : State) (v : Option Quad) : (s.setHostRead v).irp = s.irp := rfl

@[simp] theorem State.setHostRead_pcu (s : State) (v : Option Quad) : (s.setHostRead v).pcu = s.pcu := rfl

@[simp] theorem State.setHostRead_qpi (s : State) (v : Option Quad) : (s.setHostRead v).qpi = s.qpi := rfl

@[simp] theorem State.setHostRead_r2 (s : State) (v : Option Quad) : (s.setHostRead v).r2 = s.r2 := rfl

@[simp] theorem State.setHostRead_r3 (s : State) (v : Option Quad) : (s.setHostRead v).r3 = s.r3 := rfl

@[simp] theorem State.setHostRead_cboFilter0 (s : State) (v : Option Quad) : (s.setHostRead v).cboFilter0 = s.cboFilter0 := rfl

@[simp] theorem State.setHostRead_cboFilter1 (s : State) (v : Option Quad) : (s.setHostRead v).cboFilter1 = s.cboFilter1 := rfl

@[simp] theorem State.setHostRead_haOpcodeMatch (s : State) (v : Option Quad) : (s.setHostRead v).haOpcodeMatch = s.haOpcodeMatch := rfl

@[simp] theorem State.setHostRead_haAddrMatch1 (s : State) (v : Option Quad) : (s.setHostRead v).haAddrMatch1 = s.haAddrMatch1 := rfl

@[simp] theorem State.setHostRead_haAddrMatch0 (s : State) (v : Option Quad) : (s.setHostRead v).haAddrMatch0 = s.haAddrMatch0 := rfl

@[simp] theorem State.setHostRead_pcuFilter (s : State) (v : Option Quad) : (s.setHostRead v).pcuFilter = s.pcuFilter := rfl

@[simp] theorem State.setHostRead_effband (s : State) (v : Option Quad) : (s.setHostRead v).effband = s.effband := rfl

@[simp] theorem State.setHostRead_cc6 (s : State) (v : Option Quad) : (s.setHostRead v).cc6 = s.cc6 := rfl

@[simp] theorem State.setHostRead_cc3 (s : State) (v : Option Quad) : (s.setHostRead v).cc3 = s.cc3 := rfl

@[simp] theorem State.setHostRead_pc2 (s : State) (v : Option Quad) : (s.setHostRead v).pc2 = s.pc2 := rfl

@[simp] theorem State.setHostRead_pc3 (s : State) (v : Option Quad) : (s.setHostRead v).pc3 = s.pc3 := rfl

@[simp] theorem State.setHostRead_qpiPkt (s : State) (v : Option Quad) : (s.setHostRead v).qpiPkt = s.qpiPkt := rfl

@[simp] theorem State.setHostRead_qpiIdle (s : State) (v : Option Quad) : (s.setHostRead v).qpiIdle = s.qpiIdle := rfl

@[simp] theorem State.setHostRead_qpiLlr (s : State) (v : Option Quad) : (s.setHostRead v).qpiLlr = s.qpiLlr := rfl

@[simp] theorem State.setHostRead_hostRead (s : State) (v : Option Quad) : (s.setHostRead v).hostRead = v := rfl

@[simp] theorem State.setHostRead_out (s : State) (v : Option Quad) : (s.setHostRead v).out = s.out := rfl

@[simp] theorem State.setHostRead_draws (s : State) (v : Option Quad) : (s.setHostRead v).draws = s.draws := rfl

@[simp] theorem State.setHostRead_time (s : State) (v : Option Quad) : (s.setHostRead v).time = s.time := rfl

@[simp] theorem State.setHostRead_agenda (s : State) (v : Option Quad) : (s.setHostRead v).agenda = s.agenda := rfl

@[simp] theorem State.setHostRead_run (s : State) (v : Option Quad) : (s.setHostRead v).run = s.run := rfl

@[simp] theorem State.blk_setHostRead (s : State) (v : Option Quad) (b : BoxId) : (s.setHostRead v).blk b = s.blk b := by
  cases b <;> rfl

@[simp] theorem State.unit_setHostRead (s : State) (v : Option Quad) (b : BoxId) (i : Fin 4) : (s.setHostRead v).unit b i = s.unit b i := by
  cases b <;> rfl

@[simp] theorem State.setBlk_setHostRead (s : State) (v : Option Quad) (b : BoxId) (x : Blk) :
    (s.setHostRead v).setBlk b x = (s.setBlk b x).setHostRead v := by
  cases b <;> rfl

@[simp] theorem State.setHostRead_setHostRead (s : State) (v w : Option Quad) : (s.setHostRead v).setHostRead w = s.setHostRead w := rfl

@[simp] theorem State.setHostRead_self (s : State) : s.setHostRead s.hostRead = s := rfl

@[simp] theorem State.setBlk_setHostRead_self (s : State) (b : BoxId) (x : Blk) :
    (s.setBlk b x).setHostRead s.hostRead = s.setBlk b x := by
  cases b <;> rfl

@[simp] theorem State.setAgenda_cfg (s : State) (v : List Turn) : (s.setAgenda v).cfg = s.cfg := rfl

@[simp] theorem State.setAgenda_wkOnPmi (s : State) (v : List Turn) : (s.setAgenda v).wkOnPmi = s.wkOnPmi := rfl

@[simp] theorem State.setAgenda_pmiCoreSel (s : State) (v : List Turn) : (s.setAgenda v).pmiCoreSel = s.pmiCoreSel := rfl

@[simp] theorem State.setAgenda_status (s : State) (v : List Turn) : (s.setAgenda v).status = s.status := rfl

@[simp] theorem State.setAgenda_numC (s : State) (v : List Turn) : (s.setAgenda v).numC = s.numC := rfl

@[simp] theorem State.setAgenda_gfrz (s : State) (v : List Turn) : (s.setAgenda v).gfrz = s.gfrz := rfl

@[simp] theorem State.setAgenda_pend (s : State) (v : List Turn) : (s.setAgenda v).pend = s.pend := rfl

@[simp] theorem State.setAgenda_ubox (s : State) (v : List Turn) : (s.setAgenda v).ubox = s.ubox := rfl

@[simp] theorem State.setAgenda_cbo (s : State) (v : List Turn) : (s.setAgenda v).cbo = s.cbo := rfl

@[simp] theorem State.setAgenda_sbo (s : State) (v : List Turn) : (s.setAgenda v).sbo = s.sbo := rfl

@[simp] theorem State.setAgenda_ha (s : State) (v : List Turn) : (s.setAgenda v).ha = s.ha := rfl

@[simp] theorem State.setAgenda_imc (s : State) (v : List Turn) : (s.setAgenda v).imc = s.imc := rfl

@[simp] theorem State.setAgenda_irp (s : State) (v : List Turn) : (s.setAgenda v).irp = s.irp := rfl

@[simp] theorem State.setAgenda_pcu (s : State) (v : List Turn) : (s.setAgenda v).pcu = s.pcu := rfl

@[simp] theorem State.setAgenda_qpi (s : State) (v : List Turn) : (s.setAgenda v).qpi = s.qpi := rfl

@[simp] theorem State.setAgenda_r2 (s : State) (v : List Turn) : (s.setAgenda v).r2 = s.r2 := rfl

@[simp] theorem State.setAgenda_r3 (s : State) (v : List Turn) : (s.setAgenda v).r3 = s.r3 := rfl

@[simp] theorem State.setAgenda_cboFilter0 (s : State) (v : List Turn) : (s.setAgenda v).cboFilter0 = s.cboFilter0 := rfl

@[simp] theorem State.setAgenda_cboFilter1 (s : State) (v : List Turn) : (s.setAgenda v).cboFilter1 = s.cboFilter1 := rfl

@[simp] theorem State.setAgenda_haOpcodeMatch (s : State) (v : List Turn) : (s.setAgenda v).haOpcodeMatch = s.haOpcodeMatch := rfl

@[simp] theorem State.setAgenda_haAddrMatch1 (s : State) (v : List Turn) : (s.setAgenda v).haAddrMatch1 = s.haAddrMatch1 := rfl

@[simp] theorem State.setAgenda_haAddrMatch0 (s : State) (v : List Turn) : (s.setAgenda v).haAddrMatch0 = s.haAddrMatch0 := rfl

@[simp] theorem State.setAgenda_pcuFilter (s : State) (v : List Turn) : (s.setAgenda v).pcuFilter = s.pcuFilter := rfl

@[simp] theorem State.setAgenda_effband (s : State) (v : List Turn) : (s.setAgenda v).effband = s.effband := rfl

@[simp] theorem State.setAgenda_cc6 (s : State) (v : List Turn) : (s.setAgenda v).cc6 = s.cc6 := rfl

@[simp] theorem State.setAgenda_cc3 (s : State) (v : List Turn) : (s.setAgenda v).cc3 = s.cc3 := rfl

@[simp] theorem State.setAgenda_pc2 (s : State) (v : List Turn) : (s.setAgenda v).pc2 = s.pc2 := rfl

@[simp] theorem State.setAgenda_pc3 (s : State) (v : List Turn) : (s.setAgenda v).pc3 = s.pc3 := rfl

@[simp] theorem State.setAgenda_qpiPkt (s : State) (v : List Turn) : (s.setAgenda v).qpiPkt = s.qpiPkt := rfl

@[simp] theorem State.setAgenda_qpiIdle (s : State) (v : List Turn) : (s.setAgenda v).qpiIdle = s.qpiIdle := rfl

@[simp] theorem State.setAgenda_qpiLlr (s : State) (v : List Turn) : (s.setAgenda v).qpiLlr = s.qpiLlr := rfl

@[simp] theorem State.setAgenda_hostRead (s : State) (v : List Turn) : (s.setAgenda v).hostRead = s.hostRead := rfl

@[simp] theorem State.setAgenda_out (s : State) (v : List Turn) : (s.setAgenda v).out = s.out := rfl

@[simp] theorem State.setAgenda_draws (s : State) (v : List Turn) : (s.setAgenda v).draws = s.draws := rfl

@[simp] theorem State.setAgenda_time (s : State) (v : List Turn) : (s.setAgenda v).time = s.time := rfl

@[simp] theorem State.setAgenda_agenda (s : State) (v : List Turn) : (s.setAgenda v).agenda = v := rfl

@[simp] theorem State.setAgenda_run (s : State) (v : List Turn) : (s.setAgenda v).run = s.run := rfl

@[simp] theorem State.blk_setAgenda (s : State) (v : List Turn) (b : BoxId) : (s.setAgenda v).blk b = s.blk b := by
  cases b <;> rfl

@[simp] theorem State.unit_setAgenda (s : State) (v : List Turn) (b : BoxId) (i : Fin 4) : (s.setAgenda v).unit b i = s.unit b i := by
  cases b <;> rfl

@[simp] theorem State.setBlk_setAgenda (s : State) (v : List Turn) (b : BoxId) (x : Blk) :
    (s.setAgenda v).setBlk b x = (s.setBlk b x).setAgenda v := by
  cases b <;> rfl

@[simp] theorem State.setAgenda_setAgenda (s : State) (v w : List Turn) : (s.setAgenda v).setAgenda w = s.setAgenda w := rfl

@[simp] theorem State.setAgenda_self (s : State) : s.setAgenda s.agenda = s := rfl

@[simp] theorem State.setBlk_setAgenda_self (s : State) (b : BoxId) (x : Blk) :
    (s.setBlk b x).setAgenda s.agenda = s.setBlk b x := by
  cases b <;> rfl

@[simp] theorem State.setTime_cfg (s : State) (v : Nat) : (s.setTime v).cfg = s.cfg := rfl

@[simp] theorem State.setTime_wkOnPmi (s : State) (v : Nat) : (s.setTime v).wkOnPmi = s.wkOnPmi := rfl

@[simp] theorem State.setTime_pmiCoreSel (s : State) (v : Nat) : (s.setTime v).pmiCoreSel = s.pmiCoreSel := rfl

@[simp] theorem State.setTime_status (s : State) (v : Nat) : (s.setTime v).status = s.status := rfl

@[simp] theorem State.setTime_numC (s : State) (v : Nat) : (s.setTime v).numC = s.numC := rfl

@[simp] theorem State.setTime_gfrz (s : State) (v : Nat) : (s.setTime v).gfrz = s.gfrz := rfl

@[simp] theorem State.setTime_pend (s : State) (v : Nat) : (s.setTime v).pend = s.pend := rfl

@[simp] theorem State.setTime_ubox (s : State) (v : Nat) : (s.setTime v).ubox = s.ubox := rfl

@[simp] theorem State.setTime_cbo (s : State) (v : Nat) : (s.setTime v).cbo = s.cbo := rfl

@[simp] theorem State.setTime_sbo (s : State) (v : Nat) : (s.setTime v).sbo = s.sbo := rfl

@[simp] theorem State.setTime_ha (s : State) (v : Nat) : (s.setTime v).ha = s.ha := rfl

@[simp] theorem State.setTime_imc (s : State) (v : Nat) : (s.setTime v).imc = s.imc := rfl

@[simp] theorem State.setTime_irp (s : State) (v : Nat) : (s.setTime v).irp = s.irp := rfl

@[simp] theorem State.setTime_pcu (s : State) (v : Nat) : (s.setTime v).pcu = s.pcu := rfl

@[simp] theorem State.setTime_qpi (s : State) (v : Nat) : (s.setTime v).qpi = s.qpi := rfl

@[simp] theorem State.setTime_r2 (s : State) (v : Nat) : (s.setTime v).r2 = s.r2 := rfl

@[simp] theorem State.setTime_r3 (s : State) (v : Nat) : (s.setTime v).r3 = s.r3 := rfl

@[simp] theorem State.setTime_cboFilter0 (s : State) (v : Nat) : (s.setTime v).cboFilter0 = s.cboFilter0 := rfl

@[simp] theorem State.setTime_cboFilter1 (s : State) (v : Nat) : (s.setTime v).cboFilter1 = s.cboFilter1 := rfl

@[simp] theorem State.setTime_haOpcodeMatch (s : State) (v : Nat) : (s.setTime v).haOpcodeMatch = s.haOpcodeMatch := rfl

@[simp] theorem State.setTime_haAddrMatch1 (s : State) (v : Nat) : (s.setTime v).haAddrMatch1 = s.haAddrMatch1 := rfl

@[simp] theorem State.setTime_haAddrMatch0 (s : State) (v : Nat) : (s.setTime v).haAddrMatch0 = s.haAddrMatch0 := rfl

@[simp] theorem State.setTime_pcuFilter (s : State) (v : Nat) : (s.setTime v).pcuFilter = s.pcuFilter := rfl

@[simp] theorem State.setTime_effband (s : State) (v : Nat) : (s.setTime v).effband = s.effband := rfl

@[simp] theorem State.setTime_cc6 (s : State) (v : Nat) : (s.setTime v).cc6 = s.cc6 := rfl

@[simp] theorem State.setTime_cc3 (s : State) (v : Nat) : (s.setTime v).cc3 = s.cc3 := rfl

@[simp] theorem State.setTime_pc2 (s : State) (v : Nat) : (s.setTime v).pc2 = s.pc2 := rfl

@[simp] theorem State.setTime_pc3 (s : State) (v : Nat) : (s.setTime v).pc3 = s.pc3 := rfl

@[simp] theorem State.setTime_qpiPkt (s : State) (v : Nat) : (s.setTime v).qpiPkt = s.qpiPkt := rfl

@[simp] theorem State.setTime_qpiIdle (s : State) (v : Nat) : (s.setTime v).qpiIdle = s.qpiIdle := rfl

@[simp] theorem State.setTime_qpiLlr (s : State) (v : Nat) : (s.setTime v).qpiLlr = s.qpiLlr := rfl

@[simp] theorem State.setTime_hostRead (s : State) (v : Nat) : (s.setTime v).hostRead = s.hostRead := rfl

@[simp] theorem State.setTime_out (s : State) (v : Nat) : (s.setTime v).out = s.out := rfl

@[simp] theorem State.setTime_draws (s : State) (v : Nat) : (s.setTime v).draws = s.draws := rfl

@[simp] theorem State.setTime_time (s : State) (v : Nat) : (s.setTime v).time = v := rfl

@[simp] theorem State.setTime_agenda (s : State) (v : Nat) : (s.setTime v).agenda = s.agenda := rfl

@[simp] theorem State.setTime_run (s : State) (v : Nat) : (s.setTime v).run = s.run := rfl

@[simp] theorem State.blk_setTime (s : State) (v : Nat) (b : BoxId) : (s.setTime v).blk b = s.blk b := by
  cases b <;> rfl

@[simp] theorem State.unit_setTime (s : State) (v : Nat) (b : BoxId) (i : Fin 4) : (s.setTime v).unit b i = s.unit b i := by
  cases b <;> rfl

@[simp] theorem State.setBlk_setTime (s : State) (v : Nat) (b : BoxId) (x : Blk) :
    (s.setTime v).setBlk b x = (s.setBlk b x).setTime v := by
  cases b <;> rfl

@[simp] theorem State.setTime_setTime (s : State) (v w : Nat) : (s.setTime v).setTime w = s.setTime w := rfl

@[simp] theorem State.setTime_self (s : State) : s.setTime s.time = s := rfl

@[simp] theorem State.setBlk_setTime_self (s : State) (b : BoxId) (x : Blk) :
    (s.setBlk b x).setTime s.time = s.setBlk b x := by
  cases b <;> rfl

@[simp] theorem State.setRun_cfg (s : State) (v : Option Run) : (s.setRun v).cfg = s.cfg := rfl

@[simp] theorem State.setRun_wkOnPmi (s : State) (v : Option Run) : (s.setRun v).wkOnPmi = s.wkOnPmi := rfl

@[simp] theorem State.setRun_pmiCoreSel (s : State) (v : Option Run) : (s.setRun v).pmiCoreSel = s.pmiCoreSel := rfl

@[simp] theorem State.setRun_status (s : State) (v : Option Run) : (s.setRun v).status = s.status := rfl

@[simp] theorem State.setRun_numC (s : State) (v : Option Run) : (s.setRun v).numC = s.numC := rfl

@[simp] theorem State.setRun_gfrz (s : State) (v : Option Run) : (s.setRun v).gfrz = s.gfrz := rfl

@[simp] theorem State.setRun_pend (s : State) (v : Option Run) : (s.setRun v).pend = s.pend := rfl

@[simp] theorem State.setRun_ubox (s : State) (v : Option Run) : (s.setRun v).ubox = s.ubox := rfl

@[simp] theorem State.setRun_cbo (s : State) (v : Option Run) : (s.setRun v).cbo = s.cbo := rfl

@[simp] theorem State.setRun_sbo (s : State) (v : Option Run) : (s.setRun v).sbo = s.sbo := rfl

@[simp] theorem State.setRun_ha (s : State) (v : Option Run) : (s.setRun v).ha = s.ha := rfl

@[simp] theorem State.setRun_imc (s : State) (v : Option Run) : (s.setRun v).imc = s.imc := rfl

@[simp] theorem State.setRun_irp (s : State) (v : Option Run) : (s.setRun v).irp = s.irp := rfl

@[simp] theorem State.setRun_pcu (s : State) (v : Option Run) : (s.setRun v).pcu = s.pcu := rfl

@[simp] theorem State.setRun_qpi (s : State) (v : Option Run) : (s.setRun v).qpi = s.qpi := rfl

@[simp] theorem State.setRun_r2 (s : State) (v : Option Run) : (s.setRun v).r2 = s.r2 := rfl

@[simp] theorem State.setRun_r3 (s : State) (v : Option Run) : (s.setRun v).r3 = s.r3 := rfl

@[simp] theorem State.setRun_cboFilter0 (s : State) (v : Option Run) : (s.setRun v).cboFilter0 = s.cboFilter0 := rfl

@[simp] theorem State.setRun_cboFilter1 (s : State) (v : Option Run) : (s.setRun v).cboFilter1 = s.cboFilter1 := rfl

@[simp] theorem State.setRun_haOpcodeMatch (s : State) (v : Option Run) : (s.setRun v).haOpcodeMatch = s.haOpcodeMatch := rfl

@[simp] theorem State.setRun_haAddrMatch1 (s : State) (v : Option Run) : (s.setRun v).haAddrMatch1 = s.haAddrMatch1 := rfl

@[simp] theorem State.setRun_haAddrMatch0 (s : State) (v : Option Run) : (s.setRun v).haAddrMatch0 = s.haAddrMatch0 := rfl

@[simp] theorem State.setRun_pcuFilter (s : State) (v : Option Run) : (s.setRun v).pcuFilter = s.pcuFilter := rfl

@[simp] theorem State.setRun_effband (s : State) (v : Option Run) : (s.setRun v).effband = s.effband := rfl

@[simp] theorem State.setRun_cc6 (s : State) (v : Option Run) : (s.setRun v).cc6 = s.cc6 := rfl

@[simp] theorem State.setRun_cc3 (s : State) (v : Option Run) : (s.setRun v).cc3 = s.cc3 := rfl

@[simp] theorem State.setRun_pc2 (s : State) (v : Option Run) : (s.setRun v).pc2 = s.pc2 := rfl

@[simp] theorem State.setRun_pc3 (s : State) (v : Option Run) : (s.setRun v).pc3 = s.pc3 := rfl

@[simp] theorem State.setRun_qpiPkt (s : State) (v : Option Run) : (s.setRun v).qpiPkt = s.qpiPkt := rfl

@[simp] theorem State.setRun_qpiIdle (s : State) (v : Option Run) : (s.setRun v).qpiIdle = s.qpiIdle := rfl

@[simp] theorem State.setRun_qpiLlr (s : State) (v : Option Run) : (s.setRun v).qpiLlr = s.qpiLlr := rfl

@[simp] theorem State.setRun_hostRead (s : State) (v : Option Run) : (s.setRun v).hostRead = s.hostRead := rfl

@[simp] theorem State.setRun_out (s : State) (v : Option Run) : (s.setRun v).out = s.out := rfl

@[simp] theorem State.setRun_draws (s : State) (v : Option Run) : (s.setRun v).draws = s.draws := rfl

@[simp] theorem State.setRun_time (s : State) (v : Option Run) : (s.setRun v).time = s.time := rfl

@[simp] theorem State.setRun_agenda (s : State) (v : Option Run) : (s.setRun v).agenda = s.agenda := rfl

@[simp] theorem State.setRun_run (s : State) (v : Option Run) : (s.setRun v).run = v := rfl

@[simp] theorem State.blk_setRun (s : State) (v : Option Run) (b : BoxId) : (s.setRun v).blk b = s.blk b := by
  cases b <;> rfl

@[simp] theorem State.unit_setRun (s : State) (v : Option Run) (b : BoxId) (i : Fin 4) : (s.setRun v).unit b i = s.unit b i := by
  cases b <;> rfl

@[simp] theorem State.setBlk_setRun (s : State) (v : Option Run) (b : BoxId) (x : Blk) :
    (s.setRun v).setBlk b x = (s.setBlk b x).setRun v := by
  cases b <;> rfl

@[simp] theorem State.setRun_setRun (s : State) (v w : Option Run) : (s.setRun v).setRun w = s.setRun w := rfl

@[simp] theorem State.setRun_self (s : State) : s.setRun s.run = s := rfl

@[simp] theorem State.setBlk_setRun_self (s : State) (b : BoxId) (x : Blk) :
    (s.setBlk b x).setRun s.run = s.setBlk b x := by
  cases b <;> rfl

@[simp] theorem State.setPend_setDraws (s : State) (n : Nat) (v : List Quad) :
    (s.setDraws n).setPend v = (s.setPend v).setDraws n := rfl

@[simp] theorem State.setBlk_setBlk (s : State) (b : BoxId) (x y : Blk) :
    (s.setBlk b x).setBlk b y = s.setBlk b y := by
  cases b <;> simp [State.setBlk]

@[simp] theorem State.setBlk_blk_self (s : State) (b : BoxId) : s.setBlk b (s.blk b) = s := by
  cases b <;> simp [State.setBlk, State.blk]

/-! ### Draws -/

@[simp] theorem State.draw_snd (s : State) (n : Nat) : (s.draw n).2 = s.setDraws (s.draws + 1) := rfl

@[simp] theorem State.drawBool_snd (s : State) : s.drawBool.2 = s.setDraws (s.draws + 1) := rfl

theorem State.draw_fst_le (s : State) (n : Nat) : (s.draw n).1 ≤ n :=
  Nat.le_of_lt_succ (Nat.mod_lt _ n.succ_pos)

end Sys2Proof.Machine
end

