-- ==== Sys2Proof/Laws/Ops.lean ====
section
/-! SUPPORT. For each shared operation one lemma that says once everything it can do; proofs cite it instead of unfolding
the operation. -/

namespace Sys2Proof.Machine

/-! ### Draws and raw increments -/

/-- An operation that only draws. -/
def OnlyDraws (s t : State) : Prop := ∃ n, s.draws ≤ n ∧ t = s.setDraws n

theorem OnlyDraws.refl (s : State) : OnlyDraws s s := ⟨s.draws, le_rfl, rfl⟩

theorem OnlyDraws.draw (s : State) (n : Nat) : OnlyDraws s (s.draw n).2 := ⟨s.draws + 1, by omega, rfl⟩

theorem OnlyDraws.drawBool (s : State) : OnlyDraws s s.drawBool.2 := ⟨s.draws + 1, by omega, rfl⟩

theorem OnlyDraws.trans {s t u : State} (h : OnlyDraws s t) (g : OnlyDraws t u) : OnlyDraws s u := by
  obtain ⟨m, hm, rfl⟩ := h
  obtain ⟨n, hn, rfl⟩ := g
  exact ⟨n, le_trans hm hn, rfl⟩

theorem rawCbo_onlyDraws (n : Fin 18) (e : Event) (u : BitVec 8) (t : Bool) (s : State) :
    OnlyDraws s (rawCbo n e u t s).2 := by
  unfold rawCbo
  split
  · exact .draw _ _
  · exact .refl _

theorem rawCounter0_onlyDraws (n : Fin 18) (s : State) : OnlyDraws s (rawCounter0 n s).2 := by
  simp only [rawCounter0]
  split
  · exact rawCbo_onlyDraws _ _ _ _ _
  · exact .draw _ _

theorem rawBand_onlyDraws (k : Fin 4) (s : State) : OnlyDraws s (rawBand k s).2 := by
  unfold rawBand
  split
  · exact .refl _
  · split
    · exact .draw _ _
    · exact .refl _

theorem rawListed_onlyDraws (b : BoxId) (i : Fin 4) (e : Event) (u : BitVec 8) (t : Bool) (s : State) :
    OnlyDraws s (rawListed b i e u t s).2 := by
  simp only [rawListed]
  split <;> first
    | exact .refl _
    | exact rawCbo_onlyDraws _ _ _ _ _
    | exact rawCounter0_onlyDraws _ _
    | exact rawBand_onlyDraws _ _

/-- So does finding that of a unit mask value which is not listed. -/
theorem rawUnlisted_onlyDraws (b : BoxId) (code u : BitVec 8) (s : State) : OnlyDraws s (rawUnlisted b code u s).2 := by
  unfold rawUnlisted
  split
  · exact .refl _
  · exact .draw _ _

/-- Finding the raw increment of an event changes nothing but the count of draws. -/
theorem rawIncrement_onlyDraws (b : BoxId) (i : Fin 4) (e : Event) (u : BitVec 8) (t : Bool) (s : State) :
    OnlyDraws s (rawIncrement b i e u t s).2 := by
  unfold rawIncrement
  split
  · exact rawListed_onlyDraws _ _ _ _ _ _
  · exact rawUnlisted_onlyDraws _ _ _ _

/-- A unit mask value that is not listed adds at most RAW_BOUND. -/
theorem rawUnlisted_le (b : BoxId) (code u : BitVec 8) (s : State) : (rawUnlisted b code u s).1 ≤ s.cfg.rawBound := by
  unfold rawUnlisted
  split
  · exact Nat.zero_le _
  · exact Nat.le_of_lt_succ (Nat.mod_lt _ (Nat.succ_pos _))

/-- What gives addr_hit: a packet other than an NDR response, with the address the two registers name (43_ha.md R404). -/
theorem addrHit_iff (a1 a0 : Word) (o : Occ) :
    addrHit a1 a0 o = true ↔ o.cls ≠ 0x2 ∧ o.addr = some (a1.extractLsb' 0 14 ++ a0.extractLsb' 6 26) := by
  by_cases h : o.cls = 0x2 <;> simp [addrHit, packetAddress, h]

/-- With none of the rows AD, BL and AK in the unit mask the environment adds nothing. -/
theorem ringHit_eq_false {n : Fin 2} {u : BitVec 8} (h : u &&& 0x1C = 0) (s : State) (o : Occ) :
    ringHit n u s o = false := by
  have none : ∀ u : BitVec 8, u &&& 0x1C = 0 → u &&& 0x04 ≠ 0x04 ∧ u &&& 0x08 ≠ 0x08 ∧ u &&& 0x10 ≠ 0x10 := by decide
  obtain ⟨ad, bl, ak⟩ := none u h
  simp only [ringHit, List.any_cons, List.any_nil, beq_eq_false_iff_ne.mpr ad, beq_eq_false_iff_ne.mpr bl,
    beq_eq_false_iff_ne.mpr ak, Bool.false_and, Bool.or_false]

/-! ### The laws of the raw increment -/

/-- The increment, for every `g`, keeps the laws of 00_scope.md R12. -/
theorem increment_spec (e : Event) (g : List (BitVec 8) → Nat) :
    (∀ u, e.selection u = [] → e.increment g u = 0) ∧ (∀ u, e.increment g u ≤ e.bound) ∧
      (∀ u v, e.selection u ⊆ e.selection v → e.increment g u ≤ e.increment g v) ∧
      (∀ u v w, e.selection w ⊆ e.selection u ++ e.selection v →
        e.increment g w ≤ e.increment g u + e.increment g v) := by
  unfold Event.increment
  split
  · next h => exact ⟨fun u hu => hu ▸ h.1, h.2⟩
  · exact ⟨fun _ _ => rfl, fun _ => Nat.zero_le _, fun _ _ _ => le_rfl, fun _ _ _ _ => le_rfl⟩

/-- A lawful environment is what the model says it is. -/
theorem increment_of_lawful {e : Event} {g : List (BitVec 8) → Nat} (h : e.Lawful g) (u : BitVec 8) :
    e.increment g u = g (e.selection u) := if_pos h

/-- Every event's listed values add at most its MaxInc. -/
theorem bound_le_maxInc (e : Event) : e.bound ≤ e.maxInc := by
  unfold Event.bound
  split
  · exact min_le_right _ _
  · exact le_rfl

theorem frozenGlobal_onlyDraws (b : BoxId) (s : State) : OnlyDraws s (frozenGlobal b s).2 := by
  unfold frozenGlobal
  split
  · exact .refl _
  · exact .drawBool _

theorem counting_onlyDraws (b : BoxId) (i : Fin 4) (en : Bool) (s : State) : OnlyDraws s (counting b i en s).2 := by
  unfold counting
  split
  · exact frozenGlobal_onlyDraws b s
  · exact .refl _

@[simp] theorem OnlyDraws.blk_eq {s t : State} (h : OnlyDraws s t) (b : BoxId) : t.blk b = s.blk b := by
  obtain ⟨n, -, rfl⟩ := h
  simp

@[simp] theorem OnlyDraws.unit_eq {s t : State} (h : OnlyDraws s t) (b : BoxId) (i : Fin 4) : t.unit b i = s.unit b i := by
  obtain ⟨n, -, rfl⟩ := h
  simp

/-! ### The count step -/

theorem risingEdge_onlyDraws (p : Option Bool) (c : Bool) (s : State) : OnlyDraws s (risingEdge p c s).2 := by
  unfold risingEdge
  split
  · exact .refl _
  · split
    · exact .draw _ _
    · exact .refl _

/-- Only the edge latches of counter `i` and the count of draws differ. -/
def Latched (b : BoxId) (i : Fin 4) (s t : State) : Prop :=
  ∃ prev oprev, OnlyDraws (s.setUnit b i { s.unit b i with prev := prev, oprev := oprev }) t

theorem Latched.of_onlyDraws {b : BoxId} {i : Fin 4} {s t : State} (h : OnlyDraws s t) : Latched b i s t := by
  refine ⟨(s.unit b i).prev, (s.unit b i).oprev, ?_⟩
  have e : s.setUnit b i { s.unit b i with prev := (s.unit b i).prev, oprev := (s.unit b i).oprev } = s := by
    change s.setBlk b ((s.blk b).setUnit i ((s.blk b).unit i)) = s
    simp
  rw [e]
  exact h

/-- The stages after the raw increment change the counter's own edge latches and draw. -/
theorem addend_latched (b : BoxId) (i : Fin 4) (code : BitVec 8) (c : CtlOps) (raw : Nat) (s : State) :
    Latched b i s (addend b i code c raw s).2 := by
  unfold addend
  split
  · split
    · exact .of_onlyDraws (.refl s)
    · split
      · exact ⟨_, _, risingEdge_onlyDraws _ _ _⟩
      · exact .of_onlyDraws (.refl s)
  · split
    · unfold spread
      split
      · exact .of_onlyDraws ⟨s.draws + 1, by omega, rfl⟩
      · exact .of_onlyDraws (.refl s)
    · split
      · exact ⟨_, _, risingEdge_onlyDraws _ _ _⟩
      · exact .of_onlyDraws (.refl s)

theorem sendMessage_of_ne {m : Quad} (h : m ≠ 0) (s : State) : sendMessage m s = s.setPend (s.pend ++ [m]) :=
  if_neg h

/-- What reporting an overflow can do: the status bit is set, and at most one message of the box joins PEND; for certain
when ov_en is 1, the box has a bit of the global status and neither status bit was set. -/
theorem reportOverflow_spec (b : BoxId) (n : Nat) (ovEn : Bool) (s : State) :
    ∃ sent draws, reportOverflow b n ovEn s =
        ((s.setBlk b ((s.blk b).setOv ((s.blk b).ov ||| BitVec.ofNat 5 (2 ^ n)))).setPend (s.pend ++ sent)).setDraws draws ∧
      (sent = [] ∨ (ovEn = true ∧ b.globalBits ≠ 0 ∧ sent = [b.globalBits])) ∧ s.draws ≤ draws ∧
      (ovEn = true → b.globalBits ≠ 0 → (s.blk b).ov.getLsbD n = false → s.status &&& b.globalBits = 0 →
        sent = [b.globalBits]) := by
  unfold reportOverflow
  dsimp only
  generalize hS : s.setBlk b ((s.blk b).setOv ((s.blk b).ov ||| BitVec.ofNat 5 (2 ^ n))) = S
  have hp : S.pend = s.pend := by rw [← hS, State.setBlk_pend]
  have hd : S.draws = s.draws := by rw [← hS, State.setBlk_draws]
  rw [← hp, ← hd]
  split
  · rename_i h
    have h' : ovEn = true ∧ b.globalBits ≠ 0 := by simpa using h
    rw [sendMessage_of_ne h'.2, sendMessage_of_ne h'.2]
    split
    · rename_i hq
      have no : ∀ p : Prop, (s.blk b).ov.getLsbD n = false → s.status &&& b.globalBits = 0 → p := by
        intro p h1 h2
        simp [h1, h2] at hq
      split
      · exact ⟨[b.globalBits], S.draws + 1, rfl, .inr ⟨h'.1, h'.2, rfl⟩, by omega, fun _ _ _ _ => rfl⟩
      · exact ⟨[], S.draws + 1, by rw [List.append_nil]; rfl, .inl rfl, by omega, fun _ _ => no _⟩
    · exact ⟨[b.globalBits], S.draws, rfl, .inr ⟨h'.1, h'.2, rfl⟩, le_rfl, fun _ _ _ _ => rfl⟩
  · rename_i h
    exact ⟨[], S.draws, by rw [List.append_nil]; rfl, .inl rfl, le_rfl, fun h1 h2 => absurd (by simpa [h1] using h2) h⟩

/-- The sum of the count step: the counter's new value, and on a carry the report of the overflow. -/
theorem addTo_spec (b : BoxId) (i : Fin 4) (ovEn : Bool) (a : Nat) (s : State) :
    ∃ ov sent draws, addTo b i ovEn a s =
        ((s.setBlk b (((s.blk b).setUnit i { s.unit b i with
            ctr := BitVec.ofNat 48 (((s.unit b i).ctr.toNat + a) % 2 ^ b.width s.cfg) }).setOv ov)).setPend
          (s.pend ++ sent)).setDraws draws ∧
      ov = (if 2 ^ b.width s.cfg ≤ (s.unit b i).ctr.toNat + a
        then (s.blk b).ov ||| BitVec.ofNat 5 (2 ^ b.ovIndex i) else (s.blk b).ov) ∧
      (sent = [] ∨ (2 ^ b.width s.cfg ≤ (s.unit b i).ctr.toNat + a ∧ ovEn = true ∧ b.globalBits ≠ 0 ∧
        sent = [b.globalBits])) ∧ s.draws ≤ draws ∧
      (2 ^ b.width s.cfg ≤ (s.unit b i).ctr.toNat + a → ovEn = true → b.globalBits ≠ 0 →
        (s.blk b).ov.getLsbD (b.ovIndex i) = false → s.status &&& b.globalBits = 0 → sent = [b.globalBits]) := by
  unfold addTo
  dsimp only
  split
  · rename_i h
    obtain ⟨sent, d, e, hs, hd, hc⟩ := reportOverflow_spec b (b.ovIndex i) ovEn (s.setUnit b i { s.unit b i with
      ctr := BitVec.ofNat 48 (((s.unit b i).ctr.toNat + a) % 2 ^ b.width s.cfg) })
    refine ⟨_, sent, d, ?_, rfl, hs.imp id fun ⟨h1, h2, h3⟩ => ⟨h, h1, h2, h3⟩, by simpa using hd, fun _ h1 h2 h3 h4 =>
      hc h1 h2 (by simpa [State.setUnit] using h3) (by simpa using h4)⟩
    rw [e]
    simp [State.setUnit]
  · rename_i h
    exact ⟨(s.blk b).ov, [], s.draws, by simp [State.setUnit], rfl, .inl rfl, le_rfl, fun h' => absurd h' h⟩

theorem Latched.of_eq {b : BoxId} {i : Fin 4} {s t : State} (h : Latched b i s t) :
    ∃ prev oprev n, s.draws ≤ n ∧
      t = (s.setBlk b ((s.blk b).setUnit i { s.unit b i with prev := prev, oprev := oprev })).setDraws n := by
  obtain ⟨p, q, n, hn, rfl⟩ := h
  exact ⟨p, q, n, by simpa using hn, rfl⟩

theorem Latched.frame {b : BoxId} {i : Fin 4} {s t : State} (h : Latched b i s t) : CountFrame b i s t := by
  obtain ⟨p, q, n, hn, rfl⟩ := h.of_eq
  exact ⟨(s.unit b i).ctr, p, q, (s.blk b).ov, [], n, by simp, fun _ _ => rfl, id, .inl rfl, hn⟩

theorem getLsbD_or_two_pow (x : BitVec 5) (k n : Nat) (h : n ≠ k) :
    (x ||| BitVec.ofNat 5 (2 ^ k)).getLsbD n = x.getLsbD n := by
  rw [BitVec.getLsbD_or, BitVec.getLsbD_ofNat, Nat.testBit_two_pow]
  simp [Ne.symm h]

theorem Latched.addTo_frame {b : BoxId} {i : Fin 4} {s t : State} (h : Latched b i s t) (ovEn : Bool) (a : Nat) :
    CountFrame b i s (addTo b i ovEn a t) := by
  obtain ⟨p, q, n, hn, rfl⟩ := h.of_eq
  obtain ⟨ov, sent, d, e, ho, hs, hd, -⟩ := addTo_spec b i ovEn a
    ((s.setBlk b ((s.blk b).setUnit i { s.unit b i with prev := p, oprev := q })).setDraws n)
  refine ⟨BitVec.ofNat 48 (((s.unit b i).ctr.toNat + a) % 2 ^ b.width s.cfg), p, q, ov, sent, d, ?_, ?_, ?_, ?_,
    hn.trans hd⟩
  · rw [e]
    simp
  · intro m hm
    rw [ho]
    split
    · rw [getLsbD_or_two_pow _ _ _ hm]
      simp
    · simp
  · intro hx
    rw [ho]
    split <;> simp [hx]
  · exact hs.imp id fun ⟨_, _, h1, h2⟩ => ⟨h1, h2⟩

theorem width_le (b : BoxId) (p : Params) : b.width p ≤ 48 := by
  cases b <;> simp [BoxId.width, Params.r3Width]
  split <;> omega

theorem ovIndex_lt (b : BoxId) (i : Fin 4) : b.ovIndex i < 5 := by
  cases b <;> simp [BoxId.ovIndex] <;> omega

/-- What a state whose edge latches and draws alone have moved still has. -/
theorem Latched.same {b : BoxId} {i : Fin 4} {s t : State} (h : Latched b i s t) :
    t.cfg = s.cfg ∧ (t.unit b i).ctr = (s.unit b i).ctr ∧ (t.blk b).ov = (s.blk b).ov ∧ t.pend = s.pend ∧
      t.status = s.status := by
  obtain ⟨p, q, n, hn, rfl⟩ := h.of_eq
  simp [State.unit]

/-- Adding to a counter whose edge latches and draws alone have moved adds to it as it was. -/
theorem Latched.addTo_adds {b : BoxId} {i : Fin 4} {s t : State} (h : Latched b i s t) (ovEn : Bool) (a : Nat) :
    Adds b i a ovEn s (addTo b i ovEn a t) := by
  obtain ⟨hc, hr, hv, hp, hg⟩ := h.same
  obtain ⟨ov, sent, d, e, ho, hs, -, hm⟩ := addTo_spec b i ovEn a t
  rw [hc, hr] at e ho hs hm
  rw [hv] at ho hm
  rw [hp] at e
  rw [hg] at hm
  have hlt : ((s.unit b i).ctr.toNat + a) % 2 ^ b.width s.cfg < 2 ^ 48 :=
    lt_of_lt_of_le (Nat.mod_lt _ (Nat.two_pow_pos _)) (Nat.pow_le_pow_right (by omega) (width_le b s.cfg))
  refine ⟨h.addTo_frame ovEn a, ?_, fun hq => ?_, fun hq => ?_, fun hq => ?_, fun h1 h2 h3 h4 h5 => ?_⟩
  · rw [e]
    simpa [State.unit] using Nat.mod_eq_of_lt hlt
  · have hq' := Nat.not_le.mpr hq
    rcases hs with rfl | ⟨h1, -⟩
    · rw [e]
      simp [ho, hq']
    · exact absurd h1 hq'
  · rw [e]
    simp only [State.blk_setDraws, State.blk_setPend, State.blk_setBlk_self, Blk.setOv_ov, ho, if_pos hq, BitVec.getLsbD_or,
      BitVec.getLsbD_ofNat, Nat.testBit_two_pow_self, ovIndex_lt b i, decide_true, Bool.true_and, Bool.or_true]
  · rcases hs with rfl | ⟨-, h1, h2, -⟩
    · rw [e]
      simp
    · rcases hq with hq | hq <;> simp_all
  · rw [e, hm h1 h2 h3 h4 h5]
    simp

/-- A counter that counts for certain adds what its stages make of the raw increment. -/
theorem countStep_counting {b : BoxId} {i : Fin 4} {code : BitVec 8} {c : CtlOps} {raw : State → Nat × State} {s : State}
    (h : Counting b i c.en s) :
    countStep b i code c raw s =
      addTo b i c.ovEn (addend b i code c (raw s).1 (raw s).2).1 (addend b i code c (raw s).1 (raw s).2).2 := by
  have hl : locallyEnabled b i c.en s = true := by
    have hb := h.box
    simp only [locallyEnabled, h.en, h.sticky]
    cases b <;> simp_all
  simp [countStep, counting, hl, frozenGlobal, h.global, countEnabled, h.settled]

/-- A counter that does not count keeps everything but its edge detector's sample; of the global freeze nothing is drawn
when a level below it decides. -/
theorem countStep_notCounting {b : BoxId} {i : Fin 4} {code : BitVec 8} {c : CtlOps} {raw : State → Nat × State} {s : State}
    (h : NotCounting b i c.en s) : countStep b i code c raw s = forgetSample b i s := by
  rcases h with h | ⟨h1, h2⟩ | h | h
  · simp [countStep, counting, locallyEnabled, h]
  · have : (b == BoxId.ubox) = false := by simpa using h1
    simp [countStep, counting, locallyEnabled, this, h2]
  · simp only [countStep, counting, frozenGlobal, h]
    split <;> simp
  · simp [countStep, counting, locallyEnabled, h]

theorem forgetSample_latched {b : BoxId} {i : Fin 4} {s t : State} (h : OnlyDraws s t) :
    Latched b i s (forgetSample b i t) := by
  obtain ⟨n, hn, rfl⟩ := h
  exact ⟨none, none, n, by simpa using hn, by simp [forgetSample, State.setUnit]⟩

theorem Latched.after_draws {b : BoxId} {i : Fin 4} {s t u : State} (h : OnlyDraws s t) (g : Latched b i t u) :
    Latched b i s u := by
  obtain ⟨n, hn, rfl⟩ := h
  obtain ⟨p, q, m, hm, rfl⟩ := g.of_eq
  exact ⟨p, q, m, by simpa using hn.trans hm, by simp [State.setUnit]⟩

/-- One count step changes its own counter's value and edge latches, its status bit, PEND by at most one message, and
the count of draws. -/
theorem countStep_frame (b : BoxId) (i : Fin 4) (code : BitVec 8) (c : CtlOps) (raw : State → Nat × State) (s : State)
    (hraw : ∀ t, OnlyDraws t (raw t).2) : CountFrame b i s (countStep b i code c raw s) := by
  have hc := counting_onlyDraws b i c.en s
  simp only [countStep]
  split
  · simp only [countEnabled]
    split
    · exact (((addend_latched b i code c _ _).after_draws (hraw _)).after_draws hc).addTo_frame _ _
    · exact (forgetSample_latched ((hc.trans (.draw _ _)).trans (.drawBool _))).addTo_frame _ _
  · exact (forgetSample_latched hc).frame

/-- Every event instruction completes, inside the frame of a count step. -/
theorem countEvent_frame {k : Kind} (e : Event) (base : BitVec 8) (o : EvOp k) (s : State) :
    ∃ t, countEvent e base o s = .next t ∧ CountFrame o.box o.unit s t :=
  ⟨_, rfl, countStep_frame _ _ _ _ _ _ (rawIncrement_onlyDraws _ _ _ _ _)⟩

/-! ### The delivery of a message -/

theorem emit_eq (f : BitVec 18 → Signal) (cores : BitVec 18) (s : State) :
    emit f cores s = s.setOut (s.out ++ if cores = 0 then [] else [f cores]) := by
  unfold emit
  split <;> simp

/-- What signalling the cores does: only the outputs and the count of draws change. -/
theorem sendPmi_spec (s : State) :
    let cores := s.pmiCoreSel &&& s.cfg.coreMask
    let asleep := Config.asleep s.draws
    let signal := fun (f : BitVec 18 → Signal) (m : BitVec 18) => if m = 0 then [] else [f m]
    ∃ n, s.draws ≤ n ∧ sendPmi s = (s.setOut (s.out ++
        if s.pmiCoreSel = 0 then []
        else if s.wkOnPmi then signal .wake (cores &&& asleep) ++ signal .pmi cores
        else signal .pmi (cores &&& ~~~asleep))).setDraws n := by
  unfold sendPmi
  split
  · exact ⟨s.draws, le_rfl, by simp⟩
  · dsimp only
    rw [emit_eq, emit_eq, emit_eq]
    refine ⟨s.draws + 1, by omega, ?_⟩
    split <;> simp [State.setOut, State.setDraws]

/-- What receiving a message does. -/
theorem receive_spec (bits : Quad) (s : State) :
    ∃ out n, receive bits s = (({ s with status := s.status ||| bits, gfrz := some true } : State).setOut out).setDraws n ∧
      s.draws ≤ n := by
  obtain ⟨n, hn, e⟩ := sendPmi_spec { s with status := s.status ||| bits, gfrz := some true }
  exact ⟨_, n, e, hn⟩

/-- What a delivery does: nothing when no message has that place, else one message leaves PEND and is received. -/
theorem deliver_spec (k : Nat) (s : State) :
    (s.pend[k]? = none ∧ deliver k s = s) ∨
      ∃ bits out n, s.pend[k]? = some bits ∧ s.draws ≤ n ∧
        deliver k s = (({ s with status := s.status ||| bits, gfrz := some true, pend := s.pend.eraseIdx k } : State).setOut
          out).setDraws n := by
  unfold deliver
  split
  · exact .inl ⟨‹_›, rfl⟩
  · rename_i bits h
    obtain ⟨out, n, e, hn⟩ := receive_spec bits (s.setPend (s.pend.eraseIdx k))
    exact .inr ⟨bits, out, n, h, hn, e⟩

end Sys2Proof.Machine
end

