-- ==== Sys2Proof/Laws/PerInstr.lean ====
section
/-! SUPPORT. Laws of the instructions as syntax, one lemma per constructor: where the decoder's tables hold each. -/

namespace Sys2Proof.Laws.Coded

open Sys2Proof Sys2Proof.Machine

/-- A PCICFG row's address is aligned and above the MSR numbers, no other row or function register stands at either of
its dwords, and the IRP's two address settings map to each other there. -/
noncomputable def cfgAddressOk (addr : Nat) (two : Bool) : Bool :=
  addr % 4 == 0 && decide (0x8000 ≤ addr) && decide (addr + 12 < 2 ^ 20) && (functionTable.lookup addr).isNone &&
    irpUnalt (irpAlt addr) == some addr &&
    (!two || ((functionTable.lookup (addr + 4)).isNone && (cfgTable.lookup (addr + 4)).isNone &&
      irpUnalt (irpAlt addr + 4) == some (addr + 4)))

/-- The decoder's tables map the row an instruction names to its own constructor. -/
def Statement (i : Instr) : Prop :=
  match i.view with
  | .event k e base o =>
    (∃ rows mk, (eventTable k).find? (fun p => p.1.code == e.code && p.1.ext == e.ext) = some (e, rows) ∧
      rows.lookup base = some mk ∧ mk o = i) ∧
    ((k != .pcu || base &&& 0x3F == 0) && (!e.ext || k.hasExt)) = true
  | .msr addr _ a => (∃ mk, msrTable.lookup addr = some mk ∧ mk a = i) ∧ decide (addr < 0x8000) = true
  | .cfg addr r a => (∃ mk, cfgTable.lookup addr = some (r.twoDwords, mk) ∧ mk a = i) ∧
      cfgAddressOk addr r.twoDwords = true

theorem uBoxEventMsgDoorbellRcvd (o : EvOp .ubox) : Statement (.uBoxEventMsgDoorbellRcvd o) := ⟨⟨_, _, rfl, rfl, rfl⟩, rfl⟩
theorem uBoxPholdCyclesAssertToAck (o : EvOp .ubox) : Statement (.uBoxPholdCyclesAssertToAck o) := ⟨⟨_, _, rfl, rfl, rfl⟩, rfl⟩
theorem uBoxRacuRequests (o : EvOp .ubox) : Statement (.uBoxRacuRequests o) := ⟨⟨_, _, rfl, rfl, rfl⟩, rfl⟩
theorem cBoBounceControl (o : EvOp .cbo) : Statement (.cBoBounceControl o) := ⟨⟨_, _, rfl, rfl, rfl⟩, rfl⟩
theorem cBoClockticks (o : EvOp .cbo) : Statement (.cBoClockticks o) := ⟨⟨_, _, rfl, rfl, rfl⟩, rfl⟩
theorem cBoCounter0Occupancy (o : EvOp .cbo) : Statement (.cBoCounter0Occupancy o) := ⟨⟨_, _, rfl, rfl, rfl⟩, rfl⟩
theorem cBoFastAsserted (o : EvOp .cbo) : Statement (.cBoFastAsserted o) := ⟨⟨_, _, rfl, rfl, rfl⟩, rfl⟩
theorem cBoLlcLookupDataRead (o : EvOp .cbo) : Statement (.cBoLlcLookupDataRead o) := ⟨⟨_, _, rfl, rfl, rfl⟩, rfl⟩
theorem cBoLlcLookupWrite (o : EvOp .cbo) : Statement (.cBoLlcLookupWrite o) := ⟨⟨_, _, rfl, rfl, rfl⟩, rfl⟩
theorem cBoLlcLookupRemoteSnoop (o : EvOp .cbo) : Statement (.cBoLlcLookupRemoteSnoop o) := ⟨⟨_, _, rfl, rfl, rfl⟩, rfl⟩
theorem cBoLlcLookupAny (o : EvOp .cbo) : Statement (.cBoLlcLookupAny o) := ⟨⟨_, _, rfl, rfl, rfl⟩, rfl⟩
theorem cBoLlcLookupRead (o : EvOp .cbo) : Statement (.cBoLlcLookupRead o) := ⟨⟨_, _, rfl, rfl, rfl⟩, rfl⟩
theorem cBoLlcLookupNid (o : EvOp .cbo) : Statement (.cBoLlcLookupNid o) := ⟨⟨_, _, rfl, rfl, rfl⟩, rfl⟩
theorem cBoLlcVictimsMState (o : EvOp .cbo) : Statement (.cBoLlcVictimsMState o) := ⟨⟨_, _, rfl, rfl, rfl⟩, rfl⟩
theorem cBoLlcVictimsEState (o : EvOp .cbo) : Statement (.cBoLlcVictimsEState o) := ⟨⟨_, _, rfl, rfl, rfl⟩, rfl⟩
theorem cBoLlcVictimsIState (o : EvOp .cbo) : Statement (.cBoLlcVictimsIState o) := ⟨⟨_, _, rfl, rfl, rfl⟩, rfl⟩
theorem cBoLlcVictimsFState (o : EvOp .cbo) : Statement (.cBoLlcVictimsFState o) := ⟨⟨_, _, rfl, rfl, rfl⟩, rfl⟩
theorem cBoLlcVictimsMiss (o : EvOp .cbo) : Statement (.cBoLlcVictimsMiss o) := ⟨⟨_, _, rfl, rfl, rfl⟩, rfl⟩
theorem cBoLlcVictimsNid (o : EvOp .cbo) : Statement (.cBoLlcVictimsNid o) := ⟨⟨_, _, rfl, rfl, rfl⟩, rfl⟩
theorem cBoMiscRspiWasFse (o : EvOp .cbo) : Statement (.cBoMiscRspiWasFse o) := ⟨⟨_, _, rfl, rfl, rfl⟩, rfl⟩
theorem cBoMiscWcAliasing (o : EvOp .cbo) : Statement (.cBoMiscWcAliasing o) := ⟨⟨_, _, rfl, rfl, rfl⟩, rfl⟩
theorem cBoMiscStarted (o : EvOp .cbo) : Statement (.cBoMiscStarted o) := ⟨⟨_, _, rfl, rfl, rfl⟩, rfl⟩
theorem cBoMiscRfoHitS (o : EvOp .cbo) : Statement (.cBoMiscRfoHitS o) := ⟨⟨_, _, rfl, rfl, rfl⟩, rfl⟩
theorem cBoMiscCvzeroPrefetchVictim (o : EvOp .cbo) : Statement (.cBoMiscCvzeroPrefetchVictim o) := ⟨⟨_, _, rfl, rfl, rfl⟩, rfl⟩
theorem cBoMiscCvzeroPrefetchMiss (o : EvOp .cbo) : Statement (.cBoMiscCvzeroPrefetchMiss o) := ⟨⟨_, _, rfl, rfl, rfl⟩, rfl⟩
theorem cBoRingAdUsedUpEven (o : EvOp .cbo) : Statement (.cBoRingAdUsedUpEven o) := ⟨⟨_, _, rfl, rfl, rfl⟩, rfl⟩
theorem cBoRingAdUsedUpOdd (o : EvOp .cbo) : Statement (.cBoRingAdUsedUpOdd o) := ⟨⟨_, _, rfl, rfl, rfl⟩, rfl⟩
theorem cBoRingAdUsedUp (o : EvOp .cbo) : Statement (.cBoRingAdUsedUp o) := ⟨⟨_, _, rfl, rfl, rfl⟩, rfl⟩
theorem cBoRingAdUsedDownEven (o : EvOp .cbo) : Statement (.cBoRingAdUsedDownEven o) := ⟨⟨_, _, rfl, rfl, rfl⟩, rfl⟩
theorem cBoRingAdUsedDownOdd (o : EvOp .cbo) : Statement (.cBoRingAdUsedDownOdd o) := ⟨⟨_, _, rfl, rfl, rfl⟩, rfl⟩
theorem cBoRingAdUsedDown (o : EvOp .cbo) : Statement (.cBoRingAdUsedDown o) := ⟨⟨_, _, rfl, rfl, rfl⟩, rfl⟩
theorem cBoRingAdUsedAll (o : EvOp .cbo) : Statement (.cBoRingAdUsedAll o) := ⟨⟨_, _, rfl, rfl, rfl⟩, rfl⟩
theorem cBoRingAkUsedUpEven (o : EvOp .cbo) : Statement (.cBoRingAkUsedUpEven o) := ⟨⟨_, _, rfl, rfl, rfl⟩, rfl⟩
theorem cBoRingAkUsedUpOdd (o : EvOp .cbo) : Statement (.cBoRingAkUsedUpOdd o) := ⟨⟨_, _, rfl, rfl, rfl⟩, rfl⟩
theorem cBoRingAkUsedUp (o : EvOp .cbo) : Statement (.cBoRingAkUsedUp o) := ⟨⟨_, _, rfl, rfl, rfl⟩, rfl⟩
theorem cBoRingAkUsedDownEven (o : EvOp .cbo) : Statement (.cBoRingAkUsedDownEven o) := ⟨⟨_, _, rfl, rfl, rfl⟩, rfl⟩
theorem cBoRingAkUsedDownOdd (o : EvOp .cbo) : Statement (.cBoRingAkUsedDownOdd o) := ⟨⟨_, _, rfl, rfl, rfl⟩, rfl⟩
theorem cBoRingAkUsedDown (o : EvOp .cbo) : Statement (.cBoRingAkUsedDown o) := ⟨⟨_, _, rfl, rfl, rfl⟩, rfl⟩
theorem cBoRingAkUsedAll (o : EvOp .cbo) : Statement (.cBoRingAkUsedAll o) := ⟨⟨_, _, rfl, rfl, rfl⟩, rfl⟩
theorem cBoRingBlUsedUpEven (o : EvOp .cbo) : Statement (.cBoRingBlUsedUpEven o) := ⟨⟨_, _, rfl, rfl, rfl⟩, rfl⟩
theorem cBoRingBlUsedUpOdd (o : EvOp .cbo) : Statement (.cBoRingBlUsedUpOdd o) := ⟨⟨_, _, rfl, rfl, rfl⟩, rfl⟩
theorem cBoRingBlUsedUp (o : EvOp .cbo) : Statement (.cBoRingBlUsedUp o) := ⟨⟨_, _, rfl, rfl, rfl⟩, rfl⟩
theorem cBoRingBlUsedDownEven (o : EvOp .cbo) : Statement (.cBoRingBlUsedDownEven o) := ⟨⟨_, _, rfl, rfl, rfl⟩, rfl⟩
theorem cBoRingBlUsedDownOdd (o : EvOp .cbo) : Statement (.cBoRingBlUsedDownOdd o) := ⟨⟨_, _, rfl, rfl, rfl⟩, rfl⟩
theorem cBoRingBlUsedDown (o : EvOp .cbo) : Statement (.cBoRingBlUsedDown o) := ⟨⟨_, _, rfl, rfl, rfl⟩, rfl⟩
theorem cBoRingBlUsedAll (o : EvOp .cbo) : Statement (.cBoRingBlUsedAll o) := ⟨⟨_, _, rfl, rfl, rfl⟩, rfl⟩
theorem cBoRingBouncesAd (o : EvOp .cbo) : Statement (.cBoRingBouncesAd o) := ⟨⟨_, _, rfl, rfl, rfl⟩, rfl⟩
theorem cBoRingBouncesAk (o : EvOp .cbo) : Statement (.cBoRingBouncesAk o) := ⟨⟨_, _, rfl, rfl, rfl⟩, rfl⟩
theorem cBoRingBouncesBl (o : EvOp .cbo) : Statement (.cBoRingBouncesBl o) := ⟨⟨_, _, rfl, rfl, rfl⟩, rfl⟩
theorem cBoRingBouncesIv (o : EvOp .cbo) : Statement (.cBoRingBouncesIv o) := ⟨⟨_, _, rfl, rfl, rfl⟩, rfl⟩
theorem cBoRingIvUsedUp (o : EvOp .cbo) : Statement (.cBoRingIvUsedUp o) := ⟨⟨_, _, rfl, rfl, rfl⟩, rfl⟩
theorem cBoRingIvUsedDn (o : EvOp .cbo) : Statement (.cBoRingIvUsedDn o) := ⟨⟨_, _, rfl, rfl, rfl⟩, rfl⟩
theorem cBoRingIvUsedAny (o : EvOp .cbo) : Statement (.cBoRingIvUsedAny o) := ⟨⟨_, _, rfl, rfl, rfl⟩, rfl⟩
theorem cBoRingIvUsedDown (o : EvOp .cbo) : Statement (.cBoRingIvUsedDown o) := ⟨⟨_, _, rfl, rfl, rfl⟩, rfl⟩
theorem cBoRingSrcThrtl (o : EvOp .cbo) : Statement (.cBoRingSrcThrtl o) := ⟨⟨_, _, rfl, rfl, rfl⟩, rfl⟩
theorem cBoRxRExtStarvedIrq (o : EvOp .cbo) : Statement (.cBoRxRExtStarvedIrq o) := ⟨⟨_, _, rfl, rfl, rfl⟩, rfl⟩
theorem cBoRxRExtStarvedIpq (o : EvOp .cbo) : Statement (.cBoRxRExtStarvedIpq o) := ⟨⟨_, _, rfl, rfl, rfl⟩, rfl⟩
theorem cBoRxRExtStarvedPrq (o : EvOp .cbo) : Statement (.cBoRxRExtStarvedPrq o) := ⟨⟨_, _, rfl, rfl, rfl⟩, rfl⟩
theorem cBoRxRExtStarvedIsmqBids (o : EvOp .cbo) : Statement (.cBoRxRExtStarvedIsmqBids o) := ⟨⟨_, _, rfl, rfl, rfl⟩, rfl⟩
theorem cBoRxRInsertsIrq (o : EvOp .cbo) : Statement (.cBoRxRInsertsIrq o) := ⟨⟨_, _, rfl, rfl, rfl⟩, rfl⟩
theorem cBoRxRInsertsIrqRej (o : EvOp .cbo) : Statement (.cBoRxRInsertsIrqRej o) := ⟨⟨_, _, rfl, rfl, rfl⟩, rfl⟩
theorem cBoRxRInsertsIpq (o : EvOp .cbo) : Statement (.cBoRxRInsertsIpq o) := ⟨⟨_, _, rfl, rfl, rfl⟩, rfl⟩
theorem cBoRxRInsertsPrq (o : EvOp .cbo) : Statement (.cBoRxRInsertsPrq o) := ⟨⟨_, _, rfl, rfl, rfl⟩, rfl⟩
theorem cBoRxRInsertsPrqRej (o : EvOp .cbo) : Statement (.cBoRxRInsertsPrqRej o) := ⟨⟨_, _, rfl, rfl, rfl⟩, rfl⟩
theorem cBoRxRIpqRetryAny (o : EvOp .cbo) : Statement (.cBoRxRIpqRetryAny o) := ⟨⟨_, _, rfl, rfl, rfl⟩, rfl⟩
theorem cBoRxRIpqRetryFull (o : EvOp .cbo) : Statement (.cBoRxRIpqRetryFull o) := ⟨⟨_, _, rfl, rfl, rfl⟩, rfl⟩
theorem cBoRxRIpqRetryAddrConflict (o : EvOp .cbo) : Statement (.cBoRxRIpqRetryAddrConflict o) := ⟨⟨_, _, rfl, rfl, rfl⟩, rfl⟩
theorem cBoRxRIpqRetryQpiCredits (o : EvOp .cbo) : Statement (.cBoRxRIpqRetryQpiCredits o) := ⟨⟨_, _, rfl, rfl, rfl⟩, rfl⟩
theorem cBoRxRIpqRetry2AdSbo (o : EvOp .cbo) : Statement (.cBoRxRIpqRetry2AdSbo o) := ⟨⟨_, _, rfl, rfl, rfl⟩, rfl⟩
theorem cBoRxRIpqRetry2Target (o : EvOp .cbo) : Statement (.cBoRxRIpqRetry2Target o) := ⟨⟨_, _, rfl, rfl, rfl⟩, rfl⟩
theorem cBoRxRIrqRetryAny (o : EvOp .cbo) : Statement (.cBoRxRIrqRetryAny o) := ⟨⟨_, _, rfl, rfl, rfl⟩, rfl⟩
theorem cBoRxRIrqRetryFull (o : EvOp .cbo) : Statement (.cBoRxRIrqRetryFull o) := ⟨⟨_, _, rfl, rfl, rfl⟩, rfl⟩
theorem cBoRxRIrqRetryAddrConflict (o : EvOp .cbo) : Statement (.cBoRxRIrqRetryAddrConflict o) := ⟨⟨_, _, rfl, rfl, rfl⟩, rfl⟩
theorem cBoRxRIrqRetryRtid (o : EvOp .cbo) : Statement (.cBoRxRIrqRetryRtid o) := ⟨⟨_, _, rfl, rfl, rfl⟩, rfl⟩
theorem cBoRxRIrqRetryQpiCredits (o : EvOp .cbo) : Statement (.cBoRxRIrqRetryQpiCredits o) := ⟨⟨_, _, rfl, rfl, rfl⟩, rfl⟩
theorem cBoRxRIrqRetryIioCredits (o : EvOp .cbo) : Statement (.cBoRxRIrqRetryIioCredits o) := ⟨⟨_, _, rfl, rfl, rfl⟩, rfl⟩
theorem cBoRxRIrqRetryNid (o : EvOp .cbo) : Statement (.cBoRxRIrqRetryNid o) := ⟨⟨_, _, rfl, rfl, rfl⟩, rfl⟩
theorem cBoRxRIrqRetry2AdSbo (o : EvOp .cbo) : Statement (.cBoRxRIrqRetry2AdSbo o) := ⟨⟨_, _, rfl, rfl, rfl⟩, rfl⟩
theorem cBoRxRIrqRetry2BlSbo (o : EvOp .cbo) : Statement (.cBoRxRIrqRetry2BlSbo o) := ⟨⟨_, _, rfl, rfl, rfl⟩, rfl⟩
theorem cBoRxRIrqRetry2Target (o : EvOp .cbo) : Statement (.cBoRxRIrqRetry2Target o) := ⟨⟨_, _, rfl, rfl, rfl⟩, rfl⟩
theorem cBoRxRIsmqRetryAny (o : EvOp .cbo) : Statement (.cBoRxRIsmqRetryAny o) := ⟨⟨_, _, rfl, rfl, rfl⟩, rfl⟩
theorem cBoRxRIsmqRetryFull (o : EvOp .cbo) : Statement (.cBoRxRIsmqRetryFull o) := ⟨⟨_, _, rfl, rfl, rfl⟩, rfl⟩
theorem cBoRxRIsmqRetryRtid (o : EvOp .cbo) : Statement (.cBoRxRIsmqRetryRtid o) := ⟨⟨_, _, rfl, rfl, rfl⟩, rfl⟩
theorem cBoRxRIsmqRetryQpiCredits (o : EvOp .cbo) : Statement (.cBoRxRIsmqRetryQpiCredits o) := ⟨⟨_, _, rfl, rfl, rfl⟩, rfl⟩
theorem cBoRxRIsmqRetryIioCredits (o : EvOp .cbo) : Statement (.cBoRxRIsmqRetryIioCredits o) := ⟨⟨_, _, rfl, rfl, rfl⟩, rfl⟩
theorem cBoRxRIsmqRetryNid (o : EvOp .cbo) : Statement (.cBoRxRIsmqRetryNid o) := ⟨⟨_, _, rfl, rfl, rfl⟩, rfl⟩
theorem cBoRxRIsmqRetryWbCredits (o : EvOp .cbo) : Statement (.cBoRxRIsmqRetryWbCredits o) := ⟨⟨_, _, rfl, rfl, rfl⟩, rfl⟩
theorem cBoRxRIsmqRetry2AdSbo (o : EvOp .cbo) : Statement (.cBoRxRIsmqRetry2AdSbo o) := ⟨⟨_, _, rfl, rfl, rfl⟩, rfl⟩
theorem cBoRxRIsmqRetry2BlSbo (o : EvOp .cbo) : Statement (.cBoRxRIsmqRetry2BlSbo o) := ⟨⟨_, _, rfl, rfl, rfl⟩, rfl⟩
theorem cBoRxRIsmqRetry2Target (o : EvOp .cbo) : Statement (.cBoRxRIsmqRetry2Target o) := ⟨⟨_, _, rfl, rfl, rfl⟩, rfl⟩
theorem cBoRxROccupancyIrq (o : EvOp .cbo) : Statement (.cBoRxROccupancyIrq o) := ⟨⟨_, _, rfl, rfl, rfl⟩, rfl⟩
theorem cBoRxROccupancyIrqRej (o : EvOp .cbo) : Statement (.cBoRxROccupancyIrqRej o) := ⟨⟨_, _, rfl, rfl, rfl⟩, rfl⟩
theorem cBoRxROccupancyIpq (o : EvOp .cbo) : Statement (.cBoRxROccupancyIpq o) := ⟨⟨_, _, rfl, rfl, rfl⟩, rfl⟩
theorem cBoRxROccupancyPrqRej (o : EvOp .cbo) : Statement (.cBoRxROccupancyPrqRej o) := ⟨⟨_, _, rfl, rfl, rfl⟩, rfl⟩
theorem cBoSboCreditsAcquiredAd (o : EvOp .cbo) : Statement (.cBoSboCreditsAcquiredAd o) := ⟨⟨_, _, rfl, rfl, rfl⟩, rfl⟩
theorem cBoSboCreditsAcquiredBl (o : EvOp .cbo) : Statement (.cBoSboCreditsAcquiredBl o) := ⟨⟨_, _, rfl, rfl, rfl⟩, rfl⟩
theorem cBoSboCreditOccupancyAd (o : EvOp .cbo) : Statement (.cBoSboCreditOccupancyAd o) := ⟨⟨_, _, rfl, rfl, rfl⟩, rfl⟩
theorem cBoSboCreditOccupancyBl (o : EvOp .cbo) : Statement (.cBoSboCreditOccupancyBl o) := ⟨⟨_, _, rfl, rfl, rfl⟩, rfl⟩
theorem cBoTorInsertsOpcode (o : EvOp .cbo) : Statement (.cBoTorInsertsOpcode o) := ⟨⟨_, _, rfl, rfl, rfl⟩, rfl⟩
theorem cBoTorInsertsMissOpcode (o : EvOp .cbo) : Statement (.cBoTorInsertsMissOpcode o) := ⟨⟨_, _, rfl, rfl, rfl⟩, rfl⟩
theorem cBoTorInsertsEviction (o : EvOp .cbo) : Statement (.cBoTorInsertsEviction o) := ⟨⟨_, _, rfl, rfl, rfl⟩, rfl⟩
theorem cBoTorInsertsAll (o : EvOp .cbo) : Statement (.cBoTorInsertsAll o) := ⟨⟨_, _, rfl, rfl, rfl⟩, rfl⟩
theorem cBoTorInsertsWb (o : EvOp .cbo) : Statement (.cBoTorInsertsWb o) := ⟨⟨_, _, rfl, rfl, rfl⟩, rfl⟩
theorem cBoTorInsertsLocalOpcode (o : EvOp .cbo) : Statement (.cBoTorInsertsLocalOpcode o) := ⟨⟨_, _, rfl, rfl, rfl⟩, rfl⟩
theorem cBoTorInsertsMissLocalOpcode (o : EvOp .cbo) : Statement (.cBoTorInsertsMissLocalOpcode o) := ⟨⟨_, _, rfl, rfl, rfl⟩, rfl⟩
theorem cBoTorInsertsLocal (o : EvOp .cbo) : Statement (.cBoTorInsertsLocal o) := ⟨⟨_, _, rfl, rfl, rfl⟩, rfl⟩
theorem cBoTorInsertsMissLocal (o : EvOp .cbo) : Statement (.cBoTorInsertsMissLocal o) := ⟨⟨_, _, rfl, rfl, rfl⟩, rfl⟩
theorem cBoTorInsertsNidOpcode (o : EvOp .cbo) : Statement (.cBoTorInsertsNidOpcode o) := ⟨⟨_, _, rfl, rfl, rfl⟩, rfl⟩
theorem cBoTorInsertsNidMissOpcode (o : EvOp .cbo) : Statement (.cBoTorInsertsNidMissOpcode o) := ⟨⟨_, _, rfl, rfl, rfl⟩, rfl⟩
theorem cBoTorInsertsNidEviction (o : EvOp .cbo) : Statement (.cBoTorInsertsNidEviction o) := ⟨⟨_, _, rfl, rfl, rfl⟩, rfl⟩
theorem cBoTorInsertsNidAll (o : EvOp .cbo) : Statement (.cBoTorInsertsNidAll o) := ⟨⟨_, _, rfl, rfl, rfl⟩, rfl⟩
theorem cBoTorInsertsNidMissAll (o : EvOp .cbo) : Statement (.cBoTorInsertsNidMissAll o) := ⟨⟨_, _, rfl, rfl, rfl⟩, rfl⟩
theorem cBoTorInsertsNidWb (o : EvOp .cbo) : Statement (.cBoTorInsertsNidWb o) := ⟨⟨_, _, rfl, rfl, rfl⟩, rfl⟩
theorem cBoTorInsertsRemoteOpcode (o : EvOp .cbo) : Statement (.cBoTorInsertsRemoteOpcode o) := ⟨⟨_, _, rfl, rfl, rfl⟩, rfl⟩
theorem cBoTorInsertsMissRemoteOpcode (o : EvOp .cbo) : Statement (.cBoTorInsertsMissRemoteOpcode o) := ⟨⟨_, _, rfl, rfl, rfl⟩, rfl⟩
theorem cBoTorInsertsRemote (o : EvOp .cbo) : Statement (.cBoTorInsertsRemote o) := ⟨⟨_, _, rfl, rfl, rfl⟩, rfl⟩
theorem cBoTorInsertsMissRemote (o : EvOp .cbo) : Statement (.cBoTorInsertsMissRemote o) := ⟨⟨_, _, rfl, rfl, rfl⟩, rfl⟩
theorem cBoTorOccupancyOpcode (o : EvOp .cbo) : Statement (.cBoTorOccupancyOpcode o) := ⟨⟨_, _, rfl, rfl, rfl⟩, rfl⟩
theorem cBoTorOccupancyMissOpcode (o : EvOp .cbo) : Statement (.cBoTorOccupancyMissOpcode o) := ⟨⟨_, _, rfl, rfl, rfl⟩, rfl⟩
theorem cBoTorOccupancyEviction (o : EvOp .cbo) : Statement (.cBoTorOccupancyEviction o) := ⟨⟨_, _, rfl, rfl, rfl⟩, rfl⟩
theorem cBoTorOccupancyAll (o : EvOp .cbo) : Statement (.cBoTorOccupancyAll o) := ⟨⟨_, _, rfl, rfl, rfl⟩, rfl⟩
theorem cBoTorOccupancyMissAll (o : EvOp .cbo) : Statement (.cBoTorOccupancyMissAll o) := ⟨⟨_, _, rfl, rfl, rfl⟩, rfl⟩
theorem cBoTorOccupancyWb (o : EvOp .cbo) : Statement (.cBoTorOccupancyWb o) := ⟨⟨_, _, rfl, rfl, rfl⟩, rfl⟩
theorem cBoTorOccupancyLocalOpcode (o : EvOp .cbo) : Statement (.cBoTorOccupancyLocalOpcode o) := ⟨⟨_, _, rfl, rfl, rfl⟩, rfl⟩
theorem cBoTorOccupancyMissLocalOpcode (o : EvOp .cbo) : Statement (.cBoTorOccupancyMissLocalOpcode o) := ⟨⟨_, _, rfl, rfl, rfl⟩, rfl⟩
theorem cBoTorOccupancyLocal (o : EvOp .cbo) : Statement (.cBoTorOccupancyLocal o) := ⟨⟨_, _, rfl, rfl, rfl⟩, rfl⟩
theorem cBoTorOccupancyMissLocal (o : EvOp .cbo) : Statement (.cBoTorOccupancyMissLocal o) := ⟨⟨_, _, rfl, rfl, rfl⟩, rfl⟩
theorem cBoTorOccupancyNidOpcode (o : EvOp .cbo) : Statement (.cBoTorOccupancyNidOpcode o) := ⟨⟨_, _, rfl, rfl, rfl⟩, rfl⟩
theorem cBoTorOccupancyNidMissOpcode (o : EvOp .cbo) : Statement (.cBoTorOccupancyNidMissOpcode o) := ⟨⟨_, _, rfl, rfl, rfl⟩, rfl⟩
theorem cBoTorOccupancyNidEviction (o : EvOp .cbo) : Statement (.cBoTorOccupancyNidEviction o) := ⟨⟨_, _, rfl, rfl, rfl⟩, rfl⟩
theorem cBoTorOccupancyNidAll (o : EvOp .cbo) : Statement (.cBoTorOccupancyNidAll o) := ⟨⟨_, _, rfl, rfl, rfl⟩, rfl⟩
theorem cBoTorOccupancyNidMissAll (o : EvOp .cbo) : Statement (.cBoTorOccupancyNidMissAll o) := ⟨⟨_, _, rfl, rfl, rfl⟩, rfl⟩
theorem cBoTorOccupancyNidWb (o : EvOp .cbo) : Statement (.cBoTorOccupancyNidWb o) := ⟨⟨_, _, rfl, rfl, rfl⟩, rfl⟩
theorem cBoTorOccupancyRemoteOpcode (o : EvOp .cbo) : Statement (.cBoTorOccupancyRemoteOpcode o) := ⟨⟨_, _, rfl, rfl, rfl⟩, rfl⟩
theorem cBoTorOccupancyMissRemoteOpcode (o : EvOp .cbo) : Statement (.cBoTorOccupancyMissRemoteOpcode o) := ⟨⟨_, _, rfl, rfl, rfl⟩, rfl⟩
theorem cBoTorOccupancyRemote (o : EvOp .cbo) : Statement (.cBoTorOccupancyRemote o) := ⟨⟨_, _, rfl, rfl, rfl⟩, rfl⟩
theorem cBoTorOccupancyMissRemote (o : EvOp .cbo) : Statement (.cBoTorOccupancyMissRemote o) := ⟨⟨_, _, rfl, rfl, rfl⟩, rfl⟩
theorem cBoTxRAdsUsedAd (o : EvOp .cbo) : Statement (.cBoTxRAdsUsedAd o) := ⟨⟨_, _, rfl, rfl, rfl⟩, rfl⟩
theorem cBoTxRAdsUsedAk (o : EvOp .cbo) : Statement (.cBoTxRAdsUsedAk o) := ⟨⟨_, _, rfl, rfl, rfl⟩, rfl⟩
theorem cBoTxRAdsUsedBl (o : EvOp .cbo) : Statement (.cBoTxRAdsUsedBl o) := ⟨⟨_, _, rfl, rfl, rfl⟩, rfl⟩
theorem cBoTxRInsertsAdCache (o : EvOp .cbo) : Statement (.cBoTxRInsertsAdCache o) := ⟨⟨_, _, rfl, rfl, rfl⟩, rfl⟩
theorem cBoTxRInsertsAkCache (o : EvOp .cbo) : Statement (.cBoTxRInsertsAkCache o) := ⟨⟨_, _, rfl, rfl, rfl⟩, rfl⟩
theorem cBoTxRInsertsBlCache (o : EvOp .cbo) : Statement (.cBoTxRInsertsBlCache o) := ⟨⟨_, _, rfl, rfl, rfl⟩, rfl⟩
theorem cBoTxRInsertsIvCache (o : EvOp .cbo) : Statement (.cBoTxRInsertsIvCache o) := ⟨⟨_, _, rfl, rfl, rfl⟩, rfl⟩
theorem cBoTxRInsertsAdCore (o : EvOp .cbo) : Statement (.cBoTxRInsertsAdCore o) := ⟨⟨_, _, rfl, rfl, rfl⟩, rfl⟩
theorem cBoTxRInsertsAkCore (o : EvOp .cbo) : Statement (.cBoTxRInsertsAkCore o) := ⟨⟨_, _, rfl, rfl, rfl⟩, rfl⟩
theorem cBoTxRInsertsBlCore (o : EvOp .cbo) : Statement (.cBoTxRInsertsBlCore o) := ⟨⟨_, _, rfl, rfl, rfl⟩, rfl⟩
theorem sBoBounceControl (o : EvOp .sbo) : Statement (.sBoBounceControl o) := ⟨⟨_, _, rfl, rfl, rfl⟩, rfl⟩
theorem sBoClockticks (o : EvOp .sbo) : Statement (.sBoClockticks o) := ⟨⟨_, _, rfl, rfl, rfl⟩, rfl⟩
theorem sBoFastAsserted (o : EvOp .sbo) : Statement (.sBoFastAsserted o) := ⟨⟨_, _, rfl, rfl, rfl⟩, rfl⟩
theorem sBoRingAdUsedUpEven (o : EvOp .sbo) : Statement (.sBoRingAdUsedUpEven o) := ⟨⟨_, _, rfl, rfl, rfl⟩, rfl⟩
theorem sBoRingAdUsedUpOdd (o : EvOp .sbo) : Statement (.sBoRingAdUsedUpOdd o) := ⟨⟨_, _, rfl, rfl, rfl⟩, rfl⟩
theorem sBoRingAdUsedUp (o : EvOp .sbo) : Statement (.sBoRingAdUsedUp o) := ⟨⟨_, _, rfl, rfl, rfl⟩, rfl⟩
theorem sBoRingAdUsedDownEven (o : EvOp .sbo) : Statement (.sBoRingAdUsedDownEven o) := ⟨⟨_, _, rfl, rfl, rfl⟩, rfl⟩
theorem sBoRingAdUsedDownOdd (o : EvOp .sbo) : Statement (.sBoRingAdUsedDownOdd o) := ⟨⟨_, _, rfl, rfl, rfl⟩, rfl⟩
theorem sBoRingAdUsedDown (o : EvOp .sbo) : Statement (.sBoRingAdUsedDown o) := ⟨⟨_, _, rfl, rfl, rfl⟩, rfl⟩
theorem sBoRingAkUsedUpEven (o : EvOp .sbo) : Statement (.sBoRingAkUsedUpEven o) := ⟨⟨_, _, rfl, rfl, rfl⟩, rfl⟩
theorem sBoRingAkUsedUpOdd (o : EvOp .sbo) : Statement (.sBoRingAkUsedUpOdd o) := ⟨⟨_, _, rfl, rfl, rfl⟩, rfl⟩
theorem sBoRingAkUsedUp (o : EvOp .sbo) : Statement (.sBoRingAkUsedUp o) := ⟨⟨_, _, rfl, rfl, rfl⟩, rfl⟩
theorem sBoRingAkUsedDownEven (o : EvOp .sbo) : Statement (.sBoRingAkUsedDownEven o) := ⟨⟨_, _, rfl, rfl, rfl⟩, rfl⟩
theorem sBoRingAkUsedDownOdd (o : EvOp .sbo) : Statement (.sBoRingAkUsedDownOdd o) := ⟨⟨_, _, rfl, rfl, rfl⟩, rfl⟩
theorem sBoRingAkUsedDown (o : EvOp .sbo) : Statement (.sBoRingAkUsedDown o) := ⟨⟨_, _, rfl, rfl, rfl⟩, rfl⟩
theorem sBoRingBlUsedUpEven (o : EvOp .sbo) : Statement (.sBoRingBlUsedUpEven o) := ⟨⟨_, _, rfl, rfl, rfl⟩, rfl⟩
theorem sBoRingBlUsedUpOdd (o : EvOp .sbo) : Statement (.sBoRingBlUsedUpOdd o) := ⟨⟨_, _, rfl, rfl, rfl⟩, rfl⟩
theorem sBoRingBlUsedUp (o : EvOp .sbo) : Statement (.sBoRingBlUsedUp o) := ⟨⟨_, _, rfl, rfl, rfl⟩, rfl⟩
theorem sBoRingBlUsedDownEven (o : EvOp .sbo) : Statement (.sBoRingBlUsedDownEven o) := ⟨⟨_, _, rfl, rfl, rfl⟩, rfl⟩
theorem sBoRingBlUsedDownOdd (o : EvOp .sbo) : Statement (.sBoRingBlUsedDownOdd o) := ⟨⟨_, _, rfl, rfl, rfl⟩, rfl⟩
theorem sBoRingBlUsedDown (o : EvOp .sbo) : Statement (.sBoRingBlUsedDown o) := ⟨⟨_, _, rfl, rfl, rfl⟩, rfl⟩
theorem sBoRingBouncesAdCache (o : EvOp .sbo) : Statement (.sBoRingBouncesAdCache o) := ⟨⟨_, _, rfl, rfl, rfl⟩, rfl⟩
theorem sBoRingBouncesAkCore (o : EvOp .sbo) : Statement (.sBoRingBouncesAkCore o) := ⟨⟨_, _, rfl, rfl, rfl⟩, rfl⟩
theorem sBoRingBouncesBlCore (o : EvOp .sbo) : Statement (.sBoRingBouncesBlCore o) := ⟨⟨_, _, rfl, rfl, rfl⟩, rfl⟩
theorem sBoRingBouncesIvCore (o : EvOp .sbo) : Statement (.sBoRingBouncesIvCore o) := ⟨⟨_, _, rfl, rfl, rfl⟩, rfl⟩
theorem sBoRingIvUsedUp (o : EvOp .sbo) : Statement (.sBoRingIvUsedUp o) := ⟨⟨_, _, rfl, rfl, rfl⟩, rfl⟩
theorem sBoRingIvUsedDn (o : EvOp .sbo) : Statement (.sBoRingIvUsedDn o) := ⟨⟨_, _, rfl, rfl, rfl⟩, rfl⟩
theorem sBoRxRBypassAdCrd (o : EvOp .sbo) : Statement (.sBoRxRBypassAdCrd o) := ⟨⟨_, _, rfl, rfl, rfl⟩, rfl⟩
theorem sBoRxRBypassAdBnc (o : EvOp .sbo) : Statement (.sBoRxRBypassAdBnc o) := ⟨⟨_, _, rfl, rfl, rfl⟩, rfl⟩
theorem sBoRxRBypassBlCrd (o : EvOp .sbo) : Statement (.sBoRxRBypassBlCrd o) := ⟨⟨_, _, rfl, rfl, rfl⟩, rfl⟩
theorem sBoRxRBypassBlBnc (o : EvOp .sbo) : Statement (.sBoRxRBypassBlBnc o) := ⟨⟨_, _, rfl, rfl, rfl⟩, rfl⟩
theorem sBoRxRBypassAk (o : EvOp .sbo) : Statement (.sBoRxRBypassAk o) := ⟨⟨_, _, rfl, rfl, rfl⟩, rfl⟩
theorem sBoRxRBypassIv (o : EvOp .sbo) : Statement (.sBoRxRBypassIv o) := ⟨⟨_, _, rfl, rfl, rfl⟩, rfl⟩
theorem sBoRxRInsertsAdCrd (o : EvOp .sbo) : Statement (.sBoRxRInsertsAdCrd o) := ⟨⟨_, _, rfl, rfl, rfl⟩, rfl⟩
theorem sBoRxRInsertsAdBnc (o : EvOp .sbo) : Statement (.sBoRxRInsertsAdBnc o) := ⟨⟨_, _, rfl, rfl, rfl⟩, rfl⟩
theorem sBoRxRInsertsBlCrd (o : EvOp .sbo) : Statement (.sBoRxRInsertsBlCrd o) := ⟨⟨_, _, rfl, rfl, rfl⟩, rfl⟩
theorem sBoRxRInsertsBlBnc (o : EvOp .sbo) : Statement (.sBoRxRInsertsBlBnc o) := ⟨⟨_, _, rfl, rfl, rfl⟩, rfl⟩
theorem sBoRxRInsertsAk (o : EvOp .sbo) : Statement (.sBoRxRInsertsAk o) := ⟨⟨_, _, rfl, rfl, rfl⟩, rfl⟩
theorem sBoRxRInsertsIv (o : EvOp .sbo) : Statement (.sBoRxRInsertsIv o) := ⟨⟨_, _, rfl, rfl, rfl⟩, rfl⟩
theorem sBoRxROccupancyAdCrd (o : EvOp .sbo) : Statement (.sBoRxROccupancyAdCrd o) := ⟨⟨_, _, rfl, rfl, rfl⟩, rfl⟩
theorem sBoRxROccupancyAdBnc (o : EvOp .sbo) : Statement (.sBoRxROccupancyAdBnc o) := ⟨⟨_, _, rfl, rfl, rfl⟩, rfl⟩
theorem sBoRxROccupancyBlCrd (o : EvOp .sbo) : Statement (.sBoRxROccupancyBlCrd o) := ⟨⟨_, _, rfl, rfl, rfl⟩, rfl⟩
theorem sBoRxROccupancyBlBnc (o : EvOp .sbo) : Statement (.sBoRxROccupancyBlBnc o) := ⟨⟨_, _, rfl, rfl, rfl⟩, rfl⟩
theorem sBoRxROccupancyAk (o : EvOp .sbo) : Statement (.sBoRxROccupancyAk o) := ⟨⟨_, _, rfl, rfl, rfl⟩, rfl⟩
theorem sBoRxROccupancyIv (o : EvOp .sbo) : Statement (.sBoRxROccupancyIv o) := ⟨⟨_, _, rfl, rfl, rfl⟩, rfl⟩
theorem sBoTxRAdsUsedAd (o : EvOp .sbo) : Statement (.sBoTxRAdsUsedAd o) := ⟨⟨_, _, rfl, rfl, rfl⟩, rfl⟩
theorem sBoTxRAdsUsedAk (o : EvOp .sbo) : Statement (.sBoTxRAdsUsedAk o) := ⟨⟨_, _, rfl, rfl, rfl⟩, rfl⟩
theorem sBoTxRAdsUsedBl (o : EvOp .sbo) : Statement (.sBoTxRAdsUsedBl o) := ⟨⟨_, _, rfl, rfl, rfl⟩, rfl⟩
theorem sBoTxRInsertsAdCrd (o : EvOp .sbo) : Statement (.sBoTxRInsertsAdCrd o) := ⟨⟨_, _, rfl, rfl, rfl⟩, rfl⟩
theorem sBoTxRInsertsAdBnc (o : EvOp .sbo) : Statement (.sBoTxRInsertsAdBnc o) := ⟨⟨_, _, rfl, rfl, rfl⟩, rfl⟩
theorem sBoTxRInsertsBlCrd (o : EvOp .sbo) : Statement (.sBoTxRInsertsBlCrd o) := ⟨⟨_, _, rfl, rfl, rfl⟩, rfl⟩
theorem sBoTxRInsertsBlBnc (o : EvOp .sbo) : Statement (.sBoTxRInsertsBlBnc o) := ⟨⟨_, _, rfl, rfl, rfl⟩, rfl⟩
theorem sBoTxRInsertsAk (o : EvOp .sbo) : Statement (.sBoTxRInsertsAk o) := ⟨⟨_, _, rfl, rfl, rfl⟩, rfl⟩
theorem sBoTxRInsertsIv (o : EvOp .sbo) : Statement (.sBoTxRInsertsIv o) := ⟨⟨_, _, rfl, rfl, rfl⟩, rfl⟩
theorem sBoTxROccupancyAdCrd (o : EvOp .sbo) : Statement (.sBoTxROccupancyAdCrd o) := ⟨⟨_, _, rfl, rfl, rfl⟩, rfl⟩
theorem sBoTxROccupancyAdBnc (o : EvOp .sbo) : Statement (.sBoTxROccupancyAdBnc o) := ⟨⟨_, _, rfl, rfl, rfl⟩, rfl⟩
theorem sBoTxROccupancyBlCrd (o : EvOp .sbo) : Statement (.sBoTxROccupancyBlCrd o) := ⟨⟨_, _, rfl, rfl, rfl⟩, rfl⟩
theorem sBoTxROccupancyBlBnc (o : EvOp .sbo) : Statement (.sBoTxROccupancyBlBnc o) := ⟨⟨_, _, rfl, rfl, rfl⟩, rfl⟩
theorem sBoTxROccupancyAk (o : EvOp .sbo) : Statement (.sBoTxROccupancyAk o) := ⟨⟨_, _, rfl, rfl, rfl⟩, rfl⟩
theorem sBoTxROccupancyIv (o : EvOp .sbo) : Statement (.sBoTxROccupancyIv o) := ⟨⟨_, _, rfl, rfl, rfl⟩, rfl⟩
theorem haAddrOpcMatchAddr (o : EvOp .ha) : Statement (.haAddrOpcMatchAddr o) := ⟨⟨_, _, rfl, rfl, rfl⟩, rfl⟩
theorem haAddrOpcMatchOpc (o : EvOp .ha) : Statement (.haAddrOpcMatchOpc o) := ⟨⟨_, _, rfl, rfl, rfl⟩, rfl⟩
theorem haAddrOpcMatchFilt (o : EvOp .ha) : Statement (.haAddrOpcMatchFilt o) := ⟨⟨_, _, rfl, rfl, rfl⟩, rfl⟩
theorem haAddrOpcMatchAd (o : EvOp .ha) : Statement (.haAddrOpcMatchAd o) := ⟨⟨_, _, rfl, rfl, rfl⟩, rfl⟩
theorem haAddrOpcMatchBl (o : EvOp .ha) : Statement (.haAddrOpcMatchBl o) := ⟨⟨_, _, rfl, rfl, rfl⟩, rfl⟩
theorem haAddrOpcMatchAk (o : EvOp .ha) : Statement (.haAddrOpcMatchAk o) := ⟨⟨_, _, rfl, rfl, rfl⟩, rfl⟩
theorem haBtCyclesNe (o : EvOp .ha) : Statement (.haBtCyclesNe o) := ⟨⟨_, _, rfl, rfl, rfl⟩, rfl⟩
theorem haBtOccupancy (o : EvOp .ha) : Statement (.haBtOccupancy o) := ⟨⟨_, _, rfl, rfl, rfl⟩, rfl⟩
theorem haBypassImcTaken (o : EvOp .ha) : Statement (.haBypassImcTaken o) := ⟨⟨_, _, rfl, rfl, rfl⟩, rfl⟩
theorem haBypassImcNotTaken (o : EvOp .ha) : Statement (.haBypassImcNotTaken o) := ⟨⟨_, _, rfl, rfl, rfl⟩, rfl⟩
theorem haClockticks (o : EvOp .ha) : Statement (.haClockticks o) := ⟨⟨_, _, rfl, rfl, rfl⟩, rfl⟩
theorem haConflictCycles (o : EvOp .ha) : Statement (.haConflictCycles o) := ⟨⟨_, _, rfl, rfl, rfl⟩, rfl⟩
theorem haDirect2coreCount (o : EvOp .ha) : Statement (.haDirect2coreCount o) := ⟨⟨_, _, rfl, rfl, rfl⟩, rfl⟩
theorem haDirect2coreCyclesDisabled (o : EvOp .ha) : Statement (.haDirect2coreCyclesDisabled o) := ⟨⟨_, _, rfl, rfl, rfl⟩, rfl⟩
theorem haDirect2coreTxnOverride (o : EvOp .ha) : Statement (.haDirect2coreTxnOverride o) := ⟨⟨_, _, rfl, rfl, rfl⟩, rfl⟩
theorem haDirectoryLatOpt (o : EvOp .ha) : Statement (.haDirectoryLatOpt o) := ⟨⟨_, _, rfl, rfl, rfl⟩, rfl⟩
theorem haDirectoryLookupSnp (o : EvOp .ha) : Statement (.haDirectoryLookupSnp o) := ⟨⟨_, _, rfl, rfl, rfl⟩, rfl⟩
theorem haDirectoryLookupNoSnp (o : EvOp .ha) : Statement (.haDirectoryLookupNoSnp o) := ⟨⟨_, _, rfl, rfl, rfl⟩, rfl⟩
theorem haDirectoryUpdateSet (o : EvOp .ha) : Statement (.haDirectoryUpdateSet o) := ⟨⟨_, _, rfl, rfl, rfl⟩, rfl⟩
theorem haDirectoryUpdateClear (o : EvOp .ha) : Statement (.haDirectoryUpdateClear o) := ⟨⟨_, _, rfl, rfl, rfl⟩, rfl⟩
theorem haDirectoryUpdateAny (o : EvOp .ha) : Statement (.haDirectoryUpdateAny o) := ⟨⟨_, _, rfl, rfl, rfl⟩, rfl⟩
theorem haHitmeHitReadOrInvitoe (o : EvOp .ha) : Statement (.haHitmeHitReadOrInvitoe o) := ⟨⟨_, _, rfl, rfl, rfl⟩, rfl⟩
theorem haHitmeHitWbmtoi (o : EvOp .ha) : Statement (.haHitmeHitWbmtoi o) := ⟨⟨_, _, rfl, rfl, rfl⟩, rfl⟩
theorem haHitmeHitAckcnfltwbi (o : EvOp .ha) : Statement (.haHitmeHitAckcnfltwbi o) := ⟨⟨_, _, rfl, rfl, rfl⟩, rfl⟩
theorem haHitmeHitWbmtoeOrS (o : EvOp .ha) : Statement (.haHitmeHitWbmtoeOrS o) := ⟨⟨_, _, rfl, rfl, rfl⟩, rfl⟩
theorem haHitmeHitHom (o : EvOp .ha) : Statement (.haHitmeHitHom o) := ⟨⟨_, _, rfl, rfl, rfl⟩, rfl⟩
theorem haHitmeHitRspfwdiRemote (o : EvOp .ha) : Statement (.haHitmeHitRspfwdiRemote o) := ⟨⟨_, _, rfl, rfl, rfl⟩, rfl⟩
theorem haHitmeHitRspfwdiLocal (o : EvOp .ha) : Statement (.haHitmeHitRspfwdiLocal o) := ⟨⟨_, _, rfl, rfl, rfl⟩, rfl⟩
theorem haHitmeHitInvals (o : EvOp .ha) : Statement (.haHitmeHitInvals o) := ⟨⟨_, _, rfl, rfl, rfl⟩, rfl⟩
theorem haHitmeHitRspfwds (o : EvOp .ha) : Statement (.haHitmeHitRspfwds o) := ⟨⟨_, _, rfl, rfl, rfl⟩, rfl⟩
theorem haHitmeHitEvicts (o : EvOp .ha) : Statement (.haHitmeHitEvicts o) := ⟨⟨_, _, rfl, rfl, rfl⟩, rfl⟩
theorem haHitmeHitAllocs (o : EvOp .ha) : Statement (.haHitmeHitAllocs o) := ⟨⟨_, _, rfl, rfl, rfl⟩, rfl⟩
theorem haHitmeHitRsp (o : EvOp .ha) : Statement (.haHitmeHitRsp o) := ⟨⟨_, _, rfl, rfl, rfl⟩, rfl⟩
theorem haHitmeHitAll (o : EvOp .ha) : Statement (.haHitmeHitAll o) := ⟨⟨_, _, rfl, rfl, rfl⟩, rfl⟩
theorem haHitmeHitPvBitsSetReadOrInvitoe (o : EvOp .ha) : Statement (.haHitmeHitPvBitsSetReadOrInvitoe o) := ⟨⟨_, _, rfl, rfl, rfl⟩, rfl⟩
theorem haHitmeHitPvBitsSetWbmtoi (o : EvOp .ha) : Statement (.haHitmeHitPvBitsSetWbmtoi o) := ⟨⟨_, _, rfl, rfl, rfl⟩, rfl⟩
theorem haHitmeHitPvBitsSetAckcnfltwbi (o : EvOp .ha) : Statement (.haHitmeHitPvBitsSetAckcnfltwbi o) := ⟨⟨_, _, rfl, rfl, rfl⟩, rfl⟩
theorem haHitmeHitPvBitsSetWbmtoeOrS (o : EvOp .ha) : Statement (.haHitmeHitPvBitsSetWbmtoeOrS o) := ⟨⟨_, _, rfl, rfl, rfl⟩, rfl⟩
theorem haHitmeHitPvBitsSetHom (o : EvOp .ha) : Statement (.haHitmeHitPvBitsSetHom o) := ⟨⟨_, _, rfl, rfl, rfl⟩, rfl⟩
theorem haHitmeHitPvBitsSetRspfwdiRemote (o : EvOp .ha) : Statement (.haHitmeHitPvBitsSetRspfwdiRemote o) := ⟨⟨_, _, rfl, rfl, rfl⟩, rfl⟩
theorem haHitmeHitPvBitsSetRspfwdiLocal (o : EvOp .ha) : Statement (.haHitmeHitPvBitsSetRspfwdiLocal o) := ⟨⟨_, _, rfl, rfl, rfl⟩, rfl⟩
theorem haHitmeHitPvBitsSetRspfwds (o : EvOp .ha) : Statement (.haHitmeHitPvBitsSetRspfwds o) := ⟨⟨_, _, rfl, rfl, rfl⟩, rfl⟩
theorem haHitmeHitPvBitsSetRsp (o : EvOp .ha) : Statement (.haHitmeHitPvBitsSetRsp o) := ⟨⟨_, _, rfl, rfl, rfl⟩, rfl⟩
theorem haHitmeHitPvBitsSetAll (o : EvOp .ha) : Statement (.haHitmeHitPvBitsSetAll o) := ⟨⟨_, _, rfl, rfl, rfl⟩, rfl⟩
theorem haHitmeLookupReadOrInvitoe (o : EvOp .ha) : Statement (.haHitmeLookupReadOrInvitoe o) := ⟨⟨_, _, rfl, rfl, rfl⟩, rfl⟩
theorem haHitmeLookupWbmtoi (o : EvOp .ha) : Statement (.haHitmeLookupWbmtoi o) := ⟨⟨_, _, rfl, rfl, rfl⟩, rfl⟩
theorem haHitmeLookupAckcnfltwbi (o : EvOp .ha) : Statement (.haHitmeLookupAckcnfltwbi o) := ⟨⟨_, _, rfl, rfl, rfl⟩, rfl⟩
theorem haHitmeLookupWbmtoeOrS (o : EvOp .ha) : Statement (.haHitmeLookupWbmtoeOrS o) := ⟨⟨_, _, rfl, rfl, rfl⟩, rfl⟩
theorem haHitmeLookupHom (o : EvOp .ha) : Statement (.haHitmeLookupHom o) := ⟨⟨_, _, rfl, rfl, rfl⟩, rfl⟩
theorem haHitmeLookupRspfwdiRemote (o : EvOp .ha) : Statement (.haHitmeLookupRspfwdiRemote o) := ⟨⟨_, _, rfl, rfl, rfl⟩, rfl⟩
theorem haHitmeLookupRspfwdiLocal (o : EvOp .ha) : Statement (.haHitmeLookupRspfwdiLocal o) := ⟨⟨_, _, rfl, rfl, rfl⟩, rfl⟩
theorem haHitmeLookupInvals (o : EvOp .ha) : Statement (.haHitmeLookupInvals o) := ⟨⟨_, _, rfl, rfl, rfl⟩, rfl⟩
theorem haHitmeLookupRspfwds (o : EvOp .ha) : Statement (.haHitmeLookupRspfwds o) := ⟨⟨_, _, rfl, rfl, rfl⟩, rfl⟩
theorem haHitmeLookupAllocs (o : EvOp .ha) : Statement (.haHitmeLookupAllocs o) := ⟨⟨_, _, rfl, rfl, rfl⟩, rfl⟩
theorem haHitmeLookupRsp (o : EvOp .ha) : Statement (.haHitmeLookupRsp o) := ⟨⟨_, _, rfl, rfl, rfl⟩, rfl⟩
theorem haHitmeLookupAll (o : EvOp .ha) : Statement (.haHitmeLookupAll o) := ⟨⟨_, _, rfl, rfl, rfl⟩, rfl⟩
theorem haIgrNoCreditCyclesAdQpi0 (o : EvOp .ha) : Statement (.haIgrNoCreditCyclesAdQpi0 o) := ⟨⟨_, _, rfl, rfl, rfl⟩, rfl⟩
theorem haIgrNoCreditCyclesAdQpi1 (o : EvOp .ha) : Statement (.haIgrNoCreditCyclesAdQpi1 o) := ⟨⟨_, _, rfl, rfl, rfl⟩, rfl⟩
theorem haIgrNoCreditCyclesBlQpi0 (o : EvOp .ha) : Statement (.haIgrNoCreditCyclesBlQpi0 o) := ⟨⟨_, _, rfl, rfl, rfl⟩, rfl⟩
theorem haIgrNoCreditCyclesBlQpi1 (o : EvOp .ha) : Statement (.haIgrNoCreditCyclesBlQpi1 o) := ⟨⟨_, _, rfl, rfl, rfl⟩, rfl⟩
theorem haIgrNoCreditCyclesAdQpi2 (o : EvOp .ha) : Statement (.haIgrNoCreditCyclesAdQpi2 o) := ⟨⟨_, _, rfl, rfl, rfl⟩, rfl⟩
theorem haIgrNoCreditCyclesBlQpi2 (o : EvOp .ha) : Statement (.haIgrNoCreditCyclesBlQpi2 o) := ⟨⟨_, _, rfl, rfl, rfl⟩, rfl⟩
theorem haImcReadsNormal (o : EvOp .ha) : Statement (.haImcReadsNormal o) := ⟨⟨_, _, rfl, rfl, rfl⟩, rfl⟩
theorem haImcRetry (o : EvOp .ha) : Statement (.haImcRetry o) := ⟨⟨_, _, rfl, rfl, rfl⟩, rfl⟩
theorem haImcWritesFull (o : EvOp .ha) : Statement (.haImcWritesFull o) := ⟨⟨_, _, rfl, rfl, rfl⟩, rfl⟩
theorem haImcWritesPartial (o : EvOp .ha) : Statement (.haImcWritesPartial o) := ⟨⟨_, _, rfl, rfl, rfl⟩, rfl⟩
theorem haImcWritesFullIsoch (o : EvOp .ha) : Statement (.haImcWritesFullIsoch o) := ⟨⟨_, _, rfl, rfl, rfl⟩, rfl⟩
theorem haImcWritesPartialIsoch (o : EvOp .ha) : Statement (.haImcWritesPartialIsoch o) := ⟨⟨_, _, rfl, rfl, rfl⟩, rfl⟩
theorem haImcWritesAll (o : EvOp .ha) : Statement (.haImcWritesAll o) := ⟨⟨_, _, rfl, rfl, rfl⟩, rfl⟩
theorem haOsbReadsLocal (o : EvOp .ha) : Statement (.haOsbReadsLocal o) := ⟨⟨_, _, rfl, rfl, rfl⟩, rfl⟩
theorem haOsbInvitoeLocal (o : EvOp .ha) : Statement (.haOsbInvitoeLocal o) := ⟨⟨_, _, rfl, rfl, rfl⟩, rfl⟩
theorem haOsbRemote (o : EvOp .ha) : Statement (.haOsbRemote o) := ⟨⟨_, _, rfl, rfl, rfl⟩, rfl⟩
theorem haOsbCancelled (o : EvOp .ha) : Statement (.haOsbCancelled o) := ⟨⟨_, _, rfl, rfl, rfl⟩, rfl⟩
theorem haOsbReadsLocalUseful (o : EvOp .ha) : Statement (.haOsbReadsLocalUseful o) := ⟨⟨_, _, rfl, rfl, rfl⟩, rfl⟩
theorem haOsbRemoteUseful (o : EvOp .ha) : Statement (.haOsbRemoteUseful o) := ⟨⟨_, _, rfl, rfl, rfl⟩, rfl⟩
theorem haOsbEdrAll (o : EvOp .ha) : Statement (.haOsbEdrAll o) := ⟨⟨_, _, rfl, rfl, rfl⟩, rfl⟩
theorem haOsbEdrReadsLocalI (o : EvOp .ha) : Statement (.haOsbEdrReadsLocalI o) := ⟨⟨_, _, rfl, rfl, rfl⟩, rfl⟩
theorem haOsbEdrReadsRemoteI (o : EvOp .ha) : Statement (.haOsbEdrReadsRemoteI o) := ⟨⟨_, _, rfl, rfl, rfl⟩, rfl⟩
theorem haOsbEdrReadsLocalS (o : EvOp .ha) : Statement (.haOsbEdrReadsLocalS o) := ⟨⟨_, _, rfl, rfl, rfl⟩, rfl⟩
theorem haOsbEdrReadsRemoteS (o : EvOp .ha) : Statement (.haOsbEdrReadsRemoteS o) := ⟨⟨_, _, rfl, rfl, rfl⟩, rfl⟩
theorem haRequestsReadsLocal (o : EvOp .ha) : Statement (.haRequestsReadsLocal o) := ⟨⟨_, _, rfl, rfl, rfl⟩, rfl⟩
theorem haRequestsReadsRemote (o : EvOp .ha) : Statement (.haRequestsReadsRemote o) := ⟨⟨_, _, rfl, rfl, rfl⟩, rfl⟩
theorem haRequestsReads (o : EvOp .ha) : Statement (.haRequestsReads o) := ⟨⟨_, _, rfl, rfl, rfl⟩, rfl⟩
theorem haRequestsWritesLocal (o : EvOp .ha) : Statement (.haRequestsWritesLocal o) := ⟨⟨_, _, rfl, rfl, rfl⟩, rfl⟩
theorem haRequestsWritesRemote (o : EvOp .ha) : Statement (.haRequestsWritesRemote o) := ⟨⟨_, _, rfl, rfl, rfl⟩, rfl⟩
theorem haRequestsWrites (o : EvOp .ha) : Statement (.haRequestsWrites o) := ⟨⟨_, _, rfl, rfl, rfl⟩, rfl⟩
theorem haRequestsInvitoeLocal (o : EvOp .ha) : Statement (.haRequestsInvitoeLocal o) := ⟨⟨_, _, rfl, rfl, rfl⟩, rfl⟩
theorem haRequestsInvitoeRemote (o : EvOp .ha) : Statement (.haRequestsInvitoeRemote o) := ⟨⟨_, _, rfl, rfl, rfl⟩, rfl⟩
theorem haRingAdUsedCwEven (o : EvOp .ha) : Statement (.haRingAdUsedCwEven o) := ⟨⟨_, _, rfl, rfl, rfl⟩, rfl⟩
theorem haRingAdUsedCwOdd (o : EvOp .ha) : Statement (.haRingAdUsedCwOdd o) := ⟨⟨_, _, rfl, rfl, rfl⟩, rfl⟩
theorem haRingAdUsedCw (o : EvOp .ha) : Statement (.haRingAdUsedCw o) := ⟨⟨_, _, rfl, rfl, rfl⟩, rfl⟩
theorem haRingAdUsedCcwEven (o : EvOp .ha) : Statement (.haRingAdUsedCcwEven o) := ⟨⟨_, _, rfl, rfl, rfl⟩, rfl⟩
theorem haRingAdUsedCcwOdd (o : EvOp .ha) : Statement (.haRingAdUsedCcwOdd o) := ⟨⟨_, _, rfl, rfl, rfl⟩, rfl⟩
theorem haRingAdUsedCcw (o : EvOp .ha) : Statement (.haRingAdUsedCcw o) := ⟨⟨_, _, rfl, rfl, rfl⟩, rfl⟩
theorem haRingAkUsedCwEven (o : EvOp .ha) : Statement (.haRingAkUsedCwEven o) := ⟨⟨_, _, rfl, rfl, rfl⟩, rfl⟩
theorem haRingAkUsedCwOdd (o : EvOp .ha) : Statement (.haRingAkUsedCwOdd o) := ⟨⟨_, _, rfl, rfl, rfl⟩, rfl⟩
theorem haRingAkUsedCw (o : EvOp .ha) : Statement (.haRingAkUsedCw o) := ⟨⟨_, _, rfl, rfl, rfl⟩, rfl⟩
theorem haRingAkUsedCcwEven (o : EvOp .ha) : Statement (.haRingAkUsedCcwEven o) := ⟨⟨_, _, rfl, rfl, rfl⟩, rfl⟩
theorem haRingAkUsedCcwOdd (o : EvOp .ha) : Statement (.haRingAkUsedCcwOdd o) := ⟨⟨_, _, rfl, rfl, rfl⟩, rfl⟩
theorem haRingAkUsedCcw (o : EvOp .ha) : Statement (.haRingAkUsedCcw o) := ⟨⟨_, _, rfl, rfl, rfl⟩, rfl⟩
theorem haRingBlUsedCwEven (o : EvOp .ha) : Statement (.haRingBlUsedCwEven o) := ⟨⟨_, _, rfl, rfl, rfl⟩, rfl⟩
theorem haRingBlUsedCwOdd (o : EvOp .ha) : Statement (.haRingBlUsedCwOdd o) := ⟨⟨_, _, rfl, rfl, rfl⟩, rfl⟩
theorem haRingBlUsedCw (o : EvOp .ha) : Statement (.haRingBlUsedCw o) := ⟨⟨_, _, rfl, rfl, rfl⟩, rfl⟩
theorem haRingBlUsedCcwEven (o : EvOp .ha) : Statement (.haRingBlUsedCcwEven o) := ⟨⟨_, _, rfl, rfl, rfl⟩, rfl⟩
theorem haRingBlUsedCcwOdd (o : EvOp .ha) : Statement (.haRingBlUsedCcwOdd o) := ⟨⟨_, _, rfl, rfl, rfl⟩, rfl⟩
theorem haRingBlUsedCcw (o : EvOp .ha) : Statement (.haRingBlUsedCcw o) := ⟨⟨_, _, rfl, rfl, rfl⟩, rfl⟩
theorem haRpqCyclesNoRegCreditsChn0 (o : EvOp .ha) : Statement (.haRpqCyclesNoRegCreditsChn0 o) := ⟨⟨_, _, rfl, rfl, rfl⟩, rfl⟩
theorem haRpqCyclesNoRegCreditsChn1 (o : EvOp .ha) : Statement (.haRpqCyclesNoRegCreditsChn1 o) := ⟨⟨_, _, rfl, rfl, rfl⟩, rfl⟩
theorem haRpqCyclesNoRegCreditsChn2 (o : EvOp .ha) : Statement (.haRpqCyclesNoRegCreditsChn2 o) := ⟨⟨_, _, rfl, rfl, rfl⟩, rfl⟩
theorem haRpqCyclesNoRegCreditsChn3 (o : EvOp .ha) : Statement (.haRpqCyclesNoRegCreditsChn3 o) := ⟨⟨_, _, rfl, rfl, rfl⟩, rfl⟩
theorem haSbo0CreditsAcquiredAd (o : EvOp .ha) : Statement (.haSbo0CreditsAcquiredAd o) := ⟨⟨_, _, rfl, rfl, rfl⟩, rfl⟩
theorem haSbo0CreditsAcquiredBl (o : EvOp .ha) : Statement (.haSbo0CreditsAcquiredBl o) := ⟨⟨_, _, rfl, rfl, rfl⟩, rfl⟩
theorem haSbo0CreditOccupancyAd (o : EvOp .ha) : Statement (.haSbo0CreditOccupancyAd o) := ⟨⟨_, _, rfl, rfl, rfl⟩, rfl⟩
theorem haSbo0CreditOccupancyBl (o : EvOp .ha) : Statement (.haSbo0CreditOccupancyBl o) := ⟨⟨_, _, rfl, rfl, rfl⟩, rfl⟩
theorem haSbo1CreditsAcquiredAd (o : EvOp .ha) : Statement (.haSbo1CreditsAcquiredAd o) := ⟨⟨_, _, rfl, rfl, rfl⟩, rfl⟩
theorem haSbo1CreditsAcquiredBl (o : EvOp .ha) : Statement (.haSbo1CreditsAcquiredBl o) := ⟨⟨_, _, rfl, rfl, rfl⟩, rfl⟩
theorem haSbo1CreditOccupancyAd (o : EvOp .ha) : Statement (.haSbo1CreditOccupancyAd o) := ⟨⟨_, _, rfl, rfl, rfl⟩, rfl⟩
theorem haSbo1CreditOccupancyBl (o : EvOp .ha) : Statement (.haSbo1CreditOccupancyBl o) := ⟨⟨_, _, rfl, rfl, rfl⟩, rfl⟩
theorem haSnoopsRspAfterDataLocal (o : EvOp .ha) : Statement (.haSnoopsRspAfterDataLocal o) := ⟨⟨_, _, rfl, rfl, rfl⟩, rfl⟩
theorem haSnoopsRspAfterDataRemote (o : EvOp .ha) : Statement (.haSnoopsRspAfterDataRemote o) := ⟨⟨_, _, rfl, rfl, rfl⟩, rfl⟩
theorem haSnoopCyclesNeLocal (o : EvOp .ha) : Statement (.haSnoopCyclesNeLocal o) := ⟨⟨_, _, rfl, rfl, rfl⟩, rfl⟩
theorem haSnoopCyclesNeRemote (o : EvOp .ha) : Statement (.haSnoopCyclesNeRemote o) := ⟨⟨_, _, rfl, rfl, rfl⟩, rfl⟩
theorem haSnoopCyclesNeAll (o : EvOp .ha) : Statement (.haSnoopCyclesNeAll o) := ⟨⟨_, _, rfl, rfl, rfl⟩, rfl⟩
theorem haSnoopOccupancyLocal (o : EvOp .ha) : Statement (.haSnoopOccupancyLocal o) := ⟨⟨_, _, rfl, rfl, rfl⟩, rfl⟩
theorem haSnoopOccupancyRemote (o : EvOp .ha) : Statement (.haSnoopOccupancyRemote o) := ⟨⟨_, _, rfl, rfl, rfl⟩, rfl⟩
theorem haSnoopRespRspi (o : EvOp .ha) : Statement (.haSnoopRespRspi o) := ⟨⟨_, _, rfl, rfl, rfl⟩, rfl⟩
theorem haSnoopRespRsps (o : EvOp .ha) : Statement (.haSnoopRespRsps o) := ⟨⟨_, _, rfl, rfl, rfl⟩, rfl⟩
theorem haSnoopRespRspifwd (o : EvOp .ha) : Statement (.haSnoopRespRspifwd o) := ⟨⟨_, _, rfl, rfl, rfl⟩, rfl⟩
theorem haSnoopRespRspsfwd (o : EvOp .ha) : Statement (.haSnoopRespRspsfwd o) := ⟨⟨_, _, rfl, rfl, rfl⟩, rfl⟩
theorem haSnoopRespRspWb (o : EvOp .ha) : Statement (.haSnoopRespRspWb o) := ⟨⟨_, _, rfl, rfl, rfl⟩, rfl⟩
theorem haSnoopRespRspFwdWb (o : EvOp .ha) : Statement (.haSnoopRespRspFwdWb o) := ⟨⟨_, _, rfl, rfl, rfl⟩, rfl⟩
theorem haSnoopRespRspcnflct (o : EvOp .ha) : Statement (.haSnoopRespRspcnflct o) := ⟨⟨_, _, rfl, rfl, rfl⟩, rfl⟩
theorem haSnpRespRecvLocalRspi (o : EvOp .ha) : Statement (.haSnpRespRecvLocalRspi o) := ⟨⟨_, _, rfl, rfl, rfl⟩, rfl⟩
theorem haSnpRespRecvLocalRsps (o : EvOp .ha) : Statement (.haSnpRespRecvLocalRsps o) := ⟨⟨_, _, rfl, rfl, rfl⟩, rfl⟩
theorem haSnpRespRecvLocalRspifwd (o : EvOp .ha) : Statement (.haSnpRespRecvLocalRspifwd o) := ⟨⟨_, _, rfl, rfl, rfl⟩, rfl⟩
theorem haSnpRespRecvLocalRspsfwd (o : EvOp .ha) : Statement (.haSnpRespRecvLocalRspsfwd o) := ⟨⟨_, _, rfl, rfl, rfl⟩, rfl⟩
theorem haSnpRespRecvLocalRSPxWB (o : EvOp .ha) : Statement (.haSnpRespRecvLocalRSPxWB o) := ⟨⟨_, _, rfl, rfl, rfl⟩, rfl⟩
theorem haSnpRespRecvLocalRSPxFWDxWB (o : EvOp .ha) : Statement (.haSnpRespRecvLocalRSPxFWDxWB o) := ⟨⟨_, _, rfl, rfl, rfl⟩, rfl⟩
theorem haSnpRespRecvLocalRspcnflct (o : EvOp .ha) : Statement (.haSnpRespRecvLocalRspcnflct o) := ⟨⟨_, _, rfl, rfl, rfl⟩, rfl⟩
theorem haSnpRespRecvLocalOther (o : EvOp .ha) : Statement (.haSnpRespRecvLocalOther o) := ⟨⟨_, _, rfl, rfl, rfl⟩, rfl⟩
theorem haStallNoSboCreditSbo0Ad (o : EvOp .ha) : Statement (.haStallNoSboCreditSbo0Ad o) := ⟨⟨_, _, rfl, rfl, rfl⟩, rfl⟩
theorem haStallNoSboCreditSbo1Ad (o : EvOp .ha) : Statement (.haStallNoSboCreditSbo1Ad o) := ⟨⟨_, _, rfl, rfl, rfl⟩, rfl⟩
theorem haStallNoSboCreditSbo0Bl (o : EvOp .ha) : Statement (.haStallNoSboCreditSbo0Bl o) := ⟨⟨_, _, rfl, rfl, rfl⟩, rfl⟩
theorem haStallNoSboCreditSb01Bl (o : EvOp .ha) : Statement (.haStallNoSboCreditSb01Bl o) := ⟨⟨_, _, rfl, rfl, rfl⟩, rfl⟩
theorem haTadRequestsG0Region0 (o : EvOp .ha) : Statement (.haTadRequestsG0Region0 o) := ⟨⟨_, _, rfl, rfl, rfl⟩, rfl⟩
theorem haTadRequestsG0Region1 (o : EvOp .ha) : Statement (.haTadRequestsG0Region1 o) := ⟨⟨_, _, rfl, rfl, rfl⟩, rfl⟩
theorem haTadRequestsG0Region2 (o : EvOp .ha) : Statement (.haTadRequestsG0Region2 o) := ⟨⟨_, _, rfl, rfl, rfl⟩, rfl⟩
theorem haTadRequestsG0Region3 (o : EvOp .ha) : Statement (.haTadRequestsG0Region3 o) := ⟨⟨_, _, rfl, rfl, rfl⟩, rfl⟩
theorem haTadRequestsG0Region4 (o : EvOp .ha) : Statement (.haTadRequestsG0Region4 o) := ⟨⟨_, _, rfl, rfl, rfl⟩, rfl⟩
theorem haTadRequestsG0Region5 (o : EvOp .ha) : Statement (.haTadRequestsG0Region5 o) := ⟨⟨_, _, rfl, rfl, rfl⟩, rfl⟩
theorem haTadRequestsG0Region6 (o : EvOp .ha) : Statement (.haTadRequestsG0Region6 o) := ⟨⟨_, _, rfl, rfl, rfl⟩, rfl⟩
theorem haTadRequestsG0Region7 (o : EvOp .ha) : Statement (.haTadRequestsG0Region7 o) := ⟨⟨_, _, rfl, rfl, rfl⟩, rfl⟩
theorem haTadRequestsG1Region8 (o : EvOp .ha) : Statement (.haTadRequestsG1Region8 o) := ⟨⟨_, _, rfl, rfl, rfl⟩, rfl⟩
theorem haTadRequestsG1Region9 (o : EvOp .ha) : Statement (.haTadRequestsG1Region9 o) := ⟨⟨_, _, rfl, rfl, rfl⟩, rfl⟩
theorem haTadRequestsG1Region10 (o : EvOp .ha) : Statement (.haTadRequestsG1Region10 o) := ⟨⟨_, _, rfl, rfl, rfl⟩, rfl⟩
theorem haTadRequestsG1Region11 (o : EvOp .ha) : Statement (.haTadRequestsG1Region11 o) := ⟨⟨_, _, rfl, rfl, rfl⟩, rfl⟩
theorem haTrackerCyclesFullGp (o : EvOp .ha) : Statement (.haTrackerCyclesFullGp o) := ⟨⟨_, _, rfl, rfl, rfl⟩, rfl⟩
theorem haTrackerCyclesFullAll (o : EvOp .ha) : Statement (.haTrackerCyclesFullAll o) := ⟨⟨_, _, rfl, rfl, rfl⟩, rfl⟩
theorem haTrackerCyclesNeLocal (o : EvOp .ha) : Statement (.haTrackerCyclesNeLocal o) := ⟨⟨_, _, rfl, rfl, rfl⟩, rfl⟩
theorem haTrackerCyclesNeRemote (o : EvOp .ha) : Statement (.haTrackerCyclesNeRemote o) := ⟨⟨_, _, rfl, rfl, rfl⟩, rfl⟩
theorem haTrackerCyclesNeAll (o : EvOp .ha) : Statement (.haTrackerCyclesNeAll o) := ⟨⟨_, _, rfl, rfl, rfl⟩, rfl⟩
theorem haTrackerOccupancyReadsLocal (o : EvOp .ha) : Statement (.haTrackerOccupancyReadsLocal o) := ⟨⟨_, _, rfl, rfl, rfl⟩, rfl⟩
theorem haTrackerOccupancyReadsRemote (o : EvOp .ha) : Statement (.haTrackerOccupancyReadsRemote o) := ⟨⟨_, _, rfl, rfl, rfl⟩, rfl⟩
theorem haTrackerOccupancyWritesLocal (o : EvOp .ha) : Statement (.haTrackerOccupancyWritesLocal o) := ⟨⟨_, _, rfl, rfl, rfl⟩, rfl⟩
theorem haTrackerOccupancyWritesRemote (o : EvOp .ha) : Statement (.haTrackerOccupancyWritesRemote o) := ⟨⟨_, _, rfl, rfl, rfl⟩, rfl⟩
theorem haTrackerOccupancyInvitoeLocal (o : EvOp .ha) : Statement (.haTrackerOccupancyInvitoeLocal o) := ⟨⟨_, _, rfl, rfl, rfl⟩, rfl⟩
theorem haTrackerOccupancyInvitoeRemote (o : EvOp .ha) : Statement (.haTrackerOccupancyInvitoeRemote o) := ⟨⟨_, _, rfl, rfl, rfl⟩, rfl⟩
theorem haTrackerPendingOccupancyLocal (o : EvOp .ha) : Statement (.haTrackerPendingOccupancyLocal o) := ⟨⟨_, _, rfl, rfl, rfl⟩, rfl⟩
theorem haTrackerPendingOccupancyRemote (o : EvOp .ha) : Statement (.haTrackerPendingOccupancyRemote o) := ⟨⟨_, _, rfl, rfl, rfl⟩, rfl⟩
theorem haTxRAdCyclesFullSched0 (o : EvOp .ha) : Statement (.haTxRAdCyclesFullSched0 o) := ⟨⟨_, _, rfl, rfl, rfl⟩, rfl⟩
theorem haTxRAdCyclesFullSched1 (o : EvOp .ha) : Statement (.haTxRAdCyclesFullSched1 o) := ⟨⟨_, _, rfl, rfl, rfl⟩, rfl⟩
theorem haTxRAdCyclesFullAll (o : EvOp .ha) : Statement (.haTxRAdCyclesFullAll o) := ⟨⟨_, _, rfl, rfl, rfl⟩, rfl⟩
theorem haTxRAk (o : EvOp .ha) : Statement (.haTxRAk o) := ⟨⟨_, _, rfl, rfl, rfl⟩, rfl⟩
theorem haTxRAkCyclesFullSched0 (o : EvOp .ha) : Statement (.haTxRAkCyclesFullSched0 o) := ⟨⟨_, _, rfl, rfl, rfl⟩, rfl⟩
theorem haTxRAkCyclesFullSched1 (o : EvOp .ha) : Statement (.haTxRAkCyclesFullSched1 o) := ⟨⟨_, _, rfl, rfl, rfl⟩, rfl⟩
theorem haTxRAkCyclesFullAll (o : EvOp .ha) : Statement (.haTxRAkCyclesFullAll o) := ⟨⟨_, _, rfl, rfl, rfl⟩, rfl⟩
theorem haTxRBlDrsCache (o : EvOp .ha) : Statement (.haTxRBlDrsCache o) := ⟨⟨_, _, rfl, rfl, rfl⟩, rfl⟩
theorem haTxRBlDrsCore (o : EvOp .ha) : Statement (.haTxRBlDrsCore o) := ⟨⟨_, _, rfl, rfl, rfl⟩, rfl⟩
theorem haTxRBlDrsQpi (o : EvOp .ha) : Statement (.haTxRBlDrsQpi o) := ⟨⟨_, _, rfl, rfl, rfl⟩, rfl⟩
theorem haTxRBlCyclesFullSched0 (o : EvOp .ha) : Statement (.haTxRBlCyclesFullSched0 o) := ⟨⟨_, _, rfl, rfl, rfl⟩, rfl⟩
theorem haTxRBlCyclesFullSched1 (o : EvOp .ha) : Statement (.haTxRBlCyclesFullSched1 o) := ⟨⟨_, _, rfl, rfl, rfl⟩, rfl⟩
theorem haTxRBlCyclesFullAll (o : EvOp .ha) : Statement (.haTxRBlCyclesFullAll o) := ⟨⟨_, _, rfl, rfl, rfl⟩, rfl⟩
theorem haTxRBlOccupancy (o : EvOp .ha) : Statement (.haTxRBlOccupancy o) := ⟨⟨_, _, rfl, rfl, rfl⟩, rfl⟩
theorem haTxRStarvedAk (o : EvOp .ha) : Statement (.haTxRStarvedAk o) := ⟨⟨_, _, rfl, rfl, rfl⟩, rfl⟩
theorem haTxRStarvedBl (o : EvOp .ha) : Statement (.haTxRStarvedBl o) := ⟨⟨_, _, rfl, rfl, rfl⟩, rfl⟩
theorem haWpqCyclesNoRegCreditsChn0 (o : EvOp .ha) : Statement (.haWpqCyclesNoRegCreditsChn0 o) := ⟨⟨_, _, rfl, rfl, rfl⟩, rfl⟩
theorem haWpqCyclesNoRegCreditsChn1 (o : EvOp .ha) : Statement (.haWpqCyclesNoRegCreditsChn1 o) := ⟨⟨_, _, rfl, rfl, rfl⟩, rfl⟩
theorem haWpqCyclesNoRegCreditsChn2 (o : EvOp .ha) : Statement (.haWpqCyclesNoRegCreditsChn2 o) := ⟨⟨_, _, rfl, rfl, rfl⟩, rfl⟩
theorem haWpqCyclesNoRegCreditsChn3 (o : EvOp .ha) : Statement (.haWpqCyclesNoRegCreditsChn3 o) := ⟨⟨_, _, rfl, rfl, rfl⟩, rfl⟩
theorem imcActCountRd (o : EvOp .imc) : Statement (.imcActCountRd o) := ⟨⟨_, _, rfl, rfl, rfl⟩, rfl⟩
theorem imcActCountWr (o : EvOp .imc) : Statement (.imcActCountWr o) := ⟨⟨_, _, rfl, rfl, rfl⟩, rfl⟩
theorem imcActCountByp (o : EvOp .imc) : Statement (.imcActCountByp o) := ⟨⟨_, _, rfl, rfl, rfl⟩, rfl⟩
theorem imcBypCmdsAct (o : EvOp .imc) : Statement (.imcBypCmdsAct o) := ⟨⟨_, _, rfl, rfl, rfl⟩, rfl⟩
theorem imcBypCmdsCas (o : EvOp .imc) : Statement (.imcBypCmdsCas o) := ⟨⟨_, _, rfl, rfl, rfl⟩, rfl⟩
theorem imcBypCmdsPre (o : EvOp .imc) : Statement (.imcBypCmdsPre o) := ⟨⟨_, _, rfl, rfl, rfl⟩, rfl⟩
theorem imcCasCountRdReg (o : EvOp .imc) : Statement (.imcCasCountRdReg o) := ⟨⟨_, _, rfl, rfl, rfl⟩, rfl⟩
theorem imcCasCountRdUnderfill (o : EvOp .imc) : Statement (.imcCasCountRdUnderfill o) := ⟨⟨_, _, rfl, rfl, rfl⟩, rfl⟩
theorem imcCasCountRd (o : EvOp .imc) : Statement (.imcCasCountRd o) := ⟨⟨_, _, rfl, rfl, rfl⟩, rfl⟩
theorem imcCasCountWrWmm (o : EvOp .imc) : Statement (.imcCasCountWrWmm o) := ⟨⟨_, _, rfl, rfl, rfl⟩, rfl⟩
theorem imcCasCountWrRmm (o : EvOp .imc) : Statement (.imcCasCountWrRmm o) := ⟨⟨_, _, rfl, rfl, rfl⟩, rfl⟩
theorem imcCasCountWr (o : EvOp .imc) : Statement (.imcCasCountWr o) := ⟨⟨_, _, rfl, rfl, rfl⟩, rfl⟩
theorem imcCasCountAll (o : EvOp .imc) : Statement (.imcCasCountAll o) := ⟨⟨_, _, rfl, rfl, rfl⟩, rfl⟩
theorem imcCasCountRdWmm (o : EvOp .imc) : Statement (.imcCasCountRdWmm o) := ⟨⟨_, _, rfl, rfl, rfl⟩, rfl⟩
theorem imcCasCountRdRmm (o : EvOp .imc) : Statement (.imcCasCountRdRmm o) := ⟨⟨_, _, rfl, rfl, rfl⟩, rfl⟩
theorem imcDclockticks (o : EvOp .imc) : Statement (.imcDclockticks o) := ⟨⟨_, _, rfl, rfl, rfl⟩, rfl⟩
theorem imcDramPreAll (o : EvOp .imc) : Statement (.imcDramPreAll o) := ⟨⟨_, _, rfl, rfl, rfl⟩, rfl⟩
theorem imcDramRefreshPanic (o : EvOp .imc) : Statement (.imcDramRefreshPanic o) := ⟨⟨_, _, rfl, rfl, rfl⟩, rfl⟩
theorem imcDramRefreshHigh (o : EvOp .imc) : Statement (.imcDramRefreshHigh o) := ⟨⟨_, _, rfl, rfl, rfl⟩, rfl⟩
theorem imcEccCorrectableErrors (o : EvOp .imc) : Statement (.imcEccCorrectableErrors o) := ⟨⟨_, _, rfl, rfl, rfl⟩, rfl⟩
theorem imcMajorModesRead (o : EvOp .imc) : Statement (.imcMajorModesRead o) := ⟨⟨_, _, rfl, rfl, rfl⟩, rfl⟩
theorem imcMajorModesWrite (o : EvOp .imc) : Statement (.imcMajorModesWrite o) := ⟨⟨_, _, rfl, rfl, rfl⟩, rfl⟩
theorem imcMajorModesPartial (o : EvOp .imc) : Statement (.imcMajorModesPartial o) := ⟨⟨_, _, rfl, rfl, rfl⟩, rfl⟩
theorem imcMajorModesIsoch (o : EvOp .imc) : Statement (.imcMajorModesIsoch o) := ⟨⟨_, _, rfl, rfl, rfl⟩, rfl⟩
theorem imcPowerChannelDlloff (o : EvOp .imc) : Statement (.imcPowerChannelDlloff o) := ⟨⟨_, _, rfl, rfl, rfl⟩, rfl⟩
theorem imcPowerChannelPpd (o : EvOp .imc) : Statement (.imcPowerChannelPpd o) := ⟨⟨_, _, rfl, rfl, rfl⟩, rfl⟩
theorem imcPowerCkeCyclesRank0 (o : EvOp .imc) : Statement (.imcPowerCkeCyclesRank0 o) := ⟨⟨_, _, rfl, rfl, rfl⟩, rfl⟩
theorem imcPowerCkeCyclesRank1 (o : EvOp .imc) : Statement (.imcPowerCkeCyclesRank1 o) := ⟨⟨_, _, rfl, rfl, rfl⟩, rfl⟩
theorem imcPowerCkeCyclesRank2 (o : EvOp .imc) : Statement (.imcPowerCkeCyclesRank2 o) := ⟨⟨_, _, rfl, rfl, rfl⟩, rfl⟩
theorem imcPowerCkeCyclesRank3 (o : EvOp .imc) : Statement (.imcPowerCkeCyclesRank3 o) := ⟨⟨_, _, rfl, rfl, rfl⟩, rfl⟩
theorem imcPowerCkeCyclesRank4 (o : EvOp .imc) : Statement (.imcPowerCkeCyclesRank4 o) := ⟨⟨_, _, rfl, rfl, rfl⟩, rfl⟩
theorem imcPowerCkeCyclesRank5 (o : EvOp .imc) : Statement (.imcPowerCkeCyclesRank5 o) := ⟨⟨_, _, rfl, rfl, rfl⟩, rfl⟩
theorem imcPowerCkeCyclesRank6 (o : EvOp .imc) : Statement (.imcPowerCkeCyclesRank6 o) := ⟨⟨_, _, rfl, rfl, rfl⟩, rfl⟩
theorem imcPowerCkeCyclesRank7 (o : EvOp .imc) : Statement (.imcPowerCkeCyclesRank7 o) := ⟨⟨_, _, rfl, rfl, rfl⟩, rfl⟩
theorem imcPowerCriticalThrottleCycles (o : EvOp .imc) : Statement (.imcPowerCriticalThrottleCycles o) := ⟨⟨_, _, rfl, rfl, rfl⟩, rfl⟩
theorem imcPowerPcuThrottling (o : EvOp .imc) : Statement (.imcPowerPcuThrottling o) := ⟨⟨_, _, rfl, rfl, rfl⟩, rfl⟩
theorem imcPowerSelfRefresh (o : EvOp .imc) : Statement (.imcPowerSelfRefresh o) := ⟨⟨_, _, rfl, rfl, rfl⟩, rfl⟩
theorem imcPowerThrottleCyclesRank0 (o : EvOp .imc) : Statement (.imcPowerThrottleCyclesRank0 o) := ⟨⟨_, _, rfl, rfl, rfl⟩, rfl⟩
theorem imcPowerThrottleCyclesRank1 (o : EvOp .imc) : Statement (.imcPowerThrottleCyclesRank1 o) := ⟨⟨_, _, rfl, rfl, rfl⟩, rfl⟩
theorem imcPowerThrottleCyclesRank2 (o : EvOp .imc) : Statement (.imcPowerThrottleCyclesRank2 o) := ⟨⟨_, _, rfl, rfl, rfl⟩, rfl⟩
theorem imcPowerThrottleCyclesRank3 (o : EvOp .imc) : Statement (.imcPowerThrottleCyclesRank3 o) := ⟨⟨_, _, rfl, rfl, rfl⟩, rfl⟩
theorem imcPowerThrottleCyclesRank4 (o : EvOp .imc) : Statement (.imcPowerThrottleCyclesRank4 o) := ⟨⟨_, _, rfl, rfl, rfl⟩, rfl⟩
theorem imcPowerThrottleCyclesRank5 (o : EvOp .imc) : Statement (.imcPowerThrottleCyclesRank5 o) := ⟨⟨_, _, rfl, rfl, rfl⟩, rfl⟩
theorem imcPowerThrottleCyclesRank6 (o : EvOp .imc) : Statement (.imcPowerThrottleCyclesRank6 o) := ⟨⟨_, _, rfl, rfl, rfl⟩, rfl⟩
theorem imcPowerThrottleCyclesRank7 (o : EvOp .imc) : Statement (.imcPowerThrottleCyclesRank7 o) := ⟨⟨_, _, rfl, rfl, rfl⟩, rfl⟩
theorem imcPreemptionRdPreemptRd (o : EvOp .imc) : Statement (.imcPreemptionRdPreemptRd o) := ⟨⟨_, _, rfl, rfl, rfl⟩, rfl⟩
theorem imcPreemptionRdPreemptWr (o : EvOp .imc) : Statement (.imcPreemptionRdPreemptWr o) := ⟨⟨_, _, rfl, rfl, rfl⟩, rfl⟩
theorem imcPreCountPageMiss (o : EvOp .imc) : Statement (.imcPreCountPageMiss o) := ⟨⟨_, _, rfl, rfl, rfl⟩, rfl⟩
theorem imcPreCountPageClose (o : EvOp .imc) : Statement (.imcPreCountPageClose o) := ⟨⟨_, _, rfl, rfl, rfl⟩, rfl⟩
theorem imcPreCountRd (o : EvOp .imc) : Statement (.imcPreCountRd o) := ⟨⟨_, _, rfl, rfl, rfl⟩, rfl⟩
theorem imcPreCountWr (o : EvOp .imc) : Statement (.imcPreCountWr o) := ⟨⟨_, _, rfl, rfl, rfl⟩, rfl⟩
theorem imcPreCountByp (o : EvOp .imc) : Statement (.imcPreCountByp o) := ⟨⟨_, _, rfl, rfl, rfl⟩, rfl⟩
theorem imcRdCasPrioLow (o : EvOp .imc) : Statement (.imcRdCasPrioLow o) := ⟨⟨_, _, rfl, rfl, rfl⟩, rfl⟩
theorem imcRdCasPrioMed (o : EvOp .imc) : Statement (.imcRdCasPrioMed o) := ⟨⟨_, _, rfl, rfl, rfl⟩, rfl⟩
theorem imcRdCasPrioHigh (o : EvOp .imc) : Statement (.imcRdCasPrioHigh o) := ⟨⟨_, _, rfl, rfl, rfl⟩, rfl⟩
theorem imcRdCasPrioPanic (o : EvOp .imc) : Statement (.imcRdCasPrioPanic o) := ⟨⟨_, _, rfl, rfl, rfl⟩, rfl⟩
theorem imcRdCasRank0Bank0 (o : EvOp .imc) : Statement (.imcRdCasRank0Bank0 o) := ⟨⟨_, _, rfl, rfl, rfl⟩, rfl⟩
theorem imcRdCasRank0Bank1 (o : EvOp .imc) : Statement (.imcRdCasRank0Bank1 o) := ⟨⟨_, _, rfl, rfl, rfl⟩, rfl⟩
theorem imcRdCasRank0Bank2 (o : EvOp .imc) : Statement (.imcRdCasRank0Bank2 o) := ⟨⟨_, _, rfl, rfl, rfl⟩, rfl⟩
theorem imcRdCasRank0Bank3 (o : EvOp .imc) : Statement (.imcRdCasRank0Bank3 o) := ⟨⟨_, _, rfl, rfl, rfl⟩, rfl⟩
theorem imcRdCasRank0Bank4 (o : EvOp .imc) : Statement (.imcRdCasRank0Bank4 o) := ⟨⟨_, _, rfl, rfl, rfl⟩, rfl⟩
theorem imcRdCasRank0Bank5 (o : EvOp .imc) : Statement (.imcRdCasRank0Bank5 o) := ⟨⟨_, _, rfl, rfl, rfl⟩, rfl⟩
theorem imcRdCasRank0Bank6 (o : EvOp .imc) : Statement (.imcRdCasRank0Bank6 o) := ⟨⟨_, _, rfl, rfl, rfl⟩, rfl⟩
theorem imcRdCasRank0Bank7 (o : EvOp .imc) : Statement (.imcRdCasRank0Bank7 o) := ⟨⟨_, _, rfl, rfl, rfl⟩, rfl⟩
theorem imcRdCasRank0Bank8 (o : EvOp .imc) : Statement (.imcRdCasRank0Bank8 o) := ⟨⟨_, _, rfl, rfl, rfl⟩, rfl⟩
theorem imcRdCasRank0Bank9 (o : EvOp .imc) : Statement (.imcRdCasRank0Bank9 o) := ⟨⟨_, _, rfl, rfl, rfl⟩, rfl⟩
theorem imcRdCasRank0Bank10 (o : EvOp .imc) : Statement (.imcRdCasRank0Bank10 o) := ⟨⟨_, _, rfl, rfl, rfl⟩, rfl⟩
theorem imcRdCasRank0Bank11 (o : EvOp .imc) : Statement (.imcRdCasRank0Bank11 o) := ⟨⟨_, _, rfl, rfl, rfl⟩, rfl⟩
theorem imcRdCasRank0Bank12 (o : EvOp .imc) : Statement (.imcRdCasRank0Bank12 o) := ⟨⟨_, _, rfl, rfl, rfl⟩, rfl⟩
theorem imcRdCasRank0Bank13 (o : EvOp .imc) : Statement (.imcRdCasRank0Bank13 o) := ⟨⟨_, _, rfl, rfl, rfl⟩, rfl⟩
theorem imcRdCasRank0Bank14 (o : EvOp .imc) : Statement (.imcRdCasRank0Bank14 o) := ⟨⟨_, _, rfl, rfl, rfl⟩, rfl⟩
theorem imcRdCasRank0Bank15 (o : EvOp .imc) : Statement (.imcRdCasRank0Bank15 o) := ⟨⟨_, _, rfl, rfl, rfl⟩, rfl⟩
theorem imcRdCasRank0Allbanks (o : EvOp .imc) : Statement (.imcRdCasRank0Allbanks o) := ⟨⟨_, _, rfl, rfl, rfl⟩, rfl⟩
theorem imcRdCasRank0Bankg0 (o : EvOp .imc) : Statement (.imcRdCasRank0Bankg0 o) := ⟨⟨_, _, rfl, rfl, rfl⟩, rfl⟩
theorem imcRdCasRank0Bankg1 (o : EvOp .imc) : Statement (.imcRdCasRank0Bankg1 o) := ⟨⟨_, _, rfl, rfl, rfl⟩, rfl⟩
theorem imcRdCasRank0Bankg2 (o : EvOp .imc) : Statement (.imcRdCasRank0Bankg2 o) := ⟨⟨_, _, rfl, rfl, rfl⟩, rfl⟩
theorem imcRdCasRank0Bankg3 (o : EvOp .imc) : Statement (.imcRdCasRank0Bankg3 o) := ⟨⟨_, _, rfl, rfl, rfl⟩, rfl⟩
theorem imcRdCasRank1Bank0 (o : EvOp .imc) : Statement (.imcRdCasRank1Bank0 o) := ⟨⟨_, _, rfl, rfl, rfl⟩, rfl⟩
theorem imcRdCasRank1Bank1 (o : EvOp .imc) : Statement (.imcRdCasRank1Bank1 o) := ⟨⟨_, _, rfl, rfl, rfl⟩, rfl⟩
theorem imcRdCasRank1Bank2 (o : EvOp .imc) : Statement (.imcRdCasRank1Bank2 o) := ⟨⟨_, _, rfl, rfl, rfl⟩, rfl⟩
theorem imcRdCasRank1Bank3 (o : EvOp .imc) : Statement (.imcRdCasRank1Bank3 o) := ⟨⟨_, _, rfl, rfl, rfl⟩, rfl⟩
theorem imcRdCasRank1Bank4 (o : EvOp .imc) : Statement (.imcRdCasRank1Bank4 o) := ⟨⟨_, _, rfl, rfl, rfl⟩, rfl⟩
theorem imcRdCasRank1Bank5 (o : EvOp .imc) : Statement (.imcRdCasRank1Bank5 o) := ⟨⟨_, _, rfl, rfl, rfl⟩, rfl⟩
theorem imcRdCasRank1Bank6 (o : EvOp .imc) : Statement (.imcRdCasRank1Bank6 o) := ⟨⟨_, _, rfl, rfl, rfl⟩, rfl⟩
theorem imcRdCasRank1Bank7 (o : EvOp .imc) : Statement (.imcRdCasRank1Bank7 o) := ⟨⟨_, _, rfl, rfl, rfl⟩, rfl⟩
theorem imcRdCasRank1Bank8 (o : EvOp .imc) : Statement (.imcRdCasRank1Bank8 o) := ⟨⟨_, _, rfl, rfl, rfl⟩, rfl⟩
theorem imcRdCasRank1Bank9 (o : EvOp .imc) : Statement (.imcRdCasRank1Bank9 o) := ⟨⟨_, _, rfl, rfl, rfl⟩, rfl⟩
theorem imcRdCasRank1Bank10 (o : EvOp .imc) : Statement (.imcRdCasRank1Bank10 o) := ⟨⟨_, _, rfl, rfl, rfl⟩, rfl⟩
theorem imcRdCasRank1Bank11 (o : EvOp .imc) : Statement (.imcRdCasRank1Bank11 o) := ⟨⟨_, _, rfl, rfl, rfl⟩, rfl⟩
theorem imcRdCasRank1Bank12 (o : EvOp .imc) : Statement (.imcRdCasRank1Bank12 o) := ⟨⟨_, _, rfl, rfl, rfl⟩, rfl⟩
theorem imcRdCasRank1Bank13 (o : EvOp .imc) : Statement (.imcRdCasRank1Bank13 o) := ⟨⟨_, _, rfl, rfl, rfl⟩, rfl⟩
theorem imcRdCasRank1Bank14 (o : EvOp .imc) : Statement (.imcRdCasRank1Bank14 o) := ⟨⟨_, _, rfl, rfl, rfl⟩, rfl⟩
theorem imcRdCasRank1Bank15 (o : EvOp .imc) : Statement (.imcRdCasRank1Bank15 o) := ⟨⟨_, _, rfl, rfl, rfl⟩, rfl⟩
theorem imcRdCasRank1Allbanks (o : EvOp .imc) : Statement (.imcRdCasRank1Allbanks o) := ⟨⟨_, _, rfl, rfl, rfl⟩, rfl⟩
theorem imcRdCasRank1Bankg0 (o : EvOp .imc) : Statement (.imcRdCasRank1Bankg0 o) := ⟨⟨_, _, rfl, rfl, rfl⟩, rfl⟩
theorem imcRdCasRank1Bankg1 (o : EvOp .imc) : Statement (.imcRdCasRank1Bankg1 o) := ⟨⟨_, _, rfl, rfl, rfl⟩, rfl⟩
theorem imcRdCasRank1Bankg2 (o : EvOp .imc) : Statement (.imcRdCasRank1Bankg2 o) := ⟨⟨_, _, rfl, rfl, rfl⟩, rfl⟩
theorem imcRdCasRank1Bankg3 (o : EvOp .imc) : Statement (.imcRdCasRank1Bankg3 o) := ⟨⟨_, _, rfl, rfl, rfl⟩, rfl⟩
theorem imcRdCasRank2Bank0 (o : EvOp .imc) : Statement (.imcRdCasRank2Bank0 o) := ⟨⟨_, _, rfl, rfl, rfl⟩, rfl⟩
theorem imcRdCasRank4Bank0 (o : EvOp .imc) : Statement (.imcRdCasRank4Bank0 o) := ⟨⟨_, _, rfl, rfl, rfl⟩, rfl⟩
theorem imcRdCasRank4Bank1 (o : EvOp .imc) : Statement (.imcRdCasRank4Bank1 o) := ⟨⟨_, _, rfl, rfl, rfl⟩, rfl⟩
theorem imcRdCasRank4Bank2 (o : EvOp .imc) : Statement (.imcRdCasRank4Bank2 o) := ⟨⟨_, _, rfl, rfl, rfl⟩, rfl⟩
theorem imcRdCasRank4Bank3 (o : EvOp .imc) : Statement (.imcRdCasRank4Bank3 o) := ⟨⟨_, _, rfl, rfl, rfl⟩, rfl⟩
theorem imcRdCasRank4Bank4 (o : EvOp .imc) : Statement (.imcRdCasRank4Bank4 o) := ⟨⟨_, _, rfl, rfl, rfl⟩, rfl⟩
theorem imcRdCasRank4Bank5 (o : EvOp .imc) : Statement (.imcRdCasRank4Bank5 o) := ⟨⟨_, _, rfl, rfl, rfl⟩, rfl⟩
theorem imcRdCasRank4Bank6 (o : EvOp .imc) : Statement (.imcRdCasRank4Bank6 o) := ⟨⟨_, _, rfl, rfl, rfl⟩, rfl⟩
theorem imcRdCasRank4Bank7 (o : EvOp .imc) : Statement (.imcRdCasRank4Bank7 o) := ⟨⟨_, _, rfl, rfl, rfl⟩, rfl⟩
theorem imcRdCasRank4Bank8 (o : EvOp .imc) : Statement (.imcRdCasRank4Bank8 o) := ⟨⟨_, _, rfl, rfl, rfl⟩, rfl⟩
theorem imcRdCasRank4Bank9 (o : EvOp .imc) : Statement (.imcRdCasRank4Bank9 o) := ⟨⟨_, _, rfl, rfl, rfl⟩, rfl⟩
theorem imcRdCasRank4Bank10 (o : EvOp .imc) : Statement (.imcRdCasRank4Bank10 o) := ⟨⟨_, _, rfl, rfl, rfl⟩, rfl⟩
theorem imcRdCasRank4Bank11 (o : EvOp .imc) : Statement (.imcRdCasRank4Bank11 o) := ⟨⟨_, _, rfl, rfl, rfl⟩, rfl⟩
theorem imcRdCasRank4Bank12 (o : EvOp .imc) : Statement (.imcRdCasRank4Bank12 o) := ⟨⟨_, _, rfl, rfl, rfl⟩, rfl⟩
theorem imcRdCasRank4Bank13 (o : EvOp .imc) : Statement (.imcRdCasRank4Bank13 o) := ⟨⟨_, _, rfl, rfl, rfl⟩, rfl⟩
theorem imcRdCasRank4Bank14 (o : EvOp .imc) : Statement (.imcRdCasRank4Bank14 o) := ⟨⟨_, _, rfl, rfl, rfl⟩, rfl⟩
theorem imcRdCasRank4Bank15 (o : EvOp .imc) : Statement (.imcRdCasRank4Bank15 o) := ⟨⟨_, _, rfl, rfl, rfl⟩, rfl⟩
theorem imcRdCasRank4Allbanks (o : EvOp .imc) : Statement (.imcRdCasRank4Allbanks o) := ⟨⟨_, _, rfl, rfl, rfl⟩, rfl⟩
theorem imcRdCasRank4Bankg0 (o : EvOp .imc) : Statement (.imcRdCasRank4Bankg0 o) := ⟨⟨_, _, rfl, rfl, rfl⟩, rfl⟩
theorem imcRdCasRank4Bankg1 (o : EvOp .imc) : Statement (.imcRdCasRank4Bankg1 o) := ⟨⟨_, _, rfl, rfl, rfl⟩, rfl⟩
theorem imcRdCasRank4Bankg2 (o : EvOp .imc) : Statement (.imcRdCasRank4Bankg2 o) := ⟨⟨_, _, rfl, rfl, rfl⟩, rfl⟩
theorem imcRdCasRank4Bankg3 (o : EvOp .imc) : Statement (.imcRdCasRank4Bankg3 o) := ⟨⟨_, _, rfl, rfl, rfl⟩, rfl⟩
theorem imcRdCasRank5Bank0 (o : EvOp .imc) : Statement (.imcRdCasRank5Bank0 o) := ⟨⟨_, _, rfl, rfl, rfl⟩, rfl⟩
theorem imcRdCasRank5Bank1 (o : EvOp .imc) : Statement (.imcRdCasRank5Bank1 o) := ⟨⟨_, _, rfl, rfl, rfl⟩, rfl⟩
theorem imcRdCasRank5Bank2 (o : EvOp .imc) : Statement (.imcRdCasRank5Bank2 o) := ⟨⟨_, _, rfl, rfl, rfl⟩, rfl⟩
theorem imcRdCasRank5Bank3 (o : EvOp .imc) : Statement (.imcRdCasRank5Bank3 o) := ⟨⟨_, _, rfl, rfl, rfl⟩, rfl⟩
theorem imcRdCasRank5Bank4 (o : EvOp .imc) : Statement (.imcRdCasRank5Bank4 o) := ⟨⟨_, _, rfl, rfl, rfl⟩, rfl⟩
theorem imcRdCasRank5Bank5 (o : EvOp .imc) : Statement (.imcRdCasRank5Bank5 o) := ⟨⟨_, _, rfl, rfl, rfl⟩, rfl⟩
theorem imcRdCasRank5Bank6 (o : EvOp .imc) : Statement (.imcRdCasRank5Bank6 o) := ⟨⟨_, _, rfl, rfl, rfl⟩, rfl⟩
theorem imcRdCasRank5Bank7 (o : EvOp .imc) : Statement (.imcRdCasRank5Bank7 o) := ⟨⟨_, _, rfl, rfl, rfl⟩, rfl⟩
theorem imcRdCasRank5Bank8 (o : EvOp .imc) : Statement (.imcRdCasRank5Bank8 o) := ⟨⟨_, _, rfl, rfl, rfl⟩, rfl⟩
theorem imcRdCasRank5Bank9 (o : EvOp .imc) : Statement (.imcRdCasRank5Bank9 o) := ⟨⟨_, _, rfl, rfl, rfl⟩, rfl⟩
theorem imcRdCasRank5Bank10 (o : EvOp .imc) : Statement (.imcRdCasRank5Bank10 o) := ⟨⟨_, _, rfl, rfl, rfl⟩, rfl⟩
theorem imcRdCasRank5Bank11 (o : EvOp .imc) : Statement (.imcRdCasRank5Bank11 o) := ⟨⟨_, _, rfl, rfl, rfl⟩, rfl⟩
theorem imcRdCasRank5Bank12 (o : EvOp .imc) : Statement (.imcRdCasRank5Bank12 o) := ⟨⟨_, _, rfl, rfl, rfl⟩, rfl⟩
theorem imcRdCasRank5Bank13 (o : EvOp .imc) : Statement (.imcRdCasRank5Bank13 o) := ⟨⟨_, _, rfl, rfl, rfl⟩, rfl⟩
theorem imcRdCasRank5Bank14 (o : EvOp .imc) : Statement (.imcRdCasRank5Bank14 o) := ⟨⟨_, _, rfl, rfl, rfl⟩, rfl⟩
theorem imcRdCasRank5Bank15 (o : EvOp .imc) : Statement (.imcRdCasRank5Bank15 o) := ⟨⟨_, _, rfl, rfl, rfl⟩, rfl⟩
theorem imcRdCasRank5Allbanks (o : EvOp .imc) : Statement (.imcRdCasRank5Allbanks o) := ⟨⟨_, _, rfl, rfl, rfl⟩, rfl⟩
theorem imcRdCasRank5Bankg0 (o : EvOp .imc) : Statement (.imcRdCasRank5Bankg0 o) := ⟨⟨_, _, rfl, rfl, rfl⟩, rfl⟩
theorem imcRdCasRank5Bankg1 (o : EvOp .imc) : Statement (.imcRdCasRank5Bankg1 o) := ⟨⟨_, _, rfl, rfl, rfl⟩, rfl⟩
theorem imcRdCasRank5Bankg2 (o : EvOp .imc) : Statement (.imcRdCasRank5Bankg2 o) := ⟨⟨_, _, rfl, rfl, rfl⟩, rfl⟩
theorem imcRdCasRank5Bankg3 (o : EvOp .imc) : Statement (.imcRdCasRank5Bankg3 o) := ⟨⟨_, _, rfl, rfl, rfl⟩, rfl⟩
theorem imcRdCasRank6Bank0 (o : EvOp .imc) : Statement (.imcRdCasRank6Bank0 o) := ⟨⟨_, _, rfl, rfl, rfl⟩, rfl⟩
theorem imcRdCasRank6Bank1 (o : EvOp .imc) : Statement (.imcRdCasRank6Bank1 o) := ⟨⟨_, _, rfl, rfl, rfl⟩, rfl⟩
theorem imcRdCasRank6Bank2 (o : EvOp .imc) : Statement (.imcRdCasRank6Bank2 o) := ⟨⟨_, _, rfl, rfl, rfl⟩, rfl⟩
theorem imcRdCasRank6Bank3 (o : EvOp .imc) : Statement (.imcRdCasRank6Bank3 o) := ⟨⟨_, _, rfl, rfl, rfl⟩, rfl⟩
theorem imcRdCasRank6Bank4 (o : EvOp .imc) : Statement (.imcRdCasRank6Bank4 o) := ⟨⟨_, _, rfl, rfl, rfl⟩, rfl⟩
theorem imcRdCasRank6Bank5 (o : EvOp .imc) : Statement (.imcRdCasRank6Bank5 o) := ⟨⟨_, _, rfl, rfl, rfl⟩, rfl⟩
theorem imcRdCasRank6Bank6 (o : EvOp .imc) : Statement (.imcRdCasRank6Bank6 o) := ⟨⟨_, _, rfl, rfl, rfl⟩, rfl⟩
theorem imcRdCasRank6Bank7 (o : EvOp .imc) : Statement (.imcRdCasRank6Bank7 o) := ⟨⟨_, _, rfl, rfl, rfl⟩, rfl⟩
theorem imcRdCasRank6Bank8 (o : EvOp .imc) : Statement (.imcRdCasRank6Bank8 o) := ⟨⟨_, _, rfl, rfl, rfl⟩, rfl⟩
theorem imcRdCasRank6Bank9 (o : EvOp .imc) : Statement (.imcRdCasRank6Bank9 o) := ⟨⟨_, _, rfl, rfl, rfl⟩, rfl⟩
theorem imcRdCasRank6Bank10 (o : EvOp .imc) : Statement (.imcRdCasRank6Bank10 o) := ⟨⟨_, _, rfl, rfl, rfl⟩, rfl⟩
theorem imcRdCasRank6Bank11 (o : EvOp .imc) : Statement (.imcRdCasRank6Bank11 o) := ⟨⟨_, _, rfl, rfl, rfl⟩, rfl⟩
theorem imcRdCasRank6Bank12 (o : EvOp .imc) : Statement (.imcRdCasRank6Bank12 o) := ⟨⟨_, _, rfl, rfl, rfl⟩, rfl⟩
theorem imcRdCasRank6Bank13 (o : EvOp .imc) : Statement (.imcRdCasRank6Bank13 o) := ⟨⟨_, _, rfl, rfl, rfl⟩, rfl⟩
theorem imcRdCasRank6Bank14 (o : EvOp .imc) : Statement (.imcRdCasRank6Bank14 o) := ⟨⟨_, _, rfl, rfl, rfl⟩, rfl⟩
theorem imcRdCasRank6Bank15 (o : EvOp .imc) : Statement (.imcRdCasRank6Bank15 o) := ⟨⟨_, _, rfl, rfl, rfl⟩, rfl⟩
theorem imcRdCasRank6Allbanks (o : EvOp .imc) : Statement (.imcRdCasRank6Allbanks o) := ⟨⟨_, _, rfl, rfl, rfl⟩, rfl⟩
theorem imcRdCasRank6Bankg0 (o : EvOp .imc) : Statement (.imcRdCasRank6Bankg0 o) := ⟨⟨_, _, rfl, rfl, rfl⟩, rfl⟩
theorem imcRdCasRank6Bankg1 (o : EvOp .imc) : Statement (.imcRdCasRank6Bankg1 o) := ⟨⟨_, _, rfl, rfl, rfl⟩, rfl⟩
theorem imcRdCasRank6Bankg2 (o : EvOp .imc) : Statement (.imcRdCasRank6Bankg2 o) := ⟨⟨_, _, rfl, rfl, rfl⟩, rfl⟩
theorem imcRdCasRank6Bankg3 (o : EvOp .imc) : Statement (.imcRdCasRank6Bankg3 o) := ⟨⟨_, _, rfl, rfl, rfl⟩, rfl⟩
theorem imcRdCasRank7Bank0 (o : EvOp .imc) : Statement (.imcRdCasRank7Bank0 o) := ⟨⟨_, _, rfl, rfl, rfl⟩, rfl⟩
theorem imcRdCasRank7Bank1 (o : EvOp .imc) : Statement (.imcRdCasRank7Bank1 o) := ⟨⟨_, _, rfl, rfl, rfl⟩, rfl⟩
theorem imcRdCasRank7Bank2 (o : EvOp .imc) : Statement (.imcRdCasRank7Bank2 o) := ⟨⟨_, _, rfl, rfl, rfl⟩, rfl⟩
theorem imcRdCasRank7Bank3 (o : EvOp .imc) : Statement (.imcRdCasRank7Bank3 o) := ⟨⟨_, _, rfl, rfl, rfl⟩, rfl⟩
theorem imcRdCasRank7Bank4 (o : EvOp .imc) : Statement (.imcRdCasRank7Bank4 o) := ⟨⟨_, _, rfl, rfl, rfl⟩, rfl⟩
theorem imcRdCasRank7Bank5 (o : EvOp .imc) : Statement (.imcRdCasRank7Bank5 o) := ⟨⟨_, _, rfl, rfl, rfl⟩, rfl⟩
theorem imcRdCasRank7Bank6 (o : EvOp .imc) : Statement (.imcRdCasRank7Bank6 o) := ⟨⟨_, _, rfl, rfl, rfl⟩, rfl⟩
theorem imcRdCasRank7Bank7 (o : EvOp .imc) : Statement (.imcRdCasRank7Bank7 o) := ⟨⟨_, _, rfl, rfl, rfl⟩, rfl⟩
theorem imcRdCasRank7Bank8 (o : EvOp .imc) : Statement (.imcRdCasRank7Bank8 o) := ⟨⟨_, _, rfl, rfl, rfl⟩, rfl⟩
theorem imcRdCasRank7Bank9 (o : EvOp .imc) : Statement (.imcRdCasRank7Bank9 o) := ⟨⟨_, _, rfl, rfl, rfl⟩, rfl⟩
theorem imcRdCasRank7Bank10 (o : EvOp .imc) : Statement (.imcRdCasRank7Bank10 o) := ⟨⟨_, _, rfl, rfl, rfl⟩, rfl⟩
theorem imcRdCasRank7Bank11 (o : EvOp .imc) : Statement (.imcRdCasRank7Bank11 o) := ⟨⟨_, _, rfl, rfl, rfl⟩, rfl⟩
theorem imcRdCasRank7Bank12 (o : EvOp .imc) : Statement (.imcRdCasRank7Bank12 o) := ⟨⟨_, _, rfl, rfl, rfl⟩, rfl⟩
theorem imcRdCasRank7Bank13 (o : EvOp .imc) : Statement (.imcRdCasRank7Bank13 o) := ⟨⟨_, _, rfl, rfl, rfl⟩, rfl⟩
theorem imcRdCasRank7Bank14 (o : EvOp .imc) : Statement (.imcRdCasRank7Bank14 o) := ⟨⟨_, _, rfl, rfl, rfl⟩, rfl⟩
theorem imcRdCasRank7Bank15 (o : EvOp .imc) : Statement (.imcRdCasRank7Bank15 o) := ⟨⟨_, _, rfl, rfl, rfl⟩, rfl⟩
theorem imcRdCasRank7Allbanks (o : EvOp .imc) : Statement (.imcRdCasRank7Allbanks o) := ⟨⟨_, _, rfl, rfl, rfl⟩, rfl⟩
theorem imcRdCasRank7Bankg0 (o : EvOp .imc) : Statement (.imcRdCasRank7Bankg0 o) := ⟨⟨_, _, rfl, rfl, rfl⟩, rfl⟩
theorem imcRdCasRank7Bankg1 (o : EvOp .imc) : Statement (.imcRdCasRank7Bankg1 o) := ⟨⟨_, _, rfl, rfl, rfl⟩, rfl⟩
theorem imcRdCasRank7Bankg2 (o : EvOp .imc) : Statement (.imcRdCasRank7Bankg2 o) := ⟨⟨_, _, rfl, rfl, rfl⟩, rfl⟩
theorem imcRdCasRank7Bankg3 (o : EvOp .imc) : Statement (.imcRdCasRank7Bankg3 o) := ⟨⟨_, _, rfl, rfl, rfl⟩, rfl⟩
theorem imcRpqCyclesNe (o : EvOp .imc) : Statement (.imcRpqCyclesNe o) := ⟨⟨_, _, rfl, rfl, rfl⟩, rfl⟩
theorem imcRpqInserts (o : EvOp .imc) : Statement (.imcRpqInserts o) := ⟨⟨_, _, rfl, rfl, rfl⟩, rfl⟩
theorem imcVmseMxbWrOccupancy (o : EvOp .imc) : Statement (.imcVmseMxbWrOccupancy o) := ⟨⟨_, _, rfl, rfl, rfl⟩, rfl⟩
theorem imcVmseWrPushWmm (o : EvOp .imc) : Statement (.imcVmseWrPushWmm o) := ⟨⟨_, _, rfl, rfl, rfl⟩, rfl⟩
theorem imcVmseWrPushRmm (o : EvOp .imc) : Statement (.imcVmseWrPushRmm o) := ⟨⟨_, _, rfl, rfl, rfl⟩, rfl⟩
theorem imcWmmToRmmLowThresh (o : EvOp .imc) : Statement (.imcWmmToRmmLowThresh o) := ⟨⟨_, _, rfl, rfl, rfl⟩, rfl⟩
theorem imcWmmToRmmStarve (o : EvOp .imc) : Statement (.imcWmmToRmmStarve o) := ⟨⟨_, _, rfl, rfl, rfl⟩, rfl⟩
theorem imcWmmToRmmVmseRetry (o : EvOp .imc) : Statement (.imcWmmToRmmVmseRetry o) := ⟨⟨_, _, rfl, rfl, rfl⟩, rfl⟩
theorem imcWpqCyclesFull (o : EvOp .imc) : Statement (.imcWpqCyclesFull o) := ⟨⟨_, _, rfl, rfl, rfl⟩, rfl⟩
theorem imcWpqCyclesNe (o : EvOp .imc) : Statement (.imcWpqCyclesNe o) := ⟨⟨_, _, rfl, rfl, rfl⟩, rfl⟩
theorem imcWpqReadHit (o : EvOp .imc) : Statement (.imcWpqReadHit o) := ⟨⟨_, _, rfl, rfl, rfl⟩, rfl⟩
theorem imcWpqWriteHit (o : EvOp .imc) : Statement (.imcWpqWriteHit o) := ⟨⟨_, _, rfl, rfl, rfl⟩, rfl⟩
theorem imcWrongMm (o : EvOp .imc) : Statement (.imcWrongMm o) := ⟨⟨_, _, rfl, rfl, rfl⟩, rfl⟩
theorem imcWrCasRank0Bank0 (o : EvOp .imc) : Statement (.imcWrCasRank0Bank0 o) := ⟨⟨_, _, rfl, rfl, rfl⟩, rfl⟩
theorem imcWrCasRank0Bank1 (o : EvOp .imc) : Statement (.imcWrCasRank0Bank1 o) := ⟨⟨_, _, rfl, rfl, rfl⟩, rfl⟩
theorem imcWrCasRank0Bank2 (o : EvOp .imc) : Statement (.imcWrCasRank0Bank2 o) := ⟨⟨_, _, rfl, rfl, rfl⟩, rfl⟩
theorem imcWrCasRank0Bank3 (o : EvOp .imc) : Statement (.imcWrCasRank0Bank3 o) := ⟨⟨_, _, rfl, rfl, rfl⟩, rfl⟩
theorem imcWrCasRank0Bank4 (o : EvOp .imc) : Statement (.imcWrCasRank0Bank4 o) := ⟨⟨_, _, rfl, rfl, rfl⟩, rfl⟩
theorem imcWrCasRank0Bank5 (o : EvOp .imc) : Statement (.imcWrCasRank0Bank5 o) := ⟨⟨_, _, rfl, rfl, rfl⟩, rfl⟩
theorem imcWrCasRank0Bank6 (o : EvOp .imc) : Statement (.imcWrCasRank0Bank6 o) := ⟨⟨_, _, rfl, rfl, rfl⟩, rfl⟩
theorem imcWrCasRank0Bank7 (o : EvOp .imc) : Statement (.imcWrCasRank0Bank7 o) := ⟨⟨_, _, rfl, rfl, rfl⟩, rfl⟩
theorem imcWrCasRank0Bank8 (o : EvOp .imc) : Statement (.imcWrCasRank0Bank8 o) := ⟨⟨_, _, rfl, rfl, rfl⟩, rfl⟩
theorem imcWrCasRank0Bank9 (o : EvOp .imc) : Statement (.imcWrCasRank0Bank9 o) := ⟨⟨_, _, rfl, rfl, rfl⟩, rfl⟩
theorem imcWrCasRank0Bank10 (o : EvOp .imc) : Statement (.imcWrCasRank0Bank10 o) := ⟨⟨_, _, rfl, rfl, rfl⟩, rfl⟩
theorem imcWrCasRank0Bank11 (o : EvOp .imc) : Statement (.imcWrCasRank0Bank11 o) := ⟨⟨_, _, rfl, rfl, rfl⟩, rfl⟩
theorem imcWrCasRank0Bank12 (o : EvOp .imc) : Statement (.imcWrCasRank0Bank12 o) := ⟨⟨_, _, rfl, rfl, rfl⟩, rfl⟩
theorem imcWrCasRank0Bank13 (o : EvOp .imc) : Statement (.imcWrCasRank0Bank13 o) := ⟨⟨_, _, rfl, rfl, rfl⟩, rfl⟩
theorem imcWrCasRank0Bank14 (o : EvOp .imc) : Statement (.imcWrCasRank0Bank14 o) := ⟨⟨_, _, rfl, rfl, rfl⟩, rfl⟩
theorem imcWrCasRank0Bank15 (o : EvOp .imc) : Statement (.imcWrCasRank0Bank15 o) := ⟨⟨_, _, rfl, rfl, rfl⟩, rfl⟩
theorem imcWrCasRank0Allbanks (o : EvOp .imc) : Statement (.imcWrCasRank0Allbanks o) := ⟨⟨_, _, rfl, rfl, rfl⟩, rfl⟩
theorem imcWrCasRank0Bankg0 (o : EvOp .imc) : Statement (.imcWrCasRank0Bankg0 o) := ⟨⟨_, _, rfl, rfl, rfl⟩, rfl⟩
theorem imcWrCasRank0Bankg1 (o : EvOp .imc) : Statement (.imcWrCasRank0Bankg1 o) := ⟨⟨_, _, rfl, rfl, rfl⟩, rfl⟩
theorem imcWrCasRank0Bankg2 (o : EvOp .imc) : Statement (.imcWrCasRank0Bankg2 o) := ⟨⟨_, _, rfl, rfl, rfl⟩, rfl⟩
theorem imcWrCasRank0Bankg3 (o : EvOp .imc) : Statement (.imcWrCasRank0Bankg3 o) := ⟨⟨_, _, rfl, rfl, rfl⟩, rfl⟩
theorem imcWrCasRank1Bank0 (o : EvOp .imc) : Statement (.imcWrCasRank1Bank0 o) := ⟨⟨_, _, rfl, rfl, rfl⟩, rfl⟩
theorem imcWrCasRank1Bank1 (o : EvOp .imc) : Statement (.imcWrCasRank1Bank1 o) := ⟨⟨_, _, rfl, rfl, rfl⟩, rfl⟩
theorem imcWrCasRank1Bank2 (o : EvOp .imc) : Statement (.imcWrCasRank1Bank2 o) := ⟨⟨_, _, rfl, rfl, rfl⟩, rfl⟩
theorem imcWrCasRank1Bank3 (o : EvOp .imc) : Statement (.imcWrCasRank1Bank3 o) := ⟨⟨_, _, rfl, rfl, rfl⟩, rfl⟩
theorem imcWrCasRank1Bank4 (o : EvOp .imc) : Statement (.imcWrCasRank1Bank4 o) := ⟨⟨_, _, rfl, rfl, rfl⟩, rfl⟩
theorem imcWrCasRank1Bank5 (o : EvOp .imc) : Statement (.imcWrCasRank1Bank5 o) := ⟨⟨_, _, rfl, rfl, rfl⟩, rfl⟩
theorem imcWrCasRank1Bank6 (o : EvOp .imc) : Statement (.imcWrCasRank1Bank6 o) := ⟨⟨_, _, rfl, rfl, rfl⟩, rfl⟩
theorem imcWrCasRank1Bank7 (o : EvOp .imc) : Statement (.imcWrCasRank1Bank7 o) := ⟨⟨_, _, rfl, rfl, rfl⟩, rfl⟩
theorem imcWrCasRank1Bank8 (o : EvOp .imc) : Statement (.imcWrCasRank1Bank8 o) := ⟨⟨_, _, rfl, rfl, rfl⟩, rfl⟩
theorem imcWrCasRank1Bank9 (o : EvOp .imc) : Statement (.imcWrCasRank1Bank9 o) := ⟨⟨_, _, rfl, rfl, rfl⟩, rfl⟩
theorem imcWrCasRank1Bank10 (o : EvOp .imc) : Statement (.imcWrCasRank1Bank10 o) := ⟨⟨_, _, rfl, rfl, rfl⟩, rfl⟩
theorem imcWrCasRank1Bank11 (o : EvOp .imc) : Statement (.imcWrCasRank1Bank11 o) := ⟨⟨_, _, rfl, rfl, rfl⟩, rfl⟩
theorem imcWrCasRank1Bank12 (o : EvOp .imc) : Statement (.imcWrCasRank1Bank12 o) := ⟨⟨_, _, rfl, rfl, rfl⟩, rfl⟩
theorem imcWrCasRank1Bank13 (o : EvOp .imc) : Statement (.imcWrCasRank1Bank13 o) := ⟨⟨_, _, rfl, rfl, rfl⟩, rfl⟩
theorem imcWrCasRank1Bank14 (o : EvOp .imc) : Statement (.imcWrCasRank1Bank14 o) := ⟨⟨_, _, rfl, rfl, rfl⟩, rfl⟩
theorem imcWrCasRank1Bank15 (o : EvOp .imc) : Statement (.imcWrCasRank1Bank15 o) := ⟨⟨_, _, rfl, rfl, rfl⟩, rfl⟩
theorem imcWrCasRank1Allbanks (o : EvOp .imc) : Statement (.imcWrCasRank1Allbanks o) := ⟨⟨_, _, rfl, rfl, rfl⟩, rfl⟩
theorem imcWrCasRank1Bankg0 (o : EvOp .imc) : Statement (.imcWrCasRank1Bankg0 o) := ⟨⟨_, _, rfl, rfl, rfl⟩, rfl⟩
theorem imcWrCasRank1Bankg1 (o : EvOp .imc) : Statement (.imcWrCasRank1Bankg1 o) := ⟨⟨_, _, rfl, rfl, rfl⟩, rfl⟩
theorem imcWrCasRank1Bankg2 (o : EvOp .imc) : Statement (.imcWrCasRank1Bankg2 o) := ⟨⟨_, _, rfl, rfl, rfl⟩, rfl⟩
theorem imcWrCasRank1Bankg3 (o : EvOp .imc) : Statement (.imcWrCasRank1Bankg3 o) := ⟨⟨_, _, rfl, rfl, rfl⟩, rfl⟩
theorem imcWrCasRank2 (o : EvOp .imc) : Statement (.imcWrCasRank2 o) := ⟨⟨_, _, rfl, rfl, rfl⟩, rfl⟩
theorem imcWrCasRank3 (o : EvOp .imc) : Statement (.imcWrCasRank3 o) := ⟨⟨_, _, rfl, rfl, rfl⟩, rfl⟩
theorem imcWrCasRank4Bank0 (o : EvOp .imc) : Statement (.imcWrCasRank4Bank0 o) := ⟨⟨_, _, rfl, rfl, rfl⟩, rfl⟩
theorem imcWrCasRank4Bank1 (o : EvOp .imc) : Statement (.imcWrCasRank4Bank1 o) := ⟨⟨_, _, rfl, rfl, rfl⟩, rfl⟩
theorem imcWrCasRank4Bank2 (o : EvOp .imc) : Statement (.imcWrCasRank4Bank2 o) := ⟨⟨_, _, rfl, rfl, rfl⟩, rfl⟩
theorem imcWrCasRank4Bank3 (o : EvOp .imc) : Statement (.imcWrCasRank4Bank3 o) := ⟨⟨_, _, rfl, rfl, rfl⟩, rfl⟩
theorem imcWrCasRank4Bank4 (o : EvOp .imc) : Statement (.imcWrCasRank4Bank4 o) := ⟨⟨_, _, rfl, rfl, rfl⟩, rfl⟩
theorem imcWrCasRank4Bank5 (o : EvOp .imc) : Statement (.imcWrCasRank4Bank5 o) := ⟨⟨_, _, rfl, rfl, rfl⟩, rfl⟩
theorem imcWrCasRank4Bank6 (o : EvOp .imc) : Statement (.imcWrCasRank4Bank6 o) := ⟨⟨_, _, rfl, rfl, rfl⟩, rfl⟩
theorem imcWrCasRank4Bank7 (o : EvOp .imc) : Statement (.imcWrCasRank4Bank7 o) := ⟨⟨_, _, rfl, rfl, rfl⟩, rfl⟩
theorem imcWrCasRank4Bank8 (o : EvOp .imc) : Statement (.imcWrCasRank4Bank8 o) := ⟨⟨_, _, rfl, rfl, rfl⟩, rfl⟩
theorem imcWrCasRank4Bank9 (o : EvOp .imc) : Statement (.imcWrCasRank4Bank9 o) := ⟨⟨_, _, rfl, rfl, rfl⟩, rfl⟩
theorem imcWrCasRank4Bank10 (o : EvOp .imc) : Statement (.imcWrCasRank4Bank10 o) := ⟨⟨_, _, rfl, rfl, rfl⟩, rfl⟩
theorem imcWrCasRank4Bank11 (o : EvOp .imc) : Statement (.imcWrCasRank4Bank11 o) := ⟨⟨_, _, rfl, rfl, rfl⟩, rfl⟩
theorem imcWrCasRank4Bank12 (o : EvOp .imc) : Statement (.imcWrCasRank4Bank12 o) := ⟨⟨_, _, rfl, rfl, rfl⟩, rfl⟩
theorem imcWrCasRank4Bank13 (o : EvOp .imc) : Statement (.imcWrCasRank4Bank13 o) := ⟨⟨_, _, rfl, rfl, rfl⟩, rfl⟩
theorem imcWrCasRank4Bank14 (o : EvOp .imc) : Statement (.imcWrCasRank4Bank14 o) := ⟨⟨_, _, rfl, rfl, rfl⟩, rfl⟩
theorem imcWrCasRank4Bank15 (o : EvOp .imc) : Statement (.imcWrCasRank4Bank15 o) := ⟨⟨_, _, rfl, rfl, rfl⟩, rfl⟩
theorem imcWrCasRank4Allbanks (o : EvOp .imc) : Statement (.imcWrCasRank4Allbanks o) := ⟨⟨_, _, rfl, rfl, rfl⟩, rfl⟩
theorem imcWrCasRank4Bankg0 (o : EvOp .imc) : Statement (.imcWrCasRank4Bankg0 o) := ⟨⟨_, _, rfl, rfl, rfl⟩, rfl⟩
theorem imcWrCasRank4Bankg1 (o : EvOp .imc) : Statement (.imcWrCasRank4Bankg1 o) := ⟨⟨_, _, rfl, rfl, rfl⟩, rfl⟩
theorem imcWrCasRank4Bankg2 (o : EvOp .imc) : Statement (.imcWrCasRank4Bankg2 o) := ⟨⟨_, _, rfl, rfl, rfl⟩, rfl⟩
theorem imcWrCasRank4Bankg3 (o : EvOp .imc) : Statement (.imcWrCasRank4Bankg3 o) := ⟨⟨_, _, rfl, rfl, rfl⟩, rfl⟩
theorem imcWrCasRank5Bank0 (o : EvOp .imc) : Statement (.imcWrCasRank5Bank0 o) := ⟨⟨_, _, rfl, rfl, rfl⟩, rfl⟩
theorem imcWrCasRank5Bank1 (o : EvOp .imc) : Statement (.imcWrCasRank5Bank1 o) := ⟨⟨_, _, rfl, rfl, rfl⟩, rfl⟩
theorem imcWrCasRank5Bank2 (o : EvOp .imc) : Statement (.imcWrCasRank5Bank2 o) := ⟨⟨_, _, rfl, rfl, rfl⟩, rfl⟩
theorem imcWrCasRank5Bank3 (o : EvOp .imc) : Statement (.imcWrCasRank5Bank3 o) := ⟨⟨_, _, rfl, rfl, rfl⟩, rfl⟩
theorem imcWrCasRank5Bank4 (o : EvOp .imc) : Statement (.imcWrCasRank5Bank4 o) := ⟨⟨_, _, rfl, rfl, rfl⟩, rfl⟩
theorem imcWrCasRank5Bank5 (o : EvOp .imc) : Statement (.imcWrCasRank5Bank5 o) := ⟨⟨_, _, rfl, rfl, rfl⟩, rfl⟩
theorem imcWrCasRank5Bank6 (o : EvOp .imc) : Statement (.imcWrCasRank5Bank6 o) := ⟨⟨_, _, rfl, rfl, rfl⟩, rfl⟩
theorem imcWrCasRank5Bank7 (o : EvOp .imc) : Statement (.imcWrCasRank5Bank7 o) := ⟨⟨_, _, rfl, rfl, rfl⟩, rfl⟩
theorem imcWrCasRank5Bank8 (o : EvOp .imc) : Statement (.imcWrCasRank5Bank8 o) := ⟨⟨_, _, rfl, rfl, rfl⟩, rfl⟩
theorem imcWrCasRank5Bank9 (o : EvOp .imc) : Statement (.imcWrCasRank5Bank9 o) := ⟨⟨_, _, rfl, rfl, rfl⟩, rfl⟩
theorem imcWrCasRank5Bank10 (o : EvOp .imc) : Statement (.imcWrCasRank5Bank10 o) := ⟨⟨_, _, rfl, rfl, rfl⟩, rfl⟩
theorem imcWrCasRank5Bank11 (o : EvOp .imc) : Statement (.imcWrCasRank5Bank11 o) := ⟨⟨_, _, rfl, rfl, rfl⟩, rfl⟩
theorem imcWrCasRank5Bank12 (o : EvOp .imc) : Statement (.imcWrCasRank5Bank12 o) := ⟨⟨_, _, rfl, rfl, rfl⟩, rfl⟩
theorem imcWrCasRank5Bank13 (o : EvOp .imc) : Statement (.imcWrCasRank5Bank13 o) := ⟨⟨_, _, rfl, rfl, rfl⟩, rfl⟩
theorem imcWrCasRank5Bank14 (o : EvOp .imc) : Statement (.imcWrCasRank5Bank14 o) := ⟨⟨_, _, rfl, rfl, rfl⟩, rfl⟩
theorem imcWrCasRank5Bank15 (o : EvOp .imc) : Statement (.imcWrCasRank5Bank15 o) := ⟨⟨_, _, rfl, rfl, rfl⟩, rfl⟩
theorem imcWrCasRank5Allbanks (o : EvOp .imc) : Statement (.imcWrCasRank5Allbanks o) := ⟨⟨_, _, rfl, rfl, rfl⟩, rfl⟩
theorem imcWrCasRank5Bankg0 (o : EvOp .imc) : Statement (.imcWrCasRank5Bankg0 o) := ⟨⟨_, _, rfl, rfl, rfl⟩, rfl⟩
theorem imcWrCasRank5Bankg1 (o : EvOp .imc) : Statement (.imcWrCasRank5Bankg1 o) := ⟨⟨_, _, rfl, rfl, rfl⟩, rfl⟩
theorem imcWrCasRank5Bankg2 (o : EvOp .imc) : Statement (.imcWrCasRank5Bankg2 o) := ⟨⟨_, _, rfl, rfl, rfl⟩, rfl⟩
theorem imcWrCasRank5Bankg3 (o : EvOp .imc) : Statement (.imcWrCasRank5Bankg3 o) := ⟨⟨_, _, rfl, rfl, rfl⟩, rfl⟩
theorem imcWrCasRank6Bank0 (o : EvOp .imc) : Statement (.imcWrCasRank6Bank0 o) := ⟨⟨_, _, rfl, rfl, rfl⟩, rfl⟩
theorem imcWrCasRank6Bank1 (o : EvOp .imc) : Statement (.imcWrCasRank6Bank1 o) := ⟨⟨_, _, rfl, rfl, rfl⟩, rfl⟩
theorem imcWrCasRank6Bank2 (o : EvOp .imc) : Statement (.imcWrCasRank6Bank2 o) := ⟨⟨_, _, rfl, rfl, rfl⟩, rfl⟩
theorem imcWrCasRank6Bank3 (o : EvOp .imc) : Statement (.imcWrCasRank6Bank3 o) := ⟨⟨_, _, rfl, rfl, rfl⟩, rfl⟩
theorem imcWrCasRank6Bank4 (o : EvOp .imc) : Statement (.imcWrCasRank6Bank4 o) := ⟨⟨_, _, rfl, rfl, rfl⟩, rfl⟩
theorem imcWrCasRank6Bank5 (o : EvOp .imc) : Statement (.imcWrCasRank6Bank5 o) := ⟨⟨_, _, rfl, rfl, rfl⟩, rfl⟩
theorem imcWrCasRank6Bank6 (o : EvOp .imc) : Statement (.imcWrCasRank6Bank6 o) := ⟨⟨_, _, rfl, rfl, rfl⟩, rfl⟩
theorem imcWrCasRank6Bank7 (o : EvOp .imc) : Statement (.imcWrCasRank6Bank7 o) := ⟨⟨_, _, rfl, rfl, rfl⟩, rfl⟩
theorem imcWrCasRank6Bank8 (o : EvOp .imc) : Statement (.imcWrCasRank6Bank8 o) := ⟨⟨_, _, rfl, rfl, rfl⟩, rfl⟩
theorem imcWrCasRank6Bank9 (o : EvOp .imc) : Statement (.imcWrCasRank6Bank9 o) := ⟨⟨_, _, rfl, rfl, rfl⟩, rfl⟩
theorem imcWrCasRank6Bank10 (o : EvOp .imc) : Statement (.imcWrCasRank6Bank10 o) := ⟨⟨_, _, rfl, rfl, rfl⟩, rfl⟩
theorem imcWrCasRank6Bank11 (o : EvOp .imc) : Statement (.imcWrCasRank6Bank11 o) := ⟨⟨_, _, rfl, rfl, rfl⟩, rfl⟩
theorem imcWrCasRank6Bank12 (o : EvOp .imc) : Statement (.imcWrCasRank6Bank12 o) := ⟨⟨_, _, rfl, rfl, rfl⟩, rfl⟩
theorem imcWrCasRank6Bank13 (o : EvOp .imc) : Statement (.imcWrCasRank6Bank13 o) := ⟨⟨_, _, rfl, rfl, rfl⟩, rfl⟩
theorem imcWrCasRank6Bank14 (o : EvOp .imc) : Statement (.imcWrCasRank6Bank14 o) := ⟨⟨_, _, rfl, rfl, rfl⟩, rfl⟩
theorem imcWrCasRank6Bank15 (o : EvOp .imc) : Statement (.imcWrCasRank6Bank15 o) := ⟨⟨_, _, rfl, rfl, rfl⟩, rfl⟩
theorem imcWrCasRank6Allbanks (o : EvOp .imc) : Statement (.imcWrCasRank6Allbanks o) := ⟨⟨_, _, rfl, rfl, rfl⟩, rfl⟩
theorem imcWrCasRank6Bankg0 (o : EvOp .imc) : Statement (.imcWrCasRank6Bankg0 o) := ⟨⟨_, _, rfl, rfl, rfl⟩, rfl⟩
theorem imcWrCasRank6Bankg1 (o : EvOp .imc) : Statement (.imcWrCasRank6Bankg1 o) := ⟨⟨_, _, rfl, rfl, rfl⟩, rfl⟩
theorem imcWrCasRank6Bankg2 (o : EvOp .imc) : Statement (.imcWrCasRank6Bankg2 o) := ⟨⟨_, _, rfl, rfl, rfl⟩, rfl⟩
theorem imcWrCasRank6Bankg3 (o : EvOp .imc) : Statement (.imcWrCasRank6Bankg3 o) := ⟨⟨_, _, rfl, rfl, rfl⟩, rfl⟩
theorem imcWrCasRank7Bank0 (o : EvOp .imc) : Statement (.imcWrCasRank7Bank0 o) := ⟨⟨_, _, rfl, rfl, rfl⟩, rfl⟩
theorem imcWrCasRank7Bank1 (o : EvOp .imc) : Statement (.imcWrCasRank7Bank1 o) := ⟨⟨_, _, rfl, rfl, rfl⟩, rfl⟩
theorem imcWrCasRank7Bank2 (o : EvOp .imc) : Statement (.imcWrCasRank7Bank2 o) := ⟨⟨_, _, rfl, rfl, rfl⟩, rfl⟩
theorem imcWrCasRank7Bank3 (o : EvOp .imc) : Statement (.imcWrCasRank7Bank3 o) := ⟨⟨_, _, rfl, rfl, rfl⟩, rfl⟩
theorem imcWrCasRank7Bank4 (o : EvOp .imc) : Statement (.imcWrCasRank7Bank4 o) := ⟨⟨_, _, rfl, rfl, rfl⟩, rfl⟩
theorem imcWrCasRank7Bank5 (o : EvOp .imc) : Statement (.imcWrCasRank7Bank5 o) := ⟨⟨_, _, rfl, rfl, rfl⟩, rfl⟩
theorem imcWrCasRank7Bank6 (o : EvOp .imc) : Statement (.imcWrCasRank7Bank6 o) := ⟨⟨_, _, rfl, rfl, rfl⟩, rfl⟩
theorem imcWrCasRank7Bank7 (o : EvOp .imc) : Statement (.imcWrCasRank7Bank7 o) := ⟨⟨_, _, rfl, rfl, rfl⟩, rfl⟩
theorem imcWrCasRank7Bank8 (o : EvOp .imc) : Statement (.imcWrCasRank7Bank8 o) := ⟨⟨_, _, rfl, rfl, rfl⟩, rfl⟩
theorem imcWrCasRank7Bank9 (o : EvOp .imc) : Statement (.imcWrCasRank7Bank9 o) := ⟨⟨_, _, rfl, rfl, rfl⟩, rfl⟩
theorem imcWrCasRank7Bank10 (o : EvOp .imc) : Statement (.imcWrCasRank7Bank10 o) := ⟨⟨_, _, rfl, rfl, rfl⟩, rfl⟩
theorem imcWrCasRank7Bank11 (o : EvOp .imc) : Statement (.imcWrCasRank7Bank11 o) := ⟨⟨_, _, rfl, rfl, rfl⟩, rfl⟩
theorem imcWrCasRank7Bank12 (o : EvOp .imc) : Statement (.imcWrCasRank7Bank12 o) := ⟨⟨_, _, rfl, rfl, rfl⟩, rfl⟩
theorem imcWrCasRank7Bank13 (o : EvOp .imc) : Statement (.imcWrCasRank7Bank13 o) := ⟨⟨_, _, rfl, rfl, rfl⟩, rfl⟩
theorem imcWrCasRank7Bank14 (o : EvOp .imc) : Statement (.imcWrCasRank7Bank14 o) := ⟨⟨_, _, rfl, rfl, rfl⟩, rfl⟩
theorem imcWrCasRank7Bank15 (o : EvOp .imc) : Statement (.imcWrCasRank7Bank15 o) := ⟨⟨_, _, rfl, rfl, rfl⟩, rfl⟩
theorem imcWrCasRank7Allbanks (o : EvOp .imc) : Statement (.imcWrCasRank7Allbanks o) := ⟨⟨_, _, rfl, rfl, rfl⟩, rfl⟩
theorem imcWrCasRank7Bankg0 (o : EvOp .imc) : Statement (.imcWrCasRank7Bankg0 o) := ⟨⟨_, _, rfl, rfl, rfl⟩, rfl⟩
theorem imcWrCasRank7Bankg1 (o : EvOp .imc) : Statement (.imcWrCasRank7Bankg1 o) := ⟨⟨_, _, rfl, rfl, rfl⟩, rfl⟩
theorem imcWrCasRank7Bankg2 (o : EvOp .imc) : Statement (.imcWrCasRank7Bankg2 o) := ⟨⟨_, _, rfl, rfl, rfl⟩, rfl⟩
theorem imcWrCasRank7Bankg3 (o : EvOp .imc) : Statement (.imcWrCasRank7Bankg3 o) := ⟨⟨_, _, rfl, rfl, rfl⟩, rfl⟩
theorem irpCacheTotalOccupancyAny (o : EvOp .irp) : Statement (.irpCacheTotalOccupancyAny o) := ⟨⟨_, _, rfl, rfl, rfl⟩, rfl⟩
theorem irpCacheTotalOccupancySource (o : EvOp .irp) : Statement (.irpCacheTotalOccupancySource o) := ⟨⟨_, _, rfl, rfl, rfl⟩, rfl⟩
theorem irpClockticks (o : EvOp .irp) : Statement (.irpClockticks o) := ⟨⟨_, _, rfl, rfl, rfl⟩, rfl⟩
theorem irpCoherentOpsPcirdcur (o : EvOp .irp) : Statement (.irpCoherentOpsPcirdcur o) := ⟨⟨_, _, rfl, rfl, rfl⟩, rfl⟩
theorem irpCoherentOpsCrd (o : EvOp .irp) : Statement (.irpCoherentOpsCrd o) := ⟨⟨_, _, rfl, rfl, rfl⟩, rfl⟩
theorem irpCoherentOpsDrd (o : EvOp .irp) : Statement (.irpCoherentOpsDrd o) := ⟨⟨_, _, rfl, rfl, rfl⟩, rfl⟩
theorem irpCoherentOpsRfo (o : EvOp .irp) : Statement (.irpCoherentOpsRfo o) := ⟨⟨_, _, rfl, rfl, rfl⟩, rfl⟩
theorem irpCoherentOpsPcitom (o : EvOp .irp) : Statement (.irpCoherentOpsPcitom o) := ⟨⟨_, _, rfl, rfl, rfl⟩, rfl⟩
theorem irpCoherentOpsPcidcahint (o : EvOp .irp) : Statement (.irpCoherentOpsPcidcahint o) := ⟨⟨_, _, rfl, rfl, rfl⟩, rfl⟩
theorem irpCoherentOpsWbmtoi (o : EvOp .irp) : Statement (.irpCoherentOpsWbmtoi o) := ⟨⟨_, _, rfl, rfl, rfl⟩, rfl⟩
theorem irpCoherentOpsClflush (o : EvOp .irp) : Statement (.irpCoherentOpsClflush o) := ⟨⟨_, _, rfl, rfl, rfl⟩, rfl⟩
theorem irpMisc0FastReq (o : EvOp .irp) : Statement (.irpMisc0FastReq o) := ⟨⟨_, _, rfl, rfl, rfl⟩, rfl⟩
theorem irpMisc0FastRej (o : EvOp .irp) : Statement (.irpMisc0FastRej o) := ⟨⟨_, _, rfl, rfl, rfl⟩, rfl⟩
theorem irpMisc02ndRdInsert (o : EvOp .irp) : Statement (.irpMisc02ndRdInsert o) := ⟨⟨_, _, rfl, rfl, rfl⟩, rfl⟩
theorem irpMisc02ndWrInsert (o : EvOp .irp) : Statement (.irpMisc02ndWrInsert o) := ⟨⟨_, _, rfl, rfl, rfl⟩, rfl⟩
theorem irpMisc02ndAtomicInsert (o : EvOp .irp) : Statement (.irpMisc02ndAtomicInsert o) := ⟨⟨_, _, rfl, rfl, rfl⟩, rfl⟩
theorem irpMisc0FastXfer (o : EvOp .irp) : Statement (.irpMisc0FastXfer o) := ⟨⟨_, _, rfl, rfl, rfl⟩, rfl⟩
theorem irpMisc0PfAckHint (o : EvOp .irp) : Statement (.irpMisc0PfAckHint o) := ⟨⟨_, _, rfl, rfl, rfl⟩, rfl⟩
theorem irpMisc0PfTimeout (o : EvOp .irp) : Statement (.irpMisc0PfTimeout o) := ⟨⟨_, _, rfl, rfl, rfl⟩, rfl⟩
theorem irpMisc1SlowI (o : EvOp .irp) : Statement (.irpMisc1SlowI o) := ⟨⟨_, _, rfl, rfl, rfl⟩, rfl⟩
theorem irpMisc1SlowS (o : EvOp .irp) : Statement (.irpMisc1SlowS o) := ⟨⟨_, _, rfl, rfl, rfl⟩, rfl⟩
theorem irpMisc1SlowE (o : EvOp .irp) : Statement (.irpMisc1SlowE o) := ⟨⟨_, _, rfl, rfl, rfl⟩, rfl⟩
theorem irpMisc1SlowM (o : EvOp .irp) : Statement (.irpMisc1SlowM o) := ⟨⟨_, _, rfl, rfl, rfl⟩, rfl⟩
theorem irpMisc1LostFwd (o : EvOp .irp) : Statement (.irpMisc1LostFwd o) := ⟨⟨_, _, rfl, rfl, rfl⟩, rfl⟩
theorem irpMisc1SecRcvdInvld (o : EvOp .irp) : Statement (.irpMisc1SecRcvdInvld o) := ⟨⟨_, _, rfl, rfl, rfl⟩, rfl⟩
theorem irpMisc1SecRcvdVld (o : EvOp .irp) : Statement (.irpMisc1SecRcvdVld o) := ⟨⟨_, _, rfl, rfl, rfl⟩, rfl⟩
theorem irpMisc1DataThrottle (o : EvOp .irp) : Statement (.irpMisc1DataThrottle o) := ⟨⟨_, _, rfl, rfl, rfl⟩, rfl⟩
theorem irpRxRAkInserts (o : EvOp .irp) : Statement (.irpRxRAkInserts o) := ⟨⟨_, _, rfl, rfl, rfl⟩, rfl⟩
theorem irpRxRBlDrsCyclesFull (o : EvOp .irp) : Statement (.irpRxRBlDrsCyclesFull o) := ⟨⟨_, _, rfl, rfl, rfl⟩, rfl⟩
theorem irpRxRBlDrsInserts (o : EvOp .irp) : Statement (.irpRxRBlDrsInserts o) := ⟨⟨_, _, rfl, rfl, rfl⟩, rfl⟩
theorem irpRxRBlDrsOccupancy (o : EvOp .irp) : Statement (.irpRxRBlDrsOccupancy o) := ⟨⟨_, _, rfl, rfl, rfl⟩, rfl⟩
theorem irpRxRBlNcbCyclesFull (o : EvOp .irp) : Statement (.irpRxRBlNcbCyclesFull o) := ⟨⟨_, _, rfl, rfl, rfl⟩, rfl⟩
theorem irpRxRBlNcbInserts (o : EvOp .irp) : Statement (.irpRxRBlNcbInserts o) := ⟨⟨_, _, rfl, rfl, rfl⟩, rfl⟩
theorem irpRxRBlNcbOccupancy (o : EvOp .irp) : Statement (.irpRxRBlNcbOccupancy o) := ⟨⟨_, _, rfl, rfl, rfl⟩, rfl⟩
theorem irpRxRBlNcsCyclesFull (o : EvOp .irp) : Statement (.irpRxRBlNcsCyclesFull o) := ⟨⟨_, _, rfl, rfl, rfl⟩, rfl⟩
theorem irpRxRBlNcsInserts (o : EvOp .irp) : Statement (.irpRxRBlNcsInserts o) := ⟨⟨_, _, rfl, rfl, rfl⟩, rfl⟩
theorem irpRxRBlNcsOccupancy (o : EvOp .irp) : Statement (.irpRxRBlNcsOccupancy o) := ⟨⟨_, _, rfl, rfl, rfl⟩, rfl⟩
theorem irpSnoopRespMiss (o : EvOp .irp) : Statement (.irpSnoopRespMiss o) := ⟨⟨_, _, rfl, rfl, rfl⟩, rfl⟩
theorem irpSnoopRespHitI (o : EvOp .irp) : Statement (.irpSnoopRespHitI o) := ⟨⟨_, _, rfl, rfl, rfl⟩, rfl⟩
theorem irpSnoopRespHitEs (o : EvOp .irp) : Statement (.irpSnoopRespHitEs o) := ⟨⟨_, _, rfl, rfl, rfl⟩, rfl⟩
theorem irpSnoopRespHitM (o : EvOp .irp) : Statement (.irpSnoopRespHitM o) := ⟨⟨_, _, rfl, rfl, rfl⟩, rfl⟩
theorem irpSnoopRespSnpcode (o : EvOp .irp) : Statement (.irpSnoopRespSnpcode o) := ⟨⟨_, _, rfl, rfl, rfl⟩, rfl⟩
theorem irpSnoopRespSnpdata (o : EvOp .irp) : Statement (.irpSnoopRespSnpdata o) := ⟨⟨_, _, rfl, rfl, rfl⟩, rfl⟩
theorem irpSnoopRespSnpinv (o : EvOp .irp) : Statement (.irpSnoopRespSnpinv o) := ⟨⟨_, _, rfl, rfl, rfl⟩, rfl⟩
theorem irpTransactionsReads (o : EvOp .irp) : Statement (.irpTransactionsReads o) := ⟨⟨_, _, rfl, rfl, rfl⟩, rfl⟩
theorem irpTransactionsWrites (o : EvOp .irp) : Statement (.irpTransactionsWrites o) := ⟨⟨_, _, rfl, rfl, rfl⟩, rfl⟩
theorem irpTransactionsRdPref (o : EvOp .irp) : Statement (.irpTransactionsRdPref o) := ⟨⟨_, _, rfl, rfl, rfl⟩, rfl⟩
theorem irpTransactionsWrPref (o : EvOp .irp) : Statement (.irpTransactionsWrPref o) := ⟨⟨_, _, rfl, rfl, rfl⟩, rfl⟩
theorem irpTransactionsAtomic (o : EvOp .irp) : Statement (.irpTransactionsAtomic o) := ⟨⟨_, _, rfl, rfl, rfl⟩, rfl⟩
theorem irpTransactionsOther (o : EvOp .irp) : Statement (.irpTransactionsOther o) := ⟨⟨_, _, rfl, rfl, rfl⟩, rfl⟩
theorem irpTransactionsOrderingq (o : EvOp .irp) : Statement (.irpTransactionsOrderingq o) := ⟨⟨_, _, rfl, rfl, rfl⟩, rfl⟩
theorem irpTxRAdStallCreditCycles (o : EvOp .irp) : Statement (.irpTxRAdStallCreditCycles o) := ⟨⟨_, _, rfl, rfl, rfl⟩, rfl⟩
theorem irpTxRBlStallCreditCycles (o : EvOp .irp) : Statement (.irpTxRBlStallCreditCycles o) := ⟨⟨_, _, rfl, rfl, rfl⟩, rfl⟩
theorem irpTxRDataInsertsNcb (o : EvOp .irp) : Statement (.irpTxRDataInsertsNcb o) := ⟨⟨_, _, rfl, rfl, rfl⟩, rfl⟩
theorem irpTxRDataInsertsNcs (o : EvOp .irp) : Statement (.irpTxRDataInsertsNcs o) := ⟨⟨_, _, rfl, rfl, rfl⟩, rfl⟩
theorem irpTxRRequestOccupancy (o : EvOp .irp) : Statement (.irpTxRRequestOccupancy o) := ⟨⟨_, _, rfl, rfl, rfl⟩, rfl⟩
theorem pcuClockticks (o : EvOp .pcu) : Statement (.pcuClockticks o) := ⟨⟨_, _, rfl, rfl, rfl⟩, rfl⟩
theorem pcuCore0TransitionCycles (o : EvOp .pcu) : Statement (.pcuCore0TransitionCycles o) := ⟨⟨_, _, rfl, rfl, rfl⟩, rfl⟩
theorem pcuCore10TransitionCycles (o : EvOp .pcu) : Statement (.pcuCore10TransitionCycles o) := ⟨⟨_, _, rfl, rfl, rfl⟩, rfl⟩
theorem pcuCore11TransitionCycles (o : EvOp .pcu) : Statement (.pcuCore11TransitionCycles o) := ⟨⟨_, _, rfl, rfl, rfl⟩, rfl⟩
theorem pcuCore12TransitionCycles (o : EvOp .pcu) : Statement (.pcuCore12TransitionCycles o) := ⟨⟨_, _, rfl, rfl, rfl⟩, rfl⟩
theorem pcuCore13TransitionCycles (o : EvOp .pcu) : Statement (.pcuCore13TransitionCycles o) := ⟨⟨_, _, rfl, rfl, rfl⟩, rfl⟩
theorem pcuCore14TransitionCycles (o : EvOp .pcu) : Statement (.pcuCore14TransitionCycles o) := ⟨⟨_, _, rfl, rfl, rfl⟩, rfl⟩
theorem pcuCore15TransitionCycles (o : EvOp .pcu) : Statement (.pcuCore15TransitionCycles o) := ⟨⟨_, _, rfl, rfl, rfl⟩, rfl⟩
theorem pcuCore16TransitionCycles (o : EvOp .pcu) : Statement (.pcuCore16TransitionCycles o) := ⟨⟨_, _, rfl, rfl, rfl⟩, rfl⟩
theorem pcuCore17TransitionCycles (o : EvOp .pcu) : Statement (.pcuCore17TransitionCycles o) := ⟨⟨_, _, rfl, rfl, rfl⟩, rfl⟩
theorem pcuCore1TransitionCycles (o : EvOp .pcu) : Statement (.pcuCore1TransitionCycles o) := ⟨⟨_, _, rfl, rfl, rfl⟩, rfl⟩
theorem pcuCore2TransitionCycles (o : EvOp .pcu) : Statement (.pcuCore2TransitionCycles o) := ⟨⟨_, _, rfl, rfl, rfl⟩, rfl⟩
theorem pcuCore3TransitionCycles (o : EvOp .pcu) : Statement (.pcuCore3TransitionCycles o) := ⟨⟨_, _, rfl, rfl, rfl⟩, rfl⟩
theorem pcuCore4TransitionCycles (o : EvOp .pcu) : Statement (.pcuCore4TransitionCycles o) := ⟨⟨_, _, rfl, rfl, rfl⟩, rfl⟩
theorem pcuCore5TransitionCycles (o : EvOp .pcu) : Statement (.pcuCore5TransitionCycles o) := ⟨⟨_, _, rfl, rfl, rfl⟩, rfl⟩
theorem pcuCore6TransitionCycles (o : EvOp .pcu) : Statement (.pcuCore6TransitionCycles o) := ⟨⟨_, _, rfl, rfl, rfl⟩, rfl⟩
theorem pcuCore7TransitionCycles (o : EvOp .pcu) : Statement (.pcuCore7TransitionCycles o) := ⟨⟨_, _, rfl, rfl, rfl⟩, rfl⟩
theorem pcuCore8TransitionCycles (o : EvOp .pcu) : Statement (.pcuCore8TransitionCycles o) := ⟨⟨_, _, rfl, rfl, rfl⟩, rfl⟩
theorem pcuCore9TransitionCycles (o : EvOp .pcu) : Statement (.pcuCore9TransitionCycles o) := ⟨⟨_, _, rfl, rfl, rfl⟩, rfl⟩
theorem pcuDemotionsCore0 (o : EvOp .pcu) : Statement (.pcuDemotionsCore0 o) := ⟨⟨_, _, rfl, rfl, rfl⟩, rfl⟩
theorem pcuDemotionsCore1 (o : EvOp .pcu) : Statement (.pcuDemotionsCore1 o) := ⟨⟨_, _, rfl, rfl, rfl⟩, rfl⟩
theorem pcuDemotionsCore10 (o : EvOp .pcu) : Statement (.pcuDemotionsCore10 o) := ⟨⟨_, _, rfl, rfl, rfl⟩, rfl⟩
theorem pcuDemotionsCore11 (o : EvOp .pcu) : Statement (.pcuDemotionsCore11 o) := ⟨⟨_, _, rfl, rfl, rfl⟩, rfl⟩
theorem pcuDemotionsCore12 (o : EvOp .pcu) : Statement (.pcuDemotionsCore12 o) := ⟨⟨_, _, rfl, rfl, rfl⟩, rfl⟩
theorem pcuDemotionsCore13 (o : EvOp .pcu) : Statement (.pcuDemotionsCore13 o) := ⟨⟨_, _, rfl, rfl, rfl⟩, rfl⟩
theorem pcuDemotionsCore14 (o : EvOp .pcu) : Statement (.pcuDemotionsCore14 o) := ⟨⟨_, _, rfl, rfl, rfl⟩, rfl⟩
theorem pcuDemotionsCore15 (o : EvOp .pcu) : Statement (.pcuDemotionsCore15 o) := ⟨⟨_, _, rfl, rfl, rfl⟩, rfl⟩
theorem pcuDemotionsCore16 (o : EvOp .pcu) : Statement (.pcuDemotionsCore16 o) := ⟨⟨_, _, rfl, rfl, rfl⟩, rfl⟩
theorem pcuDemotionsCore17 (o : EvOp .pcu) : Statement (.pcuDemotionsCore17 o) := ⟨⟨_, _, rfl, rfl, rfl⟩, rfl⟩
theorem pcuDemotionsCore2 (o : EvOp .pcu) : Statement (.pcuDemotionsCore2 o) := ⟨⟨_, _, rfl, rfl, rfl⟩, rfl⟩
theorem pcuDemotionsCore3 (o : EvOp .pcu) : Statement (.pcuDemotionsCore3 o) := ⟨⟨_, _, rfl, rfl, rfl⟩, rfl⟩
theorem pcuDemotionsCore4 (o : EvOp .pcu) : Statement (.pcuDemotionsCore4 o) := ⟨⟨_, _, rfl, rfl, rfl⟩, rfl⟩
theorem pcuDemotionsCore5 (o : EvOp .pcu) : Statement (.pcuDemotionsCore5 o) := ⟨⟨_, _, rfl, rfl, rfl⟩, rfl⟩
theorem pcuDemotionsCore6 (o : EvOp .pcu) : Statement (.pcuDemotionsCore6 o) := ⟨⟨_, _, rfl, rfl, rfl⟩, rfl⟩
theorem pcuDemotionsCore7 (o : EvOp .pcu) : Statement (.pcuDemotionsCore7 o) := ⟨⟨_, _, rfl, rfl, rfl⟩, rfl⟩
theorem pcuDemotionsCore8 (o : EvOp .pcu) : Statement (.pcuDemotionsCore8 o) := ⟨⟨_, _, rfl, rfl, rfl⟩, rfl⟩
theorem pcuDemotionsCore9 (o : EvOp .pcu) : Statement (.pcuDemotionsCore9 o) := ⟨⟨_, _, rfl, rfl, rfl⟩, rfl⟩
theorem pcuFreqBand0Cycles (o : EvOp .pcu) : Statement (.pcuFreqBand0Cycles o) := ⟨⟨_, _, rfl, rfl, rfl⟩, rfl⟩
theorem pcuFreqBand1Cycles (o : EvOp .pcu) : Statement (.pcuFreqBand1Cycles o) := ⟨⟨_, _, rfl, rfl, rfl⟩, rfl⟩
theorem pcuFreqBand2Cycles (o : EvOp .pcu) : Statement (.pcuFreqBand2Cycles o) := ⟨⟨_, _, rfl, rfl, rfl⟩, rfl⟩
theorem pcuFreqBand3Cycles (o : EvOp .pcu) : Statement (.pcuFreqBand3Cycles o) := ⟨⟨_, _, rfl, rfl, rfl⟩, rfl⟩
theorem pcuFreqMaxLimitThermalCycles (o : EvOp .pcu) : Statement (.pcuFreqMaxLimitThermalCycles o) := ⟨⟨_, _, rfl, rfl, rfl⟩, rfl⟩
theorem pcuFreqMaxOsCycles (o : EvOp .pcu) : Statement (.pcuFreqMaxOsCycles o) := ⟨⟨_, _, rfl, rfl, rfl⟩, rfl⟩
theorem pcuFreqMaxPowerCycles (o : EvOp .pcu) : Statement (.pcuFreqMaxPowerCycles o) := ⟨⟨_, _, rfl, rfl, rfl⟩, rfl⟩
theorem pcuFreqMinIoPCycles (o : EvOp .pcu) : Statement (.pcuFreqMinIoPCycles o) := ⟨⟨_, _, rfl, rfl, rfl⟩, rfl⟩
theorem pcuFreqTransCycles (o : EvOp .pcu) : Statement (.pcuFreqTransCycles o) := ⟨⟨_, _, rfl, rfl, rfl⟩, rfl⟩
theorem pcuMemoryPhaseSheddingCycles (o : EvOp .pcu) : Statement (.pcuMemoryPhaseSheddingCycles o) := ⟨⟨_, _, rfl, rfl, rfl⟩, rfl⟩
theorem pcuPkgResidencyC0Cycles (o : EvOp .pcu) : Statement (.pcuPkgResidencyC0Cycles o) := ⟨⟨_, _, rfl, rfl, rfl⟩, rfl⟩
theorem pcuPkgResidencyC1eCycles (o : EvOp .pcu) : Statement (.pcuPkgResidencyC1eCycles o) := ⟨⟨_, _, rfl, rfl, rfl⟩, rfl⟩
theorem pcuPkgResidencyC2eCycles (o : EvOp .pcu) : Statement (.pcuPkgResidencyC2eCycles o) := ⟨⟨_, _, rfl, rfl, rfl⟩, rfl⟩
theorem pcuPkgResidencyC3Cycles (o : EvOp .pcu) : Statement (.pcuPkgResidencyC3Cycles o) := ⟨⟨_, _, rfl, rfl, rfl⟩, rfl⟩
theorem pcuPkgResidencyC6Cycles (o : EvOp .pcu) : Statement (.pcuPkgResidencyC6Cycles o) := ⟨⟨_, _, rfl, rfl, rfl⟩, rfl⟩
theorem pcuPkgResidencyC7Cycles (o : EvOp .pcu) : Statement (.pcuPkgResidencyC7Cycles o) := ⟨⟨_, _, rfl, rfl, rfl⟩, rfl⟩
theorem pcuPowerStateOccupancyCoresC0 (o : EvOp .pcu) : Statement (.pcuPowerStateOccupancyCoresC0 o) := ⟨⟨_, _, rfl, rfl, rfl⟩, rfl⟩
theorem pcuPowerStateOccupancyCoresC3 (o : EvOp .pcu) : Statement (.pcuPowerStateOccupancyCoresC3 o) := ⟨⟨_, _, rfl, rfl, rfl⟩, rfl⟩
theorem pcuPowerStateOccupancyCoresC6 (o : EvOp .pcu) : Statement (.pcuPowerStateOccupancyCoresC6 o) := ⟨⟨_, _, rfl, rfl, rfl⟩, rfl⟩
theorem pcuProchotExternalCycles (o : EvOp .pcu) : Statement (.pcuProchotExternalCycles o) := ⟨⟨_, _, rfl, rfl, rfl⟩, rfl⟩
theorem pcuProchotInternalCycles (o : EvOp .pcu) : Statement (.pcuProchotInternalCycles o) := ⟨⟨_, _, rfl, rfl, rfl⟩, rfl⟩
theorem pcuTotalTransitionCycles (o : EvOp .pcu) : Statement (.pcuTotalTransitionCycles o) := ⟨⟨_, _, rfl, rfl, rfl⟩, rfl⟩
theorem pcuUfsTransitionsRingGv (o : EvOp .pcu) : Statement (.pcuUfsTransitionsRingGv o) := ⟨⟨_, _, rfl, rfl, rfl⟩, rfl⟩
theorem pcuVrHotCycles (o : EvOp .pcu) : Statement (.pcuVrHotCycles o) := ⟨⟨_, _, rfl, rfl, rfl⟩, rfl⟩
theorem qpiClockticks (o : EvOp .qpi) : Statement (.qpiClockticks o) := ⟨⟨_, _, rfl, rfl, rfl⟩, rfl⟩
theorem qpiCtoCount (o : EvOp .qpi) : Statement (.qpiCtoCount o) := ⟨⟨_, _, rfl, rfl, rfl⟩, rfl⟩
theorem qpiDirect2coreSuccessRbtHit (o : EvOp .qpi) : Statement (.qpiDirect2coreSuccessRbtHit o) := ⟨⟨_, _, rfl, rfl, rfl⟩, rfl⟩
theorem qpiDirect2coreFailureCredits (o : EvOp .qpi) : Statement (.qpiDirect2coreFailureCredits o) := ⟨⟨_, _, rfl, rfl, rfl⟩, rfl⟩
theorem qpiDirect2coreFailureRbtHit (o : EvOp .qpi) : Statement (.qpiDirect2coreFailureRbtHit o) := ⟨⟨_, _, rfl, rfl, rfl⟩, rfl⟩
theorem qpiDirect2coreFailureCreditsRbt (o : EvOp .qpi) : Statement (.qpiDirect2coreFailureCreditsRbt o) := ⟨⟨_, _, rfl, rfl, rfl⟩, rfl⟩
theorem qpiDirect2coreFailureMiss (o : EvOp .qpi) : Statement (.qpiDirect2coreFailureMiss o) := ⟨⟨_, _, rfl, rfl, rfl⟩, rfl⟩
theorem qpiDirect2coreFailureCreditsMiss (o : EvOp .qpi) : Statement (.qpiDirect2coreFailureCreditsMiss o) := ⟨⟨_, _, rfl, rfl, rfl⟩, rfl⟩
theorem qpiDirect2coreFailureRbtMiss (o : EvOp .qpi) : Statement (.qpiDirect2coreFailureRbtMiss o) := ⟨⟨_, _, rfl, rfl, rfl⟩, rfl⟩
theorem qpiDirect2coreFailureCreditsRbtMiss (o : EvOp .qpi) : Statement (.qpiDirect2coreFailureCreditsRbtMiss o) := ⟨⟨_, _, rfl, rfl, rfl⟩, rfl⟩
theorem qpiL1PowerCycles (o : EvOp .qpi) : Statement (.qpiL1PowerCycles o) := ⟨⟨_, _, rfl, rfl, rfl⟩, rfl⟩
theorem qpiRxL0PPowerCycles (o : EvOp .qpi) : Statement (.qpiRxL0PPowerCycles o) := ⟨⟨_, _, rfl, rfl, rfl⟩, rfl⟩
theorem qpiRxL0PowerCycles (o : EvOp .qpi) : Statement (.qpiRxL0PowerCycles o) := ⟨⟨_, _, rfl, rfl, rfl⟩, rfl⟩
theorem qpiRxLBypassed (o : EvOp .qpi) : Statement (.qpiRxLBypassed o) := ⟨⟨_, _, rfl, rfl, rfl⟩, rfl⟩
theorem qpiRxLCreditsConsumedVn0Drs (o : EvOp .qpi) : Statement (.qpiRxLCreditsConsumedVn0Drs o) := ⟨⟨_, _, rfl, rfl, rfl⟩, rfl⟩
theorem qpiRxLCreditsConsumedVn0Ncb (o : EvOp .qpi) : Statement (.qpiRxLCreditsConsumedVn0Ncb o) := ⟨⟨_, _, rfl, rfl, rfl⟩, rfl⟩
theorem qpiRxLCreditsConsumedVn0Ncs (o : EvOp .qpi) : Statement (.qpiRxLCreditsConsumedVn0Ncs o) := ⟨⟨_, _, rfl, rfl, rfl⟩, rfl⟩
theorem qpiRxLCreditsConsumedVn0Hom (o : EvOp .qpi) : Statement (.qpiRxLCreditsConsumedVn0Hom o) := ⟨⟨_, _, rfl, rfl, rfl⟩, rfl⟩
theorem qpiRxLCreditsConsumedVn0Snp (o : EvOp .qpi) : Statement (.qpiRxLCreditsConsumedVn0Snp o) := ⟨⟨_, _, rfl, rfl, rfl⟩, rfl⟩
theorem qpiRxLCreditsConsumedVn0Ndr (o : EvOp .qpi) : Statement (.qpiRxLCreditsConsumedVn0Ndr o) := ⟨⟨_, _, rfl, rfl, rfl⟩, rfl⟩
theorem qpiRxLCreditsConsumedVn1Drs (o : EvOp .qpi) : Statement (.qpiRxLCreditsConsumedVn1Drs o) := ⟨⟨_, _, rfl, rfl, rfl⟩, rfl⟩
theorem qpiRxLCreditsConsumedVn1Ncb (o : EvOp .qpi) : Statement (.qpiRxLCreditsConsumedVn1Ncb o) := ⟨⟨_, _, rfl, rfl, rfl⟩, rfl⟩
theorem qpiRxLCreditsConsumedVn1Ncs (o : EvOp .qpi) : Statement (.qpiRxLCreditsConsumedVn1Ncs o) := ⟨⟨_, _, rfl, rfl, rfl⟩, rfl⟩
theorem qpiRxLCreditsConsumedVn1Hom (o : EvOp .qpi) : Statement (.qpiRxLCreditsConsumedVn1Hom o) := ⟨⟨_, _, rfl, rfl, rfl⟩, rfl⟩
theorem qpiRxLCreditsConsumedVn1Snp (o : EvOp .qpi) : Statement (.qpiRxLCreditsConsumedVn1Snp o) := ⟨⟨_, _, rfl, rfl, rfl⟩, rfl⟩
theorem qpiRxLCreditsConsumedVn1Ndr (o : EvOp .qpi) : Statement (.qpiRxLCreditsConsumedVn1Ndr o) := ⟨⟨_, _, rfl, rfl, rfl⟩, rfl⟩
theorem qpiRxLCreditsConsumedVna (o : EvOp .qpi) : Statement (.qpiRxLCreditsConsumedVna o) := ⟨⟨_, _, rfl, rfl, rfl⟩, rfl⟩
theorem qpiRxLCyclesNe (o : EvOp .qpi) : Statement (.qpiRxLCyclesNe o) := ⟨⟨_, _, rfl, rfl, rfl⟩, rfl⟩
theorem qpiRxLFlitsG1Snp (o : EvOp .qpi) : Statement (.qpiRxLFlitsG1Snp o) := ⟨⟨_, _, rfl, rfl, rfl⟩, rfl⟩
theorem qpiRxLFlitsG1HomReq (o : EvOp .qpi) : Statement (.qpiRxLFlitsG1HomReq o) := ⟨⟨_, _, rfl, rfl, rfl⟩, rfl⟩
theorem qpiRxLFlitsG1HomNonreq (o : EvOp .qpi) : Statement (.qpiRxLFlitsG1HomNonreq o) := ⟨⟨_, _, rfl, rfl, rfl⟩, rfl⟩
theorem qpiRxLFlitsG1Hom (o : EvOp .qpi) : Statement (.qpiRxLFlitsG1Hom o) := ⟨⟨_, _, rfl, rfl, rfl⟩, rfl⟩
theorem qpiRxLFlitsG1DrsData (o : EvOp .qpi) : Statement (.qpiRxLFlitsG1DrsData o) := ⟨⟨_, _, rfl, rfl, rfl⟩, rfl⟩
theorem qpiRxLFlitsG1DrsNondata (o : EvOp .qpi) : Statement (.qpiRxLFlitsG1DrsNondata o) := ⟨⟨_, _, rfl, rfl, rfl⟩, rfl⟩
theorem qpiRxLFlitsG1Drs (o : EvOp .qpi) : Statement (.qpiRxLFlitsG1Drs o) := ⟨⟨_, _, rfl, rfl, rfl⟩, rfl⟩
theorem qpiRxLFlitsG2NdrAd (o : EvOp .qpi) : Statement (.qpiRxLFlitsG2NdrAd o) := ⟨⟨_, _, rfl, rfl, rfl⟩, rfl⟩
theorem qpiRxLFlitsG2NdrAk (o : EvOp .qpi) : Statement (.qpiRxLFlitsG2NdrAk o) := ⟨⟨_, _, rfl, rfl, rfl⟩, rfl⟩
theorem qpiRxLFlitsG2NcbData (o : EvOp .qpi) : Statement (.qpiRxLFlitsG2NcbData o) := ⟨⟨_, _, rfl, rfl, rfl⟩, rfl⟩
theorem qpiRxLFlitsG2NcbNondata (o : EvOp .qpi) : Statement (.qpiRxLFlitsG2NcbNondata o) := ⟨⟨_, _, rfl, rfl, rfl⟩, rfl⟩
theorem qpiRxLFlitsG2Ncb (o : EvOp .qpi) : Statement (.qpiRxLFlitsG2Ncb o) := ⟨⟨_, _, rfl, rfl, rfl⟩, rfl⟩
theorem qpiRxLFlitsG2Ncs (o : EvOp .qpi) : Statement (.qpiRxLFlitsG2Ncs o) := ⟨⟨_, _, rfl, rfl, rfl⟩, rfl⟩
theorem qpiRxLInserts (o : EvOp .qpi) : Statement (.qpiRxLInserts o) := ⟨⟨_, _, rfl, rfl, rfl⟩, rfl⟩
theorem qpiRxLInsertsDrsVn0 (o : EvOp .qpi) : Statement (.qpiRxLInsertsDrsVn0 o) := ⟨⟨_, _, rfl, rfl, rfl⟩, rfl⟩
theorem qpiRxLInsertsDrsVn1 (o : EvOp .qpi) : Statement (.qpiRxLInsertsDrsVn1 o) := ⟨⟨_, _, rfl, rfl, rfl⟩, rfl⟩
theorem qpiRxLInsertsHomVn0 (o : EvOp .qpi) : Statement (.qpiRxLInsertsHomVn0 o) := ⟨⟨_, _, rfl, rfl, rfl⟩, rfl⟩
theorem qpiRxLInsertsHomVn1 (o : EvOp .qpi) : Statement (.qpiRxLInsertsHomVn1 o) := ⟨⟨_, _, rfl, rfl, rfl⟩, rfl⟩
theorem qpiRxLInsertsNcbVn0 (o : EvOp .qpi) : Statement (.qpiRxLInsertsNcbVn0 o) := ⟨⟨_, _, rfl, rfl, rfl⟩, rfl⟩
theorem qpiRxLInsertsNcbVn1 (o : EvOp .qpi) : Statement (.qpiRxLInsertsNcbVn1 o) := ⟨⟨_, _, rfl, rfl, rfl⟩, rfl⟩
theorem qpiRxLInsertsNcsVn0 (o : EvOp .qpi) : Statement (.qpiRxLInsertsNcsVn0 o) := ⟨⟨_, _, rfl, rfl, rfl⟩, rfl⟩
theorem qpiRxLInsertsNcsVn1 (o : EvOp .qpi) : Statement (.qpiRxLInsertsNcsVn1 o) := ⟨⟨_, _, rfl, rfl, rfl⟩, rfl⟩
theorem qpiRxLInsertsNdrVn0 (o : EvOp .qpi) : Statement (.qpiRxLInsertsNdrVn0 o) := ⟨⟨_, _, rfl, rfl, rfl⟩, rfl⟩
theorem qpiRxLInsertsNdrVn1 (o : EvOp .qpi) : Statement (.qpiRxLInsertsNdrVn1 o) := ⟨⟨_, _, rfl, rfl, rfl⟩, rfl⟩
theorem qpiRxLInsertsSnpVn0 (o : EvOp .qpi) : Statement (.qpiRxLInsertsSnpVn0 o) := ⟨⟨_, _, rfl, rfl, rfl⟩, rfl⟩
theorem qpiRxLInsertsSnpVn1 (o : EvOp .qpi) : Statement (.qpiRxLInsertsSnpVn1 o) := ⟨⟨_, _, rfl, rfl, rfl⟩, rfl⟩
theorem qpiRxLOccupancy (o : EvOp .qpi) : Statement (.qpiRxLOccupancy o) := ⟨⟨_, _, rfl, rfl, rfl⟩, rfl⟩
theorem qpiRxLOccupancyDrsVn0 (o : EvOp .qpi) : Statement (.qpiRxLOccupancyDrsVn0 o) := ⟨⟨_, _, rfl, rfl, rfl⟩, rfl⟩
theorem qpiRxLOccupancyDrsVn1 (o : EvOp .qpi) : Statement (.qpiRxLOccupancyDrsVn1 o) := ⟨⟨_, _, rfl, rfl, rfl⟩, rfl⟩
theorem qpiRxLOccupancyHomVn0 (o : EvOp .qpi) : Statement (.qpiRxLOccupancyHomVn0 o) := ⟨⟨_, _, rfl, rfl, rfl⟩, rfl⟩
theorem qpiRxLOccupancyHomVn1 (o : EvOp .qpi) : Statement (.qpiRxLOccupancyHomVn1 o) := ⟨⟨_, _, rfl, rfl, rfl⟩, rfl⟩
theorem qpiRxLOccupancyNcbVn0 (o : EvOp .qpi) : Statement (.qpiRxLOccupancyNcbVn0 o) := ⟨⟨_, _, rfl, rfl, rfl⟩, rfl⟩
theorem qpiRxLOccupancyNcbVn1 (o : EvOp .qpi) : Statement (.qpiRxLOccupancyNcbVn1 o) := ⟨⟨_, _, rfl, rfl, rfl⟩, rfl⟩
theorem qpiRxLOccupancyNcsVn0 (o : EvOp .qpi) : Statement (.qpiRxLOccupancyNcsVn0 o) := ⟨⟨_, _, rfl, rfl, rfl⟩, rfl⟩
theorem qpiRxLOccupancyNcsVn1 (o : EvOp .qpi) : Statement (.qpiRxLOccupancyNcsVn1 o) := ⟨⟨_, _, rfl, rfl, rfl⟩, rfl⟩
theorem qpiRxLOccupancyNdrVn0 (o : EvOp .qpi) : Statement (.qpiRxLOccupancyNdrVn0 o) := ⟨⟨_, _, rfl, rfl, rfl⟩, rfl⟩
theorem qpiRxLOccupancyNdrVn1 (o : EvOp .qpi) : Statement (.qpiRxLOccupancyNdrVn1 o) := ⟨⟨_, _, rfl, rfl, rfl⟩, rfl⟩
theorem qpiRxLOccupancySnpVn0 (o : EvOp .qpi) : Statement (.qpiRxLOccupancySnpVn0 o) := ⟨⟨_, _, rfl, rfl, rfl⟩, rfl⟩
theorem qpiRxLOccupancySnpVn1 (o : EvOp .qpi) : Statement (.qpiRxLOccupancySnpVn1 o) := ⟨⟨_, _, rfl, rfl, rfl⟩, rfl⟩
theorem qpiTxL0PPowerCycles (o : EvOp .qpi) : Statement (.qpiTxL0PPowerCycles o) := ⟨⟨_, _, rfl, rfl, rfl⟩, rfl⟩
theorem qpiTxL0PowerCycles (o : EvOp .qpi) : Statement (.qpiTxL0PowerCycles o) := ⟨⟨_, _, rfl, rfl, rfl⟩, rfl⟩
theorem qpiTxLBypassed (o : EvOp .qpi) : Statement (.qpiTxLBypassed o) := ⟨⟨_, _, rfl, rfl, rfl⟩, rfl⟩
theorem qpiTxLCyclesNe (o : EvOp .qpi) : Statement (.qpiTxLCyclesNe o) := ⟨⟨_, _, rfl, rfl, rfl⟩, rfl⟩
theorem qpiTxLFlitsG0Data (o : EvOp .qpi) : Statement (.qpiTxLFlitsG0Data o) := ⟨⟨_, _, rfl, rfl, rfl⟩, rfl⟩
theorem qpiTxLFlitsG0NonData (o : EvOp .qpi) : Statement (.qpiTxLFlitsG0NonData o) := ⟨⟨_, _, rfl, rfl, rfl⟩, rfl⟩
theorem qpiTxLFlitsG1Snp (o : EvOp .qpi) : Statement (.qpiTxLFlitsG1Snp o) := ⟨⟨_, _, rfl, rfl, rfl⟩, rfl⟩
theorem qpiTxLFlitsG1HomReq (o : EvOp .qpi) : Statement (.qpiTxLFlitsG1HomReq o) := ⟨⟨_, _, rfl, rfl, rfl⟩, rfl⟩
theorem qpiTxLFlitsG1HomNonreq (o : EvOp .qpi) : Statement (.qpiTxLFlitsG1HomNonreq o) := ⟨⟨_, _, rfl, rfl, rfl⟩, rfl⟩
theorem qpiTxLFlitsG1Hom (o : EvOp .qpi) : Statement (.qpiTxLFlitsG1Hom o) := ⟨⟨_, _, rfl, rfl, rfl⟩, rfl⟩
theorem qpiTxLFlitsG1DrsData (o : EvOp .qpi) : Statement (.qpiTxLFlitsG1DrsData o) := ⟨⟨_, _, rfl, rfl, rfl⟩, rfl⟩
theorem qpiTxLFlitsG1DrsNondata (o : EvOp .qpi) : Statement (.qpiTxLFlitsG1DrsNondata o) := ⟨⟨_, _, rfl, rfl, rfl⟩, rfl⟩
theorem qpiTxLFlitsG1Drs (o : EvOp .qpi) : Statement (.qpiTxLFlitsG1Drs o) := ⟨⟨_, _, rfl, rfl, rfl⟩, rfl⟩
theorem qpiTxLFlitsG2NdrAd (o : EvOp .qpi) : Statement (.qpiTxLFlitsG2NdrAd o) := ⟨⟨_, _, rfl, rfl, rfl⟩, rfl⟩
theorem qpiTxLFlitsG2NdrAk (o : EvOp .qpi) : Statement (.qpiTxLFlitsG2NdrAk o) := ⟨⟨_, _, rfl, rfl, rfl⟩, rfl⟩
theorem qpiTxLFlitsG2NcbData (o : EvOp .qpi) : Statement (.qpiTxLFlitsG2NcbData o) := ⟨⟨_, _, rfl, rfl, rfl⟩, rfl⟩
theorem qpiTxLFlitsG2NcbNondata (o : EvOp .qpi) : Statement (.qpiTxLFlitsG2NcbNondata o) := ⟨⟨_, _, rfl, rfl, rfl⟩, rfl⟩
theorem qpiTxLFlitsG2Ncb (o : EvOp .qpi) : Statement (.qpiTxLFlitsG2Ncb o) := ⟨⟨_, _, rfl, rfl, rfl⟩, rfl⟩
theorem qpiTxLFlitsG2Ncs (o : EvOp .qpi) : Statement (.qpiTxLFlitsG2Ncs o) := ⟨⟨_, _, rfl, rfl, rfl⟩, rfl⟩
theorem qpiTxLInserts (o : EvOp .qpi) : Statement (.qpiTxLInserts o) := ⟨⟨_, _, rfl, rfl, rfl⟩, rfl⟩
theorem qpiTxLOccupancy (o : EvOp .qpi) : Statement (.qpiTxLOccupancy o) := ⟨⟨_, _, rfl, rfl, rfl⟩, rfl⟩
theorem qpiTxRAdHomCreditAcquiredVn0 (o : EvOp .qpi) : Statement (.qpiTxRAdHomCreditAcquiredVn0 o) := ⟨⟨_, _, rfl, rfl, rfl⟩, rfl⟩
theorem qpiTxRAdHomCreditAcquiredVn1 (o : EvOp .qpi) : Statement (.qpiTxRAdHomCreditAcquiredVn1 o) := ⟨⟨_, _, rfl, rfl, rfl⟩, rfl⟩
theorem qpiTxRAdHomCreditOccupancyVn0 (o : EvOp .qpi) : Statement (.qpiTxRAdHomCreditOccupancyVn0 o) := ⟨⟨_, _, rfl, rfl, rfl⟩, rfl⟩
theorem qpiTxRAdHomCreditOccupancyVn1 (o : EvOp .qpi) : Statement (.qpiTxRAdHomCreditOccupancyVn1 o) := ⟨⟨_, _, rfl, rfl, rfl⟩, rfl⟩
theorem qpiTxRAdNdrCreditAcquiredVn0 (o : EvOp .qpi) : Statement (.qpiTxRAdNdrCreditAcquiredVn0 o) := ⟨⟨_, _, rfl, rfl, rfl⟩, rfl⟩
theorem qpiTxRAdNdrCreditAcquiredVn1 (o : EvOp .qpi) : Statement (.qpiTxRAdNdrCreditAcquiredVn1 o) := ⟨⟨_, _, rfl, rfl, rfl⟩, rfl⟩
theorem qpiTxRAdNdrCreditOccupancyVn0 (o : EvOp .qpi) : Statement (.qpiTxRAdNdrCreditOccupancyVn0 o) := ⟨⟨_, _, rfl, rfl, rfl⟩, rfl⟩
theorem qpiTxRAdNdrCreditOccupancyVn1 (o : EvOp .qpi) : Statement (.qpiTxRAdNdrCreditOccupancyVn1 o) := ⟨⟨_, _, rfl, rfl, rfl⟩, rfl⟩
theorem qpiTxRAdSnpCreditAcquiredVn0 (o : EvOp .qpi) : Statement (.qpiTxRAdSnpCreditAcquiredVn0 o) := ⟨⟨_, _, rfl, rfl, rfl⟩, rfl⟩
theorem qpiTxRAdSnpCreditAcquiredVn1 (o : EvOp .qpi) : Statement (.qpiTxRAdSnpCreditAcquiredVn1 o) := ⟨⟨_, _, rfl, rfl, rfl⟩, rfl⟩
theorem qpiTxRAdSnpCreditOccupancyVn0 (o : EvOp .qpi) : Statement (.qpiTxRAdSnpCreditOccupancyVn0 o) := ⟨⟨_, _, rfl, rfl, rfl⟩, rfl⟩
theorem qpiTxRAdSnpCreditOccupancyVn1 (o : EvOp .qpi) : Statement (.qpiTxRAdSnpCreditOccupancyVn1 o) := ⟨⟨_, _, rfl, rfl, rfl⟩, rfl⟩
theorem qpiTxRAkNdrCreditAcquired (o : EvOp .qpi) : Statement (.qpiTxRAkNdrCreditAcquired o) := ⟨⟨_, _, rfl, rfl, rfl⟩, rfl⟩
theorem qpiTxRAkNdrCreditOccupancy (o : EvOp .qpi) : Statement (.qpiTxRAkNdrCreditOccupancy o) := ⟨⟨_, _, rfl, rfl, rfl⟩, rfl⟩
theorem qpiTxRBlDrsCreditAcquiredVn0 (o : EvOp .qpi) : Statement (.qpiTxRBlDrsCreditAcquiredVn0 o) := ⟨⟨_, _, rfl, rfl, rfl⟩, rfl⟩
theorem qpiTxRBlDrsCreditAcquiredVn1 (o : EvOp .qpi) : Statement (.qpiTxRBlDrsCreditAcquiredVn1 o) := ⟨⟨_, _, rfl, rfl, rfl⟩, rfl⟩
theorem qpiTxRBlDrsCreditAcquiredVnShr (o : EvOp .qpi) : Statement (.qpiTxRBlDrsCreditAcquiredVnShr o) := ⟨⟨_, _, rfl, rfl, rfl⟩, rfl⟩
theorem qpiTxRBlDrsCreditOccupancyVn0 (o : EvOp .qpi) : Statement (.qpiTxRBlDrsCreditOccupancyVn0 o) := ⟨⟨_, _, rfl, rfl, rfl⟩, rfl⟩
theorem qpiTxRBlDrsCreditOccupancyVn1 (o : EvOp .qpi) : Statement (.qpiTxRBlDrsCreditOccupancyVn1 o) := ⟨⟨_, _, rfl, rfl, rfl⟩, rfl⟩
theorem qpiTxRBlDrsCreditOccupancyVnShr (o : EvOp .qpi) : Statement (.qpiTxRBlDrsCreditOccupancyVnShr o) := ⟨⟨_, _, rfl, rfl, rfl⟩, rfl⟩
theorem qpiTxRBlNcbCreditAcquiredVn0 (o : EvOp .qpi) : Statement (.qpiTxRBlNcbCreditAcquiredVn0 o) := ⟨⟨_, _, rfl, rfl, rfl⟩, rfl⟩
theorem qpiTxRBlNcbCreditAcquiredVn1 (o : EvOp .qpi) : Statement (.qpiTxRBlNcbCreditAcquiredVn1 o) := ⟨⟨_, _, rfl, rfl, rfl⟩, rfl⟩
theorem qpiTxRBlNcbCreditOccupancyVn0 (o : EvOp .qpi) : Statement (.qpiTxRBlNcbCreditOccupancyVn0 o) := ⟨⟨_, _, rfl, rfl, rfl⟩, rfl⟩
theorem qpiTxRBlNcbCreditOccupancyVn1 (o : EvOp .qpi) : Statement (.qpiTxRBlNcbCreditOccupancyVn1 o) := ⟨⟨_, _, rfl, rfl, rfl⟩, rfl⟩
theorem qpiTxRBlNcsCreditAcquiredVn0 (o : EvOp .qpi) : Statement (.qpiTxRBlNcsCreditAcquiredVn0 o) := ⟨⟨_, _, rfl, rfl, rfl⟩, rfl⟩
theorem qpiTxRBlNcsCreditAcquiredVn1 (o : EvOp .qpi) : Statement (.qpiTxRBlNcsCreditAcquiredVn1 o) := ⟨⟨_, _, rfl, rfl, rfl⟩, rfl⟩
theorem qpiTxRBlNcsCreditOccupancyVn0 (o : EvOp .qpi) : Statement (.qpiTxRBlNcsCreditOccupancyVn0 o) := ⟨⟨_, _, rfl, rfl, rfl⟩, rfl⟩
theorem qpiTxRBlNcsCreditOccupancyVn1 (o : EvOp .qpi) : Statement (.qpiTxRBlNcsCreditOccupancyVn1 o) := ⟨⟨_, _, rfl, rfl, rfl⟩, rfl⟩
theorem qpiVnaCreditReturns (o : EvOp .qpi) : Statement (.qpiVnaCreditReturns o) := ⟨⟨_, _, rfl, rfl, rfl⟩, rfl⟩
theorem qpiVnaCreditReturnOccupancy (o : EvOp .qpi) : Statement (.qpiVnaCreditReturnOccupancy o) := ⟨⟨_, _, rfl, rfl, rfl⟩, rfl⟩
theorem r2PCIeClockticks (o : EvOp .r2) : Statement (.r2PCIeClockticks o) := ⟨⟨_, _, rfl, rfl, rfl⟩, rfl⟩
theorem r2PCIeIioCreditPrqQpi0 (o : EvOp .r2) : Statement (.r2PCIeIioCreditPrqQpi0 o) := ⟨⟨_, _, rfl, rfl, rfl⟩, rfl⟩
theorem r2PCIeIioCreditPrqQpi1 (o : EvOp .r2) : Statement (.r2PCIeIioCreditPrqQpi1 o) := ⟨⟨_, _, rfl, rfl, rfl⟩, rfl⟩
theorem r2PCIeIioCreditIsochQpi0 (o : EvOp .r2) : Statement (.r2PCIeIioCreditIsochQpi0 o) := ⟨⟨_, _, rfl, rfl, rfl⟩, rfl⟩
theorem r2PCIeIioCreditIsochQpi1 (o : EvOp .r2) : Statement (.r2PCIeIioCreditIsochQpi1 o) := ⟨⟨_, _, rfl, rfl, rfl⟩, rfl⟩
theorem r2PCIeRingAdUsedCwEven (o : EvOp .r2) : Statement (.r2PCIeRingAdUsedCwEven o) := ⟨⟨_, _, rfl, rfl, rfl⟩, rfl⟩
theorem r2PCIeRingAdUsedCwOdd (o : EvOp .r2) : Statement (.r2PCIeRingAdUsedCwOdd o) := ⟨⟨_, _, rfl, rfl, rfl⟩, rfl⟩
theorem r2PCIeRingAdUsedCw (o : EvOp .r2) : Statement (.r2PCIeRingAdUsedCw o) := ⟨⟨_, _, rfl, rfl, rfl⟩, rfl⟩
theorem r2PCIeRingAdUsedCcwEven (o : EvOp .r2) : Statement (.r2PCIeRingAdUsedCcwEven o) := ⟨⟨_, _, rfl, rfl, rfl⟩, rfl⟩
theorem r2PCIeRingAdUsedCcwOdd (o : EvOp .r2) : Statement (.r2PCIeRingAdUsedCcwOdd o) := ⟨⟨_, _, rfl, rfl, rfl⟩, rfl⟩
theorem r2PCIeRingAdUsedCcw (o : EvOp .r2) : Statement (.r2PCIeRingAdUsedCcw o) := ⟨⟨_, _, rfl, rfl, rfl⟩, rfl⟩
theorem r2PCIeRingAkBouncesUp (o : EvOp .r2) : Statement (.r2PCIeRingAkBouncesUp o) := ⟨⟨_, _, rfl, rfl, rfl⟩, rfl⟩
theorem r2PCIeRingAkBouncesDn (o : EvOp .r2) : Statement (.r2PCIeRingAkBouncesDn o) := ⟨⟨_, _, rfl, rfl, rfl⟩, rfl⟩
theorem r2PCIeRingAkUsedCwEven (o : EvOp .r2) : Statement (.r2PCIeRingAkUsedCwEven o) := ⟨⟨_, _, rfl, rfl, rfl⟩, rfl⟩
theorem r2PCIeRingAkUsedCwOdd (o : EvOp .r2) : Statement (.r2PCIeRingAkUsedCwOdd o) := ⟨⟨_, _, rfl, rfl, rfl⟩, rfl⟩
theorem r2PCIeRingAkUsedCw (o : EvOp .r2) : Statement (.r2PCIeRingAkUsedCw o) := ⟨⟨_, _, rfl, rfl, rfl⟩, rfl⟩
theorem r2PCIeRingAkUsedCcwEven (o : EvOp .r2) : Statement (.r2PCIeRingAkUsedCcwEven o) := ⟨⟨_, _, rfl, rfl, rfl⟩, rfl⟩
theorem r2PCIeRingAkUsedCcwOdd (o : EvOp .r2) : Statement (.r2PCIeRingAkUsedCcwOdd o) := ⟨⟨_, _, rfl, rfl, rfl⟩, rfl⟩
theorem r2PCIeRingAkUsedCcw (o : EvOp .r2) : Statement (.r2PCIeRingAkUsedCcw o) := ⟨⟨_, _, rfl, rfl, rfl⟩, rfl⟩
theorem r2PCIeRingBlUsedCwEven (o : EvOp .r2) : Statement (.r2PCIeRingBlUsedCwEven o) := ⟨⟨_, _, rfl, rfl, rfl⟩, rfl⟩
theorem r2PCIeRingBlUsedCwOdd (o : EvOp .r2) : Statement (.r2PCIeRingBlUsedCwOdd o) := ⟨⟨_, _, rfl, rfl, rfl⟩, rfl⟩
theorem r2PCIeRingBlUsedCw (o : EvOp .r2) : Statement (.r2PCIeRingBlUsedCw o) := ⟨⟨_, _, rfl, rfl, rfl⟩, rfl⟩
theorem r2PCIeRingBlUsedCcwEven (o : EvOp .r2) : Statement (.r2PCIeRingBlUsedCcwEven o) := ⟨⟨_, _, rfl, rfl, rfl⟩, rfl⟩
theorem r2PCIeRingBlUsedCcwOdd (o : EvOp .r2) : Statement (.r2PCIeRingBlUsedCcwOdd o) := ⟨⟨_, _, rfl, rfl, rfl⟩, rfl⟩
theorem r2PCIeRingBlUsedCcw (o : EvOp .r2) : Statement (.r2PCIeRingBlUsedCcw o) := ⟨⟨_, _, rfl, rfl, rfl⟩, rfl⟩
theorem r2PCIeRingIvUsedCw (o : EvOp .r2) : Statement (.r2PCIeRingIvUsedCw o) := ⟨⟨_, _, rfl, rfl, rfl⟩, rfl⟩
theorem r2PCIeRingIvUsedCcw (o : EvOp .r2) : Statement (.r2PCIeRingIvUsedCcw o) := ⟨⟨_, _, rfl, rfl, rfl⟩, rfl⟩
theorem r2PCIeRingIvUsedAny (o : EvOp .r2) : Statement (.r2PCIeRingIvUsedAny o) := ⟨⟨_, _, rfl, rfl, rfl⟩, rfl⟩
theorem r2PCIeRxRCyclesNeNcb (o : EvOp .r2) : Statement (.r2PCIeRxRCyclesNeNcb o) := ⟨⟨_, _, rfl, rfl, rfl⟩, rfl⟩
theorem r2PCIeRxRCyclesNeNcs (o : EvOp .r2) : Statement (.r2PCIeRxRCyclesNeNcs o) := ⟨⟨_, _, rfl, rfl, rfl⟩, rfl⟩
theorem r2PCIeRxRInsertsNcb (o : EvOp .r2) : Statement (.r2PCIeRxRInsertsNcb o) := ⟨⟨_, _, rfl, rfl, rfl⟩, rfl⟩
theorem r2PCIeRxRInsertsNcs (o : EvOp .r2) : Statement (.r2PCIeRxRInsertsNcs o) := ⟨⟨_, _, rfl, rfl, rfl⟩, rfl⟩
theorem r2PCIeRxROccupancyDrs (o : EvOp .r2) : Statement (.r2PCIeRxROccupancyDrs o) := ⟨⟨_, _, rfl, rfl, rfl⟩, rfl⟩
theorem r2PCIeSbo0CreditsAcquiredAd (o : EvOp .r2) : Statement (.r2PCIeSbo0CreditsAcquiredAd o) := ⟨⟨_, _, rfl, rfl, rfl⟩, rfl⟩
theorem r2PCIeSbo0CreditsAcquiredBl (o : EvOp .r2) : Statement (.r2PCIeSbo0CreditsAcquiredBl o) := ⟨⟨_, _, rfl, rfl, rfl⟩, rfl⟩
theorem r2PCIeStallNoSboCreditSbo0Ad (o : EvOp .r2) : Statement (.r2PCIeStallNoSboCreditSbo0Ad o) := ⟨⟨_, _, rfl, rfl, rfl⟩, rfl⟩
theorem r2PCIeStallNoSboCreditSbo1Ad (o : EvOp .r2) : Statement (.r2PCIeStallNoSboCreditSbo1Ad o) := ⟨⟨_, _, rfl, rfl, rfl⟩, rfl⟩
theorem r2PCIeStallNoSboCreditSbo0Bl (o : EvOp .r2) : Statement (.r2PCIeStallNoSboCreditSbo0Bl o) := ⟨⟨_, _, rfl, rfl, rfl⟩, rfl⟩
theorem r2PCIeStallNoSboCreditSbo1Bl (o : EvOp .r2) : Statement (.r2PCIeStallNoSboCreditSbo1Bl o) := ⟨⟨_, _, rfl, rfl, rfl⟩, rfl⟩
theorem r2PCIeTxRNackCwDnAd (o : EvOp .r2) : Statement (.r2PCIeTxRNackCwDnAd o) := ⟨⟨_, _, rfl, rfl, rfl⟩, rfl⟩
theorem r2PCIeTxRNackCwDnBl (o : EvOp .r2) : Statement (.r2PCIeTxRNackCwDnBl o) := ⟨⟨_, _, rfl, rfl, rfl⟩, rfl⟩
theorem r2PCIeTxRNackCwDnAk (o : EvOp .r2) : Statement (.r2PCIeTxRNackCwDnAk o) := ⟨⟨_, _, rfl, rfl, rfl⟩, rfl⟩
theorem r2PCIeTxRNackCwUpAd (o : EvOp .r2) : Statement (.r2PCIeTxRNackCwUpAd o) := ⟨⟨_, _, rfl, rfl, rfl⟩, rfl⟩
theorem r2PCIeTxRNackCwUpBl (o : EvOp .r2) : Statement (.r2PCIeTxRNackCwUpBl o) := ⟨⟨_, _, rfl, rfl, rfl⟩, rfl⟩
theorem r2PCIeTxRNackCwUpAk (o : EvOp .r2) : Statement (.r2PCIeTxRNackCwUpAk o) := ⟨⟨_, _, rfl, rfl, rfl⟩, rfl⟩
theorem r3qpiClockticks (o : EvOp .r3) : Statement (.r3qpiClockticks o) := ⟨⟨_, _, rfl, rfl, rfl⟩, rfl⟩
theorem r3qpiCHiAdCreditsEmptyCbo8 (o : EvOp .r3) : Statement (.r3qpiCHiAdCreditsEmptyCbo8 o) := ⟨⟨_, _, rfl, rfl, rfl⟩, rfl⟩
theorem r3qpiCHiAdCreditsEmptyCb09 (o : EvOp .r3) : Statement (.r3qpiCHiAdCreditsEmptyCb09 o) := ⟨⟨_, _, rfl, rfl, rfl⟩, rfl⟩
theorem r3qpiCHiAdCreditsEmptyCbo10 (o : EvOp .r3) : Statement (.r3qpiCHiAdCreditsEmptyCbo10 o) := ⟨⟨_, _, rfl, rfl, rfl⟩, rfl⟩
theorem r3qpiCHiAdCreditsEmptyCb011 (o : EvOp .r3) : Statement (.r3qpiCHiAdCreditsEmptyCb011 o) := ⟨⟨_, _, rfl, rfl, rfl⟩, rfl⟩
theorem r3qpiCHiAdCreditsEmptyCbo12 (o : EvOp .r3) : Statement (.r3qpiCHiAdCreditsEmptyCbo12 o) := ⟨⟨_, _, rfl, rfl, rfl⟩, rfl⟩
theorem r3qpiCHiAdCreditsEmptyCbo13 (o : EvOp .r3) : Statement (.r3qpiCHiAdCreditsEmptyCbo13 o) := ⟨⟨_, _, rfl, rfl, rfl⟩, rfl⟩
theorem r3qpiCHiAdCreditsEmptyCbo1416 (o : EvOp .r3) : Statement (.r3qpiCHiAdCreditsEmptyCbo1416 o) := ⟨⟨_, _, rfl, rfl, rfl⟩, rfl⟩
theorem r3qpiCHiAdCreditsEmptyCbo1517 (o : EvOp .r3) : Statement (.r3qpiCHiAdCreditsEmptyCbo1517 o) := ⟨⟨_, _, rfl, rfl, rfl⟩, rfl⟩
theorem r3qpiCLoAdCreditsEmptyCbo0 (o : EvOp .r3) : Statement (.r3qpiCLoAdCreditsEmptyCbo0 o) := ⟨⟨_, _, rfl, rfl, rfl⟩, rfl⟩
theorem r3qpiCLoAdCreditsEmptyCbo1 (o : EvOp .r3) : Statement (.r3qpiCLoAdCreditsEmptyCbo1 o) := ⟨⟨_, _, rfl, rfl, rfl⟩, rfl⟩
theorem r3qpiCLoAdCreditsEmptyCbo2 (o : EvOp .r3) : Statement (.r3qpiCLoAdCreditsEmptyCbo2 o) := ⟨⟨_, _, rfl, rfl, rfl⟩, rfl⟩
theorem r3qpiCLoAdCreditsEmptyCbo3 (o : EvOp .r3) : Statement (.r3qpiCLoAdCreditsEmptyCbo3 o) := ⟨⟨_, _, rfl, rfl, rfl⟩, rfl⟩
theorem r3qpiCLoAdCreditsEmptyCb04 (o : EvOp .r3) : Statement (.r3qpiCLoAdCreditsEmptyCb04 o) := ⟨⟨_, _, rfl, rfl, rfl⟩, rfl⟩
theorem r3qpiCLoAdCreditsEmptyCb05 (o : EvOp .r3) : Statement (.r3qpiCLoAdCreditsEmptyCb05 o) := ⟨⟨_, _, rfl, rfl, rfl⟩, rfl⟩
theorem r3qpiCLoAdCreditsEmptyCb06 (o : EvOp .r3) : Statement (.r3qpiCLoAdCreditsEmptyCb06 o) := ⟨⟨_, _, rfl, rfl, rfl⟩, rfl⟩
theorem r3qpiCLoAdCreditsEmptyCb07 (o : EvOp .r3) : Statement (.r3qpiCLoAdCreditsEmptyCb07 o) := ⟨⟨_, _, rfl, rfl, rfl⟩, rfl⟩
theorem r3qpiHaR2BlCreditsEmptyHa0 (o : EvOp .r3) : Statement (.r3qpiHaR2BlCreditsEmptyHa0 o) := ⟨⟨_, _, rfl, rfl, rfl⟩, rfl⟩
theorem r3qpiHaR2BlCreditsEmptyHa1 (o : EvOp .r3) : Statement (.r3qpiHaR2BlCreditsEmptyHa1 o) := ⟨⟨_, _, rfl, rfl, rfl⟩, rfl⟩
theorem r3qpiHaR2BlCreditsEmptyR2Ncb (o : EvOp .r3) : Statement (.r3qpiHaR2BlCreditsEmptyR2Ncb o) := ⟨⟨_, _, rfl, rfl, rfl⟩, rfl⟩
theorem r3qpiHaR2BlCreditsEmptyR2Ncs (o : EvOp .r3) : Statement (.r3qpiHaR2BlCreditsEmptyR2Ncs o) := ⟨⟨_, _, rfl, rfl, rfl⟩, rfl⟩
theorem r3qpiQpi0AdCreditsEmptyVna (o : EvOp .r3) : Statement (.r3qpiQpi0AdCreditsEmptyVna o) := ⟨⟨_, _, rfl, rfl, rfl⟩, rfl⟩
theorem r3qpiQpi0AdCreditsEmptyVn0Hom (o : EvOp .r3) : Statement (.r3qpiQpi0AdCreditsEmptyVn0Hom o) := ⟨⟨_, _, rfl, rfl, rfl⟩, rfl⟩
theorem r3qpiQpi0AdCreditsEmptyVn0Snp (o : EvOp .r3) : Statement (.r3qpiQpi0AdCreditsEmptyVn0Snp o) := ⟨⟨_, _, rfl, rfl, rfl⟩, rfl⟩
theorem r3qpiQpi0AdCreditsEmptyVn0Ndr (o : EvOp .r3) : Statement (.r3qpiQpi0AdCreditsEmptyVn0Ndr o) := ⟨⟨_, _, rfl, rfl, rfl⟩, rfl⟩
theorem r3qpiQpi0AdCreditsEmptyVn1Hom (o : EvOp .r3) : Statement (.r3qpiQpi0AdCreditsEmptyVn1Hom o) := ⟨⟨_, _, rfl, rfl, rfl⟩, rfl⟩
theorem r3qpiQpi0AdCreditsEmptyVn1Snp (o : EvOp .r3) : Statement (.r3qpiQpi0AdCreditsEmptyVn1Snp o) := ⟨⟨_, _, rfl, rfl, rfl⟩, rfl⟩
theorem r3qpiQpi0AdCreditsEmptyVn1Ndr (o : EvOp .r3) : Statement (.r3qpiQpi0AdCreditsEmptyVn1Ndr o) := ⟨⟨_, _, rfl, rfl, rfl⟩, rfl⟩
theorem r3qpiQpi0BlCreditsEmptyVna (o : EvOp .r3) : Statement (.r3qpiQpi0BlCreditsEmptyVna o) := ⟨⟨_, _, rfl, rfl, rfl⟩, rfl⟩
theorem r3qpiQpi0BlCreditsEmptyVn1Hom (o : EvOp .r3) : Statement (.r3qpiQpi0BlCreditsEmptyVn1Hom o) := ⟨⟨_, _, rfl, rfl, rfl⟩, rfl⟩
theorem r3qpiQpi0BlCreditsEmptyVn1Snp (o : EvOp .r3) : Statement (.r3qpiQpi0BlCreditsEmptyVn1Snp o) := ⟨⟨_, _, rfl, rfl, rfl⟩, rfl⟩
theorem r3qpiQpi0BlCreditsEmptyVn1Ndr (o : EvOp .r3) : Statement (.r3qpiQpi0BlCreditsEmptyVn1Ndr o) := ⟨⟨_, _, rfl, rfl, rfl⟩, rfl⟩
theorem r3qpiQpi1AdCreditsEmptyVna (o : EvOp .r3) : Statement (.r3qpiQpi1AdCreditsEmptyVna o) := ⟨⟨_, _, rfl, rfl, rfl⟩, rfl⟩
theorem r3qpiQpi1AdCreditsEmptyVn1Hom (o : EvOp .r3) : Statement (.r3qpiQpi1AdCreditsEmptyVn1Hom o) := ⟨⟨_, _, rfl, rfl, rfl⟩, rfl⟩
theorem r3qpiQpi1AdCreditsEmptyVn1Snp (o : EvOp .r3) : Statement (.r3qpiQpi1AdCreditsEmptyVn1Snp o) := ⟨⟨_, _, rfl, rfl, rfl⟩, rfl⟩
theorem r3qpiQpi1AdCreditsEmptyVn1Ndr (o : EvOp .r3) : Statement (.r3qpiQpi1AdCreditsEmptyVn1Ndr o) := ⟨⟨_, _, rfl, rfl, rfl⟩, rfl⟩
theorem r3qpiQpi1BlCreditsEmptyVna (o : EvOp .r3) : Statement (.r3qpiQpi1BlCreditsEmptyVna o) := ⟨⟨_, _, rfl, rfl, rfl⟩, rfl⟩
theorem r3qpiQpi1BlCreditsEmptyVn0Hom (o : EvOp .r3) : Statement (.r3qpiQpi1BlCreditsEmptyVn0Hom o) := ⟨⟨_, _, rfl, rfl, rfl⟩, rfl⟩
theorem r3qpiQpi1BlCreditsEmptyVn0Snp (o : EvOp .r3) : Statement (.r3qpiQpi1BlCreditsEmptyVn0Snp o) := ⟨⟨_, _, rfl, rfl, rfl⟩, rfl⟩
theorem r3qpiQpi1BlCreditsEmptyVn0Ndr (o : EvOp .r3) : Statement (.r3qpiQpi1BlCreditsEmptyVn0Ndr o) := ⟨⟨_, _, rfl, rfl, rfl⟩, rfl⟩
theorem r3qpiQpi1BlCreditsEmptyVn1Hom (o : EvOp .r3) : Statement (.r3qpiQpi1BlCreditsEmptyVn1Hom o) := ⟨⟨_, _, rfl, rfl, rfl⟩, rfl⟩
theorem r3qpiQpi1BlCreditsEmptyVn1Snp (o : EvOp .r3) : Statement (.r3qpiQpi1BlCreditsEmptyVn1Snp o) := ⟨⟨_, _, rfl, rfl, rfl⟩, rfl⟩
theorem r3qpiQpi1BlCreditsEmptyVn1Ndr (o : EvOp .r3) : Statement (.r3qpiQpi1BlCreditsEmptyVn1Ndr o) := ⟨⟨_, _, rfl, rfl, rfl⟩, rfl⟩
theorem r3qpiRingAdUsedCwEven (o : EvOp .r3) : Statement (.r3qpiRingAdUsedCwEven o) := ⟨⟨_, _, rfl, rfl, rfl⟩, rfl⟩
theorem r3qpiRingAdUsedCwOdd (o : EvOp .r3) : Statement (.r3qpiRingAdUsedCwOdd o) := ⟨⟨_, _, rfl, rfl, rfl⟩, rfl⟩
theorem r3qpiRingAdUsedCw (o : EvOp .r3) : Statement (.r3qpiRingAdUsedCw o) := ⟨⟨_, _, rfl, rfl, rfl⟩, rfl⟩
theorem r3qpiRingAdUsedCcwEven (o : EvOp .r3) : Statement (.r3qpiRingAdUsedCcwEven o) := ⟨⟨_, _, rfl, rfl, rfl⟩, rfl⟩
theorem r3qpiRingAdUsedCcwOdd (o : EvOp .r3) : Statement (.r3qpiRingAdUsedCcwOdd o) := ⟨⟨_, _, rfl, rfl, rfl⟩, rfl⟩
theorem r3qpiRingAdUsedCcw (o : EvOp .r3) : Statement (.r3qpiRingAdUsedCcw o) := ⟨⟨_, _, rfl, rfl, rfl⟩, rfl⟩
theorem r3qpiRingAkUsedCwEven (o : EvOp .r3) : Statement (.r3qpiRingAkUsedCwEven o) := ⟨⟨_, _, rfl, rfl, rfl⟩, rfl⟩
theorem r3qpiRingAkUsedCwOdd (o : EvOp .r3) : Statement (.r3qpiRingAkUsedCwOdd o) := ⟨⟨_, _, rfl, rfl, rfl⟩, rfl⟩
theorem r3qpiRingAkUsedCw (o : EvOp .r3) : Statement (.r3qpiRingAkUsedCw o) := ⟨⟨_, _, rfl, rfl, rfl⟩, rfl⟩
theorem r3qpiRingAkUsedCcwEven (o : EvOp .r3) : Statement (.r3qpiRingAkUsedCcwEven o) := ⟨⟨_, _, rfl, rfl, rfl⟩, rfl⟩
theorem r3qpiRingAkUsedCcwOdd (o : EvOp .r3) : Statement (.r3qpiRingAkUsedCcwOdd o) := ⟨⟨_, _, rfl, rfl, rfl⟩, rfl⟩
theorem r3qpiRingAkUsedCcw (o : EvOp .r3) : Statement (.r3qpiRingAkUsedCcw o) := ⟨⟨_, _, rfl, rfl, rfl⟩, rfl⟩
theorem r3qpiRingBlUsedCwEven (o : EvOp .r3) : Statement (.r3qpiRingBlUsedCwEven o) := ⟨⟨_, _, rfl, rfl, rfl⟩, rfl⟩
theorem r3qpiRingBlUsedCwOdd (o : EvOp .r3) : Statement (.r3qpiRingBlUsedCwOdd o) := ⟨⟨_, _, rfl, rfl, rfl⟩, rfl⟩
theorem r3qpiRingBlUsedCw (o : EvOp .r3) : Statement (.r3qpiRingBlUsedCw o) := ⟨⟨_, _, rfl, rfl, rfl⟩, rfl⟩
theorem r3qpiRingBlUsedCcwEven (o : EvOp .r3) : Statement (.r3qpiRingBlUsedCcwEven o) := ⟨⟨_, _, rfl, rfl, rfl⟩, rfl⟩
theorem r3qpiRingBlUsedCcwOdd (o : EvOp .r3) : Statement (.r3qpiRingBlUsedCcwOdd o) := ⟨⟨_, _, rfl, rfl, rfl⟩, rfl⟩
theorem r3qpiRingBlUsedCcw (o : EvOp .r3) : Statement (.r3qpiRingBlUsedCcw o) := ⟨⟨_, _, rfl, rfl, rfl⟩, rfl⟩
theorem r3qpiRingIvUsedCw (o : EvOp .r3) : Statement (.r3qpiRingIvUsedCw o) := ⟨⟨_, _, rfl, rfl, rfl⟩, rfl⟩
theorem r3qpiRingIvUsedAny (o : EvOp .r3) : Statement (.r3qpiRingIvUsedAny o) := ⟨⟨_, _, rfl, rfl, rfl⟩, rfl⟩
theorem r3qpiRingSinkStarvedAk (o : EvOp .r3) : Statement (.r3qpiRingSinkStarvedAk o) := ⟨⟨_, _, rfl, rfl, rfl⟩, rfl⟩
theorem r3qpiRxRCyclesNeHom (o : EvOp .r3) : Statement (.r3qpiRxRCyclesNeHom o) := ⟨⟨_, _, rfl, rfl, rfl⟩, rfl⟩
theorem r3qpiRxRCyclesNeSnp (o : EvOp .r3) : Statement (.r3qpiRxRCyclesNeSnp o) := ⟨⟨_, _, rfl, rfl, rfl⟩, rfl⟩
theorem r3qpiRxRCyclesNeNdr (o : EvOp .r3) : Statement (.r3qpiRxRCyclesNeNdr o) := ⟨⟨_, _, rfl, rfl, rfl⟩, rfl⟩
theorem r3qpiRxRCyclesNeVn1Hom (o : EvOp .r3) : Statement (.r3qpiRxRCyclesNeVn1Hom o) := ⟨⟨_, _, rfl, rfl, rfl⟩, rfl⟩
theorem r3qpiRxRCyclesNeVn1Snp (o : EvOp .r3) : Statement (.r3qpiRxRCyclesNeVn1Snp o) := ⟨⟨_, _, rfl, rfl, rfl⟩, rfl⟩
theorem r3qpiRxRCyclesNeVn1Ndr (o : EvOp .r3) : Statement (.r3qpiRxRCyclesNeVn1Ndr o) := ⟨⟨_, _, rfl, rfl, rfl⟩, rfl⟩
theorem r3qpiRxRCyclesNeVn1Drs (o : EvOp .r3) : Statement (.r3qpiRxRCyclesNeVn1Drs o) := ⟨⟨_, _, rfl, rfl, rfl⟩, rfl⟩
theorem r3qpiRxRCyclesNeVn1Ncb (o : EvOp .r3) : Statement (.r3qpiRxRCyclesNeVn1Ncb o) := ⟨⟨_, _, rfl, rfl, rfl⟩, rfl⟩
theorem r3qpiRxRCyclesNeVn1Ncs (o : EvOp .r3) : Statement (.r3qpiRxRCyclesNeVn1Ncs o) := ⟨⟨_, _, rfl, rfl, rfl⟩, rfl⟩
theorem r3qpiRxRInsertsHom (o : EvOp .r3) : Statement (.r3qpiRxRInsertsHom o) := ⟨⟨_, _, rfl, rfl, rfl⟩, rfl⟩
theorem r3qpiRxRInsertsSnp (o : EvOp .r3) : Statement (.r3qpiRxRInsertsSnp o) := ⟨⟨_, _, rfl, rfl, rfl⟩, rfl⟩
theorem r3qpiRxRInsertsNdr (o : EvOp .r3) : Statement (.r3qpiRxRInsertsNdr o) := ⟨⟨_, _, rfl, rfl, rfl⟩, rfl⟩
theorem r3qpiRxRInsertsDrs (o : EvOp .r3) : Statement (.r3qpiRxRInsertsDrs o) := ⟨⟨_, _, rfl, rfl, rfl⟩, rfl⟩
theorem r3qpiRxRInsertsNcb (o : EvOp .r3) : Statement (.r3qpiRxRInsertsNcb o) := ⟨⟨_, _, rfl, rfl, rfl⟩, rfl⟩
theorem r3qpiRxRInsertsNcs (o : EvOp .r3) : Statement (.r3qpiRxRInsertsNcs o) := ⟨⟨_, _, rfl, rfl, rfl⟩, rfl⟩
theorem r3qpiRxRInsertsVn1Hom (o : EvOp .r3) : Statement (.r3qpiRxRInsertsVn1Hom o) := ⟨⟨_, _, rfl, rfl, rfl⟩, rfl⟩
theorem r3qpiRxRInsertsVn1Snp (o : EvOp .r3) : Statement (.r3qpiRxRInsertsVn1Snp o) := ⟨⟨_, _, rfl, rfl, rfl⟩, rfl⟩
theorem r3qpiRxRInsertsVn1Ndr (o : EvOp .r3) : Statement (.r3qpiRxRInsertsVn1Ndr o) := ⟨⟨_, _, rfl, rfl, rfl⟩, rfl⟩
theorem r3qpiRxRInsertsVn1Drs (o : EvOp .r3) : Statement (.r3qpiRxRInsertsVn1Drs o) := ⟨⟨_, _, rfl, rfl, rfl⟩, rfl⟩
theorem r3qpiRxRInsertsVn1Ncb (o : EvOp .r3) : Statement (.r3qpiRxRInsertsVn1Ncb o) := ⟨⟨_, _, rfl, rfl, rfl⟩, rfl⟩
theorem r3qpiRxRInsertsVn1Ncs (o : EvOp .r3) : Statement (.r3qpiRxRInsertsVn1Ncs o) := ⟨⟨_, _, rfl, rfl, rfl⟩, rfl⟩
theorem r3qpiRxROccupancyVn1Hom (o : EvOp .r3) : Statement (.r3qpiRxROccupancyVn1Hom o) := ⟨⟨_, _, rfl, rfl, rfl⟩, rfl⟩
theorem r3qpiRxROccupancyVn1Snp (o : EvOp .r3) : Statement (.r3qpiRxROccupancyVn1Snp o) := ⟨⟨_, _, rfl, rfl, rfl⟩, rfl⟩
theorem r3qpiRxROccupancyVn1Ndr (o : EvOp .r3) : Statement (.r3qpiRxROccupancyVn1Ndr o) := ⟨⟨_, _, rfl, rfl, rfl⟩, rfl⟩
theorem r3qpiRxROccupancyVn1Drs (o : EvOp .r3) : Statement (.r3qpiRxROccupancyVn1Drs o) := ⟨⟨_, _, rfl, rfl, rfl⟩, rfl⟩
theorem r3qpiRxROccupancyVn1Ncb (o : EvOp .r3) : Statement (.r3qpiRxROccupancyVn1Ncb o) := ⟨⟨_, _, rfl, rfl, rfl⟩, rfl⟩
theorem r3qpiRxROccupancyVn1Ncs (o : EvOp .r3) : Statement (.r3qpiRxROccupancyVn1Ncs o) := ⟨⟨_, _, rfl, rfl, rfl⟩, rfl⟩
theorem r3qpiSbo0CreditsAcquiredAd (o : EvOp .r3) : Statement (.r3qpiSbo0CreditsAcquiredAd o) := ⟨⟨_, _, rfl, rfl, rfl⟩, rfl⟩
theorem r3qpiSbo0CreditsAcquiredBl (o : EvOp .r3) : Statement (.r3qpiSbo0CreditsAcquiredBl o) := ⟨⟨_, _, rfl, rfl, rfl⟩, rfl⟩
theorem r3qpiSbo1CreditsAcquiredAd (o : EvOp .r3) : Statement (.r3qpiSbo1CreditsAcquiredAd o) := ⟨⟨_, _, rfl, rfl, rfl⟩, rfl⟩
theorem r3qpiSbo1CreditsAcquiredBl (o : EvOp .r3) : Statement (.r3qpiSbo1CreditsAcquiredBl o) := ⟨⟨_, _, rfl, rfl, rfl⟩, rfl⟩
theorem r3qpiStallNoSboCreditSbo0Ad (o : EvOp .r3) : Statement (.r3qpiStallNoSboCreditSbo0Ad o) := ⟨⟨_, _, rfl, rfl, rfl⟩, rfl⟩
theorem r3qpiStallNoSboCreditSbo1Ad (o : EvOp .r3) : Statement (.r3qpiStallNoSboCreditSbo1Ad o) := ⟨⟨_, _, rfl, rfl, rfl⟩, rfl⟩
theorem r3qpiStallNoSboCreditSbo0Bl (o : EvOp .r3) : Statement (.r3qpiStallNoSboCreditSbo0Bl o) := ⟨⟨_, _, rfl, rfl, rfl⟩, rfl⟩
theorem r3qpiStallNoSboCreditSbo1Bl (o : EvOp .r3) : Statement (.r3qpiStallNoSboCreditSbo1Bl o) := ⟨⟨_, _, rfl, rfl, rfl⟩, rfl⟩
theorem r3qpiTxRNackDnAd (o : EvOp .r3) : Statement (.r3qpiTxRNackDnAd o) := ⟨⟨_, _, rfl, rfl, rfl⟩, rfl⟩
theorem r3qpiTxRNackDnBl (o : EvOp .r3) : Statement (.r3qpiTxRNackDnBl o) := ⟨⟨_, _, rfl, rfl, rfl⟩, rfl⟩
theorem r3qpiTxRNackDnAk (o : EvOp .r3) : Statement (.r3qpiTxRNackDnAk o) := ⟨⟨_, _, rfl, rfl, rfl⟩, rfl⟩
theorem r3qpiTxRNackUpAd (o : EvOp .r3) : Statement (.r3qpiTxRNackUpAd o) := ⟨⟨_, _, rfl, rfl, rfl⟩, rfl⟩
theorem r3qpiTxRNackUpBl (o : EvOp .r3) : Statement (.r3qpiTxRNackUpBl o) := ⟨⟨_, _, rfl, rfl, rfl⟩, rfl⟩
theorem r3qpiTxRNackUpAk (o : EvOp .r3) : Statement (.r3qpiTxRNackUpAk o) := ⟨⟨_, _, rfl, rfl, rfl⟩, rfl⟩
theorem r3qpiVn0CreditsRejectHom (o : EvOp .r3) : Statement (.r3qpiVn0CreditsRejectHom o) := ⟨⟨_, _, rfl, rfl, rfl⟩, rfl⟩
theorem r3qpiVn0CreditsRejectSnp (o : EvOp .r3) : Statement (.r3qpiVn0CreditsRejectSnp o) := ⟨⟨_, _, rfl, rfl, rfl⟩, rfl⟩
theorem r3qpiVn0CreditsRejectNdr (o : EvOp .r3) : Statement (.r3qpiVn0CreditsRejectNdr o) := ⟨⟨_, _, rfl, rfl, rfl⟩, rfl⟩
theorem r3qpiVn0CreditsRejectDrs (o : EvOp .r3) : Statement (.r3qpiVn0CreditsRejectDrs o) := ⟨⟨_, _, rfl, rfl, rfl⟩, rfl⟩
theorem r3qpiVn0CreditsRejectNcb (o : EvOp .r3) : Statement (.r3qpiVn0CreditsRejectNcb o) := ⟨⟨_, _, rfl, rfl, rfl⟩, rfl⟩
theorem r3qpiVn0CreditsRejectNcs (o : EvOp .r3) : Statement (.r3qpiVn0CreditsRejectNcs o) := ⟨⟨_, _, rfl, rfl, rfl⟩, rfl⟩
theorem r3qpiVn0CreditsUsedHom (o : EvOp .r3) : Statement (.r3qpiVn0CreditsUsedHom o) := ⟨⟨_, _, rfl, rfl, rfl⟩, rfl⟩
theorem r3qpiVn0CreditsUsedSnp (o : EvOp .r3) : Statement (.r3qpiVn0CreditsUsedSnp o) := ⟨⟨_, _, rfl, rfl, rfl⟩, rfl⟩
theorem r3qpiVn0CreditsUsedNdr (o : EvOp .r3) : Statement (.r3qpiVn0CreditsUsedNdr o) := ⟨⟨_, _, rfl, rfl, rfl⟩, rfl⟩
theorem r3qpiVn0CreditsUsedDrs (o : EvOp .r3) : Statement (.r3qpiVn0CreditsUsedDrs o) := ⟨⟨_, _, rfl, rfl, rfl⟩, rfl⟩
theorem r3qpiVn0CreditsUsedNcb (o : EvOp .r3) : Statement (.r3qpiVn0CreditsUsedNcb o) := ⟨⟨_, _, rfl, rfl, rfl⟩, rfl⟩
theorem r3qpiVn0CreditsUsedNcs (o : EvOp .r3) : Statement (.r3qpiVn0CreditsUsedNcs o) := ⟨⟨_, _, rfl, rfl, rfl⟩, rfl⟩
theorem r3qpiVn1CreditsRejectHom (o : EvOp .r3) : Statement (.r3qpiVn1CreditsRejectHom o) := ⟨⟨_, _, rfl, rfl, rfl⟩, rfl⟩
theorem r3qpiVn1CreditsRejectSnp (o : EvOp .r3) : Statement (.r3qpiVn1CreditsRejectSnp o) := ⟨⟨_, _, rfl, rfl, rfl⟩, rfl⟩
theorem r3qpiVn1CreditsRejectNdr (o : EvOp .r3) : Statement (.r3qpiVn1CreditsRejectNdr o) := ⟨⟨_, _, rfl, rfl, rfl⟩, rfl⟩
theorem r3qpiVn1CreditsRejectDrs (o : EvOp .r3) : Statement (.r3qpiVn1CreditsRejectDrs o) := ⟨⟨_, _, rfl, rfl, rfl⟩, rfl⟩
theorem r3qpiVn1CreditsRejectNcb (o : EvOp .r3) : Statement (.r3qpiVn1CreditsRejectNcb o) := ⟨⟨_, _, rfl, rfl, rfl⟩, rfl⟩
theorem r3qpiVn1CreditsRejectNcs (o : EvOp .r3) : Statement (.r3qpiVn1CreditsRejectNcs o) := ⟨⟨_, _, rfl, rfl, rfl⟩, rfl⟩
theorem r3qpiVn1CreditsUsedHom (o : EvOp .r3) : Statement (.r3qpiVn1CreditsUsedHom o) := ⟨⟨_, _, rfl, rfl, rfl⟩, rfl⟩
theorem r3qpiVn1CreditsUsedSnp (o : EvOp .r3) : Statement (.r3qpiVn1CreditsUsedSnp o) := ⟨⟨_, _, rfl, rfl, rfl⟩, rfl⟩
theorem r3qpiVn1CreditsUsedNdr (o : EvOp .r3) : Statement (.r3qpiVn1CreditsUsedNdr o) := ⟨⟨_, _, rfl, rfl, rfl⟩, rfl⟩
theorem r3qpiVn1CreditsUsedDrs (o : EvOp .r3) : Statement (.r3qpiVn1CreditsUsedDrs o) := ⟨⟨_, _, rfl, rfl, rfl⟩, rfl⟩
theorem r3qpiVn1CreditsUsedNcb (o : EvOp .r3) : Statement (.r3qpiVn1CreditsUsedNcb o) := ⟨⟨_, _, rfl, rfl, rfl⟩, rfl⟩
theorem r3qpiVn1CreditsUsedNcs (o : EvOp .r3) : Statement (.r3qpiVn1CreditsUsedNcs o) := ⟨⟨_, _, rfl, rfl, rfl⟩, rfl⟩
theorem r3qpiVnaCreditsAcquiredAd (o : EvOp .r3) : Statement (.r3qpiVnaCreditsAcquiredAd o) := ⟨⟨_, _, rfl, rfl, rfl⟩, rfl⟩
theorem r3qpiVnaCreditsAcquiredBl (o : EvOp .r3) : Statement (.r3qpiVnaCreditsAcquiredBl o) := ⟨⟨_, _, rfl, rfl, rfl⟩, rfl⟩
theorem r3qpiVnaCreditsRejectHom (o : EvOp .r3) : Statement (.r3qpiVnaCreditsRejectHom o) := ⟨⟨_, _, rfl, rfl, rfl⟩, rfl⟩
theorem r3qpiVnaCreditsRejectSnp (o : EvOp .r3) : Statement (.r3qpiVnaCreditsRejectSnp o) := ⟨⟨_, _, rfl, rfl, rfl⟩, rfl⟩
theorem r3qpiVnaCreditsRejectNdr (o : EvOp .r3) : Statement (.r3qpiVnaCreditsRejectNdr o) := ⟨⟨_, _, rfl, rfl, rfl⟩, rfl⟩
theorem r3qpiVnaCreditsRejectDrs (o : EvOp .r3) : Statement (.r3qpiVnaCreditsRejectDrs o) := ⟨⟨_, _, rfl, rfl, rfl⟩, rfl⟩
theorem r3qpiVnaCreditsRejectNcb (o : EvOp .r3) : Statement (.r3qpiVnaCreditsRejectNcb o) := ⟨⟨_, _, rfl, rfl, rfl⟩, rfl⟩
theorem r3qpiVnaCreditsRejectNcs (o : EvOp .r3) : Statement (.r3qpiVnaCreditsRejectNcs o) := ⟨⟨_, _, rfl, rfl, rfl⟩, rfl⟩

set_option maxRecDepth 8192

theorem uMsrPmonGlobalCtl (a : MsrAccess) : Statement (.uMsrPmonGlobalCtl a) := ⟨⟨_, rfl, rfl⟩, rfl⟩
theorem uMsrPmonGlobalStatus (a : MsrAccess) : Statement (.uMsrPmonGlobalStatus a) := ⟨⟨_, rfl, rfl⟩, rfl⟩
theorem uMsrPmonGlobalConfig (a : MsrAccess) : Statement (.uMsrPmonGlobalConfig a) := ⟨⟨_, rfl, rfl⟩, rfl⟩
theorem uMsrPmonUclkFixedCtl (a : MsrAccess) : Statement (.uMsrPmonUclkFixedCtl a) := ⟨⟨_, rfl, rfl⟩, rfl⟩
theorem uMsrPmonUclkFixedCtr (a : MsrAccess) : Statement (.uMsrPmonUclkFixedCtr a) := ⟨⟨_, rfl, rfl⟩, rfl⟩
theorem uMsrPmonCtl0 (a : MsrAccess) : Statement (.uMsrPmonCtl0 a) := ⟨⟨_, rfl, rfl⟩, rfl⟩
theorem uMsrPmonCtl1 (a : MsrAccess) : Statement (.uMsrPmonCtl1 a) := ⟨⟨_, rfl, rfl⟩, rfl⟩
theorem uMsrPmonBoxStatus (a : MsrAccess) : Statement (.uMsrPmonBoxStatus a) := ⟨⟨_, rfl, rfl⟩, rfl⟩
theorem uMsrPmonCtr0 (a : MsrAccess) : Statement (.uMsrPmonCtr0 a) := ⟨⟨_, rfl, rfl⟩, rfl⟩
theorem uMsrPmonCtr1 (a : MsrAccess) : Statement (.uMsrPmonCtr1 a) := ⟨⟨_, rfl, rfl⟩, rfl⟩
theorem c0MsrPmonBoxCtl (a : MsrAccess) : Statement (.c0MsrPmonBoxCtl a) := ⟨⟨_, rfl, rfl⟩, rfl⟩
theorem c0MsrPmonCtl0 (a : MsrAccess) : Statement (.c0MsrPmonCtl0 a) := ⟨⟨_, rfl, rfl⟩, rfl⟩
theorem c0MsrPmonCtl1 (a : MsrAccess) : Statement (.c0MsrPmonCtl1 a) := ⟨⟨_, rfl, rfl⟩, rfl⟩
theorem c0MsrPmonCtl2 (a : MsrAccess) : Statement (.c0MsrPmonCtl2 a) := ⟨⟨_, rfl, rfl⟩, rfl⟩
theorem c0MsrPmonCtl3 (a : MsrAccess) : Statement (.c0MsrPmonCtl3 a) := ⟨⟨_, rfl, rfl⟩, rfl⟩
theorem c0MsrPmonBoxFilter0 (a : MsrAccess) : Statement (.c0MsrPmonBoxFilter0 a) := ⟨⟨_, rfl, rfl⟩, rfl⟩
theorem c0MsrPmonBoxFilter1 (a : MsrAccess) : Statement (.c0MsrPmonBoxFilter1 a) := ⟨⟨_, rfl, rfl⟩, rfl⟩
theorem c0MsrPmonBoxStatus (a : MsrAccess) : Statement (.c0MsrPmonBoxStatus a) := ⟨⟨_, rfl, rfl⟩, rfl⟩
theorem c0MsrPmonCtr0 (a : MsrAccess) : Statement (.c0MsrPmonCtr0 a) := ⟨⟨_, rfl, rfl⟩, rfl⟩
theorem c0MsrPmonCtr1 (a : MsrAccess) : Statement (.c0MsrPmonCtr1 a) := ⟨⟨_, rfl, rfl⟩, rfl⟩
theorem c0MsrPmonCtr2 (a : MsrAccess) : Statement (.c0MsrPmonCtr2 a) := ⟨⟨_, rfl, rfl⟩, rfl⟩
theorem c0MsrPmonCtr3 (a : MsrAccess) : Statement (.c0MsrPmonCtr3 a) := ⟨⟨_, rfl, rfl⟩, rfl⟩
theorem c1MsrPmonBoxCtl (a : MsrAccess) : Statement (.c1MsrPmonBoxCtl a) := ⟨⟨_, rfl, rfl⟩, rfl⟩
theorem c1MsrPmonCtl0 (a : MsrAccess) : Statement (.c1MsrPmonCtl0 a) := ⟨⟨_, rfl, rfl⟩, rfl⟩
theorem c1MsrPmonCtl1 (a : MsrAccess) : Statement (.c1MsrPmonCtl1 a) := ⟨⟨_, rfl, rfl⟩, rfl⟩
theorem c1MsrPmonCtl2 (a : MsrAccess) : Statement (.c1MsrPmonCtl2 a) := ⟨⟨_, rfl, rfl⟩, rfl⟩
theorem c1MsrPmonCtl3 (a : MsrAccess) : Statement (.c1MsrPmonCtl3 a) := ⟨⟨_, rfl, rfl⟩, rfl⟩
theorem c1MsrPmonBoxFilter0 (a : MsrAccess) : Statement (.c1MsrPmonBoxFilter0 a) := ⟨⟨_, rfl, rfl⟩, rfl⟩
theorem c1MsrPmonBoxFilter1 (a : MsrAccess) : Statement (.c1MsrPmonBoxFilter1 a) := ⟨⟨_, rfl, rfl⟩, rfl⟩
theorem c1MsrPmonBoxStatus (a : MsrAccess) : Statement (.c1MsrPmonBoxStatus a) := ⟨⟨_, rfl, rfl⟩, rfl⟩
theorem c1MsrPmonCtr0 (a : MsrAccess) : Statement (.c1MsrPmonCtr0 a) := ⟨⟨_, rfl, rfl⟩, rfl⟩
theorem c1MsrPmonCtr1 (a : MsrAccess) : Statement (.c1MsrPmonCtr1 a) := ⟨⟨_, rfl, rfl⟩, rfl⟩
theorem c1MsrPmonCtr2 (a : MsrAccess) : Statement (.c1MsrPmonCtr2 a) := ⟨⟨_, rfl, rfl⟩, rfl⟩
theorem c1MsrPmonCtr3 (a : MsrAccess) : Statement (.c1MsrPmonCtr3 a) := ⟨⟨_, rfl, rfl⟩, rfl⟩
theorem c2MsrPmonBoxCtl (a : MsrAccess) : Statement (.c2MsrPmonBoxCtl a) := ⟨⟨_, rfl, rfl⟩, rfl⟩
theorem c2MsrPmonCtl0 (a : MsrAccess) : Statement (.c2MsrPmonCtl0 a) := ⟨⟨_, rfl, rfl⟩, rfl⟩
theorem c2MsrPmonCtl1 (a : MsrAccess) : Statement (.c2MsrPmonCtl1 a) := ⟨⟨_, rfl, rfl⟩, rfl⟩
theorem c2MsrPmonCtl2 (a : MsrAccess) : Statement (.c2MsrPmonCtl2 a) := ⟨⟨_, rfl, rfl⟩, rfl⟩
theorem c2MsrPmonCtl3 (a : MsrAccess) : Statement (.c2MsrPmonCtl3 a) := ⟨⟨_, rfl, rfl⟩, rfl⟩
theorem c2MsrPmonBoxFilter0 (a : MsrAccess) : Statement (.c2MsrPmonBoxFilter0 a) := ⟨⟨_, rfl, rfl⟩, rfl⟩
theorem c2MsrPmonBoxFilter1 (a : MsrAccess) : Statement (.c2MsrPmonBoxFilter1 a) := ⟨⟨_, rfl, rfl⟩, rfl⟩
theorem c2MsrPmonBoxStatus (a : MsrAccess) : Statement (.c2MsrPmonBoxStatus a) := ⟨⟨_, rfl, rfl⟩, rfl⟩
theorem c2MsrPmonCtr0 (a : MsrAccess) : Statement (.c2MsrPmonCtr0 a) := ⟨⟨_, rfl, rfl⟩, rfl⟩
theorem c2MsrPmonCtr1 (a : MsrAccess) : Statement (.c2MsrPmonCtr1 a) := ⟨⟨_, rfl, rfl⟩, rfl⟩
theorem c2MsrPmonCtr2 (a : MsrAccess) : Statement (.c2MsrPmonCtr2 a) := ⟨⟨_, rfl, rfl⟩, rfl⟩
theorem c2MsrPmonCtr3 (a : MsrAccess) : Statement (.c2MsrPmonCtr3 a) := ⟨⟨_, rfl, rfl⟩, rfl⟩
theorem c3MsrPmonBoxCtl (a : MsrAccess) : Statement (.c3MsrPmonBoxCtl a) := ⟨⟨_, rfl, rfl⟩, rfl⟩
theorem c3MsrPmonCtl0 (a : MsrAccess) : Statement (.c3MsrPmonCtl0 a) := ⟨⟨_, rfl, rfl⟩, rfl⟩
theorem c3MsrPmonCtl1 (a : MsrAccess) : Statement (.c3MsrPmonCtl1 a) := ⟨⟨_, rfl, rfl⟩, rfl⟩
theorem c3MsrPmonCtl2 (a : MsrAccess) : Statement (.c3MsrPmonCtl2 a) := ⟨⟨_, rfl, rfl⟩, rfl⟩
theorem c3MsrPmonCtl3 (a : MsrAccess) : Statement (.c3MsrPmonCtl3 a) := ⟨⟨_, rfl, rfl⟩, rfl⟩
theorem c3MsrPmonBoxFilter0 (a : MsrAccess) : Statement (.c3MsrPmonBoxFilter0 a) := ⟨⟨_, rfl, rfl⟩, rfl⟩
theorem c3MsrPmonBoxFilter1 (a : MsrAccess) : Statement (.c3MsrPmonBoxFilter1 a) := ⟨⟨_, rfl, rfl⟩, rfl⟩
theorem c3MsrPmonBoxStatus (a : MsrAccess) : Statement (.c3MsrPmonBoxStatus a) := ⟨⟨_, rfl, rfl⟩, rfl⟩
theorem c3MsrPmonCtr0 (a : MsrAccess) : Statement (.c3MsrPmonCtr0 a) := ⟨⟨_, rfl, rfl⟩, rfl⟩
theorem c3MsrPmonCtr1 (a : MsrAccess) : Statement (.c3MsrPmonCtr1 a) := ⟨⟨_, rfl, rfl⟩, rfl⟩
theorem c3MsrPmonCtr2 (a : MsrAccess) : Statement (.c3MsrPmonCtr2 a) := ⟨⟨_, rfl, rfl⟩, rfl⟩
theorem c3MsrPmonCtr3 (a : MsrAccess) : Statement (.c3MsrPmonCtr3 a) := ⟨⟨_, rfl, rfl⟩, rfl⟩
theorem c4MsrPmonBoxCtl (a : MsrAccess) : Statement (.c4MsrPmonBoxCtl a) := ⟨⟨_, rfl, rfl⟩, rfl⟩
theorem c4MsrPmonCtl0 (a : MsrAccess) : Statement (.c4MsrPmonCtl0 a) := ⟨⟨_, rfl, rfl⟩, rfl⟩
theorem c4MsrPmonCtl1 (a : MsrAccess) : Statement (.c4MsrPmonCtl1 a) := ⟨⟨_, rfl, rfl⟩, rfl⟩
theorem c4MsrPmonCtl2 (a : MsrAccess) : Statement (.c4MsrPmonCtl2 a) := ⟨⟨_, rfl, rfl⟩, rfl⟩
theorem c4MsrPmonCtl3 (a : MsrAccess) : Statement (.c4MsrPmonCtl3 a) := ⟨⟨_, rfl, rfl⟩, rfl⟩
theorem c4MsrPmonBoxFilter0 (a : MsrAccess) : Statement (.c4MsrPmonBoxFilter0 a) := ⟨⟨_, rfl, rfl⟩, rfl⟩
theorem c4MsrPmonBoxFilter1 (a : MsrAccess) : Statement (.c4MsrPmonBoxFilter1 a) := ⟨⟨_, rfl, rfl⟩, rfl⟩
theorem c4MsrPmonBoxStatus (a : MsrAccess) : Statement (.c4MsrPmonBoxStatus a) := ⟨⟨_, rfl, rfl⟩, rfl⟩
theorem c4MsrPmonCtr0 (a : MsrAccess) : Statement (.c4MsrPmonCtr0 a) := ⟨⟨_, rfl, rfl⟩, rfl⟩
theorem c4MsrPmonCtr1 (a : MsrAccess) : Statement (.c4MsrPmonCtr1 a) := ⟨⟨_, rfl, rfl⟩, rfl⟩
theorem c4MsrPmonCtr2 (a : MsrAccess) : Statement (.c4MsrPmonCtr2 a) := ⟨⟨_, rfl, rfl⟩, rfl⟩
theorem c4MsrPmonCtr3 (a : MsrAccess) : Statement (.c4MsrPmonCtr3 a) := ⟨⟨_, rfl, rfl⟩, rfl⟩
theorem c5MsrPmonBoxCtl (a : MsrAccess) : Statement (.c5MsrPmonBoxCtl a) := ⟨⟨_, rfl, rfl⟩, rfl⟩
theorem c5MsrPmonCtl0 (a : MsrAccess) : Statement (.c5MsrPmonCtl0 a) := ⟨⟨_, rfl, rfl⟩, rfl⟩
theorem c5MsrPmonCtl1 (a : MsrAccess) : Statement (.c5MsrPmonCtl1 a) := ⟨⟨_, rfl, rfl⟩, rfl⟩
theorem c5MsrPmonCtl2 (a : MsrAccess) : Statement (.c5MsrPmonCtl2 a) := ⟨⟨_, rfl, rfl⟩, rfl⟩
theorem c5MsrPmonCtl3 (a : MsrAccess) : Statement (.c5MsrPmonCtl3 a) := ⟨⟨_, rfl, rfl⟩, rfl⟩
theorem c5MsrPmonBoxFilter0 (a : MsrAccess) : Statement (.c5MsrPmonBoxFilter0 a) := ⟨⟨_, rfl, rfl⟩, rfl⟩
theorem c5MsrPmonBoxFilter1 (a : MsrAccess) : Statement (.c5MsrPmonBoxFilter1 a) := ⟨⟨_, rfl, rfl⟩, rfl⟩
theorem c5MsrPmonBoxStatus (a : MsrAccess) : Statement (.c5MsrPmonBoxStatus a) := ⟨⟨_, rfl, rfl⟩, rfl⟩
theorem c5MsrPmonCtr0 (a : MsrAccess) : Statement (.c5MsrPmonCtr0 a) := ⟨⟨_, rfl, rfl⟩, rfl⟩
theorem c5MsrPmonCtr1 (a : MsrAccess) : Statement (.c5MsrPmonCtr1 a) := ⟨⟨_, rfl, rfl⟩, rfl⟩
theorem c5MsrPmonCtr2 (a : MsrAccess) : Statement (.c5MsrPmonCtr2 a) := ⟨⟨_, rfl, rfl⟩, rfl⟩
theorem c5MsrPmonCtr3 (a : MsrAccess) : Statement (.c5MsrPmonCtr3 a) := ⟨⟨_, rfl, rfl⟩, rfl⟩
theorem c6MsrPmonBoxCtl (a : MsrAccess) : Statement (.c6MsrPmonBoxCtl a) := ⟨⟨_, rfl, rfl⟩, rfl⟩
theorem c6MsrPmonCtl0 (a : MsrAccess) : Statement (.c6MsrPmonCtl0 a) := ⟨⟨_, rfl, rfl⟩, rfl⟩
theorem c6MsrPmonCtl1 (a : MsrAccess) : Statement (.c6MsrPmonCtl1 a) := ⟨⟨_, rfl, rfl⟩, rfl⟩
theorem c6MsrPmonCtl2 (a : MsrAccess) : Statement (.c6MsrPmonCtl2 a) := ⟨⟨_, rfl, rfl⟩, rfl⟩
theorem c6MsrPmonCtl3 (a : MsrAccess) : Statement (.c6MsrPmonCtl3 a) := ⟨⟨_, rfl, rfl⟩, rfl⟩
theorem c6MsrPmonBoxFilter0 (a : MsrAccess) : Statement (.c6MsrPmonBoxFilter0 a) := ⟨⟨_, rfl, rfl⟩, rfl⟩
theorem c6MsrPmonBoxFilter1 (a : MsrAccess) : Statement (.c6MsrPmonBoxFilter1 a) := ⟨⟨_, rfl, rfl⟩, rfl⟩
theorem c6MsrPmonBoxStatus (a : MsrAccess) : Statement (.c6MsrPmonBoxStatus a) := ⟨⟨_, rfl, rfl⟩, rfl⟩
theorem c6MsrPmonCtr0 (a : MsrAccess) : Statement (.c6MsrPmonCtr0 a) := ⟨⟨_, rfl, rfl⟩, rfl⟩
theorem c6MsrPmonCtr1 (a : MsrAccess) : Statement (.c6MsrPmonCtr1 a) := ⟨⟨_, rfl, rfl⟩, rfl⟩
theorem c6MsrPmonCtr2 (a : MsrAccess) : Statement (.c6MsrPmonCtr2 a) := ⟨⟨_, rfl, rfl⟩, rfl⟩
theorem c6MsrPmonCtr3 (a : MsrAccess) : Statement (.c6MsrPmonCtr3 a) := ⟨⟨_, rfl, rfl⟩, rfl⟩
theorem c7MsrPmonBoxCtl (a : MsrAccess) : Statement (.c7MsrPmonBoxCtl a) := ⟨⟨_, rfl, rfl⟩, rfl⟩
theorem c7MsrPmonCtl0 (a : MsrAccess) : Statement (.c7MsrPmonCtl0 a) := ⟨⟨_, rfl, rfl⟩, rfl⟩
theorem c7MsrPmonCtl1 (a : MsrAccess) : Statement (.c7MsrPmonCtl1 a) := ⟨⟨_, rfl, rfl⟩, rfl⟩
theorem c7MsrPmonCtl2 (a : MsrAccess) : Statement (.c7MsrPmonCtl2 a) := ⟨⟨_, rfl, rfl⟩, rfl⟩
theorem c7MsrPmonCtl3 (a : MsrAccess) : Statement (.c7MsrPmonCtl3 a) := ⟨⟨_, rfl, rfl⟩, rfl⟩
theorem c7MsrPmonBoxFilter0 (a : MsrAccess) : Statement (.c7MsrPmonBoxFilter0 a) := ⟨⟨_, rfl, rfl⟩, rfl⟩
theorem c7MsrPmonBoxFilter1 (a : MsrAccess) : Statement (.c7MsrPmonBoxFilter1 a) := ⟨⟨_, rfl, rfl⟩, rfl⟩
theorem c7MsrPmonBoxStatus (a : MsrAccess) : Statement (.c7MsrPmonBoxStatus a) := ⟨⟨_, rfl, rfl⟩, rfl⟩
theorem c7MsrPmonCtr0 (a : MsrAccess) : Statement (.c7MsrPmonCtr0 a) := ⟨⟨_, rfl, rfl⟩, rfl⟩
theorem c7MsrPmonCtr1 (a : MsrAccess) : Statement (.c7MsrPmonCtr1 a) := ⟨⟨_, rfl, rfl⟩, rfl⟩
theorem c7MsrPmonCtr2 (a : MsrAccess) : Statement (.c7MsrPmonCtr2 a) := ⟨⟨_, rfl, rfl⟩, rfl⟩
theorem c7MsrPmonCtr3 (a : MsrAccess) : Statement (.c7MsrPmonCtr3 a) := ⟨⟨_, rfl, rfl⟩, rfl⟩
theorem c8MsrPmonBoxCtl (a : MsrAccess) : Statement (.c8MsrPmonBoxCtl a) := ⟨⟨_, rfl, rfl⟩, rfl⟩
theorem c8MsrPmonCtl0 (a : MsrAccess) : Statement (.c8MsrPmonCtl0 a) := ⟨⟨_, rfl, rfl⟩, rfl⟩
theorem c8MsrPmonCtl1 (a : MsrAccess) : Statement (.c8MsrPmonCtl1 a) := ⟨⟨_, rfl, rfl⟩, rfl⟩
theorem c8MsrPmonCtl2 (a : MsrAccess) : Statement (.c8MsrPmonCtl2 a) := ⟨⟨_, rfl, rfl⟩, rfl⟩
theorem c8MsrPmonCtl3 (a : MsrAccess) : Statement (.c8MsrPmonCtl3 a) := ⟨⟨_, rfl, rfl⟩, rfl⟩
theorem c8MsrPmonBoxFilter0 (a : MsrAccess) : Statement (.c8MsrPmonBoxFilter0 a) := ⟨⟨_, rfl, rfl⟩, rfl⟩
theorem c8MsrPmonBoxFilter1 (a : MsrAccess) : Statement (.c8MsrPmonBoxFilter1 a) := ⟨⟨_, rfl, rfl⟩, rfl⟩
theorem c8MsrPmonBoxStatus (a : MsrAccess) : Statement (.c8MsrPmonBoxStatus a) := ⟨⟨_, rfl, rfl⟩, rfl⟩
theorem c8MsrPmonCtr0 (a : MsrAccess) : Statement (.c8MsrPmonCtr0 a) := ⟨⟨_, rfl, rfl⟩, rfl⟩
theorem c8MsrPmonCtr1 (a : MsrAccess) : Statement (.c8MsrPmonCtr1 a) := ⟨⟨_, rfl, rfl⟩, rfl⟩
theorem c8MsrPmonCtr2 (a : MsrAccess) : Statement (.c8MsrPmonCtr2 a) := ⟨⟨_, rfl, rfl⟩, rfl⟩
theorem c8MsrPmonCtr3 (a : MsrAccess) : Statement (.c8MsrPmonCtr3 a) := ⟨⟨_, rfl, rfl⟩, rfl⟩
theorem c9MsrPmonBoxCtl (a : MsrAccess) : Statement (.c9MsrPmonBoxCtl a) := ⟨⟨_, rfl, rfl⟩, rfl⟩
theorem c9MsrPmonCtl0 (a : MsrAccess) : Statement (.c9MsrPmonCtl0 a) := ⟨⟨_, rfl, rfl⟩, rfl⟩
theorem c9MsrPmonCtl1 (a : MsrAccess) : Statement (.c9MsrPmonCtl1 a) := ⟨⟨_, rfl, rfl⟩, rfl⟩
theorem c9MsrPmonCtl2 (a : MsrAccess) : Statement (.c9MsrPmonCtl2 a) := ⟨⟨_, rfl, rfl⟩, rfl⟩
theorem c9MsrPmonCtl3 (a : MsrAccess) : Statement (.c9MsrPmonCtl3 a) := ⟨⟨_, rfl, rfl⟩, rfl⟩
theorem c9MsrPmonBoxFilter0 (a : MsrAccess) : Statement (.c9MsrPmonBoxFilter0 a) := ⟨⟨_, rfl, rfl⟩, rfl⟩
theorem c9MsrPmonBoxFilter1 (a : MsrAccess) : Statement (.c9MsrPmonBoxFilter1 a) := ⟨⟨_, rfl, rfl⟩, rfl⟩
theorem c9MsrPmonBoxStatus (a : MsrAccess) : Statement (.c9MsrPmonBoxStatus a) := ⟨⟨_, rfl, rfl⟩, rfl⟩
theorem c9MsrPmonCtr0 (a : MsrAccess) : Statement (.c9MsrPmonCtr0 a) := ⟨⟨_, rfl, rfl⟩, rfl⟩
theorem c9MsrPmonCtr1 (a : MsrAccess) : Statement (.c9MsrPmonCtr1 a) := ⟨⟨_, rfl, rfl⟩, rfl⟩
theorem c9MsrPmonCtr2 (a : MsrAccess) : Statement (.c9MsrPmonCtr2 a) := ⟨⟨_, rfl, rfl⟩, rfl⟩
theorem c9MsrPmonCtr3 (a : MsrAccess) : Statement (.c9MsrPmonCtr3 a) := ⟨⟨_, rfl, rfl⟩, rfl⟩
theorem c10MsrPmonBoxCtl (a : MsrAccess) : Statement (.c10MsrPmonBoxCtl a) := ⟨⟨_, rfl, rfl⟩, rfl⟩
theorem c10MsrPmonCtl0 (a : MsrAccess) : Statement (.c10MsrPmonCtl0 a) := ⟨⟨_, rfl, rfl⟩, rfl⟩
theorem c10MsrPmonCtl1 (a : MsrAccess) : Statement (.c10MsrPmonCtl1 a) := ⟨⟨_, rfl, rfl⟩, rfl⟩
theorem c10MsrPmonCtl2 (a : MsrAccess) : Statement (.c10MsrPmonCtl2 a) := ⟨⟨_, rfl, rfl⟩, rfl⟩
theorem c10MsrPmonCtl3 (a : MsrAccess) : Statement (.c10MsrPmonCtl3 a) := ⟨⟨_, rfl, rfl⟩, rfl⟩
theorem c10MsrPmonBoxFilter0 (a : MsrAccess) : Statement (.c10MsrPmonBoxFilter0 a) := ⟨⟨_, rfl, rfl⟩, rfl⟩
theorem c10MsrPmonBoxFilter1 (a : MsrAccess) : Statement (.c10MsrPmonBoxFilter1 a) := ⟨⟨_, rfl, rfl⟩, rfl⟩
theorem c10MsrPmonBoxStatus (a : MsrAccess) : Statement (.c10MsrPmonBoxStatus a) := ⟨⟨_, rfl, rfl⟩, rfl⟩
theorem c10MsrPmonCtr0 (a : MsrAccess) : Statement (.c10MsrPmonCtr0 a) := ⟨⟨_, rfl, rfl⟩, rfl⟩
theorem c10MsrPmonCtr1 (a : MsrAccess) : Statement (.c10MsrPmonCtr1 a) := ⟨⟨_, rfl, rfl⟩, rfl⟩
theorem c10MsrPmonCtr2 (a : MsrAccess) : Statement (.c10MsrPmonCtr2 a) := ⟨⟨_, rfl, rfl⟩, rfl⟩
theorem c10MsrPmonCtr3 (a : MsrAccess) : Statement (.c10MsrPmonCtr3 a) := ⟨⟨_, rfl, rfl⟩, rfl⟩
theorem c11MsrPmonBoxCtl (a : MsrAccess) : Statement (.c11MsrPmonBoxCtl a) := ⟨⟨_, rfl, rfl⟩, rfl⟩
theorem c11MsrPmonCtl0 (a : MsrAccess) : Statement (.c11MsrPmonCtl0 a) := ⟨⟨_, rfl, rfl⟩, rfl⟩
theorem c11MsrPmonCtl1 (a : MsrAccess) : Statement (.c11MsrPmonCtl1 a) := ⟨⟨_, rfl, rfl⟩, rfl⟩
theorem c11MsrPmonCtl2 (a : MsrAccess) : Statement (.c11MsrPmonCtl2 a) := ⟨⟨_, rfl, rfl⟩, rfl⟩
theorem c11MsrPmonCtl3 (a : MsrAccess) : Statement (.c11MsrPmonCtl3 a) := ⟨⟨_, rfl, rfl⟩, rfl⟩
theorem c11MsrPmonBoxFilter0 (a : MsrAccess) : Statement (.c11MsrPmonBoxFilter0 a) := ⟨⟨_, rfl, rfl⟩, rfl⟩
theorem c11MsrPmonBoxFilter1 (a : MsrAccess) : Statement (.c11MsrPmonBoxFilter1 a) := ⟨⟨_, rfl, rfl⟩, rfl⟩
theorem c11MsrPmonBoxStatus (a : MsrAccess) : Statement (.c11MsrPmonBoxStatus a) := ⟨⟨_, rfl, rfl⟩, rfl⟩
theorem c11MsrPmonCtr0 (a : MsrAccess) : Statement (.c11MsrPmonCtr0 a) := ⟨⟨_, rfl, rfl⟩, rfl⟩
theorem c11MsrPmonCtr1 (a : MsrAccess) : Statement (.c11MsrPmonCtr1 a) := ⟨⟨_, rfl, rfl⟩, rfl⟩
theorem c11MsrPmonCtr2 (a : MsrAccess) : Statement (.c11MsrPmonCtr2 a) := ⟨⟨_, rfl, rfl⟩, rfl⟩
theorem c11MsrPmonCtr3 (a : MsrAccess) : Statement (.c11MsrPmonCtr3 a) := ⟨⟨_, rfl, rfl⟩, rfl⟩
theorem c12MsrPmonBoxCtl (a : MsrAccess) : Statement (.c12MsrPmonBoxCtl a) := ⟨⟨_, rfl, rfl⟩, rfl⟩
theorem c12MsrPmonCtl0 (a : MsrAccess) : Statement (.c12MsrPmonCtl0 a) := ⟨⟨_, rfl, rfl⟩, rfl⟩
theorem c12MsrPmonCtl1 (a : MsrAccess) : Statement (.c12MsrPmonCtl1 a) := ⟨⟨_, rfl, rfl⟩, rfl⟩
theorem c12MsrPmonCtl2 (a : MsrAccess) : Statement (.c12MsrPmonCtl2 a) := ⟨⟨_, rfl, rfl⟩, rfl⟩
theorem c12MsrPmonCtl3 (a : MsrAccess) : Statement (.c12MsrPmonCtl3 a) := ⟨⟨_, rfl, rfl⟩, rfl⟩
theorem c12MsrPmonBoxFilter0 (a : MsrAccess) : Statement (.c12MsrPmonBoxFilter0 a) := ⟨⟨_, rfl, rfl⟩, rfl⟩
theorem c12MsrPmonBoxFilter1 (a : MsrAccess) : Statement (.c12MsrPmonBoxFilter1 a) := ⟨⟨_, rfl, rfl⟩, rfl⟩
theorem c12MsrPmonBoxStatus (a : MsrAccess) : Statement (.c12MsrPmonBoxStatus a) := ⟨⟨_, rfl, rfl⟩, rfl⟩
theorem c12MsrPmonCtr0 (a : MsrAccess) : Statement (.c12MsrPmonCtr0 a) := ⟨⟨_, rfl, rfl⟩, rfl⟩
theorem c12MsrPmonCtr1 (a : MsrAccess) : Statement (.c12MsrPmonCtr1 a) := ⟨⟨_, rfl, rfl⟩, rfl⟩
theorem c12MsrPmonCtr2 (a : MsrAccess) : Statement (.c12MsrPmonCtr2 a) := ⟨⟨_, rfl, rfl⟩, rfl⟩
theorem c12MsrPmonCtr3 (a : MsrAccess) : Statement (.c12MsrPmonCtr3 a) := ⟨⟨_, rfl, rfl⟩, rfl⟩
theorem c13MsrPmonBoxCtl (a : MsrAccess) : Statement (.c13MsrPmonBoxCtl a) := ⟨⟨_, rfl, rfl⟩, rfl⟩
theorem c13MsrPmonCtl0 (a : MsrAccess) : Statement (.c13MsrPmonCtl0 a) := ⟨⟨_, rfl, rfl⟩, rfl⟩
theorem c13MsrPmonCtl1 (a : MsrAccess) : Statement (.c13MsrPmonCtl1 a) := ⟨⟨_, rfl, rfl⟩, rfl⟩
theorem c13MsrPmonCtl2 (a : MsrAccess) : Statement (.c13MsrPmonCtl2 a) := ⟨⟨_, rfl, rfl⟩, rfl⟩
theorem c13MsrPmonCtl3 (a : MsrAccess) : Statement (.c13MsrPmonCtl3 a) := ⟨⟨_, rfl, rfl⟩, rfl⟩
theorem c13MsrPmonBoxFilter0 (a : MsrAccess) : Statement (.c13MsrPmonBoxFilter0 a) := ⟨⟨_, rfl, rfl⟩, rfl⟩
theorem c13MsrPmonBoxFilter1 (a : MsrAccess) : Statement (.c13MsrPmonBoxFilter1 a) := ⟨⟨_, rfl, rfl⟩, rfl⟩
theorem c13MsrPmonBoxStatus (a : MsrAccess) : Statement (.c13MsrPmonBoxStatus a) := ⟨⟨_, rfl, rfl⟩, rfl⟩
theorem c13MsrPmonCtr0 (a : MsrAccess) : Statement (.c13MsrPmonCtr0 a) := ⟨⟨_, rfl, rfl⟩, rfl⟩
theorem c13MsrPmonCtr1 (a : MsrAccess) : Statement (.c13MsrPmonCtr1 a) := ⟨⟨_, rfl, rfl⟩, rfl⟩
theorem c13MsrPmonCtr2 (a : MsrAccess) : Statement (.c13MsrPmonCtr2 a) := ⟨⟨_, rfl, rfl⟩, rfl⟩
theorem c13MsrPmonCtr3 (a : MsrAccess) : Statement (.c13MsrPmonCtr3 a) := ⟨⟨_, rfl, rfl⟩, rfl⟩
theorem c14MsrPmonBoxCtl (a : MsrAccess) : Statement (.c14MsrPmonBoxCtl a) := ⟨⟨_, rfl, rfl⟩, rfl⟩
theorem c14MsrPmonCtl0 (a : MsrAccess) : Statement (.c14MsrPmonCtl0 a) := ⟨⟨_, rfl, rfl⟩, rfl⟩
theorem c14MsrPmonCtl1 (a : MsrAccess) : Statement (.c14MsrPmonCtl1 a) := ⟨⟨_, rfl, rfl⟩, rfl⟩
theorem c14MsrPmonCtl2 (a : MsrAccess) : Statement (.c14MsrPmonCtl2 a) := ⟨⟨_, rfl, rfl⟩, rfl⟩
theorem c14MsrPmonCtl3 (a : MsrAccess) : Statement (.c14MsrPmonCtl3 a) := ⟨⟨_, rfl, rfl⟩, rfl⟩
theorem c14MsrPmonBoxFilter0 (a : MsrAccess) : Statement (.c14MsrPmonBoxFilter0 a) := ⟨⟨_, rfl, rfl⟩, rfl⟩
theorem c14MsrPmonBoxFilter1 (a : MsrAccess) : Statement (.c14MsrPmonBoxFilter1 a) := ⟨⟨_, rfl, rfl⟩, rfl⟩
theorem c14MsrPmonBoxStatus (a : MsrAccess) : Statement (.c14MsrPmonBoxStatus a) := ⟨⟨_, rfl, rfl⟩, rfl⟩
theorem c14MsrPmonCtr0 (a : MsrAccess) : Statement (.c14MsrPmonCtr0 a) := ⟨⟨_, rfl, rfl⟩, rfl⟩
theorem c14MsrPmonCtr1 (a : MsrAccess) : Statement (.c14MsrPmonCtr1 a) := ⟨⟨_, rfl, rfl⟩, rfl⟩
theorem c14MsrPmonCtr2 (a : MsrAccess) : Statement (.c14MsrPmonCtr2 a) := ⟨⟨_, rfl, rfl⟩, rfl⟩
theorem c14MsrPmonCtr3 (a : MsrAccess) : Statement (.c14MsrPmonCtr3 a) := ⟨⟨_, rfl, rfl⟩, rfl⟩
theorem c15MsrPmonBoxCtl (a : MsrAccess) : Statement (.c15MsrPmonBoxCtl a) := ⟨⟨_, rfl, rfl⟩, rfl⟩
theorem c15MsrPmonCtl0 (a : MsrAccess) : Statement (.c15MsrPmonCtl0 a) := ⟨⟨_, rfl, rfl⟩, rfl⟩
theorem c15MsrPmonCtl1 (a : MsrAccess) : Statement (.c15MsrPmonCtl1 a) := ⟨⟨_, rfl, rfl⟩, rfl⟩
theorem c15MsrPmonCtl2 (a : MsrAccess) : Statement (.c15MsrPmonCtl2 a) := ⟨⟨_, rfl, rfl⟩, rfl⟩
theorem c15MsrPmonCtl3 (a : MsrAccess) : Statement (.c15MsrPmonCtl3 a) := ⟨⟨_, rfl, rfl⟩, rfl⟩
theorem c15MsrPmonBoxFilter0 (a : MsrAccess) : Statement (.c15MsrPmonBoxFilter0 a) := ⟨⟨_, rfl, rfl⟩, rfl⟩
theorem c15MsrPmonBoxFilter1 (a : MsrAccess) : Statement (.c15MsrPmonBoxFilter1 a) := ⟨⟨_, rfl, rfl⟩, rfl⟩
theorem c15MsrPmonBoxStatus (a : MsrAccess) : Statement (.c15MsrPmonBoxStatus a) := ⟨⟨_, rfl, rfl⟩, rfl⟩
theorem c15MsrPmonCtr0 (a : MsrAccess) : Statement (.c15MsrPmonCtr0 a) := ⟨⟨_, rfl, rfl⟩, rfl⟩
theorem c15MsrPmonCtr1 (a : MsrAccess) : Statement (.c15MsrPmonCtr1 a) := ⟨⟨_, rfl, rfl⟩, rfl⟩
theorem c15MsrPmonCtr2 (a : MsrAccess) : Statement (.c15MsrPmonCtr2 a) := ⟨⟨_, rfl, rfl⟩, rfl⟩
theorem c15MsrPmonCtr3 (a : MsrAccess) : Statement (.c15MsrPmonCtr3 a) := ⟨⟨_, rfl, rfl⟩, rfl⟩
theorem c16MsrPmonBoxCtl (a : MsrAccess) : Statement (.c16MsrPmonBoxCtl a) := ⟨⟨_, rfl, rfl⟩, rfl⟩
theorem c16MsrPmonCtl0 (a : MsrAccess) : Statement (.c16MsrPmonCtl0 a) := ⟨⟨_, rfl, rfl⟩, rfl⟩
theorem c16MsrPmonCtl1 (a : MsrAccess) : Statement (.c16MsrPmonCtl1 a) := ⟨⟨_, rfl, rfl⟩, rfl⟩
theorem c16MsrPmonCtl2 (a : MsrAccess) : Statement (.c16MsrPmonCtl2 a) := ⟨⟨_, rfl, rfl⟩, rfl⟩
theorem c16MsrPmonCtl3 (a : MsrAccess) : Statement (.c16MsrPmonCtl3 a) := ⟨⟨_, rfl, rfl⟩, rfl⟩
theorem c16MsrPmonBoxFilter0 (a : MsrAccess) : Statement (.c16MsrPmonBoxFilter0 a) := ⟨⟨_, rfl, rfl⟩, rfl⟩
theorem c16MsrPmonBoxFilter1 (a : MsrAccess) : Statement (.c16MsrPmonBoxFilter1 a) := ⟨⟨_, rfl, rfl⟩, rfl⟩
theorem c16MsrPmonBoxStatus (a : MsrAccess) : Statement (.c16MsrPmonBoxStatus a) := ⟨⟨_, rfl, rfl⟩, rfl⟩
theorem c16MsrPmonCtr0 (a : MsrAccess) : Statement (.c16MsrPmonCtr0 a) := ⟨⟨_, rfl, rfl⟩, rfl⟩
theorem c16MsrPmonCtr1 (a : MsrAccess) : Statement (.c16MsrPmonCtr1 a) := ⟨⟨_, rfl, rfl⟩, rfl⟩
theorem c16MsrPmonCtr2 (a : MsrAccess) : Statement (.c16MsrPmonCtr2 a) := ⟨⟨_, rfl, rfl⟩, rfl⟩
theorem c16MsrPmonCtr3 (a : MsrAccess) : Statement (.c16MsrPmonCtr3 a) := ⟨⟨_, rfl, rfl⟩, rfl⟩
theorem c17MsrPmonBoxCtl (a : MsrAccess) : Statement (.c17MsrPmonBoxCtl a) := ⟨⟨_, rfl, rfl⟩, rfl⟩
theorem c17MsrPmonCtl0 (a : MsrAccess) : Statement (.c17MsrPmonCtl0 a) := ⟨⟨_, rfl, rfl⟩, rfl⟩
theorem c17MsrPmonCtl1 (a : MsrAccess) : Statement (.c17MsrPmonCtl1 a) := ⟨⟨_, rfl, rfl⟩, rfl⟩
theorem c17MsrPmonCtl2 (a : MsrAccess) : Statement (.c17MsrPmonCtl2 a) := ⟨⟨_, rfl, rfl⟩, rfl⟩
theorem c17MsrPmonCtl3 (a : MsrAccess) : Statement (.c17MsrPmonCtl3 a) := ⟨⟨_, rfl, rfl⟩, rfl⟩
theorem c17MsrPmonBoxFilter0 (a : MsrAccess) : Statement (.c17MsrPmonBoxFilter0 a) := ⟨⟨_, rfl, rfl⟩, rfl⟩
theorem c17MsrPmonBoxFilter1 (a : MsrAccess) : Statement (.c17MsrPmonBoxFilter1 a) := ⟨⟨_, rfl, rfl⟩, rfl⟩
theorem c17MsrPmonBoxStatus (a : MsrAccess) : Statement (.c17MsrPmonBoxStatus a) := ⟨⟨_, rfl, rfl⟩, rfl⟩
theorem c17MsrPmonCtr0 (a : MsrAccess) : Statement (.c17MsrPmonCtr0 a) := ⟨⟨_, rfl, rfl⟩, rfl⟩
theorem c17MsrPmonCtr1 (a : MsrAccess) : Statement (.c17MsrPmonCtr1 a) := ⟨⟨_, rfl, rfl⟩, rfl⟩
theorem c17MsrPmonCtr2 (a : MsrAccess) : Statement (.c17MsrPmonCtr2 a) := ⟨⟨_, rfl, rfl⟩, rfl⟩
theorem c17MsrPmonCtr3 (a : MsrAccess) : Statement (.c17MsrPmonCtr3 a) := ⟨⟨_, rfl, rfl⟩, rfl⟩
theorem s0MsrPmonBoxCtl (a : MsrAccess) : Statement (.s0MsrPmonBoxCtl a) := ⟨⟨_, rfl, rfl⟩, rfl⟩
theorem s0MsrPmonCtl0 (a : MsrAccess) : Statement (.s0MsrPmonCtl0 a) := ⟨⟨_, rfl, rfl⟩, rfl⟩
theorem s0MsrPmonCtl1 (a : MsrAccess) : Statement (.s0MsrPmonCtl1 a) := ⟨⟨_, rfl, rfl⟩, rfl⟩
theorem s0MsrPmonCtl2 (a : MsrAccess) : Statement (.s0MsrPmonCtl2 a) := ⟨⟨_, rfl, rfl⟩, rfl⟩
theorem s0MsrPmonCtl3 (a : MsrAccess) : Statement (.s0MsrPmonCtl3 a) := ⟨⟨_, rfl, rfl⟩, rfl⟩
theorem s0MsrPmonBoxStatus (a : MsrAccess) : Statement (.s0MsrPmonBoxStatus a) := ⟨⟨_, rfl, rfl⟩, rfl⟩
theorem s0MsrPmonCtr0 (a : MsrAccess) : Statement (.s0MsrPmonCtr0 a) := ⟨⟨_, rfl, rfl⟩, rfl⟩
theorem s0MsrPmonCtr1 (a : MsrAccess) : Statement (.s0MsrPmonCtr1 a) := ⟨⟨_, rfl, rfl⟩, rfl⟩
theorem s0MsrPmonCtr2 (a : MsrAccess) : Statement (.s0MsrPmonCtr2 a) := ⟨⟨_, rfl, rfl⟩, rfl⟩
theorem s0MsrPmonCtr3 (a : MsrAccess) : Statement (.s0MsrPmonCtr3 a) := ⟨⟨_, rfl, rfl⟩, rfl⟩
theorem s1MsrPmonBoxCtl (a : MsrAccess) : Statement (.s1MsrPmonBoxCtl a) := ⟨⟨_, rfl, rfl⟩, rfl⟩
theorem s1MsrPmonCtl0 (a : MsrAccess) : Statement (.s1MsrPmonCtl0 a) := ⟨⟨_, rfl, rfl⟩, rfl⟩
theorem s1MsrPmonCtl1 (a : MsrAccess) : Statement (.s1MsrPmonCtl1 a) := ⟨⟨_, rfl, rfl⟩, rfl⟩
theorem s1MsrPmonCtl2 (a : MsrAccess) : Statement (.s1MsrPmonCtl2 a) := ⟨⟨_, rfl, rfl⟩, rfl⟩
theorem s1MsrPmonCtl3 (a : MsrAccess) : Statement (.s1MsrPmonCtl3 a) := ⟨⟨_, rfl, rfl⟩, rfl⟩
theorem s1MsrPmonBoxStatus (a : MsrAccess) : Statement (.s1MsrPmonBoxStatus a) := ⟨⟨_, rfl, rfl⟩, rfl⟩
theorem s1MsrPmonCtr0 (a : MsrAccess) : Statement (.s1MsrPmonCtr0 a) := ⟨⟨_, rfl, rfl⟩, rfl⟩
theorem s1MsrPmonCtr1 (a : MsrAccess) : Statement (.s1MsrPmonCtr1 a) := ⟨⟨_, rfl, rfl⟩, rfl⟩
theorem s1MsrPmonCtr2 (a : MsrAccess) : Statement (.s1MsrPmonCtr2 a) := ⟨⟨_, rfl, rfl⟩, rfl⟩
theorem s1MsrPmonCtr3 (a : MsrAccess) : Statement (.s1MsrPmonCtr3 a) := ⟨⟨_, rfl, rfl⟩, rfl⟩
theorem s2MsrPmonBoxCtl (a : MsrAccess) : Statement (.s2MsrPmonBoxCtl a) := ⟨⟨_, rfl, rfl⟩, rfl⟩
theorem s2MsrPmonCtl0 (a : MsrAccess) : Statement (.s2MsrPmonCtl0 a) := ⟨⟨_, rfl, rfl⟩, rfl⟩
theorem s2MsrPmonCtl1 (a : MsrAccess) : Statement (.s2MsrPmonCtl1 a) := ⟨⟨_, rfl, rfl⟩, rfl⟩
theorem s2MsrPmonCtl2 (a : MsrAccess) : Statement (.s2MsrPmonCtl2 a) := ⟨⟨_, rfl, rfl⟩, rfl⟩
theorem s2MsrPmonCtl3 (a : MsrAccess) : Statement (.s2MsrPmonCtl3 a) := ⟨⟨_, rfl, rfl⟩, rfl⟩
theorem s2MsrPmonBoxStatus (a : MsrAccess) : Statement (.s2MsrPmonBoxStatus a) := ⟨⟨_, rfl, rfl⟩, rfl⟩
theorem s2MsrPmonCtr0 (a : MsrAccess) : Statement (.s2MsrPmonCtr0 a) := ⟨⟨_, rfl, rfl⟩, rfl⟩
theorem s2MsrPmonCtr1 (a : MsrAccess) : Statement (.s2MsrPmonCtr1 a) := ⟨⟨_, rfl, rfl⟩, rfl⟩
theorem s2MsrPmonCtr2 (a : MsrAccess) : Statement (.s2MsrPmonCtr2 a) := ⟨⟨_, rfl, rfl⟩, rfl⟩
theorem s2MsrPmonCtr3 (a : MsrAccess) : Statement (.s2MsrPmonCtr3 a) := ⟨⟨_, rfl, rfl⟩, rfl⟩
theorem s3MsrPmonBoxCtl (a : MsrAccess) : Statement (.s3MsrPmonBoxCtl a) := ⟨⟨_, rfl, rfl⟩, rfl⟩
theorem s3MsrPmonCtl0 (a : MsrAccess) : Statement (.s3MsrPmonCtl0 a) := ⟨⟨_, rfl, rfl⟩, rfl⟩
theorem s3MsrPmonCtl1 (a : MsrAccess) : Statement (.s3MsrPmonCtl1 a) := ⟨⟨_, rfl, rfl⟩, rfl⟩
theorem s3MsrPmonCtl2 (a : MsrAccess) : Statement (.s3MsrPmonCtl2 a) := ⟨⟨_, rfl, rfl⟩, rfl⟩
theorem s3MsrPmonCtl3 (a : MsrAccess) : Statement (.s3MsrPmonCtl3 a) := ⟨⟨_, rfl, rfl⟩, rfl⟩
theorem s3MsrPmonBoxStatus (a : MsrAccess) : Statement (.s3MsrPmonBoxStatus a) := ⟨⟨_, rfl, rfl⟩, rfl⟩
theorem s3MsrPmonCtr0 (a : MsrAccess) : Statement (.s3MsrPmonCtr0 a) := ⟨⟨_, rfl, rfl⟩, rfl⟩
theorem s3MsrPmonCtr1 (a : MsrAccess) : Statement (.s3MsrPmonCtr1 a) := ⟨⟨_, rfl, rfl⟩, rfl⟩
theorem s3MsrPmonCtr2 (a : MsrAccess) : Statement (.s3MsrPmonCtr2 a) := ⟨⟨_, rfl, rfl⟩, rfl⟩
theorem s3MsrPmonCtr3 (a : MsrAccess) : Statement (.s3MsrPmonCtr3 a) := ⟨⟨_, rfl, rfl⟩, rfl⟩
theorem pcuMsrPmonBoxCtl (a : MsrAccess) : Statement (.pcuMsrPmonBoxCtl a) := ⟨⟨_, rfl, rfl⟩, rfl⟩
theorem pcuMsrPmonCtl0 (a : MsrAccess) : Statement (.pcuMsrPmonCtl0 a) := ⟨⟨_, rfl, rfl⟩, rfl⟩
theorem pcuMsrPmonCtl1 (a : MsrAccess) : Statement (.pcuMsrPmonCtl1 a) := ⟨⟨_, rfl, rfl⟩, rfl⟩
theorem pcuMsrPmonCtl2 (a : MsrAccess) : Statement (.pcuMsrPmonCtl2 a) := ⟨⟨_, rfl, rfl⟩, rfl⟩
theorem pcuMsrPmonCtl3 (a : MsrAccess) : Statement (.pcuMsrPmonCtl3 a) := ⟨⟨_, rfl, rfl⟩, rfl⟩
theorem pcuMsrPmonBoxFilter (a : MsrAccess) : Statement (.pcuMsrPmonBoxFilter a) := ⟨⟨_, rfl, rfl⟩, rfl⟩
theorem pcuMsrPmonBoxStatus (a : MsrAccess) : Statement (.pcuMsrPmonBoxStatus a) := ⟨⟨_, rfl, rfl⟩, rfl⟩
theorem pcuMsrPmonCtr0 (a : MsrAccess) : Statement (.pcuMsrPmonCtr0 a) := ⟨⟨_, rfl, rfl⟩, rfl⟩
theorem pcuMsrPmonCtr1 (a : MsrAccess) : Statement (.pcuMsrPmonCtr1 a) := ⟨⟨_, rfl, rfl⟩, rfl⟩
theorem pcuMsrPmonCtr2 (a : MsrAccess) : Statement (.pcuMsrPmonCtr2 a) := ⟨⟨_, rfl, rfl⟩, rfl⟩
theorem pcuMsrPmonCtr3 (a : MsrAccess) : Statement (.pcuMsrPmonCtr3 a) := ⟨⟨_, rfl, rfl⟩, rfl⟩
theorem pcuMsrCoreCc6Ctr (a : MsrAccess) : Statement (.pcuMsrCoreCc6Ctr a) := ⟨⟨_, rfl, rfl⟩, rfl⟩
theorem pcuMsrCoreCc3Ctr (a : MsrAccess) : Statement (.pcuMsrCoreCc3Ctr a) := ⟨⟨_, rfl, rfl⟩, rfl⟩
theorem pcuMsrCorePc2Ctr (a : MsrAccess) : Statement (.pcuMsrCorePc2Ctr a) := ⟨⟨_, rfl, rfl⟩, rfl⟩
theorem pcuMsrCorePc3Ctr (a : MsrAccess) : Statement (.pcuMsrCorePc3Ctr a) := ⟨⟨_, rfl, rfl⟩, rfl⟩
theorem ha0PciPmonBoxStatus (a : CfgAccess) : Statement (.ha0PciPmonBoxStatus a) := ⟨⟨_, rfl, rfl⟩, rfl⟩
theorem ha0PciPmonBoxCtl (a : CfgAccess) : Statement (.ha0PciPmonBoxCtl a) := ⟨⟨_, rfl, rfl⟩, rfl⟩
theorem ha0PciPmonCtl0 (a : CfgAccess) : Statement (.ha0PciPmonCtl0 a) := ⟨⟨_, rfl, rfl⟩, rfl⟩
theorem ha0PciPmonCtl1 (a : CfgAccess) : Statement (.ha0PciPmonCtl1 a) := ⟨⟨_, rfl, rfl⟩, rfl⟩
theorem ha0PciPmonCtl2 (a : CfgAccess) : Statement (.ha0PciPmonCtl2 a) := ⟨⟨_, rfl, rfl⟩, rfl⟩
theorem ha0PciPmonCtl3 (a : CfgAccess) : Statement (.ha0PciPmonCtl3 a) := ⟨⟨_, rfl, rfl⟩, rfl⟩
theorem ha0PciPmonCtr0 (a : CfgAccess) : Statement (.ha0PciPmonCtr0 a) := ⟨⟨_, rfl, rfl⟩, rfl⟩
theorem ha0PciPmonCtr1 (a : CfgAccess) : Statement (.ha0PciPmonCtr1 a) := ⟨⟨_, rfl, rfl⟩, rfl⟩
theorem ha0PciPmonCtr2 (a : CfgAccess) : Statement (.ha0PciPmonCtr2 a) := ⟨⟨_, rfl, rfl⟩, rfl⟩
theorem ha0PciPmonCtr3 (a : CfgAccess) : Statement (.ha0PciPmonCtr3 a) := ⟨⟨_, rfl, rfl⟩, rfl⟩
theorem ha0PciPmonBoxOpcodematch (a : CfgAccess) : Statement (.ha0PciPmonBoxOpcodematch a) := ⟨⟨_, rfl, rfl⟩, rfl⟩
theorem ha0PciPmonBoxAddrmatch1 (a : CfgAccess) : Statement (.ha0PciPmonBoxAddrmatch1 a) := ⟨⟨_, rfl, rfl⟩, rfl⟩
theorem ha0PciPmonBoxAddrmatch0 (a : CfgAccess) : Statement (.ha0PciPmonBoxAddrmatch0 a) := ⟨⟨_, rfl, rfl⟩, rfl⟩
theorem ha1PciPmonBoxStatus (a : CfgAccess) : Statement (.ha1PciPmonBoxStatus a) := ⟨⟨_, rfl, rfl⟩, rfl⟩
theorem ha1PciPmonBoxCtl (a : CfgAccess) : Statement (.ha1PciPmonBoxCtl a) := ⟨⟨_, rfl, rfl⟩, rfl⟩
theorem ha1PciPmonCtl0 (a : CfgAccess) : Statement (.ha1PciPmonCtl0 a) := ⟨⟨_, rfl, rfl⟩, rfl⟩
theorem ha1PciPmonCtl1 (a : CfgAccess) : Statement (.ha1PciPmonCtl1 a) := ⟨⟨_, rfl, rfl⟩, rfl⟩
theorem ha1PciPmonCtl2 (a : CfgAccess) : Statement (.ha1PciPmonCtl2 a) := ⟨⟨_, rfl, rfl⟩, rfl⟩
theorem ha1PciPmonCtl3 (a : CfgAccess) : Statement (.ha1PciPmonCtl3 a) := ⟨⟨_, rfl, rfl⟩, rfl⟩
theorem ha1PciPmonCtr0 (a : CfgAccess) : Statement (.ha1PciPmonCtr0 a) := ⟨⟨_, rfl, rfl⟩, rfl⟩
theorem ha1PciPmonCtr1 (a : CfgAccess) : Statement (.ha1PciPmonCtr1 a) := ⟨⟨_, rfl, rfl⟩, rfl⟩
theorem ha1PciPmonCtr2 (a : CfgAccess) : Statement (.ha1PciPmonCtr2 a) := ⟨⟨_, rfl, rfl⟩, rfl⟩
theorem ha1PciPmonCtr3 (a : CfgAccess) : Statement (.ha1PciPmonCtr3 a) := ⟨⟨_, rfl, rfl⟩, rfl⟩
theorem ha1PciPmonBoxOpcodematch (a : CfgAccess) : Statement (.ha1PciPmonBoxOpcodematch a) := ⟨⟨_, rfl, rfl⟩, rfl⟩
theorem ha1PciPmonBoxAddrmatch1 (a : CfgAccess) : Statement (.ha1PciPmonBoxAddrmatch1 a) := ⟨⟨_, rfl, rfl⟩, rfl⟩
theorem ha1PciPmonBoxAddrmatch0 (a : CfgAccess) : Statement (.ha1PciPmonBoxAddrmatch0 a) := ⟨⟨_, rfl, rfl⟩, rfl⟩
theorem mc0Ch0PciPmonBoxStatus (a : CfgAccess) : Statement (.mc0Ch0PciPmonBoxStatus a) := ⟨⟨_, rfl, rfl⟩, rfl⟩
theorem mc0Ch0PciPmonBoxCtl (a : CfgAccess) : Statement (.mc0Ch0PciPmonBoxCtl a) := ⟨⟨_, rfl, rfl⟩, rfl⟩
theorem mc0Ch0PciPmonCtl0 (a : CfgAccess) : Statement (.mc0Ch0PciPmonCtl0 a) := ⟨⟨_, rfl, rfl⟩, rfl⟩
theorem mc0Ch0PciPmonCtl1 (a : CfgAccess) : Statement (.mc0Ch0PciPmonCtl1 a) := ⟨⟨_, rfl, rfl⟩, rfl⟩
theorem mc0Ch0PciPmonCtl2 (a : CfgAccess) : Statement (.mc0Ch0PciPmonCtl2 a) := ⟨⟨_, rfl, rfl⟩, rfl⟩
theorem mc0Ch0PciPmonCtl3 (a : CfgAccess) : Statement (.mc0Ch0PciPmonCtl3 a) := ⟨⟨_, rfl, rfl⟩, rfl⟩
theorem mc0Ch0PciPmonCtr0 (a : CfgAccess) : Statement (.mc0Ch0PciPmonCtr0 a) := ⟨⟨_, rfl, rfl⟩, rfl⟩
theorem mc0Ch0PciPmonCtr1 (a : CfgAccess) : Statement (.mc0Ch0PciPmonCtr1 a) := ⟨⟨_, rfl, rfl⟩, rfl⟩
theorem mc0Ch0PciPmonCtr2 (a : CfgAccess) : Statement (.mc0Ch0PciPmonCtr2 a) := ⟨⟨_, rfl, rfl⟩, rfl⟩
theorem mc0Ch0PciPmonCtr3 (a : CfgAccess) : Statement (.mc0Ch0PciPmonCtr3 a) := ⟨⟨_, rfl, rfl⟩, rfl⟩
theorem mc0Ch0PciPmonFixedCtl (a : CfgAccess) : Statement (.mc0Ch0PciPmonFixedCtl a) := ⟨⟨_, rfl, rfl⟩, rfl⟩
theorem mc0Ch0PciPmonFixedCtr (a : CfgAccess) : Statement (.mc0Ch0PciPmonFixedCtr a) := ⟨⟨_, rfl, rfl⟩, rfl⟩
theorem mc0Ch1PciPmonBoxStatus (a : CfgAccess) : Statement (.mc0Ch1PciPmonBoxStatus a) := ⟨⟨_, rfl, rfl⟩, rfl⟩
theorem mc0Ch1PciPmonBoxCtl (a : CfgAccess) : Statement (.mc0Ch1PciPmonBoxCtl a) := ⟨⟨_, rfl, rfl⟩, rfl⟩
theorem mc0Ch1PciPmonCtl0 (a : CfgAccess) : Statement (.mc0Ch1PciPmonCtl0 a) := ⟨⟨_, rfl, rfl⟩, rfl⟩
theorem mc0Ch1PciPmonCtl1 (a : CfgAccess) : Statement (.mc0Ch1PciPmonCtl1 a) := ⟨⟨_, rfl, rfl⟩, rfl⟩
theorem mc0Ch1PciPmonCtl2 (a : CfgAccess) : Statement (.mc0Ch1PciPmonCtl2 a) := ⟨⟨_, rfl, rfl⟩, rfl⟩
theorem mc0Ch1PciPmonCtl3 (a : CfgAccess) : Statement (.mc0Ch1PciPmonCtl3 a) := ⟨⟨_, rfl, rfl⟩, rfl⟩
theorem mc0Ch1PciPmonCtr0 (a : CfgAccess) : Statement (.mc0Ch1PciPmonCtr0 a) := ⟨⟨_, rfl, rfl⟩, rfl⟩
theorem mc0Ch1PciPmonCtr1 (a : CfgAccess) : Statement (.mc0Ch1PciPmonCtr1 a) := ⟨⟨_, rfl, rfl⟩, rfl⟩
theorem mc0Ch1PciPmonCtr2 (a : CfgAccess) : Statement (.mc0Ch1PciPmonCtr2 a) := ⟨⟨_, rfl, rfl⟩, rfl⟩
theorem mc0Ch1PciPmonCtr3 (a : CfgAccess) : Statement (.mc0Ch1PciPmonCtr3 a) := ⟨⟨_, rfl, rfl⟩, rfl⟩
theorem mc0Ch1PciPmonFixedCtl (a : CfgAccess) : Statement (.mc0Ch1PciPmonFixedCtl a) := ⟨⟨_, rfl, rfl⟩, rfl⟩
theorem mc0Ch1PciPmonFixedCtr (a : CfgAccess) : Statement (.mc0Ch1PciPmonFixedCtr a) := ⟨⟨_, rfl, rfl⟩, rfl⟩
theorem mc0Ch2PciPmonBoxStatus (a : CfgAccess) : Statement (.mc0Ch2PciPmonBoxStatus a) := ⟨⟨_, rfl, rfl⟩, rfl⟩
theorem mc0Ch2PciPmonBoxCtl (a : CfgAccess) : Statement (.mc0Ch2PciPmonBoxCtl a) := ⟨⟨_, rfl, rfl⟩, rfl⟩
theorem mc0Ch2PciPmonCtl0 (a : CfgAccess) : Statement (.mc0Ch2PciPmonCtl0 a) := ⟨⟨_, rfl, rfl⟩, rfl⟩
theorem mc0Ch2PciPmonCtl1 (a : CfgAccess) : Statement (.mc0Ch2PciPmonCtl1 a) := ⟨⟨_, rfl, rfl⟩, rfl⟩
theorem mc0Ch2PciPmonCtl2 (a : CfgAccess) : Statement (.mc0Ch2PciPmonCtl2 a) := ⟨⟨_, rfl, rfl⟩, rfl⟩
theorem mc0Ch2PciPmonCtl3 (a : CfgAccess) : Statement (.mc0Ch2PciPmonCtl3 a) := ⟨⟨_, rfl, rfl⟩, rfl⟩
theorem mc0Ch2PciPmonCtr0 (a : CfgAccess) : Statement (.mc0Ch2PciPmonCtr0 a) := ⟨⟨_, rfl, rfl⟩, rfl⟩
theorem mc0Ch2PciPmonCtr1 (a : CfgAccess) : Statement (.mc0Ch2PciPmonCtr1 a) := ⟨⟨_, rfl, rfl⟩, rfl⟩
theorem mc0Ch2PciPmonCtr2 (a : CfgAccess) : Statement (.mc0Ch2PciPmonCtr2 a) := ⟨⟨_, rfl, rfl⟩, rfl⟩
theorem mc0Ch2PciPmonCtr3 (a : CfgAccess) : Statement (.mc0Ch2PciPmonCtr3 a) := ⟨⟨_, rfl, rfl⟩, rfl⟩
theorem mc0Ch2PciPmonFixedCtl (a : CfgAccess) : Statement (.mc0Ch2PciPmonFixedCtl a) := ⟨⟨_, rfl, rfl⟩, rfl⟩
theorem mc0Ch2PciPmonFixedCtr (a : CfgAccess) : Statement (.mc0Ch2PciPmonFixedCtr a) := ⟨⟨_, rfl, rfl⟩, rfl⟩
theorem mc0Ch3PciPmonBoxStatus (a : CfgAccess) : Statement (.mc0Ch3PciPmonBoxStatus a) := ⟨⟨_, rfl, rfl⟩, rfl⟩
theorem mc0Ch3PciPmonBoxCtl (a : CfgAccess) : Statement (.mc0Ch3PciPmonBoxCtl a) := ⟨⟨_, rfl, rfl⟩, rfl⟩
theorem mc0Ch3PciPmonCtl0 (a : CfgAccess) : Statement (.mc0Ch3PciPmonCtl0 a) := ⟨⟨_, rfl, rfl⟩, rfl⟩
theorem mc0Ch3PciPmonCtl1 (a : CfgAccess) : Statement (.mc0Ch3PciPmonCtl1 a) := ⟨⟨_, rfl, rfl⟩, rfl⟩
theorem mc0Ch3PciPmonCtl2 (a : CfgAccess) : Statement (.mc0Ch3PciPmonCtl2 a) := ⟨⟨_, rfl, rfl⟩, rfl⟩
theorem mc0Ch3PciPmonCtl3 (a : CfgAccess) : Statement (.mc0Ch3PciPmonCtl3 a) := ⟨⟨_, rfl, rfl⟩, rfl⟩
theorem mc0Ch3PciPmonCtr0 (a : CfgAccess) : Statement (.mc0Ch3PciPmonCtr0 a) := ⟨⟨_, rfl, rfl⟩, rfl⟩
theorem mc0Ch3PciPmonCtr1 (a : CfgAccess) : Statement (.mc0Ch3PciPmonCtr1 a) := ⟨⟨_, rfl, rfl⟩, rfl⟩
theorem mc0Ch3PciPmonCtr2 (a : CfgAccess) : Statement (.mc0Ch3PciPmonCtr2 a) := ⟨⟨_, rfl, rfl⟩, rfl⟩
theorem mc0Ch3PciPmonCtr3 (a : CfgAccess) : Statement (.mc0Ch3PciPmonCtr3 a) := ⟨⟨_, rfl, rfl⟩, rfl⟩
theorem mc0Ch3PciPmonFixedCtl (a : CfgAccess) : Statement (.mc0Ch3PciPmonFixedCtl a) := ⟨⟨_, rfl, rfl⟩, rfl⟩
theorem mc0Ch3PciPmonFixedCtr (a : CfgAccess) : Statement (.mc0Ch3PciPmonFixedCtr a) := ⟨⟨_, rfl, rfl⟩, rfl⟩
theorem mc1Ch0PciPmonBoxStatus (a : CfgAccess) : Statement (.mc1Ch0PciPmonBoxStatus a) := ⟨⟨_, rfl, rfl⟩, rfl⟩
theorem mc1Ch0PciPmonBoxCtl (a : CfgAccess) : Statement (.mc1Ch0PciPmonBoxCtl a) := ⟨⟨_, rfl, rfl⟩, rfl⟩
theorem mc1Ch0PciPmonCtl0 (a : CfgAccess) : Statement (.mc1Ch0PciPmonCtl0 a) := ⟨⟨_, rfl, rfl⟩, rfl⟩
theorem mc1Ch0PciPmonCtl1 (a : CfgAccess) : Statement (.mc1Ch0PciPmonCtl1 a) := ⟨⟨_, rfl, rfl⟩, rfl⟩
theorem mc1Ch0PciPmonCtl2 (a : CfgAccess) : Statement (.mc1Ch0PciPmonCtl2 a) := ⟨⟨_, rfl, rfl⟩, rfl⟩
theorem mc1Ch0PciPmonCtl3 (a : CfgAccess) : Statement (.mc1Ch0PciPmonCtl3 a) := ⟨⟨_, rfl, rfl⟩, rfl⟩
theorem mc1Ch0PciPmonCtr0 (a : CfgAccess) : Statement (.mc1Ch0PciPmonCtr0 a) := ⟨⟨_, rfl, rfl⟩, rfl⟩
theorem mc1Ch0PciPmonCtr1 (a : CfgAccess) : Statement (.mc1Ch0PciPmonCtr1 a) := ⟨⟨_, rfl, rfl⟩, rfl⟩
theorem mc1Ch0PciPmonCtr2 (a : CfgAccess) : Statement (.mc1Ch0PciPmonCtr2 a) := ⟨⟨_, rfl, rfl⟩, rfl⟩
theorem mc1Ch0PciPmonCtr3 (a : CfgAccess) : Statement (.mc1Ch0PciPmonCtr3 a) := ⟨⟨_, rfl, rfl⟩, rfl⟩
theorem mc1Ch0PciPmonFixedCtl (a : CfgAccess) : Statement (.mc1Ch0PciPmonFixedCtl a) := ⟨⟨_, rfl, rfl⟩, rfl⟩
theorem mc1Ch0PciPmonFixedCtr (a : CfgAccess) : Statement (.mc1Ch0PciPmonFixedCtr a) := ⟨⟨_, rfl, rfl⟩, rfl⟩
theorem mc1Ch1PciPmonBoxStatus (a : CfgAccess) : Statement (.mc1Ch1PciPmonBoxStatus a) := ⟨⟨_, rfl, rfl⟩, rfl⟩
theorem mc1Ch1PciPmonBoxCtl (a : CfgAccess) : Statement (.mc1Ch1PciPmonBoxCtl a) := ⟨⟨_, rfl, rfl⟩, rfl⟩
theorem mc1Ch1PciPmonCtl0 (a : CfgAccess) : Statement (.mc1Ch1PciPmonCtl0 a) := ⟨⟨_, rfl, rfl⟩, rfl⟩
theorem mc1Ch1PciPmonCtl1 (a : CfgAccess) : Statement (.mc1Ch1PciPmonCtl1 a) := ⟨⟨_, rfl, rfl⟩, rfl⟩
theorem mc1Ch1PciPmonCtl2 (a : CfgAccess) : Statement (.mc1Ch1PciPmonCtl2 a) := ⟨⟨_, rfl, rfl⟩, rfl⟩
theorem mc1Ch1PciPmonCtl3 (a : CfgAccess) : Statement (.mc1Ch1PciPmonCtl3 a) := ⟨⟨_, rfl, rfl⟩, rfl⟩
theorem mc1Ch1PciPmonCtr0 (a : CfgAccess) : Statement (.mc1Ch1PciPmonCtr0 a) := ⟨⟨_, rfl, rfl⟩, rfl⟩
theorem mc1Ch1PciPmonCtr1 (a : CfgAccess) : Statement (.mc1Ch1PciPmonCtr1 a) := ⟨⟨_, rfl, rfl⟩, rfl⟩
theorem mc1Ch1PciPmonCtr2 (a : CfgAccess) : Statement (.mc1Ch1PciPmonCtr2 a) := ⟨⟨_, rfl, rfl⟩, rfl⟩
theorem mc1Ch1PciPmonCtr3 (a : CfgAccess) : Statement (.mc1Ch1PciPmonCtr3 a) := ⟨⟨_, rfl, rfl⟩, rfl⟩
theorem mc1Ch1PciPmonFixedCtl (a : CfgAccess) : Statement (.mc1Ch1PciPmonFixedCtl a) := ⟨⟨_, rfl, rfl⟩, rfl⟩
theorem mc1Ch1PciPmonFixedCtr (a : CfgAccess) : Statement (.mc1Ch1PciPmonFixedCtr a) := ⟨⟨_, rfl, rfl⟩, rfl⟩
theorem mc1Ch2PciPmonBoxStatus (a : CfgAccess) : Statement (.mc1Ch2PciPmonBoxStatus a) := ⟨⟨_, rfl, rfl⟩, rfl⟩
theorem mc1Ch2PciPmonBoxCtl (a : CfgAccess) : Statement (.mc1Ch2PciPmonBoxCtl a) := ⟨⟨_, rfl, rfl⟩, rfl⟩
theorem mc1Ch2PciPmonCtl0 (a : CfgAccess) : Statement (.mc1Ch2PciPmonCtl0 a) := ⟨⟨_, rfl, rfl⟩, rfl⟩
theorem mc1Ch2PciPmonCtl1 (a : CfgAccess) : Statement (.mc1Ch2PciPmonCtl1 a) := ⟨⟨_, rfl, rfl⟩, rfl⟩
theorem mc1Ch2PciPmonCtl2 (a : CfgAccess) : Statement (.mc1Ch2PciPmonCtl2 a) := ⟨⟨_, rfl, rfl⟩, rfl⟩
theorem mc1Ch2PciPmonCtl3 (a : CfgAccess) : Statement (.mc1Ch2PciPmonCtl3 a) := ⟨⟨_, rfl, rfl⟩, rfl⟩
theorem mc1Ch2PciPmonCtr0 (a : CfgAccess) : Statement (.mc1Ch2PciPmonCtr0 a) := ⟨⟨_, rfl, rfl⟩, rfl⟩
theorem mc1Ch2PciPmonCtr1 (a : CfgAccess) : Statement (.mc1Ch2PciPmonCtr1 a) := ⟨⟨_, rfl, rfl⟩, rfl⟩
theorem mc1Ch2PciPmonCtr2 (a : CfgAccess) : Statement (.mc1Ch2PciPmonCtr2 a) := ⟨⟨_, rfl, rfl⟩, rfl⟩
theorem mc1Ch2PciPmonCtr3 (a : CfgAccess) : Statement (.mc1Ch2PciPmonCtr3 a) := ⟨⟨_, rfl, rfl⟩, rfl⟩
theorem mc1Ch2PciPmonFixedCtl (a : CfgAccess) : Statement (.mc1Ch2PciPmonFixedCtl a) := ⟨⟨_, rfl, rfl⟩, rfl⟩
theorem mc1Ch2PciPmonFixedCtr (a : CfgAccess) : Statement (.mc1Ch2PciPmonFixedCtr a) := ⟨⟨_, rfl, rfl⟩, rfl⟩
theorem mc1Ch3PciPmonBoxStatus (a : CfgAccess) : Statement (.mc1Ch3PciPmonBoxStatus a) := ⟨⟨_, rfl, rfl⟩, rfl⟩
theorem mc1Ch3PciPmonBoxCtl (a : CfgAccess) : Statement (.mc1Ch3PciPmonBoxCtl a) := ⟨⟨_, rfl, rfl⟩, rfl⟩
theorem mc1Ch3PciPmonCtl0 (a : CfgAccess) : Statement (.mc1Ch3PciPmonCtl0 a) := ⟨⟨_, rfl, rfl⟩, rfl⟩
theorem mc1Ch3PciPmonCtl1 (a : CfgAccess) : Statement (.mc1Ch3PciPmonCtl1 a) := ⟨⟨_, rfl, rfl⟩, rfl⟩
theorem mc1Ch3PciPmonCtl2 (a : CfgAccess) : Statement (.mc1Ch3PciPmonCtl2 a) := ⟨⟨_, rfl, rfl⟩, rfl⟩
theorem mc1Ch3PciPmonCtl3 (a : CfgAccess) : Statement (.mc1Ch3PciPmonCtl3 a) := ⟨⟨_, rfl, rfl⟩, rfl⟩
theorem mc1Ch3PciPmonCtr0 (a : CfgAccess) : Statement (.mc1Ch3PciPmonCtr0 a) := ⟨⟨_, rfl, rfl⟩, rfl⟩
theorem mc1Ch3PciPmonCtr1 (a : CfgAccess) : Statement (.mc1Ch3PciPmonCtr1 a) := ⟨⟨_, rfl, rfl⟩, rfl⟩
theorem mc1Ch3PciPmonCtr2 (a : CfgAccess) : Statement (.mc1Ch3PciPmonCtr2 a) := ⟨⟨_, rfl, rfl⟩, rfl⟩
theorem mc1Ch3PciPmonCtr3 (a : CfgAccess) : Statement (.mc1Ch3PciPmonCtr3 a) := ⟨⟨_, rfl, rfl⟩, rfl⟩
theorem mc1Ch3PciPmonFixedCtl (a : CfgAccess) : Statement (.mc1Ch3PciPmonFixedCtl a) := ⟨⟨_, rfl, rfl⟩, rfl⟩
theorem mc1Ch3PciPmonFixedCtr (a : CfgAccess) : Statement (.mc1Ch3PciPmonFixedCtr a) := ⟨⟨_, rfl, rfl⟩, rfl⟩
theorem irpPciPmonBoxStatus (a : CfgAccess) : Statement (.irpPciPmonBoxStatus a) := ⟨⟨_, rfl, rfl⟩, rfl⟩
theorem irpPciPmonBoxCtl (a : CfgAccess) : Statement (.irpPciPmonBoxCtl a) := ⟨⟨_, rfl, rfl⟩, rfl⟩
theorem irp0PciPmonCtl0 (a : CfgAccess) : Statement (.irp0PciPmonCtl0 a) := ⟨⟨_, rfl, rfl⟩, rfl⟩
theorem irp0PciPmonCtl1 (a : CfgAccess) : Statement (.irp0PciPmonCtl1 a) := ⟨⟨_, rfl, rfl⟩, rfl⟩
theorem irp1PciPmonCtl0 (a : CfgAccess) : Statement (.irp1PciPmonCtl0 a) := ⟨⟨_, rfl, rfl⟩, rfl⟩
theorem irp1PciPmonCtl1 (a : CfgAccess) : Statement (.irp1PciPmonCtl1 a) := ⟨⟨_, rfl, rfl⟩, rfl⟩
theorem irp0PciPmonCtr0 (a : CfgAccess) : Statement (.irp0PciPmonCtr0 a) := ⟨⟨_, rfl, rfl⟩, rfl⟩
theorem irp0PciPmonCtr1 (a : CfgAccess) : Statement (.irp0PciPmonCtr1 a) := ⟨⟨_, rfl, rfl⟩, rfl⟩
theorem irp1PciPmonCtr0 (a : CfgAccess) : Statement (.irp1PciPmonCtr0 a) := ⟨⟨_, rfl, rfl⟩, rfl⟩
theorem irp1PciPmonCtr1 (a : CfgAccess) : Statement (.irp1PciPmonCtr1 a) := ⟨⟨_, rfl, rfl⟩, rfl⟩
theorem qP0PciPmonBoxStatus (a : CfgAccess) : Statement (.qP0PciPmonBoxStatus a) := ⟨⟨_, rfl, rfl⟩, rfl⟩
theorem qP0PciPmonBoxCtl (a : CfgAccess) : Statement (.qP0PciPmonBoxCtl a) := ⟨⟨_, rfl, rfl⟩, rfl⟩
theorem qP0PciPmonCtl0 (a : CfgAccess) : Statement (.qP0PciPmonCtl0 a) := ⟨⟨_, rfl, rfl⟩, rfl⟩
theorem qP0PciPmonCtl1 (a : CfgAccess) : Statement (.qP0PciPmonCtl1 a) := ⟨⟨_, rfl, rfl⟩, rfl⟩
theorem qP0PciPmonCtl2 (a : CfgAccess) : Statement (.qP0PciPmonCtl2 a) := ⟨⟨_, rfl, rfl⟩, rfl⟩
theorem qP0PciPmonCtl3 (a : CfgAccess) : Statement (.qP0PciPmonCtl3 a) := ⟨⟨_, rfl, rfl⟩, rfl⟩
theorem qP0PciPmonCtr0 (a : CfgAccess) : Statement (.qP0PciPmonCtr0 a) := ⟨⟨_, rfl, rfl⟩, rfl⟩
theorem qP0PciPmonCtr1 (a : CfgAccess) : Statement (.qP0PciPmonCtr1 a) := ⟨⟨_, rfl, rfl⟩, rfl⟩
theorem qP0PciPmonCtr2 (a : CfgAccess) : Statement (.qP0PciPmonCtr2 a) := ⟨⟨_, rfl, rfl⟩, rfl⟩
theorem qP0PciPmonCtr3 (a : CfgAccess) : Statement (.qP0PciPmonCtr3 a) := ⟨⟨_, rfl, rfl⟩, rfl⟩
theorem qP0PciPmonLinkLlr (a : CfgAccess) : Statement (.qP0PciPmonLinkLlr a) := ⟨⟨_, rfl, rfl⟩, rfl⟩
theorem qP0PciPmonLinkIdle (a : CfgAccess) : Statement (.qP0PciPmonLinkIdle a) := ⟨⟨_, rfl, rfl⟩, rfl⟩
theorem qP0PciPmonRxPktMask1 (a : CfgAccess) : Statement (.qP0PciPmonRxPktMask1 a) := ⟨⟨_, rfl, rfl⟩, rfl⟩
theorem qP0PciPmonRxPktMask0 (a : CfgAccess) : Statement (.qP0PciPmonRxPktMask0 a) := ⟨⟨_, rfl, rfl⟩, rfl⟩
theorem qP0PciPmonRxPktMatch1 (a : CfgAccess) : Statement (.qP0PciPmonRxPktMatch1 a) := ⟨⟨_, rfl, rfl⟩, rfl⟩
theorem qP0PciPmonRxPktMatch0 (a : CfgAccess) : Statement (.qP0PciPmonRxPktMatch0 a) := ⟨⟨_, rfl, rfl⟩, rfl⟩
theorem qP0PciPmonTxPktMask1 (a : CfgAccess) : Statement (.qP0PciPmonTxPktMask1 a) := ⟨⟨_, rfl, rfl⟩, rfl⟩
theorem qP0PciPmonTxPktMask0 (a : CfgAccess) : Statement (.qP0PciPmonTxPktMask0 a) := ⟨⟨_, rfl, rfl⟩, rfl⟩
theorem qP0PciPmonTxPktMatch1 (a : CfgAccess) : Statement (.qP0PciPmonTxPktMatch1 a) := ⟨⟨_, rfl, rfl⟩, rfl⟩
theorem qP0PciPmonTxPktMatch0 (a : CfgAccess) : Statement (.qP0PciPmonTxPktMatch0 a) := ⟨⟨_, rfl, rfl⟩, rfl⟩
theorem qP1PciPmonBoxStatus (a : CfgAccess) : Statement (.qP1PciPmonBoxStatus a) := ⟨⟨_, rfl, rfl⟩, rfl⟩
theorem qP1PciPmonBoxCtl (a : CfgAccess) : Statement (.qP1PciPmonBoxCtl a) := ⟨⟨_, rfl, rfl⟩, rfl⟩
theorem qP1PciPmonCtl0 (a : CfgAccess) : Statement (.qP1PciPmonCtl0 a) := ⟨⟨_, rfl, rfl⟩, rfl⟩
theorem qP1PciPmonCtl1 (a : CfgAccess) : Statement (.qP1PciPmonCtl1 a) := ⟨⟨_, rfl, rfl⟩, rfl⟩
theorem qP1PciPmonCtl2 (a : CfgAccess) : Statement (.qP1PciPmonCtl2 a) := ⟨⟨_, rfl, rfl⟩, rfl⟩
theorem qP1PciPmonCtl3 (a : CfgAccess) : Statement (.qP1PciPmonCtl3 a) := ⟨⟨_, rfl, rfl⟩, rfl⟩
theorem qP1PciPmonCtr0 (a : CfgAccess) : Statement (.qP1PciPmonCtr0 a) := ⟨⟨_, rfl, rfl⟩, rfl⟩
theorem qP1PciPmonCtr1 (a : CfgAccess) : Statement (.qP1PciPmonCtr1 a) := ⟨⟨_, rfl, rfl⟩, rfl⟩
theorem qP1PciPmonCtr2 (a : CfgAccess) : Statement (.qP1PciPmonCtr2 a) := ⟨⟨_, rfl, rfl⟩, rfl⟩
theorem qP1PciPmonCtr3 (a : CfgAccess) : Statement (.qP1PciPmonCtr3 a) := ⟨⟨_, rfl, rfl⟩, rfl⟩
theorem qP1PciPmonLinkLlr (a : CfgAccess) : Statement (.qP1PciPmonLinkLlr a) := ⟨⟨_, rfl, rfl⟩, rfl⟩
theorem qP1PciPmonLinkIdle (a : CfgAccess) : Statement (.qP1PciPmonLinkIdle a) := ⟨⟨_, rfl, rfl⟩, rfl⟩
theorem qP1PciPmonRxPktMask1 (a : CfgAccess) : Statement (.qP1PciPmonRxPktMask1 a) := ⟨⟨_, rfl, rfl⟩, rfl⟩
theorem qP1PciPmonRxPktMask0 (a : CfgAccess) : Statement (.qP1PciPmonRxPktMask0 a) := ⟨⟨_, rfl, rfl⟩, rfl⟩
theorem qP1PciPmonRxPktMatch1 (a : CfgAccess) : Statement (.qP1PciPmonRxPktMatch1 a) := ⟨⟨_, rfl, rfl⟩, rfl⟩
theorem qP1PciPmonRxPktMatch0 (a : CfgAccess) : Statement (.qP1PciPmonRxPktMatch0 a) := ⟨⟨_, rfl, rfl⟩, rfl⟩
theorem qP1PciPmonTxPktMask1 (a : CfgAccess) : Statement (.qP1PciPmonTxPktMask1 a) := ⟨⟨_, rfl, rfl⟩, rfl⟩
theorem qP1PciPmonTxPktMask0 (a : CfgAccess) : Statement (.qP1PciPmonTxPktMask0 a) := ⟨⟨_, rfl, rfl⟩, rfl⟩
theorem qP1PciPmonTxPktMatch1 (a : CfgAccess) : Statement (.qP1PciPmonTxPktMatch1 a) := ⟨⟨_, rfl, rfl⟩, rfl⟩
theorem qP1PciPmonTxPktMatch0 (a : CfgAccess) : Statement (.qP1PciPmonTxPktMatch0 a) := ⟨⟨_, rfl, rfl⟩, rfl⟩
theorem qP2PciPmonBoxStatus (a : CfgAccess) : Statement (.qP2PciPmonBoxStatus a) := ⟨⟨_, rfl, rfl⟩, rfl⟩
theorem qP2PciPmonBoxCtl (a : CfgAccess) : Statement (.qP2PciPmonBoxCtl a) := ⟨⟨_, rfl, rfl⟩, rfl⟩
theorem qP2PciPmonCtl0 (a : CfgAccess) : Statement (.qP2PciPmonCtl0 a) := ⟨⟨_, rfl, rfl⟩, rfl⟩
theorem qP2PciPmonCtl1 (a : CfgAccess) : Statement (.qP2PciPmonCtl1 a) := ⟨⟨_, rfl, rfl⟩, rfl⟩
theorem qP2PciPmonCtl2 (a : CfgAccess) : Statement (.qP2PciPmonCtl2 a) := ⟨⟨_, rfl, rfl⟩, rfl⟩
theorem qP2PciPmonCtl3 (a : CfgAccess) : Statement (.qP2PciPmonCtl3 a) := ⟨⟨_, rfl, rfl⟩, rfl⟩
theorem qP2PciPmonCtr0 (a : CfgAccess) : Statement (.qP2PciPmonCtr0 a) := ⟨⟨_, rfl, rfl⟩, rfl⟩
theorem qP2PciPmonCtr1 (a : CfgAccess) : Statement (.qP2PciPmonCtr1 a) := ⟨⟨_, rfl, rfl⟩, rfl⟩
theorem qP2PciPmonCtr2 (a : CfgAccess) : Statement (.qP2PciPmonCtr2 a) := ⟨⟨_, rfl, rfl⟩, rfl⟩
theorem qP2PciPmonCtr3 (a : CfgAccess) : Statement (.qP2PciPmonCtr3 a) := ⟨⟨_, rfl, rfl⟩, rfl⟩
theorem qP2PciPmonLinkLlr (a : CfgAccess) : Statement (.qP2PciPmonLinkLlr a) := ⟨⟨_, rfl, rfl⟩, rfl⟩
theorem qP2PciPmonLinkIdle (a : CfgAccess) : Statement (.qP2PciPmonLinkIdle a) := ⟨⟨_, rfl, rfl⟩, rfl⟩
theorem qP2PciPmonRxPktMask1 (a : CfgAccess) : Statement (.qP2PciPmonRxPktMask1 a) := ⟨⟨_, rfl, rfl⟩, rfl⟩
theorem qP2PciPmonRxPktMask0 (a : CfgAccess) : Statement (.qP2PciPmonRxPktMask0 a) := ⟨⟨_, rfl, rfl⟩, rfl⟩
theorem qP2PciPmonRxPktMatch1 (a : CfgAccess) : Statement (.qP2PciPmonRxPktMatch1 a) := ⟨⟨_, rfl, rfl⟩, rfl⟩
theorem qP2PciPmonRxPktMatch0 (a : CfgAccess) : Statement (.qP2PciPmonRxPktMatch0 a) := ⟨⟨_, rfl, rfl⟩, rfl⟩
theorem qP2PciPmonTxPktMask1 (a : CfgAccess) : Statement (.qP2PciPmonTxPktMask1 a) := ⟨⟨_, rfl, rfl⟩, rfl⟩
theorem qP2PciPmonTxPktMask0 (a : CfgAccess) : Statement (.qP2PciPmonTxPktMask0 a) := ⟨⟨_, rfl, rfl⟩, rfl⟩
theorem qP2PciPmonTxPktMatch1 (a : CfgAccess) : Statement (.qP2PciPmonTxPktMatch1 a) := ⟨⟨_, rfl, rfl⟩, rfl⟩
theorem qP2PciPmonTxPktMatch0 (a : CfgAccess) : Statement (.qP2PciPmonTxPktMatch0 a) := ⟨⟨_, rfl, rfl⟩, rfl⟩
theorem qpi0RateStatus (a : CfgAccess) : Statement (.qpi0RateStatus a) := ⟨⟨_, rfl, rfl⟩, rfl⟩
theorem qpi1RateStatus (a : CfgAccess) : Statement (.qpi1RateStatus a) := ⟨⟨_, rfl, rfl⟩, rfl⟩
theorem r2PciPmonBoxStatus (a : CfgAccess) : Statement (.r2PciPmonBoxStatus a) := ⟨⟨_, rfl, rfl⟩, rfl⟩
theorem r2PciPmonBoxCtl (a : CfgAccess) : Statement (.r2PciPmonBoxCtl a) := ⟨⟨_, rfl, rfl⟩, rfl⟩
theorem r2PciPmonCtl0 (a : CfgAccess) : Statement (.r2PciPmonCtl0 a) := ⟨⟨_, rfl, rfl⟩, rfl⟩
theorem r2PciPmonCtl1 (a : CfgAccess) : Statement (.r2PciPmonCtl1 a) := ⟨⟨_, rfl, rfl⟩, rfl⟩
theorem r2PciPmonCtl2 (a : CfgAccess) : Statement (.r2PciPmonCtl2 a) := ⟨⟨_, rfl, rfl⟩, rfl⟩
theorem r2PciPmonCtl3 (a : CfgAccess) : Statement (.r2PciPmonCtl3 a) := ⟨⟨_, rfl, rfl⟩, rfl⟩
theorem r2PciPmonCtr0 (a : CfgAccess) : Statement (.r2PciPmonCtr0 a) := ⟨⟨_, rfl, rfl⟩, rfl⟩
theorem r2PciPmonCtr1 (a : CfgAccess) : Statement (.r2PciPmonCtr1 a) := ⟨⟨_, rfl, rfl⟩, rfl⟩
theorem r2PciPmonCtr2 (a : CfgAccess) : Statement (.r2PciPmonCtr2 a) := ⟨⟨_, rfl, rfl⟩, rfl⟩
theorem r2PciPmonCtr3 (a : CfgAccess) : Statement (.r2PciPmonCtr3 a) := ⟨⟨_, rfl, rfl⟩, rfl⟩
theorem r3L0PciPmonBoxStatus (a : CfgAccess) : Statement (.r3L0PciPmonBoxStatus a) := ⟨⟨_, rfl, rfl⟩, rfl⟩
theorem r3L0PciPmonBoxCtl (a : CfgAccess) : Statement (.r3L0PciPmonBoxCtl a) := ⟨⟨_, rfl, rfl⟩, rfl⟩
theorem r3L0PciPmonCtl0 (a : CfgAccess) : Statement (.r3L0PciPmonCtl0 a) := ⟨⟨_, rfl, rfl⟩, rfl⟩
theorem r3L0PciPmonCtl1 (a : CfgAccess) : Statement (.r3L0PciPmonCtl1 a) := ⟨⟨_, rfl, rfl⟩, rfl⟩
theorem r3L0PciPmonCtl2 (a : CfgAccess) : Statement (.r3L0PciPmonCtl2 a) := ⟨⟨_, rfl, rfl⟩, rfl⟩
theorem r3L0PciPmonCtr0 (a : CfgAccess) : Statement (.r3L0PciPmonCtr0 a) := ⟨⟨_, rfl, rfl⟩, rfl⟩
theorem r3L0PciPmonCtr1 (a : CfgAccess) : Statement (.r3L0PciPmonCtr1 a) := ⟨⟨_, rfl, rfl⟩, rfl⟩
theorem r3L0PciPmonCtr2 (a : CfgAccess) : Statement (.r3L0PciPmonCtr2 a) := ⟨⟨_, rfl, rfl⟩, rfl⟩
theorem r3L1PciPmonBoxStatus (a : CfgAccess) : Statement (.r3L1PciPmonBoxStatus a) := ⟨⟨_, rfl, rfl⟩, rfl⟩
theorem r3L1PciPmonBoxCtl (a : CfgAccess) : Statement (.r3L1PciPmonBoxCtl a) := ⟨⟨_, rfl, rfl⟩, rfl⟩
theorem r3L1PciPmonCtl0 (a : CfgAccess) : Statement (.r3L1PciPmonCtl0 a) := ⟨⟨_, rfl, rfl⟩, rfl⟩
theorem r3L1PciPmonCtl1 (a : CfgAccess) : Statement (.r3L1PciPmonCtl1 a) := ⟨⟨_, rfl, rfl⟩, rfl⟩
theorem r3L1PciPmonCtl2 (a : CfgAccess) : Statement (.r3L1PciPmonCtl2 a) := ⟨⟨_, rfl, rfl⟩, rfl⟩
theorem r3L1PciPmonCtr0 (a : CfgAccess) : Statement (.r3L1PciPmonCtr0 a) := ⟨⟨_, rfl, rfl⟩, rfl⟩
theorem r3L1PciPmonCtr1 (a : CfgAccess) : Statement (.r3L1PciPmonCtr1 a) := ⟨⟨_, rfl, rfl⟩, rfl⟩
theorem r3L1PciPmonCtr2 (a : CfgAccess) : Statement (.r3L1PciPmonCtr2 a) := ⟨⟨_, rfl, rfl⟩, rfl⟩
theorem r3L2PciPmonBoxStatus (a : CfgAccess) : Statement (.r3L2PciPmonBoxStatus a) := ⟨⟨_, rfl, rfl⟩, rfl⟩
theorem r3L2PciPmonBoxCtl (a : CfgAccess) : Statement (.r3L2PciPmonBoxCtl a) := ⟨⟨_, rfl, rfl⟩, rfl⟩
theorem r3L2PciPmonCtl0 (a : CfgAccess) : Statement (.r3L2PciPmonCtl0 a) := ⟨⟨_, rfl, rfl⟩, rfl⟩
theorem r3L2PciPmonCtl1 (a : CfgAccess) : Statement (.r3L2PciPmonCtl1 a) := ⟨⟨_, rfl, rfl⟩, rfl⟩
theorem r3L2PciPmonCtl2 (a : CfgAccess) : Statement (.r3L2PciPmonCtl2 a) := ⟨⟨_, rfl, rfl⟩, rfl⟩
theorem r3L2PciPmonCtr0 (a : CfgAccess) : Statement (.r3L2PciPmonCtr0 a) := ⟨⟨_, rfl, rfl⟩, rfl⟩
theorem r3L2PciPmonCtr1 (a : CfgAccess) : Statement (.r3L2PciPmonCtr1 a) := ⟨⟨_, rfl, rfl⟩, rfl⟩
theorem r3L2PciPmonCtr2 (a : CfgAccess) : Statement (.r3L2PciPmonCtr2 a) := ⟨⟨_, rfl, rfl⟩, rfl⟩

end Sys2Proof.Laws.Coded
end

