-- ==== Sys2Proof/Laws/Step.lean ====
section
/-! SUPPORT. What an access and what a step can do, said once. -/

namespace Sys2Proof

open Machine

theorem Kind.box_kind (k : Kind) (n : Fin k.insts) : (k.box n).kind = k := by cases k <;> rfl

theorem BoxId.kind_box_inst (b : BoxId) : b.kind.box b.inst = b := by cases b <;> rfl

end Sys2Proof

namespace Sys2Proof.Machine

/-! ### Events -/

/-- What an event instruction does: one count step of its counter. -/
theorem exec_event {i : Instr} {k : Kind} {e : Event} {base : BitVec 8} {o : EvOp k} (h : i.view = .event k e base o)
    (s : State) : exec i s = .next (countStep o.box o.unit e.code o.ctl (o.raw e base) s) := by
  rw [exec_eq_view_run, h]
  rfl

/-- A control word that names no row makes a count step too. -/
theorem countUnlisted_frame (b : BoxId) (i : Fin 4) (s : State) : CountFrame b i s (countUnlisted b i s) :=
  countStep_frame _ _ _ _ _ _ (rawUnlisted_onlyDraws _ _ _)

/-! ### Accesses -/

/-- An accepted write passed the checks. -/
theorem writeReg_next {r : Reg} {v : Quad} {s t : State} (h : writeReg r v s = .next t) :
    writeCheck s.cfg r v = none ∧ t = storeReg r v s := by
  unfold writeReg at h
  split at h
  · cases h
  · cases h
    exact ⟨‹_›, rfl⟩

/-- What an MSR access with a next state did: a read, or an accepted write. -/
theorem accessMsr_next {r : Reg} {a : MsrAccess} {s t : State} (h : accessMsr r a s = .next t) :
    r.present s.cfg = true ∧ ((a = .read ∧ t = s.setHostRead (some (readReg r s))) ∨
      ∃ v, a = .write v ∧ writeCheck s.cfg r v = none ∧ t = storeReg r v s) := by
  unfold accessMsr at h
  split at h
  · refine ⟨‹_›, ?_⟩
    cases a with
    | read => exact .inl ⟨rfl, (Host.Outcome.next.inj h).symm⟩
    | write v => exact .inr ⟨v, rfl, writeReg_next h⟩
  · cases h

/-- What a PCICFG access with a next state did. -/
theorem accessCfg_next {r : Reg} {a : CfgAccess} {s t : State} (h : accessCfg r a s = .next t) :
    a.bus = s.cfg.bus ∧ r.present s.cfg = true ∧
      ((a.op = .read ∧ t = s.setHostRead (some ((readDword r a.high s).setWidth 64))) ∨
        ∃ w, a.op = .write w ∧ writeCheck s.cfg r (mergeDword r a.high w s) = none ∧
          t = storeReg r (mergeDword r a.high w s) s) := by
  unfold accessCfg at h
  split at h
  · cases h
  · rename_i hb
    split at h
    · refine ⟨by simpa using hb, ‹_›, ?_⟩
      split at h
      · exact .inl ⟨‹_›, (Host.Outcome.next.inj h).symm⟩
      · exact .inr ⟨_, ‹_›, writeReg_next h⟩
    · cases h

/-- What an instruction with a next state did: a count step, a read of a register, or an accepted write. -/
theorem exec_next {i : Instr} {s t : State} (h : exec i s = .next t) :
    (∃ k e base, ∃ o : EvOp k, i.view = .event k e base o ∧
      t = countStep o.box o.unit e.code o.ctl (o.raw e base) s) ∨
    (∃ v, t = s.setHostRead (some v)) ∨
    ∃ r v, WritesReg i r v s ∧ writeCheck s.cfg r v = none ∧ t = storeReg r v s := by
  rw [exec_eq_view_run] at h
  cases hv : i.view with
  | event k e base o =>
    rw [hv] at h
    exact .inl ⟨k, e, base, o, rfl, (Host.Outcome.next.inj h).symm⟩
  | msr addr r a =>
    rw [hv] at h
    obtain ⟨hp, ⟨rfl, rfl⟩ | ⟨v, rfl, hc, rfl⟩⟩ := accessMsr_next h
    · exact .inr (.inl ⟨_, rfl⟩)
    · exact .inr (.inr ⟨r, v, ⟨hp, .inl ⟨addr, hv⟩⟩, hc, rfl⟩)
  | cfg addr r a =>
    rw [hv] at h
    obtain ⟨hb, hp, ⟨-, rfl⟩ | ⟨w, ho, hc, rfl⟩⟩ := accessCfg_next h
    · exact .inr (.inl ⟨_, rfl⟩)
    · exact .inr (.inr ⟨r, _, ⟨hp, .inr ⟨addr, a, w, hv, hb, ho, rfl⟩⟩, hc, rfl⟩)

/-- An instruction that writes a register does exactly what the write of that register does. -/
theorem exec_writesReg {i : Instr} {r : Reg} {v : Quad} {s : State} (h : WritesReg i r v s) :
    exec i s = writeReg r v s := by
  obtain ⟨hp, ⟨addr, hv⟩ | ⟨addr, a, w, hv, hb, ho, rfl⟩⟩ := h
  · rw [exec_eq_view_run, hv]
    simp [View.run, accessMsr, hp]
  · rw [exec_eq_view_run, hv]
    simp [View.run, accessCfg, hp, hb, ho]

/-- What the host is told when its bytes are no row: a next state only for offset 0 of a function. -/
theorem declined_next {e : Reject} {s t : State} (h : declined e s = .next t) : t = s ∨ ∃ v, t = s.setHostRead (some v) := by
  cases e <;> simp only [declined] at h <;> try cases h
  unfold accessIdentification at h
  split at h
  · cases h
  · split at h
    · cases h
    · split at h
      · cases h
      · split at h
        · exact .inl (Host.Outcome.next.inj h).symm
        · exact .inr ⟨_, (Host.Outcome.next.inj h).symm⟩

/-! ### Writes -/

/-- Drawing one band threshold changes EFFBAND, in its own place at most, and the count of draws. -/
theorem drawBand_spec (k : Fin 4) (new : BitVec 8) (s : State) :
    ∃ e n, s.draws ≤ n ∧ drawBand k new s = ({ s with effband := e } : State).setDraws n ∧
      (∀ j, j ≠ k → e[j] = s.effband[j]) ∧ (s.effband[k] = none → e[k] = none) ∧
      (e[k] = s.effband[k] ∨ e[k] = some new) := by
  unfold drawBand
  split
  · exact ⟨s.effband, s.draws, le_rfl, rfl, fun _ _ => rfl, id, .inl rfl⟩
  · rename_i h
    split
    · refine ⟨_, s.draws + 1, by omega, rfl, fun j hj => ?_, fun h' => by simp [h] at h', .inr (by simp)⟩
      exact Vector.getElem_set_ne k.isLt j.isLt (fun e => hj (Fin.ext e.symm))
    · exact ⟨s.effband, s.draws + 1, by omega, rfl, fun _ _ => rfl, id, .inl rfl⟩

/-- Only EFFBAND and the count of draws differ. -/
def BandsDrawn (s t : State) : Prop := ∃ e n, s.draws ≤ n ∧ t = ({ s with effband := e } : State).setDraws n

theorem BandsDrawn.refl (s : State) : BandsDrawn s s := ⟨s.effband, s.draws, le_rfl, rfl⟩

theorem BandsDrawn.step {s t : State} (h : BandsDrawn s t) (k : Fin 4) (new : BitVec 8) :
    BandsDrawn s (drawBand k new t) := by
  obtain ⟨e, n, hn, rfl⟩ := h
  obtain ⟨e', n', hn', r, -⟩ := drawBand_spec k new (({ s with effband := e } : State).setDraws n)
  exact ⟨e', n', le_trans hn hn', r⟩

/-- A write of the PCU filter stores it and draws the band thresholds. -/
theorem writePcuFilter_spec (w : Word) (s : State) : BandsDrawn { s with pcuFilter := w } (writePcuFilter w s) :=
  ((((BandsDrawn.refl { s with pcuFilter := w }).step 0 _).step 1 _).step 2 _).step 3 _

/-- What no write of a register changes. -/
theorem storeReg_same (r : Reg) (v : Quad) (s : State) :
    (storeReg r v s).cfg = s.cfg ∧ (storeReg r v s).pend = s.pend ∧ (storeReg r v s).hostRead = s.hostRead ∧
      (storeReg r v s).out = s.out ∧ (storeReg r v s).time = s.time ∧ (storeReg r v s).agenda = s.agenda ∧
      (storeReg r v s).run = s.run ∧ s.draws ≤ (storeReg r v s).draws := by
  cases r
  case pcuFilter =>
    obtain ⟨e, n, hn, h⟩ := writePcuFilter_spec (v.extractLsb' 0 32) s
    simp only [storeReg, h]
    exact ⟨rfl, rfl, rfl, rfl, rfl, rfl, rfl, hn⟩
  all_goals simp [storeReg, writeGlobalCtl, writeFixedCtl, writeFixedCtr, writeCtl, writeCtr, writeBoxCtl, writeBoxStatus]

/-- A write changes the block of the box whose register it is, and of no other. -/
theorem storeReg_blk_ne (r : Reg) (v : Quad) (s : State) (b : BoxId)
    (h : ∀ c i, r ≠ .fixedCtl c ∧ r ≠ .fixedCtr c ∧ r ≠ .ctl c i ∧ r ≠ .ctr c i ∧ r ≠ .boxCtl c ∧ r ≠ .boxStatus c ∨ c ≠ b) :
    (storeReg r v s).blk b = s.blk b := by
  cases r
  case pcuFilter =>
    obtain ⟨e, n, -, h⟩ := writePcuFilter_spec (v.extractLsb' 0 32) s
    simp only [storeReg, h]
    cases b <;> rfl
  case fixedCtl c => have := h c 0; simp [storeReg, writeFixedCtl, State.blk_setBlk_ne, Ne.symm (this.resolve_left (by simp))]
  case fixedCtr c => have := h c 0; simp [storeReg, writeFixedCtr, State.blk_setBlk_ne, Ne.symm (this.resolve_left (by simp))]
  case ctl c i => have := h c i; simp [storeReg, writeCtl, State.blk_setBlk_ne, Ne.symm (this.resolve_left (by simp))]
  case ctr c i => have := h c i; simp [storeReg, writeCtr, State.blk_setBlk_ne, Ne.symm (this.resolve_left (by simp))]
  case boxCtl c => have := h c 0; simp [storeReg, writeBoxCtl, State.blk_setBlk_ne, Ne.symm (this.resolve_left (by simp))]
  case boxStatus c => have := h c 0; simp [storeReg, writeBoxStatus, State.blk_setBlk_ne, Ne.symm (this.resolve_left (by simp))]
  all_goals cases b <;> rfl

/-! ### The end of a cycle -/

/-- The counters beside the generic ones change their own box's fixed counter and status, the free-running counters, PEND
and the count of draws; control registers, generic counters and the socket's freeze stay. -/
theorem otherCounters_same (b : BoxId) (s : State) :
    (otherCounters b s).cfg = s.cfg ∧ (otherCounters b s).gfrz = s.gfrz ∧ (otherCounters b s).status = s.status ∧
      (otherCounters b s).out = s.out ∧ (otherCounters b s).agenda = s.agenda ∧ (otherCounters b s).time = s.time ∧
      (∀ c, c ≠ b → (otherCounters b s).blk c = s.blk c) ∧ (∀ i, (otherCounters b s).unit b i = s.unit b i) := by
  have drawn : ∀ c (t : State), OnlyDraws t (frozenGlobal c t).2 := fun c t => frozenGlobal_onlyDraws c t
  cases b
  case ubox =>
    simp only [otherCounters, fixedStepU]
    obtain ⟨n, -, e⟩ := drawn .ubox s
    rw [e]
    split
    · split
      · simp
      · split <;> simp [sendMessage, State.unit] <;> exact fun c hc => State.blk_setBlk_ne _ _ _ _ hc
    · simp
  case imc m =>
    simp only [otherCounters, fixedStepMc]
    obtain ⟨n, -, e⟩ := drawn (.imc m) s
    rw [e]
    split
    · split
      · simp
      · split
        · obtain ⟨sent, d, e, -⟩ := reportOverflow_spec (.imc m) 0 ((s.blk (.imc m)).fixCtl.getLsbD 20)
            ((s.setDraws n).setBlk (.imc m) { s.blk (.imc m) with fixCtr := (s.blk (.imc m)).fixCtr + 1 })
          rw [e]
          simp [State.unit]
          exact fun c hc => State.blk_setBlk_ne _ _ _ _ hc
        · simp [State.unit]
          exact fun c hc => State.blk_setBlk_ne _ _ _ _ hc
    · simp
  case pcu =>
    refine ⟨rfl, rfl, rfl, rfl, rfl, rfl, fun c _ => ?_, fun i => rfl⟩
    cases c <;> rfl
  case qpi p =>
    refine ⟨rfl, rfl, rfl, rfl, rfl, rfl, fun c _ => ?_, fun i => rfl⟩
    cases c <;> rfl
  all_goals simp [otherCounters]

/-! ### Steps -/

theorem stepCounter_next {r : Run} {i : Fin r.box.kind.ctrs} {s t : State} (h : stepCounter r i s = .next t) :
    ∃ code c raw u, (∀ x, OnlyDraws x (raw x).2) ∧
      u = countStep r.box (r.box.kind.unit i) code c raw s ∧ t = advance r u := by
  unfold stepCounter at h
  dsimp only at h
  split at h
  · rename_i ins hd
    obtain ⟨e, base, o, hv, ho, hc⟩ := decode_counter_view hd
    rw [exec_event hv] at h
    refine ⟨e.code, o.ctl, o.raw e base, _, fun x => rawIncrement_onlyDraws _ _ _ _ _ _, rfl, ?_⟩
    rw [← Host.Outcome.next.inj h]
    simp only [EvOp.box, EvOp.unit, ho, hc, BoxId.kind_box_inst]
  · exact ⟨_, _, _, _, rawUnlisted_onlyDraws _ _ _, rfl, (Host.Outcome.next.inj h).symm⟩

/-- Everything a step with a next state can be: a count step of the cycle in progress, the end of that cycle, the host's
turn (a read, an accepted write, or nothing), or another turn. -/
theorem step_cases {s t : State} (h : step s = .next t) :
    (∃ r, ∃ hr : r.next < r.box.kind.ctrs, ∃ code c raw, s.run = some r ∧ (∀ x, OnlyDraws x (raw x).2) ∧
      t = advance r (countStep r.box (r.box.kind.unit ⟨r.next, hr⟩) code c raw s)) ∨
    (∃ r, s.run = some r ∧ r.box.kind.ctrs ≤ r.next ∧ t = finishCycle r.box s) ∨
    (∃ cmd, s.run = none ∧ (nextTurn s).1 = .host cmd ∧
      ((t = (nextTurn s).2 ∨ ∃ v, t = (nextTurn s).2.setHostRead (some v)) ∨
        ∃ i, decode (.host s.cfg.irpAlt) cmd = .ok i ∧ exec i (nextTurn s).2 = .next t)) ∨
    (s.run = none ∧ (∀ cmd, (nextTurn s).1 ≠ .host cmd) ∧ t = platformTurn (nextTurn s).1 (nextTurn s).2) := by
  unfold step at h
  split at h
  · rename_i r hr
    split at h
    · rename_i hn
      obtain ⟨code, c, raw, u, hd, rfl, rfl⟩ := stepCounter_next h
      exact .inl ⟨r, hn, code, c, raw, hr, hd, rfl⟩
    · exact .inr (.inl ⟨r, hr, by omega, (Host.Outcome.next.inj h).symm⟩)
  · rename_i hr
    dsimp only at h
    split at h
    · rename_i cmd hc
      refine .inr (.inr (.inl ⟨cmd, hr, hc, ?_⟩))
      have hcfg : (nextTurn s).2.cfg = s.cfg := by unfold nextTurn; split <;> rfl
      unfold stepHost at h
      rw [hcfg] at h
      split at h
      · exact .inr ⟨_, ‹_›, h⟩
      · exact .inl (declined_next h)
    · rename_i hc
      exact .inr (.inr (.inr ⟨hr, hc, (Host.Outcome.next.inj h).symm⟩))

end Sys2Proof.Machine
end

