-- ==== Sys2Proof/Tests/Slice0.lean ====
section
/-! SUPPORT. Small tests. The expected values come from spec/95_test_vectors.md (its vector numbers stand in the
docstrings) or from hand calculation with the rule cited; then one witness for each obligation that has hypotheses. -/

set_option maxRecDepth 20000

namespace Sys2Proof.Tests

open Sys2Proof.Machine

/-! ### Helpers -/

/-- Control fields with only en set, and extra unit mask bits. -/
def on (extra : BitVec 8 := 0) : CtlOps := ⟨0, false, true, false, false, false, false, false, extra⟩

/-- The bytes of RDMSR, WRMSR, CFGRD and CFGWR, as the four dwords of a host command. -/
def rdmsr (a : Word) : List Byte := bytesOf a ++ bytesOf 2 ++ bytesOf 0 ++ bytesOf 0

def wrmsr (a : Word) (v : Quad) : List Byte :=
  bytesOf a ++ bytesOf 3 ++ bytesOf (v.extractLsb' 0 32) ++ bytesOf (v.extractLsb' 32 32)

/-- The address dword of a PCICFG access: bus, device, function, offset (20_memory.md R102). -/
def cfgAt (bus dev fn off : Nat) : Word := BitVec.ofNat 32 (bus * 2 ^ 20 + dev * 2 ^ 15 + fn * 2 ^ 12 + off)

def cfgrd (dev fn off : Nat) (bus : Nat := 0) : List Byte :=
  bytesOf (cfgAt bus dev fn off) ++ bytesOf 4 ++ bytesOf 0 ++ bytesOf 0

def cfgwr (dev fn off : Nat) (v : Word) : List Byte := bytesOf (cfgAt 0 dev fn off) ++ bytesOf 5 ++ bytesOf v ++ bytesOf 0

/-- The next state of an outcome. -/
def nextOf (o : Host.Outcome State Fault Refusal) : Option State :=
  match o with
  | .next s => some s
  | _ => none

/-- One host access. -/
noncomputable def host (c : List Byte) (s : State) : Option State := nextOf (step (s.setAgenda [.host c]))

/-- Why a host access is refused. -/
noncomputable def why (c : List Byte) (s : State) : Option Refusal :=
  match step (s.setAgenda [.host c]) with
  | .refused r => some r
  | _ => none

/-- What a read returns. -/
noncomputable def readOf (c : List Byte) (s : State) : Option Quad := (host c s).bind (fun t => t.hostRead)

/-- The start state of the test vectors: reset, with GFRZ = 0. -/
def start : State := { State.reset with gfrz := some false }

/-- Counter `j` of box `b` with a control word and a value. -/
def counter (b : BoxId) (j : Fin 4) (w : Word) (v : Counter) (s : State) : State :=
  s.setUnit b j { CtrUnit.reset with ctl := w, ctr := v }

/-- A box's cycle stands at counter `j`. -/
def turn (b : BoxId) (j : Nat) (s : State) : State := s.setRun (some ⟨b, j⟩)

/-! ### WellFormed refuses -/

/-- The well-formed form of the terms below. -/
theorem test_wf_good : (Instr.cBoTorInsertsMissOpcode ⟨(0 : Fin 18), (0 : Fin 4), on⟩).wf = true := by decide

/-- Check 1: the UBox has 5 bits of thresh. -/
theorem test_wf_thresh_fits :
    (Instr.uBoxRacuRequests ⟨(0 : Fin 1), (0 : Fin 2), { on with thresh := 0x20 }⟩).wf = false := by decide

/-- Check 1: the CBo has no ov_en. -/
theorem test_wf_no_ovEn : (Instr.cBoClockticks ⟨(0 : Fin 18), (0 : Fin 4), { on with ovEn := true }⟩).wf = false := by decide

/-- Check 1: the HA has no tid_en. -/
theorem test_wf_no_tidEn : (Instr.haClockticks ⟨(0 : Fin 2), (0 : Fin 4), { on with tidEn := true }⟩).wf = false := by decide

/-- Check 1: only the PCU has occ_invert. -/
theorem test_wf_no_occInvert :
    (Instr.haClockticks ⟨(0 : Fin 2), (0 : Fin 4), { on with occInvert := true }⟩).wf = false := by decide

/-- Check 1: of the unit mask the PCU has occ_sel only. -/
theorem test_wf_pcu_umask : (Instr.pcuClockticks ⟨(0 : Fin 1), (0 : Fin 4), on 0x01⟩).wf = false := by decide

/-- Check 2: invert without thresh. -/
theorem test_wf_threshOk : (Instr.cBoClockticks ⟨(0 : Fin 18), (0 : Fin 4), { on with invert := true }⟩).wf = false := by
  decide

/-- Check 3: an extra bit that is the row's own. -/
theorem test_wf_own_bit : (Instr.cBoLlcVictimsMState ⟨(0 : Fin 18), (0 : Fin 4), on 0x01⟩).wf = false := by decide

/-- Check 4: unit mask 0x03 is named by another row (MISS_OPCODE). -/
theorem test_wf_other_row : (Instr.cBoTorInsertsOpcode ⟨(0 : Fin 18), (0 : Fin 4), on 0x02⟩).wf = false := by decide

/-- Check 5: a box control register has no upper half. -/
theorem test_wf_high : (Instr.ha0PciPmonBoxCtl ⟨0, true, .read⟩).wf = false := by decide

/-! ### Decoding the words of 95_test_vectors.md section 2.14 and of the address lists -/

theorem test_decode_ubox_event_msg : decode (.counter .ubox (0 : Fin 1) (0 : Fin 2)) (bytesOf 0x00400842) =
    .ok (.uBoxEventMsgDoorbellRcvd ⟨(0 : Fin 1), (0 : Fin 2), on⟩) := by rfl

theorem test_decode_ubox_phold : decode (.counter .ubox (0 : Fin 1) (1 : Fin 2)) (bytesOf 0x00500145) =
    .ok (.uBoxPholdCyclesAssertToAck ⟨(0 : Fin 1), (1 : Fin 2), { on with ovEn := true }⟩) := by rfl

theorem test_decode_cbo_tor : decode (.counter .cbo (17 : Fin 18) (3 : Fin 4)) (bytesOf 0x00480335) =
    .ok (.cBoTorInsertsMissOpcode ⟨(17 : Fin 18), (3 : Fin 4), { on with tidEn := true }⟩) := by rfl

theorem test_decode_cbo_rxr : decode (.counter .cbo (0 : Fin 18) (0 : Fin 4)) (bytesOf 0x06400111) =
    .ok (.cBoRxROccupancyIrq ⟨(0 : Fin 18), (0 : Fin 4), { on with thresh := 6 }⟩) := by rfl

theorem test_decode_sbo_rxr : decode (.counter .sbo (2 : Fin 4) (1 : Fin 4)) (bytesOf 0x00400111) =
    .ok (.sBoRxROccupancyAdCrd ⟨(2 : Fin 4), (1 : Fin 4), on⟩) := by rfl

theorem test_decode_ha_match : decode (.counter .ha (1 : Fin 2) (0 : Fin 4)) (bytesOf 0x00400320) =
    .ok (.haAddrOpcMatchFilt ⟨(1 : Fin 2), (0 : Fin 4), on⟩) := by rfl

theorem test_decode_imc_cas : decode (.counter .imc (5 : Fin 8) (0 : Fin 4)) (bytesOf 0x00400304) =
    .ok (.imcCasCountRd ⟨(5 : Fin 8), (0 : Fin 4), on⟩) := by rfl

theorem test_decode_irp_writes : decode (.counter .irp (0 : Fin 1) (2 : Fin 4)) (bytesOf 0x00400216) =
    .ok (.irpTransactionsWrites ⟨(0 : Fin 1), (2 : Fin 4), on⟩) := by rfl

theorem test_decode_pcu_band : decode (.counter .pcu (0 : Fin 1) (1 : Fin 4)) (bytesOf 0x0144000B) =
    .ok (.pcuFreqBand0Cycles ⟨(0 : Fin 1), (1 : Fin 4), { on with thresh := 1, edge := true }⟩) := by rfl

theorem test_decode_pcu_c6 : decode (.counter .pcu (0 : Fin 1) (0 : Fin 4)) (bytesOf 0x4240C080) =
    .ok (.pcuPowerStateOccupancyCoresC6 ⟨(0 : Fin 1), (0 : Fin 4), { on with thresh := 2, occInvert := true }⟩) := by rfl

theorem test_decode_qpi_clock : decode (.counter .qpi (0 : Fin 3) (0 : Fin 4)) (bytesOf 0x00400014) =
    .ok (.qpiClockticks ⟨(0 : Fin 3), (0 : Fin 4), on⟩) := by rfl

theorem test_decode_qpi_flits : decode (.counter .qpi (2 : Fin 3) (3 : Fin 4)) (bytesOf 0x00400200) =
    .ok (.qpiTxLFlitsG0Data ⟨(2 : Fin 3), (3 : Fin 4), on⟩) := by rfl

theorem test_decode_r2_ring : decode (.counter .r2 (0 : Fin 1) (2 : Fin 4)) (bytesOf 0x00400307) =
    .ok (.r2PCIeRingAdUsedCw ⟨(0 : Fin 1), (2 : Fin 4), on⟩) := by rfl

theorem test_decode_r3_ring : decode (.counter .r3 (1 : Fin 3) (2 : Fin 3)) (bytesOf 0x00400309) =
    .ok (.r3qpiRingBlUsedCw ⟨(1 : Fin 3), (2 : Fin 3), on⟩) := by rfl

/-- `CTO_COUNT`'s ev_sel without ev_sel_ext is no listed code (V83). -/
theorem test_decode_qpi_ext : decode (.counter .qpi (0 : Fin 3) (0 : Fin 4)) (bytesOf 0x00400038) =
    .error .unlistedCode := by rfl

/-- No control register of a CBo holds bit 20. -/
theorem test_decode_cbo_reserved : decode (.counter .cbo (0 : Fin 18) (0 : Fin 4)) (bytesOf 0x00500000) =
    .error .reservedBits := by rfl

theorem test_decode_wrmsr : decode (.host false) (wrmsr 0x0715 0x14) = .ok (.pcuMsrPmonBoxFilter (.write 0x14)) := by rfl

/-- The upper dword of HA0 counter 0, device 18 function 1 offset 0xA4. -/
theorem test_decode_cfg_high : decode (.host false) (cfgwr 18 1 0xA4 0x0001CAFE) =
    .ok (.ha0PciPmonCtr0 ⟨0, true, .write 0x0001CAFE⟩) := by rfl

/-- Both settings of IRP_CTR_OFFSETS (V22). -/
theorem test_decode_irp_offsets : decode (.host false) (cfgrd 5 6 0xC0) = .error .unmapped ∧
    decode (.host true) (cfgrd 5 6 0xC0) = decode (.host false) (cfgrd 5 6 0xB8) := ⟨rfl, rfl⟩

theorem test_decode_truncated : decode (.host false) [0, 1, 2] = .error .truncated := by rfl

/-! ### The access layer -/

/-- V1 -/
theorem test_v1 : readOf (rdmsr 0x0702) start = some 0x12 := by decide

/-- V3 -/
theorem test_v3 : why (rdmsr 0x0707) start = some .unmapped := by decide

/-- V7 -/
theorem test_v7 : why (rdmsr 0x0F10) { start with cfg := { Params.default with nCbo := 12 } } = some .absentBox := by decide

/-- V9 -/
theorem test_v9 : readOf (cfgrd 18 1 0x00) start = some 0x2F308086 := by decide

/-- V11 -/
theorem test_v11 : why (cfgrd 18 1 0xF6) start = some .accessSize := by decide

/-- V13 -/
theorem test_v13 : why (cfgrd 18 1 0xF4 1) start = some .unmapped := by decide

/-- V16 -/
theorem test_v16 : readOf (cfgrd 8 0 0xD4) start = some 3 := by decide

/-- V17 -/
theorem test_v17 : why (cfgwr 8 0 0xD4 5) start = some .readOnly := by decide

/-- V19 -/
theorem test_v19 : why (wrmsr 0x0700 0x0000000120000000) start = some .reservedNonzero := by decide

/-- V23 -/
theorem test_v23 : why (wrmsr 0x0E01 0x00500000) start = some .reservedNonzero := by decide

/-- V26 -/
theorem test_v26 : ((host (wrmsr 0x0705 0xE0400042) start).bind (readOf (rdmsr 0x0705))) = some 0x00400042 := by decide

/-- V31 -/
theorem test_v31 : why (wrmsr 0x0E00 0x00000100) start = some .reservedNonzero := by decide

/-- V34 -/
theorem test_v34 : (host (cfgwr 16 1 0xF4 0x00010100) start).map (fun t => t.r2.bfrz) = some true := by decide

/-- V35 -/
theorem test_v35 : why (wrmsr 0x0700 0xA0000000) start = some .freezeAndUnfreeze := by decide

/-- V37 -/
theorem test_v37 : why (wrmsr 0x0E01 0x00440000) start = some .threshZero := by decide

/-- V38 and V39 -/
theorem test_v39 : why (wrmsr 0x0711 0x80404080) start = some .threshZero ∧
    (host (wrmsr 0x0711 0x80400000) start).isSome = true := by decide

/-! ### Stores and read-back -/

/-- V43 -/
theorem test_v43 : (host (wrmsr 0x0E03 0x00420137) (counter (.cbo 0) 2 0 0x55 start)).map
    (fun t => (readReg (.ctl (.cbo 0) 2) t, readReg (.ctr (.cbo 0) 2) t)) = some (0x00400137, 0) := by decide

/-- V45 -/
theorem test_v45 : (host (wrmsr 0x0700 0xC0000004) start).map (fun t => (t.gfrz, readReg .globalCtl t)) =
    some (some true, 0x40000004) := by decide

/-- V49 -/
theorem test_v49 : ((host (wrmsr 0x0702 0xFFFFFFFF) start).bind (readOf (rdmsr 0x0702))) = some 0x1F := by decide

/-- V50 -/
theorem test_v50 : ((host (wrmsr 0x0E08 0xFFFF123456789ABC) start).bind (readOf (rdmsr 0x0E08))) =
    some 0x123456789ABC := by decide

/-- V51 -/
theorem test_v51 : ((host (cfgwr 18 1 0xA0 0xDEADBEEF) start).bind (host (cfgwr 18 1 0xA4 0x0001CAFE))).map
    (readReg (.ctr (.ha 0) 0)) = some 0xCAFEDEADBEEF := by decide

/-- V52 -/
theorem test_v52 : ((host (cfgwr 11 1 0xA4 0xFFFFFFFF) start).bind (readOf (cfgrd 11 1 0xA4))) = some 0x00000FFF := by
  decide

/-- V53 -/
theorem test_v53 : (host (wrmsr 0x0E00 0x00010102) (counter (.cbo 0) 0 0x00400000 7 start)).map
    (fun t => (readReg (.ctl (.cbo 0) 0) t, readReg (.ctr (.cbo 0) 0) t, t.cbo[0].bfrz)) = some (0x00400000, 0, true) := by
  decide

/-- V58 -/
theorem test_v58 : (host (wrmsr 0x0701 0x0000000800000002) { start with status := 0x0000000808200002 }).map
    (fun t => t.status) = some 0x0000000008200000 := by decide

/-- V134: bits 5:0 of ADDRMATCH0 are dropped. -/
theorem test_v134 : ((host (cfgwr 18 1 0x40 0x3456789F) start).bind (readOf (cfgrd 18 1 0x40))) = some 0x34567880 := by
  decide

/-- V142 -/
theorem test_v142 : (host (cfgwr 20 0 0xF0 0x00480000) (start.setBlk (.imc 0) { Blk.reset with fixCtr := 14 })).map
    (fun t => (readReg (.fixedCtl (.imc 0)) t, readReg (.fixedCtr (.imc 0)) t)) = some (0x00400000, 0) := by decide

/-! ### The double-write latch -/

/-- Two writes to R2PCIe control 2, then whether it is settled. -/
noncomputable def twice (a b : Word) : Option Bool :=
  ((host (cfgwr 16 1 0xE0 a) start).bind (host (cfgwr 16 1 0xE0 b))).map (fun t => (t.unit .r2 2).settled)

/-- V70 -/
theorem test_v70 : twice 0x00000309 0x00400309 = some true := by decide

/-- V71 -/
theorem test_v71 : (host (cfgwr 16 1 0xE0 0x00400309) start).map (fun t => (t.unit .r2 2).settled) = some false := by decide

/-- V72 -/
theorem test_v72 : twice 0x00000309 0x00400C09 = some false := by decide

/-! ### Steps of a cycle -/

/-- V90: the CBo's counter wraps, sets its status bit and sends nothing. -/
theorem test_v90 : (nextOf (step (turn (.cbo 0) 0 (counter (.cbo 0) 0 0x00400000 0xFFFFFFFFFFFF start)))).map
    (fun t => (readReg (.ctr (.cbo 0) 0) t, readReg (.boxStatus (.cbo 0)) t, t.pend)) = some (0, 1, []) := by decide

/-- V94, the overflow: the HA's message names bit 21. -/
theorem test_v94_overflow : (nextOf (step (turn (.ha 0) 1 (counter (.ha 0) 1 0x00500000 0xFFFFFFFFFFFF start)))).map
    (fun t => (readReg (.ctr (.ha 0) 1) t, readReg (.boxStatus (.ha 0)) t, t.pend)) = some (0, 2, [0x00200000]) := by decide

/-- V94, the delivery. -/
theorem test_v94_deliver : (nextOf (step { start with pend := [0x00200000], agenda := [.deliver 0] })).map
    (fun t => (t.status, t.gfrz, t.pend)) = some (0x00200000, some true, []) := by decide

/-- V97: generic counter 3 of an IMC channel has status bit 4. -/
theorem test_v97 : (nextOf (step (turn (.imc 0) 3 (counter (.imc 0) 3 0x00500000 0xFFFFFFFFFFFF start)))).map
    (fun t => (readReg (.boxStatus (.imc 0)) t, t.pend)) = some (0x10, [0x00800000]) := by decide

/-- V105: an R3QPI counter is 44 bits wide, its message names bits 27 and 35. -/
theorem test_v105 : (nextOf (step (turn (.r3 0) 2 (counter (.r3 0) 2 0x00500001 0xFFFFFFFFFFF start)))).map
    (fun t => (readReg (.ctr (.r3 0) 2) t, readReg (.boxStatus (.r3 0)) t, t.pend)) =
      some (0, 4, [0x0000000808000000]) := by decide

/-- V109: the UBox fixed counter. -/
theorem test_v109 : (nextOf (step (turn .ubox 2 (start.setBlk .ubox
      { Blk.reset with fixCtl := 0x00500000, fixCtr := 0xFFFFFFFFFFFF })))).map
    (fun t => (readReg (.fixedCtr .ubox) t, readReg (.boxStatus .ubox) t, t.pend)) = some (0, 0, [1]) := by decide

/-- V62: a box freeze. -/
theorem test_v62 : (nextOf (step (turn (.cbo 0) 0 ((counter (.cbo 0) 0 0x00400000 10 start).setBlk (.cbo 0)
      { ((counter (.cbo 0) 0 0x00400000 10 start).blk (.cbo 0)) with bfrz := true })))).map
    (readReg (.ctr (.cbo 0) 0)) = some 10 := by decide

/-- V67: UBox code 0x00 counts nothing. -/
theorem test_v67 : (nextOf (step (turn .ubox 0 (counter .ubox 0 0x00400000 0 start)))).map
    (readReg (.ctr .ubox 0)) = some 0 := by decide

/-- V80: a QPI counter held in reset is cleared as its cycle begins and does not count. -/
theorem test_v80 : (host (cfgwr 8 2 0xD8 0x00420014) start).map (fun t => ((t.unit (.qpi 0) 0).qrst, (t.unit (.qpi 0) 0).ctl)) =
      some (true, 0x00400014) ∧
    (nextOf (step { start.setUnit (.qpi 0) 0 { CtrUnit.reset with ctr := 5, qrst := true } with
      agenda := [.clock (.qpi 0)] })).map (readReg (.ctr (.qpi 0) 0)) = some 0 := by decide

/-- V88 and V89: the packing of a packet, and a filter on DNID. -/
theorem test_v88 : (Packet.word0 ⟨true, 0x1F, 3, 2, 9, 1, 0⟩ = 0x80006528 ∧ Packet.word1 ⟨true, 0x1F, 3, 2, 9, 1, 0⟩ = 0xF) ∧
    Packet.hits ⟨true, 0x1F, 3, 2, 9, 1, 0⟩ { PktRegs.reset with rxMatch0 := 0x6000, rxMask0 := 0x0003E000 } = true ∧
    Packet.hits ⟨true, 0x1F, 2, 2, 9, 1, 0⟩ { PktRegs.reset with rxMatch0 := 0x6000, rxMask0 := 0x0003E000 } = false := by
  decide

/-- E10: edge detect turns the true samples 1, 1 into one count, the second adding 0. -/
theorem test_edge : (risingEdge (some false) true start).1 = 1 ∧ (risingEdge (some true) true start).1 = 0 := by decide

/-- V40: thresholds on a raw increment. -/
theorem test_thresh : stageThresh 6 false 6 = .inr true ∧ stageThresh 6 true 6 = .inr false ∧
    stageThresh 0 false 7 = .inl 7 ∧ stageThresh 21 true 20 = .inr true := by decide

/-- The rows a unit mask selects: ALL of an HA event is its two schedulers, CW of an R2PCIe ring its two polarities (R877(d)),
an exact row of another box stands alone. -/
theorem test_selection : evHaTxRBlCyclesFull.selection 0x03 = [0x01, 0x02] ∧ evR2PCIeRingBlUsed.selection 0x03 = [0x01, 0x02] ∧
    evR2PCIeRingIvUsed.selection 0x0F = [0x03, 0x0C] ∧ evHaRequests.selection 0x03 = [0x03] := by decide

/-- POWER_CKE_CYCLES adds at most 1 with a single rank (R506(d)), although its MaxInc is 16. -/
theorem test_one_rank : evImcPowerCkeCycles.bound = 1 ∧ evImcPowerCkeCycles.maxInc = 16 := by decide

/-- R605: TRANSACTIONS without a request type counts nothing, bit 7 or not. -/
theorem test_counts_nothing : countsNothing .irp 0x16 0xC0 start = true ∧ countsNothing .irp 0x17 0x0F start = true ∧
    countsNothing .irp 0x17 0x91 start = false := by decide

/-- A host command placed for the fetch runs as the first instruction after reset. -/
theorem test_fetch_host : (nextOf (step (State.reset.withFetchWord 32 0x702))).bind (fun t => t.hostRead) = some 0x12 := by
  decide


/-! ### Witnesses: states and operands that meet the hypotheses of each obligation together -/

/-- A cycle of box `b` at counter `j`, its control word `w`. -/
def cycleAt (b : BoxId) (j : Nat) (i : Fin 4) (w : Word) : State := turn b j (counter b i w 0 start)

/-- The state of a host turn. -/
def hostTurn (c : List Byte) (s : State) : State := s.setAgenda [.host c]

/-- An instruction whose view is that of an event, in a state where its counter counts. -/
def Ready (i : Instr) (k : Kind) (e : Event) (base : BitVec 8) (o : EvOp k) (s : State) : Prop :=
  i.view = .event k e base o ∧ Counting o.box o.unit o.ctl.en s

theorem witness_DecodeEncode : (Instr.r3qpiRingBlUsedCw ⟨(2 : Fin 3), (2 : Fin 3), { on with thresh := 0xFF }⟩).wf = true := by
  decide

theorem witness_ControlWordDecodesOneWay :
    ∃ i, decode (.counter .pcu (0 : Fin 1) (3 : Fin 4)) (bytesOf 0xDFD4C080) = .ok i := ⟨_, rfl⟩

theorem witness_StepRunsCounterInstruction : ∃ (s : State) (r : Run) (h : r.next < r.box.kind.ctrs) (i : Instr),
    s.run = some r ∧
      decode (.counter r.box.kind r.box.inst ⟨r.next, h⟩) (bytesOf (s.unit r.box (r.box.kind.unit ⟨r.next, h⟩)).ctl) = .ok i :=
  ⟨cycleAt (.r3 2) 2 2 0x00400309, ⟨.r3 2, 2⟩, by decide, _, rfl, rfl⟩

theorem witness_StepRunsHostInstruction : ∃ (s : State) (cmd : List Byte) (rest : List Turn) (i : Instr),
    s.run = none ∧ s.agenda = .host cmd :: rest ∧ decode (.host s.cfg.irpAlt) cmd = .ok i :=
  ⟨hostTurn (rdmsr 0x702) start, rdmsr 0x702, [], _, rfl, rfl, rfl⟩

/-- An unlisted code in a CBo, and for the clauses that count nothing code 0 in the UBox, TRANSACTIONS with
unit mask 0 and 0x80 and SNOOP_RESP with 0x80 in the IRP, and LLC_LOOKUP with unit mask 0 in a CBo. -/
theorem witness_UnlistedWordCounts :
    (∃ e, decode (.counter .cbo (0 : Fin 18) (3 : Fin 4)) (bytesOf ((cycleAt (.cbo 0) 3 3 0x004000FF).unit (.cbo 0) 3).ctl) = .error e ∧
      Counting (.cbo 0) 3 ((0x004000FF : Word).getLsbD 22) (cycleAt (.cbo 0) 3 3 0x004000FF) ∧ threshField .cbo 0x004000FF = 0) ∧
    (∃ e, decode (.counter .ubox (0 : Fin 1) (0 : Fin 2)) (bytesOf ((cycleAt .ubox 0 0 0x00400000).unit .ubox 0).ctl) = .error e ∧
      Counting .ubox 0 ((0x00400000 : Word).getLsbD 22) (cycleAt .ubox 0 0 0x00400000) ∧ threshField .ubox 0x00400000 = 0) ∧
    (∀ w ∈ ([0x00400016, 0x00408016, 0x00408017] : List Word),
      ∃ e, decode (.counter .irp (0 : Fin 1) (2 : Fin 4)) (bytesOf ((cycleAt .irp 2 2 w).unit .irp 2).ctl) = .error e ∧
        Counting .irp 2 (w.getLsbD 22) (cycleAt .irp 2 2 w) ∧ threshField .irp w = 0) ∧
    ∃ e, decode (.counter .cbo (17 : Fin 18) (1 : Fin 4)) (bytesOf ((cycleAt (.cbo 17) 1 1 0x00400034).unit (.cbo 17) 1).ctl) = .error e ∧
      Counting (.cbo 17) 1 ((0x00400034 : Word).getLsbD 22) (cycleAt (.cbo 17) 1 1 0x00400034) ∧ threshField .cbo 0x00400034 = 0 :=
  ⟨⟨_, rfl, ⟨rfl, fun _ => rfl, rfl, rfl, rfl⟩, rfl⟩, ⟨_, rfl, ⟨rfl, fun _ => rfl, rfl, rfl, rfl⟩, rfl⟩,
    fun w hw => by
      simp only [List.mem_cons, List.not_mem_nil, or_false] at hw
      rcases hw with rfl | rfl | rfl <;> exact ⟨_, rfl, ⟨rfl, fun _ => rfl, rfl, rfl, rfl⟩, rfl⟩,
    ⟨_, rfl, ⟨rfl, fun _ => rfl, rfl, rfl, rfl⟩, rfl⟩⟩

theorem witness_EventCompletesInFrame : ∃ (i : Instr) (k : Kind) (e : Event) (base : BitVec 8) (o : EvOp k),
    i.view = .event k e base o := ⟨.haClockticks ⟨(1 : Fin 2), (3 : Fin 4), on⟩, .ha, _, _, _, rfl⟩

theorem witness_RawIncrementBounds : ∃ (i : Instr) (k : Kind) (e : Event) (base : BitVec 8) (o : EvOp k),
    i.view = .event k e base o := ⟨.imcPowerCkeCyclesRank0 ⟨(7 : Fin 8), (3 : Fin 4), on⟩, .imc, _, _, _, rfl⟩

theorem witness_RingAndPlatformRowsComplete :
    ∃ o : EvOp .r3, Counting o.box o.unit o.ctl.en start ∧ o.ctl.thresh = 0 :=
  ⟨⟨(2 : Fin 3), (2 : Fin 3), on⟩, ⟨rfl, fun _ => rfl, rfl, rfl, rfl⟩, rfl⟩

/-- Counter 0 of a CBo is within the third hypothesis of `CountsRow`. -/
theorem witness_CacheMemoryAndLinkRowsComplete :
    (∃ o : EvOp .imc, Counting o.box o.unit o.ctl.en start ∧ o.ctl.thresh = 0) ∧
    ∃ o : EvOp .cbo, Counting o.box o.unit o.ctl.en start ∧ o.ctl.thresh = 0 ∧ o.unit = 0 :=
  ⟨⟨⟨(0 : Fin 8), (0 : Fin 4), on⟩, ⟨rfl, fun _ => rfl, rfl, rfl, rfl⟩, rfl⟩,
    ⟨⟨(17 : Fin 18), (0 : Fin 4), on⟩, ⟨rfl, fun _ => rfl, rfl, rfl, rfl⟩, rfl, rfl⟩⟩

theorem witness_EventAccumulates : ∃ (i : Instr) (k : Kind) (e : Event) (base : BitVec 8) (o : EvOp k) (s : State),
    Ready i k e base o s ∧ o.ctl.thresh = 0 ∧ (k ≠ .cbo ∨ o.unit = 0) :=
  ⟨.cBoClockticks ⟨(17 : Fin 18), (0 : Fin 4), on⟩, .cbo, _, _, _, start,
    ⟨rfl, ⟨rfl, fun _ => rfl, rfl, rfl, rfl⟩⟩, rfl, .inr rfl⟩

theorem witness_CboCounterSpreads : ∃ (i : Instr) (e : Event) (base : BitVec 8) (o : EvOp .cbo) (s : State),
    Ready i .cbo e base o s ∧ o.ctl.thresh = 0 ∧ o.unit ≠ 0 :=
  ⟨.cBoCounter0Occupancy ⟨(0 : Fin 18), (1 : Fin 4), on⟩, _, _, _, start,
    ⟨rfl, ⟨rfl, fun _ => rfl, rfl, rfl, rfl⟩⟩, rfl, by decide⟩

/-- An ordinary event with the smallest threshold, and an occupancy event of the PCU with the largest. -/
theorem witness_EventThreshold :
    (∃ (i : Instr) (k : Kind) (e : Event) (base : BitVec 8) (o : EvOp k) (s : State), Ready i k e base o s ∧ o.ctl.thresh ≠ 0 ∧
      (k == .pcu && e.code.getLsbD 7) = false ∧ o.ctl.edge = false) ∧
    ∃ (i : Instr) (k : Kind) (e : Event) (base : BitVec 8) (o : EvOp k) (s : State), Ready i k e base o s ∧ o.ctl.thresh ≠ 0 ∧
      (k == .pcu && e.code.getLsbD 7) = true ∧ o.ctl.occEdge = false :=
  ⟨⟨.imcCasCountRd ⟨(7 : Fin 8), (3 : Fin 4), { on with thresh := 1 }⟩, .imc, _, _, _, start,
      ⟨rfl, ⟨rfl, fun _ => rfl, rfl, rfl, rfl⟩⟩, by decide, rfl, rfl⟩,
    ⟨.pcuPowerStateOccupancyCoresC6 ⟨(0 : Fin 1), (0 : Fin 4), { on with thresh := 0x1F, occInvert := true }⟩, .pcu, _, _, _,
      start, ⟨rfl, ⟨rfl, fun _ => rfl, rfl, rfl, rfl⟩⟩, by decide, rfl, rfl⟩⟩

/-- With and without a previous sample. -/
theorem witness_EventEdgeDetect : ∀ p : Option Bool,
    ∃ (i : Instr) (k : Kind) (e : Event) (base : BitVec 8) (o : EvOp k) (s : State), Ready i k e base o s ∧
      o.ctl.thresh ≠ 0 ∧ (k == .pcu && e.code.getLsbD 7) = false ∧ o.ctl.edge = true ∧ (s.unit o.box o.unit).prev = p :=
  fun p => ⟨.r2PCIeClockticks ⟨(0 : Fin 1), (0 : Fin 4), { on with thresh := 1, edge := true }⟩, .r2, _, _, _,
    start.setUnit .r2 0 { CtrUnit.reset with prev := p }, ⟨rfl, ⟨rfl, fun _ => rfl, rfl, rfl, rfl⟩⟩, by decide, rfl, rfl, rfl⟩

theorem witness_PcuOccupancyEdgeDetect : ∀ p : Option Bool,
    ∃ (i : Instr) (e : Event) (base : BitVec 8) (o : EvOp .pcu) (s : State), Ready i .pcu e base o s ∧
      o.ctl.thresh ≠ 0 ∧ e.code.getLsbD 7 = true ∧ o.ctl.occEdge = true ∧ (s.unit o.box o.unit).oprev = p :=
  fun p => ⟨.pcuPowerStateOccupancyCoresC0 ⟨(0 : Fin 1), (0 : Fin 4), { on with thresh := 5, occEdge := true }⟩, _, _, _,
    start.setUnit .pcu 0 { CtrUnit.reset with oprev := p }, ⟨rfl, ⟨rfl, fun _ => rfl, rfl, rfl, rfl⟩⟩, by decide, rfl, rfl, rfl⟩

/-- Each of the four ways not to count. -/
theorem witness_EventIdle : ∃ (i : Instr) (k : Kind) (e : Event) (base : BitVec 8) (o : EvOp k),
    i.view = .event k e base o ∧
      ((on.en = false ∨ (o.box ≠ .ubox ∧ ((start.setBlk (.qpi 2) { Blk.reset with bfrz := true }).blk o.box).bfrz = true)) ∧
        NotCounting o.box o.unit o.ctl.en { start with gfrz := some true } ∧
        NotCounting o.box o.unit o.ctl.en (start.setUnit (.qpi 2) 3 { CtrUnit.reset with qrst := true })) ∧
      NotCounting o.box o.unit false start :=
  ⟨.qpiClockticks ⟨(2 : Fin 3), (3 : Fin 4), on⟩, .qpi, _, _, _, rfl,
    ⟨.inr ⟨by decide, rfl⟩, .inr (.inr (.inl rfl)), .inr (.inr (.inr rfl))⟩, .inl rfl⟩

theorem witness_UnsettledCounts : ∃ (i : Instr) (k : Kind) (e : Event) (base : BitVec 8) (o : EvOp k) (s : State),
    i.view = .event k e base o ∧ o.ctl.en = true ∧ (o.box ≠ .ubox → (s.blk o.box).bfrz = false) ∧
      s.freezeSeen o.box = some false ∧ (s.unit o.box o.unit).qrst = false ∧ (s.unit o.box o.unit).settled = false :=
  ⟨.sBoClockticks ⟨(3 : Fin 4), (0 : Fin 4), on⟩, .sbo, _, _, _,
    start.setUnit (.sbo 3) 0 { CtrUnit.reset with settled := false }, rfl, rfl, fun _ => rfl, rfl, rfl, rfl⟩

theorem witness_ClockEventCountsEveryCycle : ∃ (i : Instr) (k : Kind) (e : Event) (base : BitVec 8) (o : EvOp k) (s : State),
    Ready i k e base o s ∧ e.kind = .clock ∧ o.ctl.thresh = 0 :=
  ⟨.pcuClockticks ⟨(0 : Fin 1), (3 : Fin 4), on⟩, .pcu, _, _, _, start, ⟨rfl, ⟨rfl, fun _ => rfl, rfl, rfl, rfl⟩⟩, rfl, rfl⟩

/-- An event of the HA whose row ALL joins the two single bits, and a mask below another. -/
theorem witness_UnitMaskLaws : evHaTxRAdCyclesFull.kind = .env ∧ (∀ r ∈ evHaTxRAdCyclesFull.rows, ∃ m, m ≠ 0 ∧ r.sel = .bits m) ∧
    (∀ r ∈ evHaTxRAdCyclesFull.rows, ∀ m, r.sel = .bits m → ∀ n < 8, m.getLsbD n = true →
      ∃ q ∈ evHaTxRAdCyclesFull.rows, q.sel = .bits (BitVec.ofNat 8 (2 ^ n))) ∧ (0x01 : BitVec 8) &&& 0x03 = 0x01 := by
  refine ⟨rfl, ?_, ?_, rfl⟩
  · intro r h
    simp only [evHaTxRAdCyclesFull, List.mem_cons, List.not_mem_nil, or_false] at h
    rcases h with rfl | rfl | rfl <;> exact ⟨_, by decide, rfl⟩
  · intro r h m hm
    simp only [evHaTxRAdCyclesFull, List.mem_cons, List.not_mem_nil, or_false] at h
    rcases h with rfl | rfl | rfl <;> cases hm <;> decide

/-- No state, no mask bit 0, and two state sets within the named five, the smaller first. -/
theorem witness_LookupStateFilter : start.cboFilter0[(0 : Fin 18)].extractLsb' 17 7 = 0 ∧ (0xFE : BitVec 8).getLsbD 0 = false ∧
    let s := { start with cboFilter0 := .replicate 18 0x00020000 }
    s.cboFilter0[(17 : Fin 18)] &&& (0x003E0000 : Word) = s.cboFilter0[(17 : Fin 18)] ∧
      (0x003E0000 : Word).extractLsb' 0 17 = s.cboFilter0[(17 : Fin 18)].extractLsb' 0 17 ∧
      (0x003E0000 : Word).extractLsb' 22 2 = 0 := by decide

/-- LLC_VICTIMS with its NID row selected and an empty node mask, and TOR_INSERTS.NID_OPCODE, which reads the opcode too,
with a wider mask. -/
theorem witness_NodeFilterLaws :
    (evCBoLlcVictims.readsOpc 0x40 = false ∧ start.cboFilter1[(0 : Fin 18)] &&& (0xFFFF : Word) = start.cboFilter1[(0 : Fin 18)] ∧
      start.cboFilter1[(0 : Fin 18)].extractLsb' 0 16 = 0 ∧
      ∀ r ∈ evCBoLlcVictims.rows, r.sel.selected 0x40 = true → r.nid = true) ∧
    evCBoTorInserts.readsOpc 0x41 = true ∧ filterOpc (0x18200001 : Word) ∈ opcodeTable ∧
      (0x18200001 : Word) &&& 0x1820FFFF = 0x18200001 ∧
      (0x1820FFFF : Word).extractLsb' 16 16 = (0x18200001 : Word).extractLsb' 16 16 ∧
      ∀ r ∈ evCBoTorInserts.rows, r.sel.selected 0x41 = true → r.nid = true := by
  decide

/-- TOR_INSERTS.OPCODE with the first and the last opcode of the table, a CBo event that reads no opcode, and two settings of
FILTER0.tid. -/
theorem witness_OpcodeFilterSelects : (∀ r ∈ evCBoTorInserts.rows, r.sel.selected 0x01 = true → r.opc = true) ∧
    filterOpc (0x18000000 : Word) ∈ opcodeTable ∧ filterOpc (0xDE600000 : Word) ∈ opcodeTable ∧
    evCBoRingAdUsed.readsOpc 0x03 = false ∧
    (0x0000003F : Word).extractLsb' 6 26 = start.cboFilter0[(0 : Fin 18)].extractLsb' 6 26 := by
  decide

/-- Counter 0 selects RxR_OCCUPANCY.IRQ. -/
theorem witness_Counter0OccupancyFollowsCounter0 :
    let w := ((counter (.cbo 0) 0 0x00400111 0 start).unit (.cbo 0) 0).ctl
    w.extractLsb' 0 8 = evCBoRxROccupancy.code ∧ evCBoRxROccupancy.listed (w.extractLsb' 8 8) = true := by decide

theorem witness_IrpCombinationRules : (0xC0 : BitVec 8) &&& 0x3F = 0 ∧ (0x70 : BitVec 8) &&& 0x0F = 0 ∧
    (0x0F : BitVec 8) &&& 0x70 = 0 := by decide

/-- A filter and one that compares fewer bits, and a packet it matches. -/
theorem witness_PacketMaskLaws :
    let y := { PktRegs.reset with rxMatch0 := 0x1C80, rxMask0 := 0x1FE0 }
    let x := { y with rxMask0 := 0x1E00 }
    x.rxMask0 &&& y.rxMask0 = x.rxMask0 ∧ x.rxMask1 &&& y.rxMask1 = x.rxMask1 ∧ x.txMask0 &&& y.txMask0 = x.txMask0 ∧
      x.txMask1 &&& y.txMask1 = x.txMask1 ∧ Packet.hits ⟨true, 0, 0, 0xE, 4, 0, 0⟩ y = true := by decide

/-- The reset registers; a filter for HOM0 opcode 1011, and one for DRS opcode 0010 with RDS 1100. -/
theorem witness_CtoCountsEveryPacket : State.reset.qpiPkt[(2 : Fin 3)] = .reset ∧
    carriesOpcode ((0x0160 : Word).extractLsb' 9 4) ((0x0160 : Word).extractLsb' 5 4) = false ∧
    (0x1FFF : Word) &&& 0x1FE0 = 0x1FE0 ∧ (0x1C40 : Word).extractLsb' 9 4 = 0xE ∧
    ((0x1C40 : Word).extractLsb' 5 4).toNat ≤ 2 ∧ (0xFFFFF : Word) &&& 0xF0000 = 0xF0000 ∧
    (0xC0000 : Word).extractLsb' 16 4 ∉ [(8 : BitVec 4), 4, 2, 1, 0] := by decide

/-- An event that is not the match; OPCODEMATCH names NDR 1000 (Cmp), and SNP 1110, where the tables have no snoop; a unit
mask of the rows AD, BL and AK. -/
theorem witness_HaFiltMatches :
    evHaSnoopResp.kind ≠ .haMatch ∧ (0x1C : BitVec 8) &&& 0x03 = 0 ∧
    (let s := { start with haOpcodeMatch := .replicate 2 0x28 }; s.haOpcodeMatch[(1 : Fin 2)].extractLsb' 4 2 = 2) ∧
    let s := { start with haOpcodeMatch := .replicate 2 0x3E }
    carriesOpcode ((0 : BitVec 2) ++ s.haOpcodeMatch[(0 : Fin 2)].extractLsb' 4 2)
      (s.haOpcodeMatch[(0 : Fin 2)].extractLsb' 0 4) = false := by decide

/-- An NDR response cannot give addr_hit, a HOM0 request with that address does (43_ha.md R404). -/
theorem test_ndr_gives_no_addr_hit :
    let o : Occ := { (default : Occ) with addr := some 0x0000000041 }
    addrHit 0 0x1040 { o with cls := 0x0 } = true ∧ addrHit 0 0x1040 { o with cls := 0x2 } = false := by decide

/-- Row ADDR reads the address registers only, row OPC the opcode register only, FILT both (43_ha.md R404, R410): a RdCur
(HOM0 0) to cache line 1 while OPCODEMATCH is 0. -/
theorem test_ha_rows_read_their_registers :
    let o : Occ := { (default : Occ) with addr := some 1, cls := 0x0, pktOpc := 0x0 }
    let s := { start with haAddrMatch0 := .replicate 2 0x40 }
    passMatch 0 0x01 s o = true ∧ passMatch 0 0x02 s o = true ∧ passMatch 0 0x03 s o = true ∧
      passMatch 0 0x01 start o = false ∧ passMatch 0 0x02 start o = true ∧ passMatch 0 0x03 start o = false := by
  decide

/-- 75 pairs (49_packet_matching.md R974), SnpDataMigratory at 1010, and cells R972 and R973 leave empty. -/
theorem test_packet_opcodes :
    (packetOpcodes.map (fun c => c.2.length)).sum = 75 ∧ carriesOpcode 0x3 0xA = true ∧ carriesOpcode 0x3 0xE = false ∧
    carriesOpcode 0x0 0xB = false ∧ carriesOpcode 0x4 0x2 = false ∧ carriesOpcode 0xC 0x3 = false ∧
    carriesOpcode 0xE 0x9 = false ∧ carriesOpcode 0x5 0x0 = false := by decide

/-- DataC in M state is a packet, DataC with RDS 1100 is none, WbIData has whatever RDS (47_qpi.md R757). -/
theorem test_packet_rds :
    Packet.carried ⟨true, 0, 0, 0xE, 0, 0, 0x8⟩ = true ∧ Packet.carried ⟨true, 0, 0, 0xE, 0, 0, 0xC⟩ = false ∧
    Packet.carried ⟨true, 0, 0, 0xE, 4, 0, 0xC⟩ = true := by decide

/-- A threshold in use, and a core the part lacks. -/
theorem witness_PcuBandAndCoreEvents :
    (evPcuFreqBand0Cycles.kind = .freqBand 0 ∧
      ({ start with effband := .replicate 4 (some 20) } : State).effband[(0 : Fin 4)] = some 20) ∧
    (evPcuDemotionsCore17.kind = .perCore 17 ∧
      ({ start with cfg := { Params.default with nCore := 17 } } : State).cfg.nCore ≤ 17) := by decide

theorem witness_MsrReadReturnsRegister : ∃ (i : Instr) (addr : Nat) (r : Reg), i.view = .msr addr r .read ∧
    r.present start.cfg = true := ⟨.c17MsrPmonBoxStatus .read, _, _, rfl, rfl⟩

/-- Both dwords of a counter; the identification of HA0's function, read and written. -/
theorem witness_CfgReadReturnsDword :
    (∀ high : Bool, ∃ (i : Instr) (addr : Nat) (r : Reg),
      i.view = .cfg addr r ⟨start.cfg.bus, high, .read⟩ ∧ r.present start.cfg = true) ∧
    (∃ fn, decode (.host start.cfg.irpAlt) (cfgrd 18 1 0) = .error (.identification start.cfg.bus fn false) ∧
      ∃ r, functionTable.lookup fn = some (r, 0x2F30) ∧ r.present start.cfg = true) ∧
    ∃ fn, decode (.host start.cfg.irpAlt) (cfgwr 18 1 0 5) = .error (.identification start.cfg.bus fn true) :=
  ⟨fun high => ⟨.ha0PciPmonCtr0 ⟨0, high, .read⟩, _, _, rfl, rfl⟩, ⟨_, rfl, _, rfl, rfl⟩, ⟨_, rfl⟩⟩

theorem witness_ReadsHideLatches : ∃ u : CtrUnit, u ≠ start.unit (.qpi 0) 0 ∧ u.ctl = (start.unit (.qpi 0) 0).ctl ∧
    u.ctr = (start.unit (.qpi 0) 0).ctr := ⟨{ CtrUnit.reset with qrst := true, prev := some true }, by decide, rfl, rfl⟩

/-- An MSR control and a control of a double-write box. -/
theorem witness_ControlWrite :
    (WritesReg (.c0MsrPmonCtl0 (.write 0x01440111)) (.ctl (.cbo 0) 0) 0x01440111 start ∧
      (0x01440111 : Word) &&& ctlMustZero .cbo = 0 ∧ ThreshAllows .cbo 0x01440111) ∧
    WritesReg (.r2PciPmonCtl2 ⟨0, false, .write 0x00400309⟩) (.ctl .r2 2) 0x00400309 start ∧
      (0x00400309 : Word) &&& ctlMustZero .r2 = 0 ∧ ThreshAllows .r2 0x00400309 :=
  ⟨⟨⟨rfl, .inl ⟨_, rfl⟩⟩, by decide, .inl (by decide)⟩,
    ⟨⟨rfl, .inr ⟨_, ⟨0, false, .write 0x00400309⟩, 0x00400309, rfl, rfl, rfl, rfl⟩⟩, by decide,
      .inr ⟨by decide, by decide, fun h => by cases h⟩⟩⟩

/-- A box with the field at bits 17:16, and one without. -/
theorem witness_BoxControlWrite :
    (WritesReg (.c0MsrPmonBoxCtl (.write 0x00010103)) (.boxCtl (.cbo 0)) 0x00010103 start ∧
      (0x00010103 : Word).extractLsb' 16 2 = start.cfg.boxCtlOne) ∧
    WritesReg (.r2PciPmonBoxCtl ⟨0, false, .write 0x100⟩) (.boxCtl .r2) 0x100 start ∧ hasRsvOne .r2 = false :=
  ⟨⟨⟨rfl, .inl ⟨_, rfl⟩⟩, rfl⟩, ⟨rfl, .inr ⟨_, ⟨0, false, .write 0x100⟩, 0x100, rfl, rfl, rfl, rfl⟩⟩, rfl⟩

/-- All five status bits of an IMC channel. -/
theorem witness_BoxStatusWrite :
    WritesReg (.mc0Ch0PciPmonBoxStatus ⟨0, false, .write 0x1F⟩) (.boxStatus (.imc 0)) 0x1F start ∧
      (0x1F : Word) &&& statusMustZero .imc = 0 :=
  ⟨⟨rfl, .inr ⟨_, ⟨0, false, .write 0x1F⟩, 0x1F, rfl, rfl, rfl, rfl⟩⟩, by decide⟩

theorem witness_CounterWrite :
    WritesReg (.c0MsrPmonCtr0 (.write 0xFFFF123456789ABC)) (.ctr (.cbo 0) 0) 0xFFFF123456789ABC start :=
  ⟨rfl, .inl ⟨_, rfl⟩⟩

theorem witness_CounterDwordWrite : ∀ high : Bool, ∃ (i : Instr) (addr : Nat) (b : BoxId) (j : Fin 4) (w : Word),
    i.view = .cfg addr (.ctr b j) ⟨start.cfg.bus, high, .write w⟩ ∧ b.present start.cfg = true :=
  fun high => ⟨.ha0PciPmonCtr0 ⟨0, high, .write 0xFFFFFFFF⟩, _, _, _, _, rfl, rfl⟩

theorem witness_FixedCounterWrites :
    (WritesReg (.uMsrPmonUclkFixedCtl (.write 0x00500000)) (.fixedCtl .ubox) 0x00500000 start ∧
      WritesReg (.mc0Ch0PciPmonFixedCtl ⟨0, false, .write 0x00480000⟩) (.fixedCtl (.imc 0)) 0x00480000 start) ∧
    WritesReg (.uMsrPmonUclkFixedCtr (.write 7)) (.fixedCtr .ubox) 7 start :=
  ⟨⟨⟨rfl, .inl ⟨_, rfl⟩⟩, ⟨rfl, .inr ⟨_, ⟨0, false, .write 0x00480000⟩, 0x00480000, rfl, rfl, rfl, rfl⟩⟩⟩,
    ⟨rfl, .inl ⟨_, rfl⟩⟩⟩

/-- A refused and an accepted value, and both action bits. -/
theorem witness_GlobalControlWrite : (0x100000000 : Quad).extractLsb' 32 32 ≠ 0 ∧ (0x08000000 : Quad).extractLsb' 27 2 ≠ 0 ∧
    (0xA0000000 : Quad).extractLsb' 32 32 = 0 ∧ (0xA0000000 : Quad).extractLsb' 27 2 = 0 := by decide

theorem witness_GlobalConfigWrite : (0xFFFFFFFF : Quad).extractLsb' 32 32 = 0 ∧ (0x100000000 : Quad).extractLsb' 32 32 ≠ 0 := by
  decide

/-- One write for each clause. -/
theorem witness_PlainRegisterWrites :
    (WritesReg (.c0MsrPmonBoxFilter0 (.write 0x00FE003F)) (.cboFilter0 0) 0x00FE003F start ∧ (0x00FE003F : Word) &&& 0xFF01FFC0 = 0) ∧
    (WritesReg (.c0MsrPmonBoxFilter1 (.write 0xDFFFFFFF)) (.cboFilter1 0) 0xDFFFFFFF start ∧ (0xDFFFFFFF : Word).getLsbD 29 = false) ∧
    WritesReg (.ha0PciPmonBoxOpcodematch ⟨0, false, .write 0xFF⟩) (.haOpcodeMatch 0) 0xFF start ∧
    WritesReg (.ha1PciPmonBoxAddrmatch1 ⟨0, false, .write 0xFFFFFFFF⟩) (.haAddrMatch1 1) 0xFFFFFFFF start ∧
    WritesReg (.ha0PciPmonBoxAddrmatch0 ⟨0, false, .write 1⟩) (.haAddrMatch0 0) 1 start ∧
    (WritesReg (.qP0PciPmonRxPktMatch0 ⟨0, false, .write 0x1C80⟩) (.qpiPkt 0 .rxMatch0) 0x1C80 start ∧
      (0x1C80 : Word) &&& (Reg.qpiPkt 0 .rxMatch0).mustZero = 0) ∧
    WritesReg (.qP0PciPmonLinkIdle ⟨0, false, .write 5⟩) (.qpiIdle 0) 5 start ∧
    WritesReg (.qP0PciPmonLinkLlr ⟨0, false, .write 5⟩) (.qpiLlr 0) 5 start :=
  ⟨⟨⟨rfl, .inl ⟨_, rfl⟩⟩, by decide⟩, ⟨⟨rfl, .inl ⟨_, rfl⟩⟩, by decide⟩,
    ⟨rfl, .inr ⟨_, ⟨0, false, .write 0xFF⟩, 0xFF, rfl, rfl, rfl, rfl⟩⟩,
    ⟨rfl, .inr ⟨_, ⟨0, false, .write 0xFFFFFFFF⟩, 0xFFFFFFFF, rfl, rfl, rfl, rfl⟩⟩,
    ⟨rfl, .inr ⟨_, ⟨0, false, .write 1⟩, 1, rfl, rfl, rfl, rfl⟩⟩,
    ⟨⟨rfl, .inr ⟨_, ⟨0, false, .write 0x1C80⟩, 0x1C80, rfl, rfl, rfl, rfl⟩⟩, by decide⟩,
    ⟨rfl, .inr ⟨_, ⟨0, false, .write 5⟩, 5, rfl, rfl, rfl, rfl⟩⟩,
    ⟨rfl, .inr ⟨_, ⟨0, false, .write 5⟩, 5, rfl, rfl, rfl, rfl⟩⟩⟩

theorem witness_PcuFilterWrite : (0xFFFFFFFF : Quad).extractLsb' 32 32 = 0 ∧
    (start.setAgenda [.frequency]).run = none ∧ (start.setAgenda [.frequency]).agenda = [.frequency] := by decide

/-- V70: two writes of control 2 of the R2PCIe, then V73: a write of control 3. -/
theorem witness_DoubleWriteDiscipline :
    let i₁ := Instr.r2PciPmonCtl2 ⟨0, false, .write 0x00000309⟩
    let i₂ := Instr.r2PciPmonCtl2 ⟨0, false, .write 0x00400309⟩
    let i₃ := Instr.r2PciPmonCtl3 ⟨0, false, .write 1⟩
    WritesReg i₁ (.ctl .r2 2) 0x00000309 start ∧ (start.unit .r2 2).dw = none ∧
      ∃ t, exec i₁ start = .next t ∧ (∃ u, WritesReg i₂ (.ctl .r2 2) 0x00400309 t ∧ exec i₂ t = .next u) ∧
        (∀ n < 32, n ≠ 22 → (0x00000309 : Quad).getLsbD n = (0x00400309 : Quad).getLsbD n) ∧
        ∃ u, WritesReg i₃ (.ctl .r2 3) 1 t ∧ exec i₃ t = .next u :=
  ⟨⟨rfl, .inr ⟨_, ⟨0, false, .write 0x00000309⟩, 0x00000309, rfl, rfl, rfl, rfl⟩⟩, rfl, _, rfl,
    ⟨_, ⟨rfl, .inr ⟨_, ⟨0, false, .write 0x00400309⟩, 0x00400309, rfl, rfl, rfl, rfl⟩⟩, rfl⟩, by decide,
    ⟨_, ⟨rfl, .inr ⟨_, ⟨0, false, .write 1⟩, 1, rfl, rfl, rfl, rfl⟩⟩, rfl⟩⟩

/-- One write for each refusal. -/
theorem witness_DeclinedWrites :
    (WritesReg (.c0MsrPmonCtl0 (.write 0x100400000)) (.ctl (.cbo 0) 0) 0x100400000 start ∧ (Reg.ctl (.cbo 0) 0).wide = false) ∧
    (WritesReg (.pcuMsrCoreCc6Ctr (.write 0)) (.pcuFree .cc6) 0 start ∧ (Reg.pcuFree .cc6).readOnly = true) ∧
    (WritesReg (.c0MsrPmonCtl0 (.write 0x00500000)) (.ctl (.cbo 0) 0) 0x00500000 start ∧
      (0x00500000 : Word) &&& (Reg.ctl (.cbo 0) 0).mustZero ≠ 0) ∧
    (WritesReg (.c0MsrPmonBoxCtl (.write 0x100)) (.boxCtl (.cbo 0)) 0x100 start ∧
      (0x100 : Word).extractLsb' 16 2 ≠ start.cfg.boxCtlOne) ∧
    (WritesReg (.c0MsrPmonCtl0 (.write 0x00C00000)) (.ctl (.cbo 0) 0) 0x00C00000 start ∧ ¬ ThreshAllows .cbo 0x00C00000) ∧
    WritesReg (.mc0Ch0PciPmonFixedCtl ⟨0, false, .write 0x00C00000⟩) (.fixedCtl (.imc 0)) 0x00C00000 start ∧
    WritesReg (.uMsrPmonGlobalCtl (.write 0xA0000000)) .globalCtl 0xA0000000 start :=
  ⟨⟨⟨rfl, .inl ⟨_, rfl⟩⟩, rfl⟩, ⟨⟨rfl, .inl ⟨_, rfl⟩⟩, rfl⟩, ⟨⟨rfl, .inl ⟨_, rfl⟩⟩, by decide⟩,
    ⟨⟨rfl, .inl ⟨_, rfl⟩⟩, by decide⟩, ⟨⟨rfl, .inl ⟨_, rfl⟩⟩, by unfold ThreshAllows; decide⟩,
    ⟨rfl, .inr ⟨_, ⟨0, false, .write 0x00C00000⟩, 0x00C00000, rfl, rfl, rfl, rfl⟩⟩, ⟨rfl, .inl ⟨_, rfl⟩⟩⟩

/-- A part with 17 CBos and one HA, and another bus. -/
theorem witness_DeclinedAddresses :
    let s := { start with cfg := { Params.default with nCbo := 17, nHa := 1 } }
    (∃ addr r, Instr.view (.c17MsrPmonBoxCtl .read) = .msr addr r .read ∧ r.present s.cfg = false) ∧
    (∃ addr r, Instr.view (.ha1PciPmonBoxCtl ⟨0, false, .read⟩) = .cfg addr r ⟨0, false, .read⟩ ∧ s.cfg.bus = 0 ∧
      r.present s.cfg = false) ∧
    (1 : BitVec 8) ≠ s.cfg.bus :=
  ⟨⟨_, _, rfl, rfl⟩, ⟨_, _, rfl, rfl, rfl⟩, by decide⟩

theorem witness_CycleBegins : ∃ (s : State) (b : BoxId), s.run = none ∧ s.agenda = [.clock b] ∧ b.present s.cfg = true ∧
    b.kind = .qpi ∧ (s.unit b 0).qrst = true :=
  ⟨(start.setUnit (.qpi 0) 0 { CtrUnit.reset with qrst := true }).setAgenda [.clock (.qpi 0)], .qpi 0, rfl, rfl, rfl, rfl, rfl⟩

/-- The wrap with ov_en, and the frozen case. -/
theorem witness_UBoxFixedCounter :
    let s := turn .ubox 2 (start.setBlk .ubox { Blk.reset with fixCtl := 0x00500000, fixCtr := BitVec.allOnes 48 })
    s.run = some ⟨.ubox, 2⟩ ∧ s.ubox.fixCtl.getLsbD 22 = true ∧ s.freezeSeen .ubox = some false ∧
      ({ s with gfrz := some true } : State).freezeSeen .ubox = some true := by decide

theorem witness_ImcFixedCounter :
    let s := turn (.imc 7) 4 (start.setBlk (.imc 7) { Blk.reset with fixCtl := 0x00500000, fixCtr := BitVec.allOnes 48 })
    s.run = some ⟨.imc 7, 4⟩ ∧ (s.blk (.imc 7)).fixCtl.getLsbD 22 = true ∧ (s.blk (.imc 7)).bfrz = false ∧
      s.freezeSeen (.imc 7) = some false ∧ (s.blk (.imc 7)).ov.getLsbD 0 = false ∧ s.status &&& 0x1000000 = 0 ∧
      ({ s with gfrz := some true } : State).freezeSeen (.imc 7) = some true := by decide

theorem witness_FreeRunningCounters : (turn .pcu 4 start).run = some ⟨.pcu, 4⟩ ∧
    ∀ p : Fin 3, (turn (.qpi p) 4 start).run = some ⟨.qpi p, 4⟩ := ⟨rfl, fun _ => rfl⟩

theorem witness_DeliveryFreezesAndInterrupts : ∃ (s : State) (k : Nat) (rest : List Turn) (bits : Quad),
    s.run = none ∧ s.agenda = .deliver k :: rest ∧ s.pend[k]? = some bits :=
  ⟨{ start with pend := [0x1, 0x00200000], agenda := [.deliver 1] }, 1, [], 0x00200000, rfl, rfl, rfl⟩

/-- The start state with pmi_core_sel = 1 and wk_on_pmi, its message received. -/
def signalled : State :=
  { start with status := 1, gfrz := some true, pmiCoreSel := 1, wkOnPmi := true }

/-- A delivery with pmi_core_sel = 1 and wk_on_pmi signals core 0. -/
theorem witness_OnlyDeliverySignals : ∃ s t : State, step s = .next t ∧ t.out ≠ s.out := by
  refine ⟨{ start with pend := [0x1], agenda := [.deliver 0], pmiCoreSel := 1, wkOnPmi := true }, sendPmi signalled, rfl, ?_⟩
  obtain ⟨n, -, e⟩ := sendPmi_spec signalled
  rw [e]
  change ([] : List Signal) ++ ((if _ = (0 : BitVec 18) then [] else _) ++ [Signal.pmi 1]) ≠ []
  simp

/-- A write, and under FREEZE_PROPAGATION = eventual a box's turn to see the freeze and a cycle of one that has seen it. -/
theorem witness_FreezeLatchChangers : (∃ s t : State, step s = .next t ∧ t.gfrz ≠ s.gfrz) ∧
    (∃ (s t : State) (b : BoxId), s.run = none ∧ s.agenda = [.seen b] ∧ step s = .next t ∧ (t.blk b).gseen ≠ (s.blk b).gseen) ∧
    ∃ (s t : State) (r : Run), s.run = some r ∧ s.cfg.propEventual = true ∧ (s.blk r.box).gseen = some true ∧ step s = .next t :=
  ⟨⟨hostTurn (wrmsr 0x700 0x80000000) start, _, rfl, by decide⟩,
    ⟨start.setAgenda [.seen .irp], _, .irp, rfl, rfl, rfl, by decide⟩,
    ⟨{ (start.setBlk (.ha 0) { Blk.reset with gseen := some true }).setRun (some ⟨.ha 0, 0⟩) with
        cfg := { Params.default with propEventual := true } }, _, ⟨.ha 0, 0⟩, rfl, rfl, rfl, rfl⟩⟩

theorem witness_FrozenSocketCountsNothing : ∃ (s t : State) (r : Run), s.run = some r ∧ s.cfg.propEventual = false ∧
    s.gfrz = some true ∧ step s = .next t :=
  ⟨{ cycleAt (.ha 0) 0 0 0x00400000 with gfrz := some true }, _, ⟨.ha 0, 0⟩, rfl, rfl, rfl, rfl⟩

theorem witness_CboAndSboSendNothing : ∃ (s t : State) (r : Run), s.run = some r ∧ r.box.kind = .cbo ∧ step s = .next t :=
  ⟨cycleAt (.cbo 0) 0 0 0x00400000, _, ⟨.cbo 0, 0⟩, rfl, rfl, rfl⟩

/-- The hardware reset is a step. -/
theorem witness_ParametersAreFixed : ∃ s t : State, step s = .next t ∧ s.agenda = [.reset] :=
  ⟨start.setAgenda [.reset], _, rfl, rfl⟩

theorem witness_CycleTouchesOneBox : ∃ (s t : State) (r : Run), s.run = some r ∧ step s = .next t :=
  ⟨cycleAt (.imc 7) 3 3 0x00400000, _, ⟨.imc 7, 3⟩, rfl, rfl⟩

theorem witness_ResetTurn : ∃ (s : State) (rest : List Turn), s.run = none ∧ s.agenda = .reset :: rest :=
  ⟨start.setAgenda [.reset], [], rfl, rfl⟩

theorem start_blk (b : BoxId) : start.blk b = .reset := by
  cases b <;> simp [State.blk, start, State.reset]

theorem blk_reset_ok (b : BoxId) : Blk.reset.Ok Params.default b := by
  refine ⟨fun i => ?_, by simp [Blk.reset], by simp [Blk.reset]⟩
  have h : Blk.reset.unit i = .reset := by fin_cases i <;> rfl
  rw [h]
  exact ⟨by simp [CtrUnit.reset], by cases b <;> rfl, Nat.two_pow_pos _, fun _ => ⟨rfl, rfl⟩, fun _ => rfl, fun _ => rfl⟩

/-- The start state with a host turn meets the invariant, and its step has a next state. -/
theorem witness_StepKeepsInvariant : ∃ s t : State, s.Inv ∧ step s = .next t := by
  refine ⟨hostTurn (wrmsr 0x0E01 0x06C40111) start, _,
    ⟨by constructor <;> decide, fun b => ?_, rfl, ?_, ?_, ?_, ?_, ?_, ?_, ?_⟩, rfl⟩
  · rw [hostTurn, State.blk_setAgenda, start_blk]
    exact blk_reset_ok b
  all_goals simp [hostTurn, State.setAgenda, start, State.reset]
  intro r
  cases r <;> simp [PktRegs.get, PktRegs.reset]

end Sys2Proof.Tests
end

section
/-! The invariant of the machine: each operation of the model keeps it, and so does every step. -/

namespace Sys2Proof.Machine

/-! ### Bits a register has -/

theorem and_mask_clear {n : Nat} (x m : BitVec n) : x &&& m &&& ~~~m = 0 := by
  rw [BitVec.and_assoc, BitVec.and_not_self]
  exact BitVec.and_zero

theorem or_keeps_mask {n : Nat} {x y m : BitVec n} (hx : x &&& ~~~m = 0) (hy : y &&& ~~~m = 0) :
    (x ||| y) &&& ~~~m = 0 := by
  rw [BitVec.and_or_distrib_right, hx, hy]
  exact BitVec.or_zero

theorem and_keeps_mask {n : Nat} {x m : BitVec n} (hx : x &&& ~~~m = 0) (y : BitVec n) : x &&& y &&& ~~~m = 0 := by
  rw [BitVec.and_assoc, BitVec.and_comm y, ← BitVec.and_assoc, hx]
  exact BitVec.zero_and

/-- A sum or a written value cut to `width` bits fits them in the 48 bits of a counter's storage. -/
theorem toNat_cut_lt (n width : Nat) : (BitVec.ofNat 48 (n % 2 ^ width)).toNat < 2 ^ width := by
  rw [BitVec.toNat_ofNat]
  exact lt_of_le_of_lt (Nat.mod_le _ _) (Nat.mod_lt _ (Nat.two_pow_pos _))

/-- A control register stores all of its thresh field. -/
theorem threshField_and_stored (k : Kind) (w : Word) : threshField k (w &&& ctlStored k) = threshField k w := by
  have short : ∀ x : BitVec 5, x.setWidth 8 &&& 31#8 = x.setWidth 8 := by decide
  have long : ∀ x : BitVec 8, x &&& 255#8 = x := by decide
  cases k
  case ubox | pcu => simp [threshField, Kind.shortThresh, ctlStored, BitVec.extractLsb'_and, short]
  all_goals simp [threshField, Kind.shortThresh, ctlStored, BitVec.extractLsb'_and, long]

/-- Storing a control word drops bits, so it shapes no event that the written word does not shape. -/
theorem threshZero_and_stored {b : BoxId} {i : Fin 4} {w : Word} (h : Reg.threshZero (.ctl b i) w = false) :
    Reg.threshZero (.ctl b 0) (w &&& ctlStored b.kind) = false := by
  simp only [Reg.threshZero, threshField_and_stored, BitVec.getLsbD_and] at h ⊢
  grind

/-- The status bit of a counter that its box has is one of the box's status bits. -/
theorem counter_ov_mask (k : Kind) (n : Fin k.insts) (c : Fin k.ctrs) :
    BitVec.ofNat 5 (2 ^ (k.box n).ovIndex (k.unit c)) &&& ~~~ovMask (k.box n).kind = 0 := by
  cases k <;> decide +revert

theorem globalBits_mask (b : BoxId) : b.globalBits &&& ~~~globalOvMask = 0 := by
  cases b <;> decide +revert

/-- What a box reports in flight names defined bits of the global status. -/
theorem sent_named {b : BoxId} {sent : List Quad} (h : sent = [] ∨ b.globalBits ≠ 0 ∧ sent = [b.globalBits]) :
    ∀ m ∈ sent, m ≠ 0 ∧ m &&& ~~~globalOvMask = 0 := by
  rcases h with rfl | ⟨hg, rfl⟩
  · exact fun _ hm => nomatch hm
  · simpa using ⟨hg, globalBits_mask b⟩

/-! ### Counters -/

theorem CtrUnit.Ok.reset (p : Params) (b : BoxId) : CtrUnit.reset.Ok p b where
  stored := BitVec.zero_and
  thresh := by cases b <;> rfl
  width := Nat.two_pow_pos _
  pair _ := ⟨rfl, rfl⟩
  sticky _ := rfl
  occ _ := rfl

/-- A counter may take any value below 2^W and any edge samples its box has. -/
theorem CtrUnit.Ok.counted {p : Params} {b : BoxId} {u : CtrUnit} (h : u.Ok p b) {ctr : Counter} {prev oprev : Option Bool}
    (hw : ctr.toNat < 2 ^ b.width p) (ho : b.kind ≠ .pcu → oprev = none) :
    ({ u with ctr := ctr, prev := prev, oprev := oprev } : CtrUnit).Ok p b :=
  { h with width := hw, occ := ho }

theorem CtrUnit.Ok.with_ctr {p : Params} {b : BoxId} {u : CtrUnit} (h : u.Ok p b) {ctr : Counter}
    (hw : ctr.toNat < 2 ^ b.width p) : ({ u with ctr := ctr } : CtrUnit).Ok p b :=
  { h with width := hw }

theorem CtrUnit.Ok.clearCtr {p : Params} {b : BoxId} {u : CtrUnit} (h : u.Ok p b) :
    ({ u with ctr := 0 } : CtrUnit).Ok p b :=
  h.with_ctr (Nat.two_pow_pos _)

theorem CtrUnit.Ok.holdReset {p : Params} {b : BoxId} {u : CtrUnit} (h : u.Ok p b) : u.holdReset.Ok p b := by
  unfold CtrUnit.holdReset
  split
  · exact h.clearCtr
  · exact h

theorem CtrUnit.Ok.clearCtl {p : Params} {b : BoxId} {u : CtrUnit} (h : u.Ok p b) : u.clearCtl.Ok p b :=
  { CtrUnit.Ok.reset p b with width := h.width }

theorem CtrUnit.Ok.latchWrite {p : Params} {b : BoxId} {u : CtrUnit} (h : u.Ok p b) (w : Word) :
    (u.latchWrite b w).Ok p b := by
  unfold CtrUnit.latchWrite
  split
  · next hd => exact { h with pair := fun hn => absurd (hn.symm.trans hd) Bool.false_ne_true }
  · exact h

theorem CtrUnit.Ok.storeCtl {p : Params} {b : BoxId} {u : CtrUnit} (h : u.Ok p b) {i : Fin 4} {w : Word}
    (hw : Reg.threshZero (.ctl b i) w = false) : (u.storeCtl b w).Ok p b where
  stored := and_mask_clear _ _
  thresh := threshZero_and_stored hw
  width := by
    unfold CtrUnit.storeCtl
    split
    · exact Nat.two_pow_pos _
    · exact h.width
  pair := h.pair
  sticky hk := by simpa [CtrUnit.storeCtl, hk] using h.sticky hk
  occ _ := rfl

/-! ### Blocks -/

theorem Blk.Ok.reset (p : Params) (b : BoxId) : Blk.reset.Ok p b where
  unit i := by
    have h : Blk.reset.unit i = .reset := by fin_cases i <;> rfl
    rw [h]
    exact .reset p b
  ov := BitVec.zero_and
  fixed := BitVec.zero_and

section
variable {p : Params} {b : BoxId} {x : Blk}

theorem Blk.Ok.setUnit (h : x.Ok p b) {i : Fin 4} {u : CtrUnit} (hu : u.Ok p b) : (x.setUnit i u).Ok p b where
  unit j := by
    by_cases hj : j = i
    · subst hj
      simpa using hu
    · simpa [hj] using h.unit j
  ov := by simpa using h.ov
  fixed := by simpa using h.fixed

theorem Blk.Ok.mapUnits (h : x.Ok p b) {f : CtrUnit → CtrUnit} (hf : ∀ u : CtrUnit, u.Ok p b → (f u).Ok p b) :
    (x.mapUnits f).Ok p b where
  unit i := by simpa using hf _ (h.unit i)
  ov := h.ov
  fixed := h.fixed

theorem Blk.Ok.setOv (h : x.Ok p b) {v : BitVec 5} (hv : v &&& ~~~ovMask b.kind = 0) : (x.setOv v).Ok p b :=
  { h with ov := hv }

theorem Blk.Ok.with_bfrz (h : x.Ok p b) (v : Bool) : ({ x with bfrz := v } : Blk).Ok p b :=
  { h with }

theorem Blk.Ok.with_gseen (h : x.Ok p b) (v : Option Bool) : ({ x with gseen := v } : Blk).Ok p b :=
  { h with }

theorem Blk.Ok.with_fixCtr (h : x.Ok p b) (v : Counter) : ({ x with fixCtr := v } : Blk).Ok p b :=
  { h with }

theorem Blk.Ok.with_fixCtl (h : x.Ok p b) {v : Word} (hv : v &&& ~~~0x00500000 = 0) :
    ({ x with fixCtl := v } : Blk).Ok p b :=
  { h with fixed := hv }

theorem Blk.Ok.ite {q : Bool} {y : Blk} (hy : y.Ok p b) (hx : x.Ok p b) : (if q then y else x).Ok p b := by
  split
  · exact hy
  · exact hx

theorem Blk.Ok.breakPairs (h : x.Ok p b) : (breakPairs b x).Ok p b := by
  unfold Machine.breakPairs
  split
  · next hd =>
    exact h.mapUnits fun u hu => { hu with pair := fun hn => absurd (hn.symm.trans hd) Bool.false_ne_true }
  · exact h

end

/-! ### The state -/

section
variable {s : State}

theorem State.Inv.setDraws (h : s.Inv) (n : Nat) : (s.setDraws n).Inv := { h with }

theorem State.Inv.setOut (h : s.Inv) (v : List Signal) : (s.setOut v).Inv := { h with }

theorem State.Inv.setHostRead (h : s.Inv) (v : Option Quad) : (s.setHostRead v).Inv := { h with }

theorem State.Inv.setAgenda (h : s.Inv) (v : List Turn) : (s.setAgenda v).Inv := { h with }

theorem State.Inv.setTime (h : s.Inv) (n : Nat) : (s.setTime n).Inv := { h with }

theorem State.Inv.setRun (h : s.Inv) (r : Option Run) : (s.setRun r).Inv := { h with }

theorem State.Inv.setPend (h : s.Inv) {v : List Quad} (hv : ∀ m ∈ v, m ≠ 0 ∧ m &&& ~~~globalOvMask = 0) :
    (s.setPend v).Inv := { h with pend := hv }

/-- More messages may join PEND that name defined bits. -/
theorem State.Inv.sendPend (h : s.Inv) {sent : List Quad} (hs : ∀ m ∈ sent, m ≠ 0 ∧ m &&& ~~~globalOvMask = 0) :
    (s.setPend (s.pend ++ sent)).Inv :=
  h.setPend fun m hm => (List.mem_append.mp hm).elim (h.pend m) (hs m)

theorem State.Inv.setBlk (h : s.Inv) {b : BoxId} {x : Blk} (hx : x.Ok s.cfg b) : (s.setBlk b x).Inv where
  cfg := by simpa using h.cfg
  blk c := by
    by_cases hc : c = b
    · subst hc
      simpa using hx
    · simpa [hc] using h.blk c
  status := by simpa using h.status
  pend := by simpa using h.pend
  filter0 := by simpa using h.filter0
  filter1 := by simpa using h.filter1
  opcodeMatch := by simpa using h.opcodeMatch
  addrMatch1 := by simpa using h.addrMatch1
  addrMatch0 := by simpa using h.addrMatch0
  packet := by simpa using h.packet

/-- A block changes and its box's message joins PEND. -/
theorem State.Inv.report (h : s.Inv) {b : BoxId} {x : Blk} {sent : List Quad} (hx : x.Ok s.cfg b)
    (hs : sent = [] ∨ b.globalBits ≠ 0 ∧ sent = [b.globalBits]) (n : Nat) :
    (((s.setBlk b x).setPend (s.pend ++ sent)).setDraws n).Inv :=
  ((h.setBlk hx).setPend fun m hm => (List.mem_append.mp hm).elim (h.pend m) (sent_named hs m)).setDraws n

theorem State.Inv.unit (h : s.Inv) (b : BoxId) (i : Fin 4) : (s.unit b i).Ok s.cfg b := (h.blk b).unit i

theorem State.Inv.setUnit (h : s.Inv) {b : BoxId} (i : Fin 4) {u : CtrUnit} (hu : u.Ok s.cfg b) : (s.setUnit b i u).Inv :=
  h.setBlk ((h.blk b).setUnit hu)

theorem State.Inv.onlyDraws {t : State} (h : s.Inv) (hd : OnlyDraws s t) : t.Inv := by
  obtain ⟨n, -, rfl⟩ := hd
  exact h.setDraws n

end

/-! ### The count step -/

section
variable {s : State}

theorem spread_onlyDraws (b : BoxId) (i : Fin 4) (a : Nat) (s : State) : OnlyDraws s (spread b i a s).2 := by
  unfold spread
  split
  · exact .draw s (a - 1)
  · exact .refl s

theorem State.Inv.forgetSample (h : s.Inv) (b : BoxId) (i : Fin 4) : (forgetSample b i s).Inv :=
  h.setUnit i ((h.unit b i).counted (h.unit b i).width fun _ => rfl)

/-- Only the PCU's occupancy events sample into OPREV. -/
theorem State.Inv.addend (h : s.Inv) (b : BoxId) (i : Fin 4) (code : BitVec 8) (c : CtlOps) (raw : Nat) :
    (addend b i code c raw s).2.Inv := by
  have hu := h.unit b i
  unfold Machine.addend
  split
  · next ho =>
    have hk : b.kind = .pcu := by simp_all [occShaped]
    split
    · exact h
    · split
      · exact (h.setUnit i (hu.counted hu.width fun hn => absurd hk hn)).onlyDraws (risingEdge_onlyDraws _ _ _)
      · exact h
  · split
    · exact h.onlyDraws (spread_onlyDraws _ _ _ _)
    · split
      · exact (h.setUnit i (hu.counted hu.width hu.occ)).onlyDraws (risingEdge_onlyDraws _ _ _)
      · exact h

theorem State.Inv.addTo (h : s.Inv) {b : BoxId} {i : Fin 4}
    (hi : BitVec.ofNat 5 (2 ^ b.ovIndex i) &&& ~~~ovMask b.kind = 0) (ovEn : Bool) (a : Nat) : (addTo b i ovEn a s).Inv := by
  obtain ⟨ov, sent, d, e, ho, hs, -, -⟩ := addTo_spec b i ovEn a s
  have hov : ov &&& ~~~ovMask b.kind = 0 := by
    rw [ho]
    split
    · exact or_keeps_mask (h.blk b).ov hi
    · exact (h.blk b).ov
  rw [e]
  exact h.report (((h.blk b).setUnit ((h.unit b i).with_ctr (toNat_cut_lt _ _))).setOv hov)
    (hs.imp_right fun ⟨_, _, hg, e⟩ => ⟨hg, e⟩) d

theorem State.Inv.countStep (h : s.Inv) {b : BoxId} {i : Fin 4}
    (hi : BitVec.ofNat 5 (2 ^ b.ovIndex i) &&& ~~~ovMask b.kind = 0) (code : BitVec 8) (c : CtlOps)
    {raw : State → Nat × State} (hraw : ∀ t, OnlyDraws t (raw t).2) : (countStep b i code c raw s).Inv := by
  have hc := h.onlyDraws (counting_onlyDraws b i c.en s)
  simp only [Machine.countStep]
  split
  · simp only [countEnabled]
    split
    · exact ((hc.onlyDraws (hraw _)).addend b i code c _).addTo hi _ _
    · exact (((hc.onlyDraws (.draw _ _)).onlyDraws (.drawBool _)).forgetSample b i).addTo hi _ _
  · exact hc.forgetSample b i

end

/-! ### The end of a cycle -/

section
variable {s : State}

theorem State.Inv.reportOverflow (h : s.Inv) {b : BoxId} {n : Nat}
    (hn : BitVec.ofNat 5 (2 ^ n) &&& ~~~ovMask b.kind = 0) (ovEn : Bool) : (reportOverflow b n ovEn s).Inv := by
  obtain ⟨sent, d, e, hs, -, -⟩ := reportOverflow_spec b n ovEn s
  rw [e]
  exact h.report ((h.blk b).setOv (or_keeps_mask (h.blk b).ov hn)) (hs.imp_right fun ⟨_, hg, e⟩ => ⟨hg, e⟩) d

theorem State.Inv.sendMessage (h : s.Inv) {m : Quad} (hm : m ≠ 0 ∧ m &&& ~~~globalOvMask = 0) : (sendMessage m s).Inv := by
  rw [sendMessage_of_ne hm.1]
  exact h.sendPend (by simpa using hm)

/-- A fixed counter that steps keeps its block's other registers. -/
theorem State.Inv.setFixCtr {t : State} (h : s.Inv) {b : BoxId} (hd : OnlyDraws s t) (v : Counter) :
    (t.setBlk b { s.blk b with fixCtr := v }).Inv := by
  obtain ⟨n, -, rfl⟩ := hd
  exact (h.setDraws n).setBlk ((h.blk b).with_fixCtr v)

theorem State.Inv.fixedStepU (h : s.Inv) : (fixedStepU s).Inv := by
  have hd := frozenGlobal_onlyDraws .ubox s
  simp only [Machine.fixedStepU]
  split
  · split
    · exact h.onlyDraws hd
    · split
      · exact (h.setFixCtr hd _).sendMessage (by decide)
      · exact h.setFixCtr hd _
  · exact h

theorem State.Inv.fixedStepMc (h : s.Inv) (n : Fin 8) : (fixedStepMc (.imc n) s).Inv := by
  have hd := frozenGlobal_onlyDraws (.imc n) s
  simp only [Machine.fixedStepMc]
  split
  · split
    · exact h.onlyDraws hd
    · split
      · exact (h.setFixCtr hd _).reportOverflow (by decide : BitVec.ofNat 5 (2 ^ 0) &&& ~~~ovMask .imc = 0) _
      · exact h.setFixCtr hd _
  · exact h

theorem State.Inv.otherCounters (h : s.Inv) (b : BoxId) : (otherCounters b s).Inv := by
  cases b
  case ubox => exact h.fixedStepU
  case imc n => exact h.fixedStepMc n
  case pcu => exact { h with }
  case qpi p => exact { h with }
  all_goals exact h

theorem State.Inv.finishCycle (h : s.Inv) (b : BoxId) : (finishCycle b s).Inv :=
  ((h.otherCounters b).setTime _).setRun none

end

/-! ### Register writes -/

section
variable {s : State}

theorem State.Inv.writeCtl (h : s.Inv) {b : BoxId} {i : Fin 4} {w : Word}
    (hw : Reg.threshZero (.ctl b i) w = false) : (writeCtl b i w s).Inv :=
  h.setBlk ((h.blk b).breakPairs.setUnit (((h.unit b i).latchWrite w).storeCtl hw))

theorem State.Inv.writeCtr (h : s.Inv) (b : BoxId) (i : Fin 4) (v : Quad) : (writeCtr b i v s).Inv :=
  h.setBlk ((h.blk b).breakPairs.setUnit (((h.blk b).breakPairs.unit i).with_ctr (toNat_cut_lt _ _)))

theorem State.Inv.writeFixedCtl (h : s.Inv) (b : BoxId) (w : Word) : (writeFixedCtl b w s).Inv :=
  h.setBlk (((h.blk b).with_fixCtl (and_mask_clear w _)).with_fixCtr _)

theorem State.Inv.writeFixedCtr (h : s.Inv) (b : BoxId) (v : Quad) : (writeFixedCtr b v s).Inv :=
  h.setBlk ((h.blk b).with_fixCtr _)

theorem State.Inv.writeBoxStatus (h : s.Inv) (b : BoxId) (w : Word) : (writeBoxStatus b w s).Inv :=
  h.setBlk ((h.blk b).breakPairs.setOv (and_keeps_mask (h.blk b).breakPairs.ov _))

theorem State.Inv.writeBoxCtl (h : s.Inv) (b : BoxId) (w : Word) : (writeBoxCtl b w s).Inv := by
  have broken := (h.blk b).breakPairs
  have controls := Blk.Ok.ite (q := w.getLsbD 0) (broken.mapUnits fun _ hu => hu.clearCtl) broken
  have counters := Blk.Ok.ite (q := w.getLsbD 1) (controls.mapUnits fun _ hu => hu.clearCtr) controls
  exact h.setBlk (counters.with_bfrz _)

/-- Replacing one register of an array by one with the property keeps it of all. -/
theorem forall_getElem_set {α : Type} {n : Nat} {P : α → Prop} {v : Vector α n} (h : ∀ i : Fin n, P v[i]) (k : Fin n)
    {x : α} (hx : P x) (i : Fin n) : P (v.set k x)[i] := by
  rw [Fin.getElem_fin, Vector.getElem_set]
  split
  · exact hx
  · exact h i

theorem masked_set {n : Nat} {v : Vector Word n} {m : Word} (h : ∀ i : Fin n, v[i] &&& ~~~m = 0) (k : Fin n) (w : Word)
    (i : Fin n) : (v.set k (w &&& m))[i] &&& ~~~m = 0 :=
  forall_getElem_set (P := fun x => x &&& ~~~m = 0) h k (and_mask_clear w m) i

theorem PktRegs.get_set (x : PktRegs) (r q : PktReg) (w : Word) : (x.set r w).get q = if q = r then w else x.get q := by
  cases r <;> cases q <;> rfl

theorem State.Inv.setPkt (h : s.Inv) (p : Fin 3) (r : PktReg) (w : Word) :
    ({ s with qpiPkt := s.qpiPkt.set p (s.qpiPkt[p].set r (w &&& r.stored)) } : State).Inv :=
  { h with
    packet := forall_getElem_set (P := fun x : PktRegs => ∀ q : PktReg, x.get q &&& ~~~q.stored = 0) h.packet p fun q => by
      rw [PktRegs.get_set]
      split
      · next hq => exact hq ▸ and_mask_clear w _
      · exact h.packet p q }

/-- An accepted write shapes no event with thresh = 0 (60_exceptions.md R1002). -/
theorem threshZero_of_writeCheck {p : Params} {r : Reg} {v : Quad} (h : writeCheck p r v = none) :
    r.threshZero (v.extractLsb' 0 32) = false := by
  unfold writeCheck at h
  grind

theorem State.Inv.storeReg (h : s.Inv) {r : Reg} {v : Quad} (hc : writeCheck s.cfg r v = none) : (storeReg r v s).Inv := by
  cases r
  case globalStatus => exact { h with status := and_keeps_mask h.status _ }
  case ctl b i => exact h.writeCtl (threshZero_of_writeCheck hc)
  case ctr b i => exact h.writeCtr b i v
  case fixedCtl b => exact h.writeFixedCtl b _
  case fixedCtr b => exact h.writeFixedCtr b v
  case boxCtl b => exact h.writeBoxCtl b _
  case boxStatus b => exact h.writeBoxStatus b _
  case cboFilter0 n => exact { h with filter0 := masked_set h.filter0 n _ }
  case cboFilter1 n => exact { h with filter1 := masked_set h.filter1 n _ }
  case haOpcodeMatch n => exact { h with opcodeMatch := masked_set h.opcodeMatch n _ }
  case haAddrMatch1 n => exact { h with addrMatch1 := masked_set h.addrMatch1 n _ }
  case haAddrMatch0 n => exact { h with addrMatch0 := masked_set h.addrMatch0 n _ }
  case qpiPkt p r => exact h.setPkt p r _
  case pcuFilter =>
    obtain ⟨e, n, -, ht⟩ := writePcuFilter_spec (v.extractLsb' 0 32) s
    simp only [Machine.storeReg, ht]
    refine State.Inv.setDraws ?_ n
    exact { h with }
  all_goals exact { h with }

end

/-! ### Turns -/

section
variable {s : State}

theorem State.Inv.nextTurn (h : s.Inv) : (nextTurn s).2.Inv := by
  unfold Machine.nextTurn
  split
  · exact h.setAgenda _
  · exact h.setDraws _

theorem State.Inv.startCycle (h : s.Inv) (b : BoxId) : (startCycle b s).Inv := by
  unfold Machine.startCycle
  split
  · refine (h.setBlk ?_).setRun _
    split
    · exact (h.blk b).mapUnits fun _ hu => hu.holdReset
    · exact h.blk b
  · exact h

theorem State.Inv.deliver (h : s.Inv) (k : Nat) : (deliver k s).Inv := by
  rcases deliver_spec k s with ⟨-, e⟩ | ⟨bits, out, n, hk, -, e⟩
  · rw [e]
    exact h
  · have hbits := h.pend bits (List.mem_of_getElem? hk)
    rw [e]
    refine State.Inv.setDraws (State.Inv.setOut ?_ out) n
    exact { h with
      status := or_keeps_mask h.status hbits.2
      pend := fun m hm => h.pend m (List.mem_of_mem_eraseIdx hm) }

theorem blk_hardwareReset (s : State) (b : BoxId) : (hardwareReset s).blk b = .reset := by
  cases b <;> simp [State.blk, hardwareReset, State.reset]

theorem State.Inv.hardwareReset (h : s.Inv) : (hardwareReset s).Inv where
  cfg := h.cfg
  blk b := blk_hardwareReset s b ▸ .reset s.cfg b
  status := BitVec.zero_and
  pend := fun _ hm => nomatch hm
  filter0 n := by simp [Machine.hardwareReset, State.reset]
  filter1 n := by simp [Machine.hardwareReset, State.reset]
  opcodeMatch n := by simp [Machine.hardwareReset, State.reset]
  addrMatch1 n := by simp [Machine.hardwareReset, State.reset]
  addrMatch0 n := by simp [Machine.hardwareReset, State.reset]
  packet p r := by
    simp [Machine.hardwareReset, State.reset]
    cases r <;> rfl

theorem State.Inv.platformTurn (h : s.Inv) (t : Turn) : (platformTurn t s).Inv := by
  cases t with
  | host cmd => exact h
  | clock b => exact h.startCycle b
  | deliver k => exact h.deliver k
  | frequency => exact { h with }
  | seen b => exact h.setBlk ((h.blk b).with_gseen _)
  | reset => exact h.hardwareReset

end

/-! ### Instructions and steps -/

/-- Every instruction keeps the invariant. -/
theorem State.Inv.exec {i : Instr} {s t : State} (h : s.Inv) (hx : exec i s = .next t) : t.Inv := by
  obtain ⟨k, e, base, o, -, rfl⟩ | ⟨v, rfl⟩ | ⟨r, v, -, hc, rfl⟩ := exec_next hx
  · exact h.countStep (counter_ov_mask k o.inst o.ctr) _ _ fun _ => rawIncrement_onlyDraws _ _ _ _ _ _
  · exact h.setHostRead _
  · exact h.storeReg hc

theorem State.Inv.advance {s : State} (h : s.Inv) (r : Run) : (advance r s).Inv := h.setRun _

/-- Settles O57: every kind of step is made of operations that keep the invariant. -/
theorem stepKeepsInvariant : Obligations.StepKeepsInvariant := by
  intro s t h hstep
  obtain ⟨r, hr, code, c, raw, -, hraw, rfl⟩ | ⟨r, -, -, rfl⟩ | ⟨cmd, -, -, (rfl | ⟨v, rfl⟩) | ⟨i, -, hx⟩⟩ |
    ⟨-, -, rfl⟩ := step_cases hstep
  · have hi := counter_ov_mask r.box.kind r.box.inst ⟨r.next, hr⟩
    rw [BoxId.kind_box_inst] at hi
    exact (h.countStep hi code c hraw).advance r
  · exact h.finishCycle r.box
  · exact h.nextTurn
  · exact h.nextTurn.setHostRead _
  · exact h.nextTurn.exec hx
  · exact h.nextTurn.platformTurn _

end Sys2Proof.Machine
end

section
/-! The raw increment: what bounds it for every event of the tables, clock events, and the unit mask laws. -/

namespace Sys2Proof.Machine

/-! ### What the event tables give -/

/-- The most an event's own rule adds in a cycle where it does not cut the increment at MaxInc itself: 1 for a clock and a
frequency band, a 20-entry queue for COUNTER0_OCCUPANCY (41_cbo.md R273), two slots for CTO_COUNT (47_qpi.md R759). -/
def EvKind.ownMost (k : EvKind) : Nat :=
  match k with
  | .clock | .freqBand _ => 1
  | .counter0Occupancy => 20
  | .qpiCto => 2
  | _ => 0

/-- MaxInc covers the event's own rule, and only an event of the plain environment is counted by rank. -/
def Event.coversRule (e : Event) : Bool := decide (e.kind.ownMost ≤ e.bound) && (e.kind == .env || !e.oneRank)

/-- A clock event's unit mask is not examined, and every counter of its kind of box may count it. -/
def Event.freeClock (k : Kind) (e : Event) : Bool :=
  e.kind != .clock || (e.rows == [row .any] && (List.finRange k.ctrs).all (fun c => e.ctrs.getLsbD (k.unit c).val))

/-- Both facts of the event an instruction names, if it names one. -/
def View.eventChecks (v : View) : Bool :=
  match v with
  | .event k e _ _ => e.coversRule && e.freeClock k
  | .msr _ _ _ | .cfg _ _ _ => true

/-- Every row of the opcode table passes both checks. -/
theorem eventChecks_view (i : Instr) : i.view.eventChecks = true := by
  cases i <;> rfl

theorem coversRule_of_view {i : Instr} {k : Kind} {e : Event} {base : BitVec 8} {o : EvOp k}
    (h : i.view = .event k e base o) : e.kind.ownMost ≤ e.bound ∧ (e.kind ≠ .env → e.bound = e.maxInc) := by
  have hc := eventChecks_view i
  simp only [h, View.eventChecks, Event.coversRule, Bool.and_eq_true, decide_eq_true_eq] at hc
  obtain ⟨⟨hown, hrank⟩, -⟩ := hc
  refine ⟨hown, fun hk => ?_⟩
  have : e.oneRank = false := by simpa [hk] using hrank
  simp [Event.bound, this]

theorem freeClock_of_view {i : Instr} {k : Kind} {e : Event} {base : BitVec 8} {o : EvOp k}
    (h : i.view = .event k e base o) (hk : e.kind = .clock) :
    e.rows = [row .any] ∧ ∀ c : Fin k.ctrs, e.ctrs.getLsbD (k.unit c).val = true := by
  have hc := eventChecks_view i
  simp only [h, View.eventChecks, Bool.and_eq_true] at hc
  simpa [Event.freeClock, hk] using hc.2

/-! ### Bounds -/

theorem count_le_maxInc (e : Event) (pass : Occ → Bool) (l : List Occ) : e.count pass l ≤ e.maxInc := min_le_left _ _

theorem rawCbo_le_maxInc (n : Fin 18) (e : Event) (u : BitVec 8) (t : Bool) (s : State) : (rawCbo n e u t s).1 ≤ e.maxInc := by
  unfold rawCbo
  split
  · exact s.draw_fst_le _
  · exact count_le_maxInc _ _ _

theorem rawLookup_le_maxInc (n : Fin 18) (e : Event) (u : BitVec 8) (t : Bool) (s : State) : rawLookup n e u t s ≤ e.maxInc := by
  simp only [rawLookup]
  split
  · exact Nat.zero_le _
  · exact count_le_maxInc _ _ _

/-- Counter 0's occupancy event counts at most 20, and so does the draw without one (41_cbo.md R273). -/
theorem rawCounter0_le (n : Fin 18) (s : State) : (rawCounter0 n s).1 ≤ 20 := by
  simp only [rawCounter0]
  split
  · next e he =>
    have most : ∀ e ∈ occupancyEvents, e.maxInc ≤ 20 := by decide
    exact le_trans (rawCbo_le_maxInc _ _ _ _ _) (most e (List.mem_of_find?_eq_some he))
  · exact s.draw_fst_le _

theorem rawBand_le (k : Fin 4) (s : State) : (rawBand k s).1 ≤ 1 := by
  unfold rawBand
  split
  · exact Nat.zero_le _
  · split
    · exact s.draw_fst_le _
    · dsimp only
      split <;> omega

theorem rawSlot_le (p : Fin 3) (second : Bool) (s : State) : rawSlot p second s ≤ 1 := by
  unfold rawSlot
  split
  · exact Nat.zero_le _
  · split <;> omega

theorem rawCto_le (p : Fin 3) (s : State) : rawCto p s ≤ 2 :=
  Nat.add_le_add (rawSlot_le p false s) (rawSlot_le p true s)

theorem increment_le_bound (e : Event) (g : List (BitVec 8) → Nat) (u : BitVec 8) : e.increment g u ≤ e.bound :=
  (increment_spec e g).2.1 u

/-- A listed unit mask value adds at most the event's bound, where that bound covers the event's own rule. -/
theorem rawListed_le_bound {e : Event} (hown : e.kind.ownMost ≤ e.bound) (hmax : e.kind ≠ .env → e.bound = e.maxInc)
    (b : BoxId) (i : Fin 4) (u : BitVec 8) (t : Bool) (s : State) : (rawListed b i e u t s).1 ≤ e.bound := by
  have cut : ∀ {a : Nat} {k : EvKind}, e.kind = k → k ≠ .env → a ≤ e.maxInc → a ≤ e.bound :=
    fun hk hne ha => hmax (hk ▸ hne) ▸ ha
  have own : ∀ {a : Nat} {k : EvKind}, e.kind = k → a ≤ k.ownMost → a ≤ e.bound := fun hk ha => le_trans (hk ▸ ha) hown
  simp only [rawListed]
  split
  · next hk => exact own (k := .clock) hk le_rfl
  · next hk => exact cut (k := .cbo) hk nofun (rawCbo_le_maxInc _ _ _ _ _)
  · next hk => exact cut (k := .llcLookup) hk nofun (rawLookup_le_maxInc _ _ _ _ _)
  · next hk => exact own (k := .counter0Occupancy) hk (rawCounter0_le _ _)
  · next hk => exact cut (k := .haMatch) hk nofun (count_le_maxInc _ _ _)
  · next hk => exact cut (k := .irpTransactions) hk nofun (count_le_maxInc _ _ _)
  · next hk => exact cut (k := .irpSnoopResp) hk nofun (count_le_maxInc _ _ _)
  · next hk => exact cut (k := .irpCache) hk nofun (count_le_maxInc _ _ _)
  · next band hk => exact own (k := .freqBand band) hk (rawBand_le _ _)
  · dsimp only
    split
    · exact increment_le_bound _ _ _
    · exact Nat.zero_le _
  · next hk => exact own (k := .qpiCto) hk (rawCto_le _ _)
  · exact increment_le_bound _ _ _

/-- Settles O17: a listed value is under its event's bound by the event's kind, any other is a draw up to RAW_BOUND. -/
theorem rawIncrementBounds : Obligations.RawIncrementBounds := by
  refine ⟨fun i k e base o s hv => ?_, bound_le_maxInc, fun c j u t s => ?_⟩
  · obtain ⟨hown, hmax⟩ := coversRule_of_view hv
    unfold EvOp.raw rawIncrement
    split
    · exact rawListed_le_bound hown hmax _ _ _ _ _
    · exact rawUnlisted_le _ _ _ _
  · exact increment_le_bound evImcPowerCkeCycles _ u

/-! ### Clock events -/

theorem rawListed_clock {e : Event} (hk : e.kind = .clock) (b : BoxId) (i : Fin 4) (u : BitVec 8) (t : Bool) (s : State) :
    rawListed b i e u t s = (1, s) := by
  simp [rawListed, hk]

/-- A clock event's raw increment is 1 under every unit mask, on every counter. -/
theorem raw_clock {i : Instr} {k : Kind} {e : Event} {base : BitVec 8} {o : EvOp k} (h : i.view = .event k e base o)
    (hk : e.kind = .clock) (s : State) : o.raw e base s = (1, s) := by
  obtain ⟨hrows, hctrs⟩ := freeClock_of_view h hk
  have hlisted : e.listed (base ||| o.ctl.extra) = true := by simp [Event.listed, hrows, row, Sel.isBits, Sel.selected]
  have hallows : e.allows s.cfg o.unit = true := by simpa [Event.allows, hk, EvOp.unit] using hctrs o.ctr
  simp [EvOp.raw, rawIncrement, hlisted, hallows, rawListed_clock hk]

/-- With thresh = 0 the stages add a raw increment of 1 as it is; a CBo's spread starts above 1 (41_cbo.md R272). -/
theorem addend_one {c : CtlOps} (hc : c.thresh = 0) (b : BoxId) (i : Fin 4) (code : BitVec 8) (s : State) :
    addend b i code c 1 s = (1, s) := by
  simp [addend, stageThresh, hc, spread]

/-- Settles O18: the raw increment of a clock event is 1, and a counter without a threshold adds it. -/
theorem clockEventCountsEveryCycle : Obligations.ClockEventCountsEveryCycle := by
  intro i k e base o s hv hk hcount hthresh
  refine ⟨_, exec_event hv s, ?_⟩
  rw [countStep_counting hcount, raw_clock hv hk, addend_one hthresh]
  exact (Latched.of_onlyDraws (.refl s)).addTo_adds o.ctl.ovEn 1

end Sys2Proof.Machine
end

section
/-! The unit mask laws of an event whose rows are all bit rows, and the ORs of the R2PCIe's ring events. -/

namespace Sys2Proof.Machine

/-- Every row of the event is a bit row that lists some bit. -/
def Event.BitRows (e : Event) : Prop := ∀ r ∈ e.rows, ∃ m, m ≠ 0 ∧ r.sel = .bits m

/-- Every bit that a row lists is a row of its own. -/
def Event.SingleBits (e : Event) : Prop :=
  ∀ r ∈ e.rows, ∀ m, r.sel = .bits m → ∀ n < 8, m.getLsbD n = true → ∃ q ∈ e.rows, q.sel = .bits (BitVec.ofNat 8 (2 ^ n))

theorem rawListed_env {e : Event} (hk : e.kind = .env) (b : BoxId) (j : Fin 4) (u : BitVec 8) (t : Bool) (s : State) :
    (rawListed b j e u t s).1 = e.increment (Config.inc b (counterSet b j) e.code9 s.time) u := by
  simp [rawListed, hk]

section
variable {e : Event} (he : e.BitRows)
include he

/-- No row of such an event is exact, so none stands alone. -/
theorem Event.BitRows.alone_eq (u : BitVec 8) : e.alone u = none := by
  refine List.find?_eq_none.mpr fun r hr => ?_
  obtain ⟨m, -, hm⟩ := he r hr
  simp [hm, Sel.isExact]

/-- A unit mask selects the bit rows whose bits it has, but for those that smaller rows make up. -/
theorem Event.BitRows.mem_selection {u x : BitVec 8} :
    x ∈ e.selection u ↔ ∃ r ∈ e.rows, r.sel = .bits x ∧ u &&& x = x ∧ e.composite r = false := by
  simp only [Event.selection, he.alone_eq, List.mem_map, List.mem_filter, Bool.and_eq_true, Bool.not_eq_true']
  constructor
  · rintro ⟨r, ⟨hr, hsel, hc⟩, rfl⟩
    obtain ⟨m, -, hm⟩ := he r hr
    exact ⟨r, hr, by simp [hm, Sel.base], by simpa [Event.selects, hm, Sel.selected, Sel.base] using hsel, hc⟩
  · rintro ⟨r, hr, hx, hu, hc⟩
    exact ⟨r, ⟨hr, by simp [Event.selects, hx, Sel.selected, Sel.base, hu], hc⟩, by simp [hx, Sel.base]⟩

theorem Event.BitRows.selection_zero : e.selection 0 = [] := by
  refine List.eq_nil_iff_forall_not_mem.mpr fun x hx => ?_
  obtain ⟨r, hr, hsel, h0, -⟩ := he.mem_selection.mp hx
  obtain ⟨m, hm, hm'⟩ := he r hr
  obtain rfl : m = x := by simpa [hm'] using hsel
  exact hm (by simpa using h0.symm)

theorem Event.BitRows.selection_mono {u v : BitVec 8} (h : u &&& v = u) : e.selection u ⊆ e.selection v := by
  intro x hx
  obtain ⟨r, hr, hsel, hu, hc⟩ := he.mem_selection.mp hx
  have hv : v &&& x = x :=
    calc v &&& x = v &&& (u &&& x) := by rw [hu]
      _ = u &&& v &&& x := by rw [← BitVec.and_assoc, BitVec.and_comm v u]
      _ = x := by rw [h, hu]
  exact he.mem_selection.mpr ⟨r, hr, hsel, hv, hc⟩

end

theorem getLsbD_foldl_or_base (l : List Row) (acc : BitVec 8) (n : Nat) :
    (l.foldl (fun a q => a ||| q.sel.base) acc).getLsbD n = (acc.getLsbD n || l.any (fun q => q.sel.base.getLsbD n)) := by
  induction l generalizing acc with
  | nil => simp
  | cons q l ih => simp [ih, Bool.or_assoc]

theorem getLsbD_bit (n k : Nat) (hn : n < 8) : (BitVec.ofNat 8 (2 ^ n)).getLsbD k = decide (n = k) := by
  rw [BitVec.getLsbD_ofNat, Nat.testBit_two_pow]
  by_cases h : n = k <;> simp_all

theorem and_bit_eq_iff (x : BitVec 8) {n : Nat} (hn : n < 8) :
    x &&& BitVec.ofNat 8 (2 ^ n) = BitVec.ofNat 8 (2 ^ n) ↔ x.getLsbD n = true := by
  constructor
  · intro h
    have hb := congrArg (BitVec.getLsbD · n) h
    simpa only [BitVec.getLsbD_and, getLsbD_bit n n hn, decide_true, Bool.and_true] using hb
  · intro h
    refine BitVec.eq_of_getLsbD_eq fun k hk => ?_
    rw [BitVec.getLsbD_and, getLsbD_bit n k hn]
    by_cases hnk : n = k
    · simp [← hnk, h]
    · simp [hnk]

/-- A row of several bits that are rows of their own is those rows together. -/
theorem Event.BitRows.composite_of_not_bit {e : Event} (he : e.BitRows) (hs : e.SingleBits) {r : Row} {m : BitVec 8}
    (hr : r ∈ e.rows) (hm : r.sel = .bits m) (hbit : ∀ n < 8, m ≠ BitVec.ofNat 8 (2 ^ n)) : e.composite r = true := by
  have hm0 : m ≠ 0 := by
    obtain ⟨m', h0, h'⟩ := he r hr
    obtain rfl : m' = m := by simpa [h'] using hm
    exact h0
  have hfold : (e.rows.filter (fun q => e.joins q && q.sel.base != m && q.sel.base &&& m == q.sel.base)).foldl
      (fun a q => a ||| q.sel.base) 0 = m := by
    refine BitVec.eq_of_getLsbD_eq fun n hn => ?_
    rw [getLsbD_foldl_or_base, Bool.eq_iff_iff]
    simp only [BitVec.ofNat_eq_ofNat, BitVec.getLsbD_zero, Bool.false_or, List.any_eq_true, List.mem_filter,
      Bool.and_eq_true, beq_iff_eq, bne_iff_ne]
    constructor
    · rintro ⟨q, ⟨-, -, hsub⟩, hq⟩
      rw [← hsub, BitVec.getLsbD_and, Bool.and_eq_true] at hq
      exact hq.2
    · intro hmn
      obtain ⟨q, hq, hqs⟩ := hs r hr m hm n hn hmn
      refine ⟨q, ⟨hq, ⟨by simp [Event.joins, hqs, Sel.isBits], ?_⟩, ?_⟩, ?_⟩
      · simpa [hqs, Sel.base] using (hbit n hn).symm
      · rw [hqs, BitVec.and_comm]
        exact (and_bit_eq_iff m hn).mpr hmn
      · simpa [hqs, Sel.base] using getLsbD_bit n n hn
  have hbase : r.sel.base = m := by rw [hm]; rfl
  have hjoins : e.joins r = true := by simp [Event.joins, hm, Sel.isBits]
  simp only [Event.composite, hbase, hfold, hjoins]
  simpa using hm0

/-- Two masks together select no row that neither selects. -/
theorem Event.BitRows.selection_or {e : Event} (he : e.BitRows) (hs : e.SingleBits) (u v : BitVec 8) :
    e.selection (u ||| v) ⊆ e.selection u ++ e.selection v := by
  intro x hx
  obtain ⟨r, hr, hsel, huv, hc⟩ := he.mem_selection.mp hx
  obtain ⟨n, hn, rfl⟩ : ∃ n < 8, x = BitVec.ofNat 8 (2 ^ n) := by
    by_contra hno
    have := he.composite_of_not_bit hs hr hsel fun n hn hx => hno ⟨n, hn, hx⟩
    simp [hc] at this
  have hbit : u.getLsbD n = true ∨ v.getLsbD n = true := by simpa using (and_bit_eq_iff _ hn).mp huv
  refine List.mem_append.mpr (hbit.imp (fun hu => ?_) fun hv => ?_)
  · exact he.mem_selection.mpr ⟨r, hr, hsel, (and_bit_eq_iff u hn).mpr hu, hc⟩
  · exact he.mem_selection.mpr ⟨r, hr, hsel, (and_bit_eq_iff v hn).mpr hv, hc⟩

/-! ### The R2PCIe's ring events -/

/-- Unit mask `w` selects the rows of `u` and of `v` together. -/
abbrev Event.Joint (e : Event) (u v w : BitVec 8) : Prop :=
  e.selection u ⊆ e.selection w ∧ e.selection v ⊆ e.selection w ∧ e.selection w ⊆ e.selection u ++ e.selection v

/-- Where MaxInc is 1, the rows of two masks together count their OR: no less than either, and no more than the sum. -/
theorem increment_joint {e : Event} (hb : e.bound ≤ 1) {u v w : BitVec 8} (h : e.Joint u v w) (g : List (BitVec 8) → Nat) :
    e.increment g w = max (e.increment g u) (e.increment g v) := by
  obtain ⟨hu, hv, hw⟩ := h
  obtain ⟨-, hbound, hmono, hsum⟩ := increment_spec e g
  have hlu := hmono u w hu
  have hlv := hmono v w hv
  have hle := hsum u v w hw
  have hw1 := hbound w
  omega

/-- The listed increment of an R2PCIe ring event is such an OR. -/
theorem rawListed_joint {e : Event} (hk : e.kind = .env) (hb : e.bound ≤ 1) {u v w : BitVec 8} (h : e.Joint u v w)
    (b : BoxId) (j : Fin 4) (t : Bool) (s : State) :
    (rawListed b j e w t s).1 = max (rawListed b j e u t s).1 (rawListed b j e v t s).1 := by
  simp only [rawListed_env hk, increment_joint hb h]

theorem ring_directions : ∀ e ∈ [evR2PCIeRingAdUsed, evR2PCIeRingAkUsed, evR2PCIeRingBlUsed],
    (e.kind = .env ∧ e.bound ≤ 1) ∧ e.Joint 0x01 0x02 0x03 ∧ e.Joint 0x04 0x08 0x0C := by
  decide

theorem ring_both_directions :
    ∀ e ∈ [evR2PCIeRingAdUsed, evR2PCIeRingAkUsed, evR2PCIeRingBlUsed, evR2PCIeRingIvUsed],
      (e.kind = .env ∧ e.bound ≤ 1) ∧ e.Joint 0x03 0x0C 0x0F := by
  decide

/-- Settles O19: the laws of the selected rows, and what the ring events' masks select. -/
theorem unitMaskLaws : Obligations.UnitMaskLaws := by
  refine ⟨fun b j e t s hk he => ?_, fun j t s => ⟨fun e hmem => ?_, fun e hmem => ?_⟩⟩
  · have he : e.BitRows := he
    obtain ⟨hzero, -, hmono, hsum⟩ := increment_spec e (Config.inc b (counterSet b j) e.code9 s.time)
    simp only [rawListed_env hk]
    exact ⟨fun u v huv => hmono u v (he.selection_mono huv),
      fun u v hs => hsum u v (u ||| v) (he.selection_or hs u v), hzero 0 he.selection_zero⟩
  · obtain ⟨⟨hk, hb⟩, hcw, hccw⟩ := ring_directions e hmem
    exact ⟨rawListed_joint hk hb hcw _ j t s, rawListed_joint hk hb hccw _ j t s⟩
  · obtain ⟨⟨hk, hb⟩, hboth⟩ := ring_both_directions e hmem
    exact rawListed_joint hk hb hboth _ j t s

end Sys2Proof.Machine
end

section
/-! Unsettled control registers, the double-write latch, and what the registers show. -/

namespace Sys2Proof.Machine

/-! ### An unsettled control register -/

theorem locallyEnabled_of {b : BoxId} {i : Fin 4} {en : Bool} {s : State} (hen : en = true)
    (hbox : b ≠ .ubox → (s.blk b).bfrz = false) (hq : (s.unit b i).qrst = false) : locallyEnabled b i en s = true := by
  have hfree : (b == .ubox || !(s.blk b).bfrz) = true := by
    by_cases hb : b = .ubox
    · simp [hb]
    · simp [hbox hb]
  simp [locallyEnabled, hen, hfree, hq]

/-- A counter whose control register has not taken hold counts a draw, and draws whether it reports an overflow. -/
theorem countStep_unsettled {b : BoxId} {i : Fin 4} {code : BitVec 8} {c : CtlOps} {raw : State → Nat × State} {s : State}
    (hl : locallyEnabled b i c.en s = true) (hg : s.freezeSeen b = some false) (hs : (s.unit b i).settled = false) :
    countStep b i code c raw s =
      addTo b i (s.draw s.cfg.rawBound).2.drawBool.1 (s.draw s.cfg.rawBound).1
        (forgetSample b i (s.draw s.cfg.rawBound).2.drawBool.2) := by
  simp [countStep, counting, hl, frozenGlobal, hg, countEnabled, hs]

/-- Settles O14: both the amount and the report are draws, added to a counter whose edge latches alone have moved. -/
theorem unsettledCounts : Obligations.UnsettledCounts := by
  intro i k e base o s hv hen hbox hglobal hsticky hsettled
  refine ⟨_, (s.draw s.cfg.rawBound).1, (s.draw s.cfg.rawBound).2.drawBool.1, exec_event hv s, s.draw_fst_le _, ?_⟩
  rw [countStep_unsettled (locallyEnabled_of hen hbox hsticky) hglobal hsettled]
  exact (forgetSample_latched ((OnlyDraws.draw _ _).trans (.drawBool _))).addTo_adds _ _

/-! ### The double-write latch (10_state.md R95) -/

theorem unit_breakPairs (b : BoxId) (x : Blk) (i : Fin 4) : (breakPairs b x).unit i = (x.unit i).pairBroken b := by
  unfold breakPairs CtrUnit.pairBroken
  split <;> simp

@[simp] theorem CtrUnit.storeCtl_dw (b : BoxId) (w : Word) (u : CtrUnit) : (u.storeCtl b w).dw = u.dw := rfl

@[simp] theorem CtrUnit.storeCtl_settled (b : BoxId) (w : Word) (u : CtrUnit) : (u.storeCtl b w).settled = u.settled := rfl

theorem unit_writeCtl_self (b : BoxId) (i : Fin 4) (w : Word) (s : State) :
    (writeCtl b i w s).unit b i = ((s.unit b i).latchWrite b w).storeCtl b w := by
  simp [writeCtl, State.unit]

theorem unit_writeCtl_ne (b : BoxId) {i j : Fin 4} (h : j ≠ i) (w : Word) (s : State) :
    (writeCtl b i w s).unit b j = (s.unit b j).pairBroken b := by
  simp [writeCtl, State.unit, h, unit_breakPairs]

section
variable {b : BoxId} (hb : b.doubleWrite = true)
include hb

theorem CtrUnit.latchWrite_dw (w : Word) (u : CtrUnit) : (u.latchWrite b w).dw = some w := by
  simp [CtrUnit.latchWrite, hb]

theorem CtrUnit.latchWrite_settled_none (w : Word) {u : CtrUnit} (h : u.dw = none) :
    (u.latchWrite b w).settled = false := by
  simp [CtrUnit.latchWrite, hb, h]

theorem CtrUnit.latchWrite_settled_some (w : Word) {u : CtrUnit} {old : Word} (h : u.dw = some old) :
    (u.latchWrite b w).settled = ((old ^^^ w) &&& 0xFFBFFFFF == 0) := by
  simp [CtrUnit.latchWrite, hb, h]

theorem CtrUnit.pairBroken_dw (u : CtrUnit) : (u.pairBroken b).dw = none := by
  simp [CtrUnit.pairBroken, hb]

theorem breakPairs_dw (x : Blk) (i : Fin 4) : ((breakPairs b x).unit i).dw = none := by
  rw [unit_breakPairs, CtrUnit.pairBroken_dw hb]

/-- A write of a counter keeps every control register's latch as the break leaves it. -/
theorem writeCtr_dw (m j : Fin 4) (v : Quad) (s : State) : ((writeCtr b m v s).unit b j).dw = none := by
  by_cases h : j = m
  · subst h
    simp [writeCtr, breakPairs_dw hb]
  · simp [writeCtr, h, breakPairs_dw hb]

theorem writeBoxStatus_dw (j : Fin 4) (w : Word) (s : State) : ((writeBoxStatus b w s).unit b j).dw = none := by
  simp [writeBoxStatus, breakPairs_dw hb]

theorem writeBoxCtl_dw (j : Fin 4) (w : Word) (s : State) : ((writeBoxCtl b w s).unit b j).dw = none := by
  simp only [writeBoxCtl, State.unit_setBlk_self, Blk.unit_with_bfrz]
  split <;> split <;> simp [CtrUnit.clearCtl, breakPairs_dw hb]

theorem writeCtl_dw_ne {i j : Fin 4} (h : j ≠ i) (w : Word) (s : State) : ((writeCtl b i w s).unit b j).dw = none := by
  rw [unit_writeCtl_ne b h, CtrUnit.pairBroken_dw hb]

/-- A write to another register of the box breaks the row of writes to a control register. -/
theorem storeReg_dw {j : Fin 4} {r : Reg} (hne : r ≠ .ctl b j)
    (hr : r = .boxCtl b ∨ r = .boxStatus b ∨ ∃ m, r = .ctr b m ∨ r = .ctl b m) (v : Quad) (s : State) :
    ((storeReg r v s).unit b j).dw = none := by
  obtain rfl | rfl | ⟨m, rfl | rfl⟩ := hr
  · exact writeBoxCtl_dw hb j _ s
  · exact writeBoxStatus_dw hb j _ s
  · exact writeCtr_dw hb m j v s
  · exact writeCtl_dw_ne hb (fun h => hne (congrArg _ h.symm)) _ s

end

/-- Two values that agree in their low dword but for bit 22 are the same for the double write. -/
theorem masked_xor_eq_zero {v₁ v₂ : Quad} (h : ∀ n < 32, n ≠ 22 → v₁.getLsbD n = v₂.getLsbD n) :
    (v₁.extractLsb' 0 32 ^^^ v₂.extractLsb' 0 32) &&& 0xFFBFFFFF = 0 := by
  have hbit : (0xFFBFFFFF : Word).getLsbD 22 = false := by decide
  refine BitVec.eq_of_getLsbD_eq fun n hn => ?_
  by_cases h22 : n = 22
  · subst h22
    rw [BitVec.getLsbD_and, hbit]
    simp
  · simp [hn, h n hn h22]

/-- What an instruction that writes a register and has a next state did. -/
theorem eq_storeReg_of_exec {i : Instr} {r : Reg} {v : Quad} {s t : State} (h : WritesReg i r v s)
    (hx : exec i s = .next t) : t = storeReg r v s := by
  rw [exec_writesReg h] at hx
  exact (writeReg_next hx).2

/-- Settles O43: the first write leaves its value in DW, the second compares with it, any other write empties it. -/
theorem doubleWriteDiscipline : Obligations.DoubleWriteDiscipline := by
  intro i₁ i₂ b j v₁ v₂ s t u hb hw₁ hx₁
  obtain rfl := eq_storeReg_of_exec hw₁ hx₁
  have hfirst := unit_writeCtl_self b j (v₁.extractLsb' 0 32) s
  refine ⟨fun hnone => ?_, fun hw₂ hx₂ hsame => ?_, fun ⟨r, hw₂, hne, hr⟩ hx₂ => ?_⟩
  · simp [storeReg, hfirst, CtrUnit.latchWrite_settled_none hb _ hnone]
  · obtain rfl := eq_storeReg_of_exec hw₂ hx₂
    have hdw : ((writeCtl b j (v₁.extractLsb' 0 32) s).unit b j).dw = some (v₁.extractLsb' 0 32) := by
      rw [hfirst, CtrUnit.storeCtl_dw, CtrUnit.latchWrite_dw hb]
    simp only [storeReg]
    rw [unit_writeCtl_self, CtrUnit.storeCtl_settled, CtrUnit.latchWrite_settled_some hb _ hdw, masked_xor_eq_zero hsame]
    rfl
  · obtain rfl := eq_storeReg_of_exec hw₂ hx₂
    exact storeReg_dw hb hne hr v₂ _

/-! ### Reads (10_state.md R92 to R98) -/

/-- Two blocks show the same registers: they differ in their hidden latches alone. -/
structure Blk.SameRegs (x y : Blk) : Prop where
  ctl : ∀ i, (x.unit i).ctl = (y.unit i).ctl
  ctr : ∀ i, (x.unit i).ctr = (y.unit i).ctr
  ov : x.ov = y.ov
  fixCtl : x.fixCtl = y.fixCtl
  fixCtr : x.fixCtr = y.fixCtr

theorem Blk.SameRegs.refl (x : Blk) : x.SameRegs x := ⟨fun _ => rfl, fun _ => rfl, rfl, rfl, rfl⟩

/-- Any samples, DW, settled and QRST of a counter, any box freeze and any copy of the global freeze show the same. -/
theorem Blk.sameRegs_hidden {x : Blk} {j : Fin 4} {u : CtrUnit} (f : Bool) (gs : Option Bool)
    (hctl : u.ctl = (x.unit j).ctl) (hctr : u.ctr = (x.unit j).ctr) :
    Blk.SameRegs { x.setUnit j u with bfrz := f, gseen := gs } x := by
  have hunit : ∀ i, ({ x.setUnit j u with bfrz := f, gseen := gs } : Blk).unit i = (x.setUnit j u).unit i := by
    intro i
    fin_cases i <;> rfl
  refine ⟨fun i => ?_, fun i => ?_, Blk.setUnit_ov x j u, Blk.setUnit_fixCtl x j u, Blk.setUnit_fixCtr x j u⟩
  · rw [hunit]
    by_cases hi : i = j
    · simpa [hi] using hctl
    · simp [hi]
  · rw [hunit]
    by_cases hi : i = j
    · simpa [hi] using hctr
    · simp [hi]

theorem sameRegs_setBlk {s : State} {b : BoxId} {x : Blk} (h : x.SameRegs (s.blk b)) (c : BoxId) :
    ((s.setBlk b x).blk c).SameRegs (s.blk c) := by
  by_cases hc : c = b
  · subst hc
    simpa using h
  · simpa [hc] using Blk.SameRegs.refl (s.blk c)

/-- A register of a block reads what the block shows; no other register reads the block. -/
theorem readReg_setBlk (r : Reg) {s : State} {b : BoxId} {x : Blk} (h : x.SameRegs (s.blk b)) :
    readReg r (s.setBlk b x) = readReg r s := by
  have hsame := sameRegs_setBlk h
  cases r
  case ctl c i => simp only [readReg, State.unit, (hsame c).ctl]
  case ctr c i => simp only [readReg, State.unit, (hsame c).ctr]
  case boxStatus c => simp only [readReg, (hsame c).ov]
  case fixedCtl c => simp only [readReg, (hsame c).fixCtl]
  case fixedCtr c => simp only [readReg, (hsame c).fixCtr]
  case pcuFree c => cases c <;> simp [readReg, State.pcuFree]
  all_goals simp [readReg]

theorem blk_with_latches (s : State) (g : Option Bool) (bands : Vector (Option (BitVec 8)) 4) (messages : List Quad)
    (b : BoxId) : ({ s with gfrz := g, effband := bands, pend := messages } : State).blk b = s.blk b := by
  cases b <;> rfl

/-- No read depends on GFRZ, EFFBAND or PEND. -/
theorem readReg_with_latches (r : Reg) (s : State) (g : Option Bool) (bands : Vector (Option (BitVec 8)) 4)
    (messages : List Quad) :
    readReg r { s with gfrz := g, effband := bands, pend := messages } = readReg r s := by
  cases r
  case pcuFree c => cases c <;> rfl
  all_goals simp only [readReg, State.unit, blk_with_latches]

/-- Settles O31: the latches of the socket are read by no register, and the block's hidden latches show nothing. -/
theorem readsHideLatches : Obligations.ReadsHideLatches := by
  intro r b j s u g gs f bands messages hctl hctr
  rw [readReg_with_latches]
  exact readReg_setBlk r (Blk.sameRegs_hidden f gs hctl hctr)

end Sys2Proof.Machine
end

section
/-! The freeze latch GFRZ and the boxes' copies of it: what changes them, and that a copy of 1 stops the box. -/

namespace Sys2Proof.Machine

/-! ### The register an instruction accesses -/

/-- The register a row accesses, if it is a register row. -/
def View.reg (v : View) : Option Reg :=
  match v with
  | .msr _ r _ | .cfg _ r _ => some r
  | .event _ _ _ _ => none

/-- One row of the opcode table accesses U_MSR_PMON_GLOBAL_CTL. -/
theorem eq_of_view_globalCtl {i : Instr} (h : i.view.reg = some .globalCtl) : ∃ a, i = .uMsrPmonGlobalCtl a := by
  cases i
  case uMsrPmonGlobalCtl a => exact ⟨a, rfl⟩
  all_goals cases h

theorem WritesReg.view_reg {i : Instr} {r : Reg} {v : Quad} {s : State} (h : WritesReg i r v s) :
    i.view.reg = some r := by
  obtain ⟨-, ⟨_, hv⟩ | ⟨_, _, _, hv, -⟩⟩ := h <;> rw [hv] <;> rfl

theorem WritesReg.eq_globalCtl {i : Instr} {v : Quad} {s : State} (h : WritesReg i .globalCtl v s) :
    i = .uMsrPmonGlobalCtl (.write v) := by
  obtain ⟨a, rfl⟩ := eq_of_view_globalCtl h.view_reg
  obtain ⟨-, ⟨_, hv⟩ | ⟨_, _, _, hv, -⟩⟩ := h <;> cases hv
  rfl

/-! ### The freeze latch (10_state.md R92) -/

theorem CountFrame.gfrz_eq {b : BoxId} {j : Fin 4} {s t : State} (h : CountFrame b j s t) : t.gfrz = s.gfrz := by
  obtain ⟨_, _, _, _, _, _, rfl, -⟩ := h
  simp

/-- Taking a turn from the agenda, or drawing it, changes nothing else. -/
theorem nextTurn_snd (s : State) : ∃ turns n, (nextTurn s).2 = (s.setAgenda turns).setDraws n := by
  unfold nextTurn
  split
  · next turn rest _ => exact ⟨rest, s.draws, rfl⟩
  · exact ⟨s.agenda, s.draws + 1, rfl⟩

theorem nextTurn_gfrz (s : State) : (nextTurn s).2.gfrz = s.gfrz := by
  obtain ⟨turns, n, h⟩ := nextTurn_snd s
  simp [h]

theorem nextTurn_blk (s : State) (b : BoxId) : (nextTurn s).2.blk b = s.blk b := by
  obtain ⟨turns, n, h⟩ := nextTurn_snd s
  simp [h]

theorem startCycle_gfrz (b : BoxId) (s : State) : (startCycle b s).gfrz = s.gfrz := by
  unfold startCycle
  split <;> simp

theorem finishCycle_gfrz (b : BoxId) (s : State) : (finishCycle b s).gfrz = s.gfrz := by
  obtain ⟨-, hg, -⟩ := otherCounters_same b s
  simp [finishCycle, hg]

/-- Of the registers only U_MSR_PMON_GLOBAL_CTL writes the freeze latch. -/
theorem storeReg_gfrz {r : Reg} (h : r ≠ .globalCtl) (v : Quad) (s : State) : (storeReg r v s).gfrz = s.gfrz := by
  cases r
  case globalCtl => exact absurd rfl h
  case pcuFilter =>
    obtain ⟨e, n, -, hw⟩ := writePcuFilter_spec (v.extractLsb' 0 32) s
    simp [storeReg, hw]
  all_goals simp [storeReg, writeFixedCtl, writeFixedCtr, writeCtl, writeCtr, writeBoxCtl, writeBoxStatus]

theorem exec_gfrz {i : Instr} {s t : State} (h : exec i s = .next t) :
    t.gfrz = s.gfrz ∨ ∃ v, i = .uMsrPmonGlobalCtl (.write v) := by
  obtain ⟨k, e, base, o, -, rfl⟩ | ⟨v, rfl⟩ | ⟨r, v, hw, -, rfl⟩ := exec_next h
  · exact .inl (countStep_frame _ _ _ _ _ _ fun _ => rawIncrement_onlyDraws _ _ _ _ _ _).gfrz_eq
  · exact .inl rfl
  · by_cases hr : r = .globalCtl
    · subst hr
      exact .inr ⟨v, hw.eq_globalCtl⟩
    · exact .inl (storeReg_gfrz hr v s)

theorem platformTurn_gfrz (turn : Turn) (s : State) :
    (platformTurn turn s).gfrz = s.gfrz ∨ (∃ k, turn = .deliver k) ∨ turn = .reset := by
  cases turn with
  | host cmd => exact .inl rfl
  | clock b => exact .inl (startCycle_gfrz b s)
  | deliver k => exact .inr (.inl ⟨k, rfl⟩)
  | frequency => exact .inl rfl
  | seen b => exact .inl (State.setBlk_gfrz _ _ _)
  | reset => exact .inr (.inr rfl)

/-- What a step that changes the freeze latch is. -/
theorem step_changes_gfrz {s t : State} (h : step s = .next t) (hne : t.gfrz ≠ s.gfrz) :
    s.run = none ∧ ((∃ k, (nextTurn s).1 = .deliver k) ∨ (nextTurn s).1 = .reset ∨
      ∃ cmd v, (nextTurn s).1 = .host cmd ∧ decode (.host s.cfg.irpAlt) cmd = .ok (.uMsrPmonGlobalCtl (.write v))) := by
  obtain ⟨r, hr, code, c, raw, -, hraw, rfl⟩ | ⟨r, -, -, rfl⟩ | ⟨cmd, hrun, hturn, (rfl | ⟨v, rfl⟩) | ⟨i, hd, hx⟩⟩ |
    ⟨hrun, -, rfl⟩ := step_cases h
  · exact absurd (countStep_frame _ _ _ _ _ _ hraw).gfrz_eq hne
  · exact absurd (finishCycle_gfrz r.box s) hne
  · exact absurd (nextTurn_gfrz s) hne
  · exact absurd (nextTurn_gfrz s) hne
  · rcases exec_gfrz hx with hg | ⟨v, rfl⟩
    · exact absurd (hg.trans (nextTurn_gfrz s)) hne
    · exact ⟨hrun, .inr (.inr ⟨cmd, v, hturn, hd⟩)⟩
  · rcases platformTurn_gfrz (nextTurn s).1 (nextTurn s).2 with hg | hdel | hres
    · exact absurd (hg.trans (nextTurn_gfrz s)) hne
    · exact ⟨hrun, .inl hdel⟩
    · exact ⟨hrun, .inr (.inl hres)⟩

/-! ### The boxes' copies of it (20_memory.md R116) -/

/-- Every box's copy of the global freeze is the same in both states. -/
def SameCopies (s t : State) : Prop := ∀ b, (t.blk b).gseen = (s.blk b).gseen

theorem SameCopies.trans {s t u : State} (h : SameCopies s t) (g : SameCopies t u) : SameCopies s u :=
  fun b => (g b).trans (h b)

theorem SameCopies.nextTurn (s : State) : SameCopies s (nextTurn s).2 := fun b => congrArg _ (nextTurn_blk s b)

theorem SameCopies.setBlk {s : State} {b : BoxId} {x : Blk} (h : x.gseen = (s.blk b).gseen) :
    SameCopies s (s.setBlk b x) := by
  intro c
  by_cases hc : c = b
  · subst hc
    simpa using h
  · simp [hc]

theorem SameCopies.countFrame {b : BoxId} {j : Fin 4} {s t : State} (h : CountFrame b j s t) : SameCopies s t := by
  obtain ⟨_, _, _, _, _, _, rfl, -⟩ := h
  intro c
  simpa using SameCopies.setBlk (by simp) c

theorem breakPairs_gseen (b : BoxId) (x : Blk) : (breakPairs b x).gseen = x.gseen := by
  unfold breakPairs
  split <;> simp

theorem SameCopies.storeReg (r : Reg) (v : Quad) (s : State) : SameCopies s (storeReg r v s) := by
  cases r
  case ctl b i => exact .setBlk (by simp [breakPairs_gseen])
  case ctr b i => exact .setBlk (by simp [breakPairs_gseen])
  case boxStatus b => exact .setBlk (breakPairs_gseen _ _)
  case fixedCtl b => exact .setBlk rfl
  case fixedCtr b => exact .setBlk rfl
  case boxCtl b =>
    refine .setBlk ?_
    dsimp only
    split <;> split <;> simp [breakPairs_gseen]
  all_goals
    intro b
    rw [storeReg_blk_ne _ _ _ _ (by simp)]

/-- The counters of a box beside the generic ones change its fixed counter and its status at most. -/
theorem otherCounters_blk (b : BoxId) (s : State) :
    ∃ ctr ov, (otherCounters b s).blk b = { s.blk b with fixCtr := ctr, ov := ov } := by
  have hd := frozenGlobal_onlyDraws b s
  cases b
  case ubox =>
    simp only [otherCounters, fixedStepU]
    split
    · split
      · exact ⟨_, _, hd.blk_eq _⟩
      · split
        · rw [sendMessage_of_ne (by decide), State.blk_setPend]
          exact ⟨_, _, State.blk_setBlk_self _ _ _⟩
        · exact ⟨_, _, State.blk_setBlk_self _ _ _⟩
    · exact ⟨_, _, rfl⟩
  case imc n =>
    simp only [otherCounters, fixedStepMc]
    split
    · split
      · exact ⟨_, _, hd.blk_eq _⟩
      · split
        · obtain ⟨sent, d, h, -⟩ := reportOverflow_spec (.imc n) 0 ((s.blk (.imc n)).fixCtl.getLsbD 20)
            ((frozenGlobal (.imc n) s).2.setBlk (.imc n) { s.blk (.imc n) with fixCtr := (s.blk (.imc n)).fixCtr + 1 })
          rw [h, State.blk_setDraws, State.blk_setPend, State.blk_setBlk_self, State.blk_setBlk_self]
          exact ⟨_, _, rfl⟩
        · exact ⟨_, _, State.blk_setBlk_self _ _ _⟩
    · exact ⟨_, _, rfl⟩
  all_goals exact ⟨_, _, rfl⟩

theorem SameCopies.finishCycle (b : BoxId) (s : State) : SameCopies s (finishCycle b s) := by
  intro c
  obtain ⟨-, -, -, -, -, -, hother, -⟩ := otherCounters_same b s
  by_cases hc : c = b
  · subst hc
    obtain ⟨ctr, ov, h⟩ := otherCounters_blk c s
    simp [Machine.finishCycle, h]
  · simp [Machine.finishCycle, hother c hc]

theorem SameCopies.startCycle (b : BoxId) (s : State) : SameCopies s (startCycle b s) := by
  unfold Machine.startCycle
  split
  · intro c
    simpa using SameCopies.setBlk (by split <;> simp) c
  · exact fun _ => rfl

theorem SameCopies.exec {i : Instr} {s t : State} (h : exec i s = .next t) : SameCopies s t := by
  obtain ⟨k, e, base, o, -, rfl⟩ | ⟨v, rfl⟩ | ⟨r, v, -, -, rfl⟩ := exec_next h
  · exact .countFrame (countStep_frame _ _ _ _ _ _ fun _ => rawIncrement_onlyDraws _ _ _ _ _ _)
  · exact fun b => by simp
  · exact .storeReg r v s

theorem SameCopies.deliver (k : Nat) (s : State) : SameCopies s (deliver k s) := by
  intro b
  rcases deliver_spec k s with ⟨-, h⟩ | ⟨bits, out, n, -, -, h⟩
  · rw [h]
  · rw [h]
    cases b <;> rfl

theorem platformTurn_gseen (turn : Turn) (s : State) (b : BoxId) :
    ((platformTurn turn s).blk b).gseen = (s.blk b).gseen ∨ turn = .seen b ∨ turn = .reset := by
  cases turn with
  | host cmd => exact .inl rfl
  | clock c => exact .inl (SameCopies.startCycle c s b)
  | deliver k => exact .inl (SameCopies.deliver k s b)
  | frequency => exact .inl (congrArg _ (State.blk_with_effband s _ b))
  | seen c =>
    by_cases hc : b = c
    · exact .inr (.inl (hc ▸ rfl))
    · exact .inl (congrArg _ (State.blk_setBlk_ne s c b _ hc))
  | reset => exact .inr (.inr rfl)

/-- What a step that changes a box's copy of the global freeze is. -/
theorem step_changes_gseen {s t : State} {b : BoxId} (h : step s = .next t) (hne : (t.blk b).gseen ≠ (s.blk b).gseen) :
    s.run = none ∧ ((nextTurn s).1 = .seen b ∨ (nextTurn s).1 = .reset) := by
  obtain ⟨r, hr, code, c, raw, -, hraw, rfl⟩ | ⟨r, -, -, rfl⟩ | ⟨cmd, -, -, (rfl | ⟨v, rfl⟩) | ⟨i, -, hx⟩⟩ |
    ⟨hrun, -, rfl⟩ := step_cases h
  · exact absurd (SameCopies.countFrame (countStep_frame _ _ _ _ _ _ hraw) b) (by simpa [advance] using hne)
  · exact absurd (SameCopies.finishCycle r.box s b) hne
  · exact absurd (SameCopies.nextTurn s b) hne
  · exact absurd (SameCopies.nextTurn s b) (by simpa using hne)
  · exact absurd ((SameCopies.nextTurn s).trans (.exec hx) b) hne
  · exact ⟨hrun, (platformTurn_gseen _ _ b).resolve_left fun hs => hne (hs.trans (SameCopies.nextTurn s b))⟩

/-! ### A box whose copy is 1 (20_memory.md R116) -/

/-- Losing the edge detector's sample leaves what the box counts and reports. -/
theorem forgetSample_same (b : BoxId) (i : Fin 4) (s : State) :
    (forgetSample b i s).pend = s.pend ∧ ((forgetSample b i s).blk b).ov = (s.blk b).ov ∧
      ((forgetSample b i s).blk b).fixCtr = (s.blk b).fixCtr ∧
      ∀ j, ((forgetSample b i s).unit b j).ctr = (s.unit b j).ctr := by
  refine ⟨by simp [forgetSample], by simp [forgetSample, State.setUnit], by simp [forgetSample, State.setUnit],
    fun j => ?_⟩
  by_cases hj : j = i
  · simp [forgetSample, hj]
  · simp [forgetSample, hj]

/-- While the box sees the freeze its fixed counter stands still; its free-running counters show in no block. -/
theorem otherCounters_frozen {b : BoxId} {s : State} (h : s.freezeSeen b = some true) :
    (otherCounters b s).pend = s.pend ∧ (otherCounters b s).blk b = s.blk b := by
  cases b
  case ubox => simp [otherCounters, fixedStepU, frozenGlobal, h]
  case imc n => simp [otherCounters, fixedStepMc, frozenGlobal, h]
  all_goals exact ⟨rfl, rfl⟩

/-- A step of the cycle of a box that sees the freeze moves none of its counters, sets no status bit, sends nothing. -/
theorem step_frozen {s t : State} {r : Run} (hrun : s.run = some r) (h : s.freezeSeen r.box = some true)
    (hstep : step s = .next t) : t.pend = s.pend ∧ (t.blk r.box).ov = (s.blk r.box).ov ∧
      (t.blk r.box).fixCtr = (s.blk r.box).fixCtr ∧ ∀ j, (t.unit r.box j).ctr = (s.unit r.box j).ctr := by
  obtain ⟨r', hr, code, c, raw, hrun', -, rfl⟩ | ⟨r', hrun', -, rfl⟩ | ⟨cmd, hnone, -⟩ | ⟨hnone, -⟩ := step_cases hstep
  · obtain rfl : r = r' := Option.some.inj (hrun.symm.trans hrun')
    rw [countStep_notCounting (.inr (.inr (.inl h)))]
    obtain ⟨hp, ho, hf, hc⟩ := forgetSample_same r.box (r.box.kind.unit ⟨r.next, hr⟩) s
    simp [advance, hp, ho, hf, hc]
  · obtain rfl : r = r' := Option.some.inj (hrun.symm.trans hrun')
    obtain ⟨hp, hb⟩ := otherCounters_frozen h
    simp [finishCycle, State.unit, hp, hb]
  · simp [hnone] at hrun
  · simp [hnone] at hrun

theorem step_seen {s : State} {b : BoxId} {rest : List Turn} (hrun : s.run = none) (hturn : s.agenda = .seen b :: rest) :
    step s = .next ((s.setAgenda rest).setBlk b { s.blk b with gseen := s.gfrz }) := by
  simp [step, hrun, nextTurn, hturn, platformTurn, seeFreeze]

/-- Settles O52: by what a step is, with the freeze seen through the box's own copy. -/
theorem freezeLatchChangers : Obligations.FreezeLatchChangers := by
  refine ⟨fun s t => step_changes_gfrz, fun s t b => step_changes_gseen, fun s b rest => step_seen,
    fun s t r hrun heventual hseen hstep => step_frozen hrun ?_ hstep⟩
  simp [State.freezeSeen, heventual, hseen]

end Sys2Proof.Machine
end

section
/-! The encoding: the fields of a word, the rows a control word names, the layout of an access, and that the decoder and
the encoder are inverse. -/

namespace Sys2Proof

open Machine

/-! ### Fields of a word -/

/-- Words cut at the same place are equal only field by field. -/
theorem append_inj {m n : Nat} {x x' : BitVec m} {y y' : BitVec n} (h : x ++ y = x' ++ y') : x = x' ∧ y = y' :=
  ⟨by simpa only [BitVec.extractLsb'_append_eq_left] using congrArg (BitVec.extractLsb' n m) h,
    by simpa only [BitVec.extractLsb'_append_eq_right] using congrArg (BitVec.extractLsb' 0 n) h⟩

/-- Neighbouring fields of a word are one field; the positions are arguments, for rewriting one pair at a time. -/
theorem append_fields {w : Nat} (x : BitVec w) (s l l' : Nat) :
    x.extractLsb' (s + l) l' ++ x.extractLsb' s l = x.extractLsb' s (l' + l) :=
  BitVec.extractLsb'_append_extractLsb'_eq_extractLsb' rfl

theorem ofBool_getLsbD {n : Nat} (x : BitVec n) (k : Nat) : BitVec.ofBool (x.getLsbD k) = x.extractLsb' k 1 := by
  refine BitVec.eq_of_getLsbD_eq fun j hj => ?_
  obtain rfl : j = 0 := by omega
  simp

theorem wordOf_bytesOf (w : Word) :
    wordOf (w.extractLsb' 0 8) (w.extractLsb' 8 8) (w.extractLsb' 16 8) (w.extractLsb' 24 8) = w := by
  unfold wordOf
  rw [append_fields w 16 8 8, append_fields w 8 8 _, append_fields w 0 8 _]
  exact BitVec.extractLsb'_eq_self

theorem CtlWord.pack_unpack (w : Word) : (CtlWord.unpack w).pack = w := by
  simp only [pack, unpack, ofBool_getLsbD]
  rw [append_fields w 23 1 8, append_fields w 22 1 _, append_fields w 21 1 _, append_fields w 20 1 _,
    append_fields w 19 1 _, append_fields w 18 1 _, append_fields w 16 2 _, append_fields w 8 8 _, append_fields w 0 8 _]
  exact BitVec.extractLsb'_eq_self

theorem CtlWord.pack_inj {c d : CtlWord} (h : c.pack = d.pack) : c = d := by
  obtain ⟨h, hcode⟩ := append_inj h
  obtain ⟨h, humask⟩ := append_inj h
  obtain ⟨h, hlow⟩ := append_inj h
  obtain ⟨h, hedge⟩ := append_inj h
  obtain ⟨h, hb19⟩ := append_inj h
  obtain ⟨h, hb20⟩ := append_inj h
  obtain ⟨h, hb21⟩ := append_inj h
  obtain ⟨h, hen⟩ := append_inj h
  obtain ⟨htop, hinvert⟩ := append_inj h
  cases c
  cases d
  simp_all [BitVec.ofBool_eq_iff_eq]

theorem CtlWord.unpack_pack (c : CtlWord) : CtlWord.unpack c.pack = c := pack_inj (pack_unpack c.pack)

/-! ### The two streams -/

/-- A counter's four bytes are decoded as the word they hold. -/
theorem decode_counter_bytesOf (k : Kind) (n : Fin k.insts) (c : Fin k.ctrs) (w : Word) :
    decode (.counter k n c) (bytesOf w) = decodeCtl k n c w :=
  congrArg (decodeCtl k n c) (wordOf_bytesOf w)

/-- A host command's sixteen bytes are decoded as the four dwords they hold. -/
theorem decode_host_bytesOf (alt : Bool) (addr op lo hi : Word) :
    decode (.host alt) ([addr, op, lo, hi].flatMap bytesOf) = decodeCommand alt addr op lo hi := by
  simp only [List.flatMap_cons, List.flatMap_nil, bytesOf, List.cons_append, List.nil_append, decode, wordOf_bytesOf]

/-- What a control word decodes to: it is one a control register can hold, its code is an event of the kind, its unit mask
names a row, and the row's constructor takes the remaining fields. -/
theorem decodeCtl_eq_ok_iff {k : Kind} {n : Fin k.insts} {c : Fin k.ctrs} {w : Word} {i : Instr} :
    decodeCtl k n c w = .ok i ↔ (CtlWord.unpack w).stored k = true ∧ ∃ e rows base mk,
      (eventTable k).find? (fun p => p.1.code == (CtlWord.unpack w).code && p.1.ext == (CtlWord.unpack w).b21) =
        some (e, rows) ∧
      e.pick (CtlWord.unpack w).umask = some base ∧ rows.lookup base = some mk ∧
      mk ⟨n, c, (CtlWord.unpack w).ops k base⟩ = i := by
  unfold decodeCtl
  dsimp only
  constructor
  · intro h
    split at h
    · cases h
    · next hs =>
      split at h
      · cases h
      · next p hp =>
        split at h
        · cases h
        · next base hbase =>
          split at h
          · cases h
          · next mk hmk => exact ⟨by simpa using hs, p.1, p.2, base, mk, hp, hbase, hmk, Except.ok.inj h⟩
  · rintro ⟨hs, e, rows, base, mk, he, hbase, hmk, rfl⟩
    simp [hs, he, hbase, hmk]

/-! ### Unit mask rows (30_encoding.md R157) -/

theorem Sel.base_and_of_selected {u : BitVec 8} {s : Sel} (h : s.selected u = true) : u &&& s.base = s.base := by
  cases s with
  | any => exact BitVec.and_zero
  | bits m => exact eq_of_beq h
  | exact v =>
    obtain rfl : u = v := eq_of_beq h
    exact BitVec.and_self
  | masked v m =>
    obtain rfl : u &&& m = v := eq_of_beq h
    simp [Sel.base, ← BitVec.and_assoc]

/-- A unit mask has the bits of the row that names it. -/
theorem Event.base_and_of_pick {e : Event} {u base : BitVec 8} (h : e.pick u = some base) : u &&& base = base := by
  unfold Event.pick at h
  split at h
  · obtain ⟨r, hr, rfl⟩ := Option.map_eq_some_iff.mp h
    have hsel : r.sel.selected u = true := by simpa using List.find?_some hr
    exact Sel.base_and_of_selected hsel
  · cases h

theorem or_and_not_of_and_eq {n : Nat} {u m : BitVec n} (h : u &&& m = m) : m ||| (u &&& ~~~m) = u := by
  calc m ||| (u &&& ~~~m) = (u &&& m) ||| (u &&& ~~~m) := by rw [h]
    _ = u := by rw [← BitVec.and_or_distrib_left]; simp

theorem or_and_not_of_disjoint {n : Nat} {m x : BitVec n} (h : m &&& x = 0) : (m ||| x) &&& ~~~m = x := by
  calc (m ||| x) &&& ~~~m = x &&& ~~~m := by
        rw [BitVec.and_or_distrib_right, BitVec.and_not_self]
        exact BitVec.zero_or
    _ = x &&& ~~~m ||| x &&& m := by rw [BitVec.and_comm x m, h]; exact BitVec.or_zero.symm
    _ = x := by rw [← BitVec.and_or_distrib_left]; simp

/-! ### Control words and their fields (30_encoding.md R151 to R154) -/

theorem CtlOps.fits_iff {k : Kind} {c : CtlOps} : c.fits k = true ↔
    (k.shortThresh = true → c.thresh.toNat < 32) ∧ (k.hasOvEn = false → c.ovEn = false) ∧
    (k.hasTidEn = false → c.tidEn = false) ∧ (k ≠ .pcu → c.occInvert = false ∧ c.occEdge = false) ∧
    (k = .pcu → c.extra &&& 0x3F = 0) := by
  simp [CtlOps.fits, and_assoc, or_iff_not_imp_left]

theorem CtlWord.stored_iff {k : Kind} {c : CtlWord} : c.stored k = true ↔
    c.low = 0 ∧ (k.hasExt = false → c.b21 = false) ∧ (k.hasOvEn = false → c.b20 = false) ∧
    (k.hasTidEn = false → c.b19 = false) ∧ (k = .ubox → c.top &&& 0xE0 = 0) ∧
    (k = .pcu → c.top &&& 0x20 = 0 ∧ c.umask &&& 0x3F = 0) := by
  simp [CtlWord.stored, and_assoc, or_iff_not_imp_left]

theorem Kind.shortThresh_iff {k : Kind} : k.shortThresh = true ↔ k = .ubox ∨ k = .pcu := by
  cases k <;> decide

/-- thresh as the decoder cuts it is thresh as a write stores it. -/
theorem CtlWord.thresh_unpack (k : Kind) (w : Word) : (CtlWord.unpack w).thresh k = threshField k w := by
  unfold CtlWord.thresh threshField unpack
  split
  · have mask : ∀ j < 8, (0x1F : BitVec 8).getLsbD j = decide (j < 5) := by decide
    refine BitVec.eq_of_getLsbD_eq fun j hj => ?_
    rw [BitVec.getLsbD_and, mask j hj]
    simp [hj, Bool.and_comm]
  · rfl

/-- A 5-bit thresh leaves the bits above it alone (30_encoding.md R161). -/
theorem shortThresh_mask : ∀ t : BitVec 8, t.toNat < 32 → t &&& 0x1F = t ∧ t &&& 0xE0 = 0 := by decide

theorem mask_shortThresh : ∀ top : BitVec 8, top &&& 0xE0 = 0 → top &&& 0x1F = top := by decide

/-- Bits 31:24 of a PCU control word hold occ_edge_det, occ_invert and thresh (30_encoding.md R153). -/
theorem pcuTop_fields : ∀ (edge invert : Bool) (t : BitVec 8), t.toNat < 32 →
    let top := BitVec.ofBool edge ++ BitVec.ofBool invert ++ t.extractLsb' 0 6
    top &&& 0x20 = 0 ∧ top &&& 0x1F = t ∧ top.getLsbD 6 = invert ∧ top.getLsbD 7 = edge := by decide

theorem pcuTop_of_fields : ∀ top : BitVec 8, top &&& 0x20 = 0 →
    BitVec.ofBool (top.getLsbD 7) ++ BitVec.ofBool (top.getLsbD 6) ++ (top &&& 0x1F).extractLsb' 0 6 = top := by decide

section
variable {k : Kind} {code base : BitVec 8} {ext : Bool} {c : CtlOps}

/-- The word of fields that fit is one a control register of the kind can hold. -/
theorem CtlOps.word_stored (hfits : c.fits k = true) (hbase : k = .pcu → base &&& 0x3F = 0)
    (hext : ext = true → k.hasExt = true) : (c.word k code ext base).stored k = true := by
  obtain ⟨hthresh, hov, htid, -, hextra⟩ := fits_iff.mp hfits
  refine CtlWord.stored_iff.mpr ⟨rfl, fun hk => ?_, hov, htid, ?_, ?_⟩
  · exact Bool.eq_false_iff.mpr fun h => by simp [hext h] at hk
  · rintro rfl
    exact (shortThresh_mask _ (hthresh rfl)).2
  · rintro rfl
    refine ⟨(pcuTop_fields _ _ _ (hthresh rfl)).1, ?_⟩
    simp only [word, BitVec.and_or_distrib_right, hbase rfl, hextra rfl]
    rfl

/-- The control fields are read back from the word that holds them. -/
theorem CtlOps.ops_word (hfits : c.fits k = true) (hdisj : base &&& c.extra = 0) :
    (c.word k code ext base).ops k base = c := by
  obtain ⟨hthresh, -, -, hocc, -⟩ := fits_iff.mp hfits
  have hextra : (base ||| c.extra) &&& ~~~base = c.extra := or_and_not_of_disjoint hdisj
  by_cases hk : k = .pcu
  · subst hk
    obtain ⟨-, ht, hi, he⟩ := pcuTop_fields c.occEdge c.occInvert c.thresh (hthresh rfl)
    simp only [word, CtlWord.ops, CtlWord.thresh, Kind.shortThresh, beq_self_eq_true, if_true, Bool.true_and, ht, hi, he,
      hextra]
  · obtain ⟨hi, he⟩ := hocc hk
    have ht : (if k.shortThresh then c.thresh &&& 0x1F else c.thresh) = c.thresh := by
      split
      · exact (shortThresh_mask _ (hthresh ‹_›)).1
      · rfl
    simp only [word, CtlWord.ops, CtlWord.thresh, beq_false_of_ne hk, Bool.false_eq_true, if_false, Bool.false_and, ht,
      hextra]
    cases c
    simp_all

end

/-- A stored word is what its fields and the row it names make up. -/
theorem CtlWord.word_ops {k : Kind} {base : BitVec 8} {c : CtlWord} (hs : c.stored k = true)
    (hbase : c.umask &&& base = base) : (c.ops k base).word k c.code c.b21 base = c := by
  obtain ⟨hlow, -, -, -, hubox, hpcu⟩ := stored_iff.mp hs
  have humask : base ||| (c.umask &&& ~~~base) = c.umask := or_and_not_of_and_eq hbase
  by_cases hk : k = .pcu
  · subst hk
    have htop := pcuTop_of_fields c.top (hpcu rfl).1
    simp only [ops, CtlOps.word, thresh, Kind.shortThresh, beq_self_eq_true, if_true, Bool.true_and, htop, humask,
      ← hlow]
  · have htop : c.thresh k = c.top := by
      unfold thresh
      split
      · exact mask_shortThresh _ (hubox ((Kind.shortThresh_iff.mp ‹_›).resolve_right hk))
      · rfl
    simp [ops, CtlOps.word, hk, htop, humask, ← hlow]

/-! ### The tables -/

open Laws.Coded in
/-- The decoder's tables hold every instruction at the row it names: each constructor by its own lemma. -/
theorem instr_coded (i : Instr) : Laws.Coded.Statement i :=
  @Instr.casesOn Statement i
    uBoxEventMsgDoorbellRcvd uBoxPholdCyclesAssertToAck uBoxRacuRequests cBoBounceControl cBoClockticks
    cBoCounter0Occupancy cBoFastAsserted cBoLlcLookupDataRead cBoLlcLookupWrite cBoLlcLookupRemoteSnoop
    cBoLlcLookupAny cBoLlcLookupRead cBoLlcLookupNid cBoLlcVictimsMState cBoLlcVictimsEState cBoLlcVictimsIState
    cBoLlcVictimsFState cBoLlcVictimsMiss cBoLlcVictimsNid cBoMiscRspiWasFse cBoMiscWcAliasing cBoMiscStarted
    cBoMiscRfoHitS cBoMiscCvzeroPrefetchVictim cBoMiscCvzeroPrefetchMiss cBoRingAdUsedUpEven cBoRingAdUsedUpOdd
    cBoRingAdUsedUp cBoRingAdUsedDownEven cBoRingAdUsedDownOdd cBoRingAdUsedDown cBoRingAdUsedAll
    cBoRingAkUsedUpEven cBoRingAkUsedUpOdd cBoRingAkUsedUp cBoRingAkUsedDownEven cBoRingAkUsedDownOdd
    cBoRingAkUsedDown cBoRingAkUsedAll cBoRingBlUsedUpEven cBoRingBlUsedUpOdd cBoRingBlUsedUp cBoRingBlUsedDownEven
    cBoRingBlUsedDownOdd cBoRingBlUsedDown cBoRingBlUsedAll cBoRingBouncesAd cBoRingBouncesAk cBoRingBouncesBl
    cBoRingBouncesIv cBoRingIvUsedUp cBoRingIvUsedDn cBoRingIvUsedAny cBoRingIvUsedDown cBoRingSrcThrtl
    cBoRxRExtStarvedIrq cBoRxRExtStarvedIpq cBoRxRExtStarvedPrq cBoRxRExtStarvedIsmqBids cBoRxRInsertsIrq
    cBoRxRInsertsIrqRej cBoRxRInsertsIpq cBoRxRInsertsPrq cBoRxRInsertsPrqRej cBoRxRIpqRetryAny cBoRxRIpqRetryFull
    cBoRxRIpqRetryAddrConflict cBoRxRIpqRetryQpiCredits cBoRxRIpqRetry2AdSbo cBoRxRIpqRetry2Target cBoRxRIrqRetryAny
    cBoRxRIrqRetryFull cBoRxRIrqRetryAddrConflict cBoRxRIrqRetryRtid cBoRxRIrqRetryQpiCredits
    cBoRxRIrqRetryIioCredits cBoRxRIrqRetryNid cBoRxRIrqRetry2AdSbo cBoRxRIrqRetry2BlSbo cBoRxRIrqRetry2Target
    cBoRxRIsmqRetryAny cBoRxRIsmqRetryFull cBoRxRIsmqRetryRtid cBoRxRIsmqRetryQpiCredits cBoRxRIsmqRetryIioCredits
    cBoRxRIsmqRetryNid cBoRxRIsmqRetryWbCredits cBoRxRIsmqRetry2AdSbo cBoRxRIsmqRetry2BlSbo cBoRxRIsmqRetry2Target
    cBoRxROccupancyIrq cBoRxROccupancyIrqRej cBoRxROccupancyIpq cBoRxROccupancyPrqRej cBoSboCreditsAcquiredAd
    cBoSboCreditsAcquiredBl cBoSboCreditOccupancyAd cBoSboCreditOccupancyBl cBoTorInsertsOpcode
    cBoTorInsertsMissOpcode cBoTorInsertsEviction cBoTorInsertsAll cBoTorInsertsWb cBoTorInsertsLocalOpcode
    cBoTorInsertsMissLocalOpcode cBoTorInsertsLocal cBoTorInsertsMissLocal cBoTorInsertsNidOpcode
    cBoTorInsertsNidMissOpcode cBoTorInsertsNidEviction cBoTorInsertsNidAll cBoTorInsertsNidMissAll
    cBoTorInsertsNidWb cBoTorInsertsRemoteOpcode cBoTorInsertsMissRemoteOpcode cBoTorInsertsRemote
    cBoTorInsertsMissRemote cBoTorOccupancyOpcode cBoTorOccupancyMissOpcode cBoTorOccupancyEviction
    cBoTorOccupancyAll cBoTorOccupancyMissAll cBoTorOccupancyWb cBoTorOccupancyLocalOpcode
    cBoTorOccupancyMissLocalOpcode cBoTorOccupancyLocal cBoTorOccupancyMissLocal cBoTorOccupancyNidOpcode
    cBoTorOccupancyNidMissOpcode cBoTorOccupancyNidEviction cBoTorOccupancyNidAll cBoTorOccupancyNidMissAll
    cBoTorOccupancyNidWb cBoTorOccupancyRemoteOpcode cBoTorOccupancyMissRemoteOpcode cBoTorOccupancyRemote
    cBoTorOccupancyMissRemote cBoTxRAdsUsedAd cBoTxRAdsUsedAk cBoTxRAdsUsedBl cBoTxRInsertsAdCache
    cBoTxRInsertsAkCache cBoTxRInsertsBlCache cBoTxRInsertsIvCache cBoTxRInsertsAdCore cBoTxRInsertsAkCore
    cBoTxRInsertsBlCore sBoBounceControl sBoClockticks sBoFastAsserted sBoRingAdUsedUpEven sBoRingAdUsedUpOdd
    sBoRingAdUsedUp sBoRingAdUsedDownEven sBoRingAdUsedDownOdd sBoRingAdUsedDown sBoRingAkUsedUpEven
    sBoRingAkUsedUpOdd sBoRingAkUsedUp sBoRingAkUsedDownEven sBoRingAkUsedDownOdd sBoRingAkUsedDown
    sBoRingBlUsedUpEven sBoRingBlUsedUpOdd sBoRingBlUsedUp sBoRingBlUsedDownEven sBoRingBlUsedDownOdd
    sBoRingBlUsedDown sBoRingBouncesAdCache sBoRingBouncesAkCore sBoRingBouncesBlCore sBoRingBouncesIvCore
    sBoRingIvUsedUp sBoRingIvUsedDn sBoRxRBypassAdCrd sBoRxRBypassAdBnc sBoRxRBypassBlCrd sBoRxRBypassBlBnc
    sBoRxRBypassAk sBoRxRBypassIv sBoRxRInsertsAdCrd sBoRxRInsertsAdBnc sBoRxRInsertsBlCrd sBoRxRInsertsBlBnc
    sBoRxRInsertsAk sBoRxRInsertsIv sBoRxROccupancyAdCrd sBoRxROccupancyAdBnc sBoRxROccupancyBlCrd
    sBoRxROccupancyBlBnc sBoRxROccupancyAk sBoRxROccupancyIv sBoTxRAdsUsedAd sBoTxRAdsUsedAk sBoTxRAdsUsedBl
    sBoTxRInsertsAdCrd sBoTxRInsertsAdBnc sBoTxRInsertsBlCrd sBoTxRInsertsBlBnc sBoTxRInsertsAk sBoTxRInsertsIv
    sBoTxROccupancyAdCrd sBoTxROccupancyAdBnc sBoTxROccupancyBlCrd sBoTxROccupancyBlBnc sBoTxROccupancyAk
    sBoTxROccupancyIv haAddrOpcMatchAddr haAddrOpcMatchOpc haAddrOpcMatchFilt haAddrOpcMatchAd haAddrOpcMatchBl
    haAddrOpcMatchAk haBtCyclesNe haBtOccupancy haBypassImcTaken haBypassImcNotTaken haClockticks haConflictCycles
    haDirect2coreCount haDirect2coreCyclesDisabled haDirect2coreTxnOverride haDirectoryLatOpt haDirectoryLookupSnp
    haDirectoryLookupNoSnp haDirectoryUpdateSet haDirectoryUpdateClear haDirectoryUpdateAny haHitmeHitReadOrInvitoe
    haHitmeHitWbmtoi haHitmeHitAckcnfltwbi haHitmeHitWbmtoeOrS haHitmeHitHom haHitmeHitRspfwdiRemote
    haHitmeHitRspfwdiLocal haHitmeHitInvals haHitmeHitRspfwds haHitmeHitEvicts haHitmeHitAllocs haHitmeHitRsp
    haHitmeHitAll haHitmeHitPvBitsSetReadOrInvitoe haHitmeHitPvBitsSetWbmtoi haHitmeHitPvBitsSetAckcnfltwbi
    haHitmeHitPvBitsSetWbmtoeOrS haHitmeHitPvBitsSetHom haHitmeHitPvBitsSetRspfwdiRemote
    haHitmeHitPvBitsSetRspfwdiLocal haHitmeHitPvBitsSetRspfwds haHitmeHitPvBitsSetRsp haHitmeHitPvBitsSetAll
    haHitmeLookupReadOrInvitoe haHitmeLookupWbmtoi haHitmeLookupAckcnfltwbi haHitmeLookupWbmtoeOrS haHitmeLookupHom
    haHitmeLookupRspfwdiRemote haHitmeLookupRspfwdiLocal haHitmeLookupInvals haHitmeLookupRspfwds
    haHitmeLookupAllocs haHitmeLookupRsp haHitmeLookupAll haIgrNoCreditCyclesAdQpi0 haIgrNoCreditCyclesAdQpi1
    haIgrNoCreditCyclesBlQpi0 haIgrNoCreditCyclesBlQpi1 haIgrNoCreditCyclesAdQpi2 haIgrNoCreditCyclesBlQpi2
    haImcReadsNormal haImcRetry haImcWritesFull haImcWritesPartial haImcWritesFullIsoch haImcWritesPartialIsoch
    haImcWritesAll haOsbReadsLocal haOsbInvitoeLocal haOsbRemote haOsbCancelled haOsbReadsLocalUseful
    haOsbRemoteUseful haOsbEdrAll haOsbEdrReadsLocalI haOsbEdrReadsRemoteI haOsbEdrReadsLocalS haOsbEdrReadsRemoteS
    haRequestsReadsLocal haRequestsReadsRemote haRequestsReads haRequestsWritesLocal haRequestsWritesRemote
    haRequestsWrites haRequestsInvitoeLocal haRequestsInvitoeRemote haRingAdUsedCwEven haRingAdUsedCwOdd
    haRingAdUsedCw haRingAdUsedCcwEven haRingAdUsedCcwOdd haRingAdUsedCcw haRingAkUsedCwEven haRingAkUsedCwOdd
    haRingAkUsedCw haRingAkUsedCcwEven haRingAkUsedCcwOdd haRingAkUsedCcw haRingBlUsedCwEven haRingBlUsedCwOdd
    haRingBlUsedCw haRingBlUsedCcwEven haRingBlUsedCcwOdd haRingBlUsedCcw haRpqCyclesNoRegCreditsChn0
    haRpqCyclesNoRegCreditsChn1 haRpqCyclesNoRegCreditsChn2 haRpqCyclesNoRegCreditsChn3 haSbo0CreditsAcquiredAd
    haSbo0CreditsAcquiredBl haSbo0CreditOccupancyAd haSbo0CreditOccupancyBl haSbo1CreditsAcquiredAd
    haSbo1CreditsAcquiredBl haSbo1CreditOccupancyAd haSbo1CreditOccupancyBl haSnoopsRspAfterDataLocal
    haSnoopsRspAfterDataRemote haSnoopCyclesNeLocal haSnoopCyclesNeRemote haSnoopCyclesNeAll haSnoopOccupancyLocal
    haSnoopOccupancyRemote haSnoopRespRspi haSnoopRespRsps haSnoopRespRspifwd haSnoopRespRspsfwd haSnoopRespRspWb
    haSnoopRespRspFwdWb haSnoopRespRspcnflct haSnpRespRecvLocalRspi haSnpRespRecvLocalRsps haSnpRespRecvLocalRspifwd
    haSnpRespRecvLocalRspsfwd haSnpRespRecvLocalRSPxWB haSnpRespRecvLocalRSPxFWDxWB haSnpRespRecvLocalRspcnflct
    haSnpRespRecvLocalOther haStallNoSboCreditSbo0Ad haStallNoSboCreditSbo1Ad haStallNoSboCreditSbo0Bl
    haStallNoSboCreditSb01Bl haTadRequestsG0Region0 haTadRequestsG0Region1 haTadRequestsG0Region2
    haTadRequestsG0Region3 haTadRequestsG0Region4 haTadRequestsG0Region5 haTadRequestsG0Region6
    haTadRequestsG0Region7 haTadRequestsG1Region8 haTadRequestsG1Region9 haTadRequestsG1Region10
    haTadRequestsG1Region11 haTrackerCyclesFullGp haTrackerCyclesFullAll haTrackerCyclesNeLocal
    haTrackerCyclesNeRemote haTrackerCyclesNeAll haTrackerOccupancyReadsLocal haTrackerOccupancyReadsRemote
    haTrackerOccupancyWritesLocal haTrackerOccupancyWritesRemote haTrackerOccupancyInvitoeLocal
    haTrackerOccupancyInvitoeRemote haTrackerPendingOccupancyLocal haTrackerPendingOccupancyRemote
    haTxRAdCyclesFullSched0 haTxRAdCyclesFullSched1 haTxRAdCyclesFullAll haTxRAk haTxRAkCyclesFullSched0
    haTxRAkCyclesFullSched1 haTxRAkCyclesFullAll haTxRBlDrsCache haTxRBlDrsCore haTxRBlDrsQpi
    haTxRBlCyclesFullSched0 haTxRBlCyclesFullSched1 haTxRBlCyclesFullAll haTxRBlOccupancy haTxRStarvedAk
    haTxRStarvedBl haWpqCyclesNoRegCreditsChn0 haWpqCyclesNoRegCreditsChn1 haWpqCyclesNoRegCreditsChn2
    haWpqCyclesNoRegCreditsChn3 imcActCountRd imcActCountWr imcActCountByp imcBypCmdsAct imcBypCmdsCas imcBypCmdsPre
    imcCasCountRdReg imcCasCountRdUnderfill imcCasCountRd imcCasCountWrWmm imcCasCountWrRmm imcCasCountWr
    imcCasCountAll imcCasCountRdWmm imcCasCountRdRmm imcDclockticks imcDramPreAll imcDramRefreshPanic
    imcDramRefreshHigh imcEccCorrectableErrors imcMajorModesRead imcMajorModesWrite imcMajorModesPartial
    imcMajorModesIsoch imcPowerChannelDlloff imcPowerChannelPpd imcPowerCkeCyclesRank0 imcPowerCkeCyclesRank1
    imcPowerCkeCyclesRank2 imcPowerCkeCyclesRank3 imcPowerCkeCyclesRank4 imcPowerCkeCyclesRank5
    imcPowerCkeCyclesRank6 imcPowerCkeCyclesRank7 imcPowerCriticalThrottleCycles imcPowerPcuThrottling
    imcPowerSelfRefresh imcPowerThrottleCyclesRank0 imcPowerThrottleCyclesRank1 imcPowerThrottleCyclesRank2
    imcPowerThrottleCyclesRank3 imcPowerThrottleCyclesRank4 imcPowerThrottleCyclesRank5 imcPowerThrottleCyclesRank6
    imcPowerThrottleCyclesRank7 imcPreemptionRdPreemptRd imcPreemptionRdPreemptWr imcPreCountPageMiss
    imcPreCountPageClose imcPreCountRd imcPreCountWr imcPreCountByp imcRdCasPrioLow imcRdCasPrioMed imcRdCasPrioHigh
    imcRdCasPrioPanic imcRdCasRank0Bank0 imcRdCasRank0Bank1 imcRdCasRank0Bank2 imcRdCasRank0Bank3 imcRdCasRank0Bank4
    imcRdCasRank0Bank5 imcRdCasRank0Bank6 imcRdCasRank0Bank7 imcRdCasRank0Bank8 imcRdCasRank0Bank9
    imcRdCasRank0Bank10 imcRdCasRank0Bank11 imcRdCasRank0Bank12 imcRdCasRank0Bank13 imcRdCasRank0Bank14
    imcRdCasRank0Bank15 imcRdCasRank0Allbanks imcRdCasRank0Bankg0 imcRdCasRank0Bankg1 imcRdCasRank0Bankg2
    imcRdCasRank0Bankg3 imcRdCasRank1Bank0 imcRdCasRank1Bank1 imcRdCasRank1Bank2 imcRdCasRank1Bank3
    imcRdCasRank1Bank4 imcRdCasRank1Bank5 imcRdCasRank1Bank6 imcRdCasRank1Bank7 imcRdCasRank1Bank8
    imcRdCasRank1Bank9 imcRdCasRank1Bank10 imcRdCasRank1Bank11 imcRdCasRank1Bank12 imcRdCasRank1Bank13
    imcRdCasRank1Bank14 imcRdCasRank1Bank15 imcRdCasRank1Allbanks imcRdCasRank1Bankg0 imcRdCasRank1Bankg1
    imcRdCasRank1Bankg2 imcRdCasRank1Bankg3 imcRdCasRank2Bank0 imcRdCasRank4Bank0 imcRdCasRank4Bank1
    imcRdCasRank4Bank2 imcRdCasRank4Bank3 imcRdCasRank4Bank4 imcRdCasRank4Bank5 imcRdCasRank4Bank6
    imcRdCasRank4Bank7 imcRdCasRank4Bank8 imcRdCasRank4Bank9 imcRdCasRank4Bank10 imcRdCasRank4Bank11
    imcRdCasRank4Bank12 imcRdCasRank4Bank13 imcRdCasRank4Bank14 imcRdCasRank4Bank15 imcRdCasRank4Allbanks
    imcRdCasRank4Bankg0 imcRdCasRank4Bankg1 imcRdCasRank4Bankg2 imcRdCasRank4Bankg3 imcRdCasRank5Bank0
    imcRdCasRank5Bank1 imcRdCasRank5Bank2 imcRdCasRank5Bank3 imcRdCasRank5Bank4 imcRdCasRank5Bank5
    imcRdCasRank5Bank6 imcRdCasRank5Bank7 imcRdCasRank5Bank8 imcRdCasRank5Bank9 imcRdCasRank5Bank10
    imcRdCasRank5Bank11 imcRdCasRank5Bank12 imcRdCasRank5Bank13 imcRdCasRank5Bank14 imcRdCasRank5Bank15
    imcRdCasRank5Allbanks imcRdCasRank5Bankg0 imcRdCasRank5Bankg1 imcRdCasRank5Bankg2 imcRdCasRank5Bankg3
    imcRdCasRank6Bank0 imcRdCasRank6Bank1 imcRdCasRank6Bank2 imcRdCasRank6Bank3 imcRdCasRank6Bank4
    imcRdCasRank6Bank5 imcRdCasRank6Bank6 imcRdCasRank6Bank7 imcRdCasRank6Bank8 imcRdCasRank6Bank9
    imcRdCasRank6Bank10 imcRdCasRank6Bank11 imcRdCasRank6Bank12 imcRdCasRank6Bank13 imcRdCasRank6Bank14
    imcRdCasRank6Bank15 imcRdCasRank6Allbanks imcRdCasRank6Bankg0 imcRdCasRank6Bankg1 imcRdCasRank6Bankg2
    imcRdCasRank6Bankg3 imcRdCasRank7Bank0 imcRdCasRank7Bank1 imcRdCasRank7Bank2 imcRdCasRank7Bank3
    imcRdCasRank7Bank4 imcRdCasRank7Bank5 imcRdCasRank7Bank6 imcRdCasRank7Bank7 imcRdCasRank7Bank8
    imcRdCasRank7Bank9 imcRdCasRank7Bank10 imcRdCasRank7Bank11 imcRdCasRank7Bank12 imcRdCasRank7Bank13
    imcRdCasRank7Bank14 imcRdCasRank7Bank15 imcRdCasRank7Allbanks imcRdCasRank7Bankg0 imcRdCasRank7Bankg1
    imcRdCasRank7Bankg2 imcRdCasRank7Bankg3 imcRpqCyclesNe imcRpqInserts imcVmseMxbWrOccupancy imcVmseWrPushWmm
    imcVmseWrPushRmm imcWmmToRmmLowThresh imcWmmToRmmStarve imcWmmToRmmVmseRetry imcWpqCyclesFull imcWpqCyclesNe
    imcWpqReadHit imcWpqWriteHit imcWrongMm imcWrCasRank0Bank0 imcWrCasRank0Bank1 imcWrCasRank0Bank2
    imcWrCasRank0Bank3 imcWrCasRank0Bank4 imcWrCasRank0Bank5 imcWrCasRank0Bank6 imcWrCasRank0Bank7
    imcWrCasRank0Bank8 imcWrCasRank0Bank9 imcWrCasRank0Bank10 imcWrCasRank0Bank11 imcWrCasRank0Bank12
    imcWrCasRank0Bank13 imcWrCasRank0Bank14 imcWrCasRank0Bank15 imcWrCasRank0Allbanks imcWrCasRank0Bankg0
    imcWrCasRank0Bankg1 imcWrCasRank0Bankg2 imcWrCasRank0Bankg3 imcWrCasRank1Bank0 imcWrCasRank1Bank1
    imcWrCasRank1Bank2 imcWrCasRank1Bank3 imcWrCasRank1Bank4 imcWrCasRank1Bank5 imcWrCasRank1Bank6
    imcWrCasRank1Bank7 imcWrCasRank1Bank8 imcWrCasRank1Bank9 imcWrCasRank1Bank10 imcWrCasRank1Bank11
    imcWrCasRank1Bank12 imcWrCasRank1Bank13 imcWrCasRank1Bank14 imcWrCasRank1Bank15 imcWrCasRank1Allbanks
    imcWrCasRank1Bankg0 imcWrCasRank1Bankg1 imcWrCasRank1Bankg2 imcWrCasRank1Bankg3 imcWrCasRank2 imcWrCasRank3
    imcWrCasRank4Bank0 imcWrCasRank4Bank1 imcWrCasRank4Bank2 imcWrCasRank4Bank3 imcWrCasRank4Bank4
    imcWrCasRank4Bank5 imcWrCasRank4Bank6 imcWrCasRank4Bank7 imcWrCasRank4Bank8 imcWrCasRank4Bank9
    imcWrCasRank4Bank10 imcWrCasRank4Bank11 imcWrCasRank4Bank12 imcWrCasRank4Bank13 imcWrCasRank4Bank14
    imcWrCasRank4Bank15 imcWrCasRank4Allbanks imcWrCasRank4Bankg0 imcWrCasRank4Bankg1 imcWrCasRank4Bankg2
    imcWrCasRank4Bankg3 imcWrCasRank5Bank0 imcWrCasRank5Bank1 imcWrCasRank5Bank2 imcWrCasRank5Bank3
    imcWrCasRank5Bank4 imcWrCasRank5Bank5 imcWrCasRank5Bank6 imcWrCasRank5Bank7 imcWrCasRank5Bank8
    imcWrCasRank5Bank9 imcWrCasRank5Bank10 imcWrCasRank5Bank11 imcWrCasRank5Bank12 imcWrCasRank5Bank13
    imcWrCasRank5Bank14 imcWrCasRank5Bank15 imcWrCasRank5Allbanks imcWrCasRank5Bankg0 imcWrCasRank5Bankg1
    imcWrCasRank5Bankg2 imcWrCasRank5Bankg3 imcWrCasRank6Bank0 imcWrCasRank6Bank1 imcWrCasRank6Bank2
    imcWrCasRank6Bank3 imcWrCasRank6Bank4 imcWrCasRank6Bank5 imcWrCasRank6Bank6 imcWrCasRank6Bank7
    imcWrCasRank6Bank8 imcWrCasRank6Bank9 imcWrCasRank6Bank10 imcWrCasRank6Bank11 imcWrCasRank6Bank12
    imcWrCasRank6Bank13 imcWrCasRank6Bank14 imcWrCasRank6Bank15 imcWrCasRank6Allbanks imcWrCasRank6Bankg0
    imcWrCasRank6Bankg1 imcWrCasRank6Bankg2 imcWrCasRank6Bankg3 imcWrCasRank7Bank0 imcWrCasRank7Bank1
    imcWrCasRank7Bank2 imcWrCasRank7Bank3 imcWrCasRank7Bank4 imcWrCasRank7Bank5 imcWrCasRank7Bank6
    imcWrCasRank7Bank7 imcWrCasRank7Bank8 imcWrCasRank7Bank9 imcWrCasRank7Bank10 imcWrCasRank7Bank11
    imcWrCasRank7Bank12 imcWrCasRank7Bank13 imcWrCasRank7Bank14 imcWrCasRank7Bank15 imcWrCasRank7Allbanks
    imcWrCasRank7Bankg0 imcWrCasRank7Bankg1 imcWrCasRank7Bankg2 imcWrCasRank7Bankg3 irpCacheTotalOccupancyAny
    irpCacheTotalOccupancySource irpClockticks irpCoherentOpsPcirdcur irpCoherentOpsCrd irpCoherentOpsDrd
    irpCoherentOpsRfo irpCoherentOpsPcitom irpCoherentOpsPcidcahint irpCoherentOpsWbmtoi irpCoherentOpsClflush
    irpMisc0FastReq irpMisc0FastRej irpMisc02ndRdInsert irpMisc02ndWrInsert irpMisc02ndAtomicInsert irpMisc0FastXfer
    irpMisc0PfAckHint irpMisc0PfTimeout irpMisc1SlowI irpMisc1SlowS irpMisc1SlowE irpMisc1SlowM irpMisc1LostFwd
    irpMisc1SecRcvdInvld irpMisc1SecRcvdVld irpMisc1DataThrottle irpRxRAkInserts irpRxRBlDrsCyclesFull
    irpRxRBlDrsInserts irpRxRBlDrsOccupancy irpRxRBlNcbCyclesFull irpRxRBlNcbInserts irpRxRBlNcbOccupancy
    irpRxRBlNcsCyclesFull irpRxRBlNcsInserts irpRxRBlNcsOccupancy irpSnoopRespMiss irpSnoopRespHitI
    irpSnoopRespHitEs irpSnoopRespHitM irpSnoopRespSnpcode irpSnoopRespSnpdata irpSnoopRespSnpinv
    irpTransactionsReads irpTransactionsWrites irpTransactionsRdPref irpTransactionsWrPref irpTransactionsAtomic
    irpTransactionsOther irpTransactionsOrderingq irpTxRAdStallCreditCycles irpTxRBlStallCreditCycles
    irpTxRDataInsertsNcb irpTxRDataInsertsNcs irpTxRRequestOccupancy pcuClockticks pcuCore0TransitionCycles
    pcuCore10TransitionCycles pcuCore11TransitionCycles pcuCore12TransitionCycles pcuCore13TransitionCycles
    pcuCore14TransitionCycles pcuCore15TransitionCycles pcuCore16TransitionCycles pcuCore17TransitionCycles
    pcuCore1TransitionCycles pcuCore2TransitionCycles pcuCore3TransitionCycles pcuCore4TransitionCycles
    pcuCore5TransitionCycles pcuCore6TransitionCycles pcuCore7TransitionCycles pcuCore8TransitionCycles
    pcuCore9TransitionCycles pcuDemotionsCore0 pcuDemotionsCore1 pcuDemotionsCore10 pcuDemotionsCore11
    pcuDemotionsCore12 pcuDemotionsCore13 pcuDemotionsCore14 pcuDemotionsCore15 pcuDemotionsCore16
    pcuDemotionsCore17 pcuDemotionsCore2 pcuDemotionsCore3 pcuDemotionsCore4 pcuDemotionsCore5 pcuDemotionsCore6
    pcuDemotionsCore7 pcuDemotionsCore8 pcuDemotionsCore9 pcuFreqBand0Cycles pcuFreqBand1Cycles pcuFreqBand2Cycles
    pcuFreqBand3Cycles pcuFreqMaxLimitThermalCycles pcuFreqMaxOsCycles pcuFreqMaxPowerCycles pcuFreqMinIoPCycles
    pcuFreqTransCycles pcuMemoryPhaseSheddingCycles pcuPkgResidencyC0Cycles pcuPkgResidencyC1eCycles
    pcuPkgResidencyC2eCycles pcuPkgResidencyC3Cycles pcuPkgResidencyC6Cycles pcuPkgResidencyC7Cycles
    pcuPowerStateOccupancyCoresC0 pcuPowerStateOccupancyCoresC3 pcuPowerStateOccupancyCoresC6
    pcuProchotExternalCycles pcuProchotInternalCycles pcuTotalTransitionCycles pcuUfsTransitionsRingGv
    pcuVrHotCycles qpiClockticks qpiCtoCount qpiDirect2coreSuccessRbtHit qpiDirect2coreFailureCredits
    qpiDirect2coreFailureRbtHit qpiDirect2coreFailureCreditsRbt qpiDirect2coreFailureMiss
    qpiDirect2coreFailureCreditsMiss qpiDirect2coreFailureRbtMiss qpiDirect2coreFailureCreditsRbtMiss
    qpiL1PowerCycles qpiRxL0PPowerCycles qpiRxL0PowerCycles qpiRxLBypassed qpiRxLCreditsConsumedVn0Drs
    qpiRxLCreditsConsumedVn0Ncb qpiRxLCreditsConsumedVn0Ncs qpiRxLCreditsConsumedVn0Hom qpiRxLCreditsConsumedVn0Snp
    qpiRxLCreditsConsumedVn0Ndr qpiRxLCreditsConsumedVn1Drs qpiRxLCreditsConsumedVn1Ncb qpiRxLCreditsConsumedVn1Ncs
    qpiRxLCreditsConsumedVn1Hom qpiRxLCreditsConsumedVn1Snp qpiRxLCreditsConsumedVn1Ndr qpiRxLCreditsConsumedVna
    qpiRxLCyclesNe qpiRxLFlitsG1Snp qpiRxLFlitsG1HomReq qpiRxLFlitsG1HomNonreq qpiRxLFlitsG1Hom qpiRxLFlitsG1DrsData
    qpiRxLFlitsG1DrsNondata qpiRxLFlitsG1Drs qpiRxLFlitsG2NdrAd qpiRxLFlitsG2NdrAk qpiRxLFlitsG2NcbData
    qpiRxLFlitsG2NcbNondata qpiRxLFlitsG2Ncb qpiRxLFlitsG2Ncs qpiRxLInserts qpiRxLInsertsDrsVn0 qpiRxLInsertsDrsVn1
    qpiRxLInsertsHomVn0 qpiRxLInsertsHomVn1 qpiRxLInsertsNcbVn0 qpiRxLInsertsNcbVn1 qpiRxLInsertsNcsVn0
    qpiRxLInsertsNcsVn1 qpiRxLInsertsNdrVn0 qpiRxLInsertsNdrVn1 qpiRxLInsertsSnpVn0 qpiRxLInsertsSnpVn1
    qpiRxLOccupancy qpiRxLOccupancyDrsVn0 qpiRxLOccupancyDrsVn1 qpiRxLOccupancyHomVn0 qpiRxLOccupancyHomVn1
    qpiRxLOccupancyNcbVn0 qpiRxLOccupancyNcbVn1 qpiRxLOccupancyNcsVn0 qpiRxLOccupancyNcsVn1 qpiRxLOccupancyNdrVn0
    qpiRxLOccupancyNdrVn1 qpiRxLOccupancySnpVn0 qpiRxLOccupancySnpVn1 qpiTxL0PPowerCycles qpiTxL0PowerCycles
    qpiTxLBypassed qpiTxLCyclesNe qpiTxLFlitsG0Data qpiTxLFlitsG0NonData qpiTxLFlitsG1Snp qpiTxLFlitsG1HomReq
    qpiTxLFlitsG1HomNonreq qpiTxLFlitsG1Hom qpiTxLFlitsG1DrsData qpiTxLFlitsG1DrsNondata qpiTxLFlitsG1Drs
    qpiTxLFlitsG2NdrAd qpiTxLFlitsG2NdrAk qpiTxLFlitsG2NcbData qpiTxLFlitsG2NcbNondata qpiTxLFlitsG2Ncb
    qpiTxLFlitsG2Ncs qpiTxLInserts qpiTxLOccupancy qpiTxRAdHomCreditAcquiredVn0 qpiTxRAdHomCreditAcquiredVn1
    qpiTxRAdHomCreditOccupancyVn0 qpiTxRAdHomCreditOccupancyVn1 qpiTxRAdNdrCreditAcquiredVn0
    qpiTxRAdNdrCreditAcquiredVn1 qpiTxRAdNdrCreditOccupancyVn0 qpiTxRAdNdrCreditOccupancyVn1
    qpiTxRAdSnpCreditAcquiredVn0 qpiTxRAdSnpCreditAcquiredVn1 qpiTxRAdSnpCreditOccupancyVn0
    qpiTxRAdSnpCreditOccupancyVn1 qpiTxRAkNdrCreditAcquired qpiTxRAkNdrCreditOccupancy qpiTxRBlDrsCreditAcquiredVn0
    qpiTxRBlDrsCreditAcquiredVn1 qpiTxRBlDrsCreditAcquiredVnShr qpiTxRBlDrsCreditOccupancyVn0
    qpiTxRBlDrsCreditOccupancyVn1 qpiTxRBlDrsCreditOccupancyVnShr qpiTxRBlNcbCreditAcquiredVn0
    qpiTxRBlNcbCreditAcquiredVn1 qpiTxRBlNcbCreditOccupancyVn0 qpiTxRBlNcbCreditOccupancyVn1
    qpiTxRBlNcsCreditAcquiredVn0 qpiTxRBlNcsCreditAcquiredVn1 qpiTxRBlNcsCreditOccupancyVn0
    qpiTxRBlNcsCreditOccupancyVn1 qpiVnaCreditReturns qpiVnaCreditReturnOccupancy r2PCIeClockticks
    r2PCIeIioCreditPrqQpi0 r2PCIeIioCreditPrqQpi1 r2PCIeIioCreditIsochQpi0 r2PCIeIioCreditIsochQpi1
    r2PCIeRingAdUsedCwEven r2PCIeRingAdUsedCwOdd r2PCIeRingAdUsedCw r2PCIeRingAdUsedCcwEven r2PCIeRingAdUsedCcwOdd
    r2PCIeRingAdUsedCcw r2PCIeRingAkBouncesUp r2PCIeRingAkBouncesDn r2PCIeRingAkUsedCwEven r2PCIeRingAkUsedCwOdd
    r2PCIeRingAkUsedCw r2PCIeRingAkUsedCcwEven r2PCIeRingAkUsedCcwOdd r2PCIeRingAkUsedCcw r2PCIeRingBlUsedCwEven
    r2PCIeRingBlUsedCwOdd r2PCIeRingBlUsedCw r2PCIeRingBlUsedCcwEven r2PCIeRingBlUsedCcwOdd r2PCIeRingBlUsedCcw
    r2PCIeRingIvUsedCw r2PCIeRingIvUsedCcw r2PCIeRingIvUsedAny r2PCIeRxRCyclesNeNcb r2PCIeRxRCyclesNeNcs
    r2PCIeRxRInsertsNcb r2PCIeRxRInsertsNcs r2PCIeRxROccupancyDrs r2PCIeSbo0CreditsAcquiredAd
    r2PCIeSbo0CreditsAcquiredBl r2PCIeStallNoSboCreditSbo0Ad r2PCIeStallNoSboCreditSbo1Ad
    r2PCIeStallNoSboCreditSbo0Bl r2PCIeStallNoSboCreditSbo1Bl r2PCIeTxRNackCwDnAd r2PCIeTxRNackCwDnBl
    r2PCIeTxRNackCwDnAk r2PCIeTxRNackCwUpAd r2PCIeTxRNackCwUpBl r2PCIeTxRNackCwUpAk r3qpiClockticks
    r3qpiCHiAdCreditsEmptyCbo8 r3qpiCHiAdCreditsEmptyCb09 r3qpiCHiAdCreditsEmptyCbo10 r3qpiCHiAdCreditsEmptyCb011
    r3qpiCHiAdCreditsEmptyCbo12 r3qpiCHiAdCreditsEmptyCbo13 r3qpiCHiAdCreditsEmptyCbo1416
    r3qpiCHiAdCreditsEmptyCbo1517 r3qpiCLoAdCreditsEmptyCbo0 r3qpiCLoAdCreditsEmptyCbo1 r3qpiCLoAdCreditsEmptyCbo2
    r3qpiCLoAdCreditsEmptyCbo3 r3qpiCLoAdCreditsEmptyCb04 r3qpiCLoAdCreditsEmptyCb05 r3qpiCLoAdCreditsEmptyCb06
    r3qpiCLoAdCreditsEmptyCb07 r3qpiHaR2BlCreditsEmptyHa0 r3qpiHaR2BlCreditsEmptyHa1 r3qpiHaR2BlCreditsEmptyR2Ncb
    r3qpiHaR2BlCreditsEmptyR2Ncs r3qpiQpi0AdCreditsEmptyVna r3qpiQpi0AdCreditsEmptyVn0Hom
    r3qpiQpi0AdCreditsEmptyVn0Snp r3qpiQpi0AdCreditsEmptyVn0Ndr r3qpiQpi0AdCreditsEmptyVn1Hom
    r3qpiQpi0AdCreditsEmptyVn1Snp r3qpiQpi0AdCreditsEmptyVn1Ndr r3qpiQpi0BlCreditsEmptyVna
    r3qpiQpi0BlCreditsEmptyVn1Hom r3qpiQpi0BlCreditsEmptyVn1Snp r3qpiQpi0BlCreditsEmptyVn1Ndr
    r3qpiQpi1AdCreditsEmptyVna r3qpiQpi1AdCreditsEmptyVn1Hom r3qpiQpi1AdCreditsEmptyVn1Snp
    r3qpiQpi1AdCreditsEmptyVn1Ndr r3qpiQpi1BlCreditsEmptyVna r3qpiQpi1BlCreditsEmptyVn0Hom
    r3qpiQpi1BlCreditsEmptyVn0Snp r3qpiQpi1BlCreditsEmptyVn0Ndr r3qpiQpi1BlCreditsEmptyVn1Hom
    r3qpiQpi1BlCreditsEmptyVn1Snp r3qpiQpi1BlCreditsEmptyVn1Ndr r3qpiRingAdUsedCwEven r3qpiRingAdUsedCwOdd
    r3qpiRingAdUsedCw r3qpiRingAdUsedCcwEven r3qpiRingAdUsedCcwOdd r3qpiRingAdUsedCcw r3qpiRingAkUsedCwEven
    r3qpiRingAkUsedCwOdd r3qpiRingAkUsedCw r3qpiRingAkUsedCcwEven r3qpiRingAkUsedCcwOdd r3qpiRingAkUsedCcw
    r3qpiRingBlUsedCwEven r3qpiRingBlUsedCwOdd r3qpiRingBlUsedCw r3qpiRingBlUsedCcwEven r3qpiRingBlUsedCcwOdd
    r3qpiRingBlUsedCcw r3qpiRingIvUsedCw r3qpiRingIvUsedAny r3qpiRingSinkStarvedAk r3qpiRxRCyclesNeHom
    r3qpiRxRCyclesNeSnp r3qpiRxRCyclesNeNdr r3qpiRxRCyclesNeVn1Hom r3qpiRxRCyclesNeVn1Snp r3qpiRxRCyclesNeVn1Ndr
    r3qpiRxRCyclesNeVn1Drs r3qpiRxRCyclesNeVn1Ncb r3qpiRxRCyclesNeVn1Ncs r3qpiRxRInsertsHom r3qpiRxRInsertsSnp
    r3qpiRxRInsertsNdr r3qpiRxRInsertsDrs r3qpiRxRInsertsNcb r3qpiRxRInsertsNcs r3qpiRxRInsertsVn1Hom
    r3qpiRxRInsertsVn1Snp r3qpiRxRInsertsVn1Ndr r3qpiRxRInsertsVn1Drs r3qpiRxRInsertsVn1Ncb r3qpiRxRInsertsVn1Ncs
    r3qpiRxROccupancyVn1Hom r3qpiRxROccupancyVn1Snp r3qpiRxROccupancyVn1Ndr r3qpiRxROccupancyVn1Drs
    r3qpiRxROccupancyVn1Ncb r3qpiRxROccupancyVn1Ncs r3qpiSbo0CreditsAcquiredAd r3qpiSbo0CreditsAcquiredBl
    r3qpiSbo1CreditsAcquiredAd r3qpiSbo1CreditsAcquiredBl r3qpiStallNoSboCreditSbo0Ad r3qpiStallNoSboCreditSbo1Ad
    r3qpiStallNoSboCreditSbo0Bl r3qpiStallNoSboCreditSbo1Bl r3qpiTxRNackDnAd r3qpiTxRNackDnBl r3qpiTxRNackDnAk
    r3qpiTxRNackUpAd r3qpiTxRNackUpBl r3qpiTxRNackUpAk r3qpiVn0CreditsRejectHom r3qpiVn0CreditsRejectSnp
    r3qpiVn0CreditsRejectNdr r3qpiVn0CreditsRejectDrs r3qpiVn0CreditsRejectNcb r3qpiVn0CreditsRejectNcs
    r3qpiVn0CreditsUsedHom r3qpiVn0CreditsUsedSnp r3qpiVn0CreditsUsedNdr r3qpiVn0CreditsUsedDrs
    r3qpiVn0CreditsUsedNcb r3qpiVn0CreditsUsedNcs r3qpiVn1CreditsRejectHom r3qpiVn1CreditsRejectSnp
    r3qpiVn1CreditsRejectNdr r3qpiVn1CreditsRejectDrs r3qpiVn1CreditsRejectNcb r3qpiVn1CreditsRejectNcs
    r3qpiVn1CreditsUsedHom r3qpiVn1CreditsUsedSnp r3qpiVn1CreditsUsedNdr r3qpiVn1CreditsUsedDrs
    r3qpiVn1CreditsUsedNcb r3qpiVn1CreditsUsedNcs r3qpiVnaCreditsAcquiredAd r3qpiVnaCreditsAcquiredBl
    r3qpiVnaCreditsRejectHom r3qpiVnaCreditsRejectSnp r3qpiVnaCreditsRejectNdr r3qpiVnaCreditsRejectDrs
    r3qpiVnaCreditsRejectNcb r3qpiVnaCreditsRejectNcs uMsrPmonGlobalCtl uMsrPmonGlobalStatus uMsrPmonGlobalConfig
    uMsrPmonUclkFixedCtl uMsrPmonUclkFixedCtr uMsrPmonCtl0 uMsrPmonCtl1 uMsrPmonBoxStatus uMsrPmonCtr0 uMsrPmonCtr1
    c0MsrPmonBoxCtl c0MsrPmonCtl0 c0MsrPmonCtl1 c0MsrPmonCtl2 c0MsrPmonCtl3 c0MsrPmonBoxFilter0 c0MsrPmonBoxFilter1
    c0MsrPmonBoxStatus c0MsrPmonCtr0 c0MsrPmonCtr1 c0MsrPmonCtr2 c0MsrPmonCtr3 c1MsrPmonBoxCtl c1MsrPmonCtl0
    c1MsrPmonCtl1 c1MsrPmonCtl2 c1MsrPmonCtl3 c1MsrPmonBoxFilter0 c1MsrPmonBoxFilter1 c1MsrPmonBoxStatus
    c1MsrPmonCtr0 c1MsrPmonCtr1 c1MsrPmonCtr2 c1MsrPmonCtr3 c2MsrPmonBoxCtl c2MsrPmonCtl0 c2MsrPmonCtl1
    c2MsrPmonCtl2 c2MsrPmonCtl3 c2MsrPmonBoxFilter0 c2MsrPmonBoxFilter1 c2MsrPmonBoxStatus c2MsrPmonCtr0
    c2MsrPmonCtr1 c2MsrPmonCtr2 c2MsrPmonCtr3 c3MsrPmonBoxCtl c3MsrPmonCtl0 c3MsrPmonCtl1 c3MsrPmonCtl2
    c3MsrPmonCtl3 c3MsrPmonBoxFilter0 c3MsrPmonBoxFilter1 c3MsrPmonBoxStatus c3MsrPmonCtr0 c3MsrPmonCtr1
    c3MsrPmonCtr2 c3MsrPmonCtr3 c4MsrPmonBoxCtl c4MsrPmonCtl0 c4MsrPmonCtl1 c4MsrPmonCtl2 c4MsrPmonCtl3
    c4MsrPmonBoxFilter0 c4MsrPmonBoxFilter1 c4MsrPmonBoxStatus c4MsrPmonCtr0 c4MsrPmonCtr1 c4MsrPmonCtr2
    c4MsrPmonCtr3 c5MsrPmonBoxCtl c5MsrPmonCtl0 c5MsrPmonCtl1 c5MsrPmonCtl2 c5MsrPmonCtl3 c5MsrPmonBoxFilter0
    c5MsrPmonBoxFilter1 c5MsrPmonBoxStatus c5MsrPmonCtr0 c5MsrPmonCtr1 c5MsrPmonCtr2 c5MsrPmonCtr3 c6MsrPmonBoxCtl
    c6MsrPmonCtl0 c6MsrPmonCtl1 c6MsrPmonCtl2 c6MsrPmonCtl3 c6MsrPmonBoxFilter0 c6MsrPmonBoxFilter1
    c6MsrPmonBoxStatus c6MsrPmonCtr0 c6MsrPmonCtr1 c6MsrPmonCtr2 c6MsrPmonCtr3 c7MsrPmonBoxCtl c7MsrPmonCtl0
    c7MsrPmonCtl1 c7MsrPmonCtl2 c7MsrPmonCtl3 c7MsrPmonBoxFilter0 c7MsrPmonBoxFilter1 c7MsrPmonBoxStatus
    c7MsrPmonCtr0 c7MsrPmonCtr1 c7MsrPmonCtr2 c7MsrPmonCtr3 c8MsrPmonBoxCtl c8MsrPmonCtl0 c8MsrPmonCtl1
    c8MsrPmonCtl2 c8MsrPmonCtl3 c8MsrPmonBoxFilter0 c8MsrPmonBoxFilter1 c8MsrPmonBoxStatus c8MsrPmonCtr0
    c8MsrPmonCtr1 c8MsrPmonCtr2 c8MsrPmonCtr3 c9MsrPmonBoxCtl c9MsrPmonCtl0 c9MsrPmonCtl1 c9MsrPmonCtl2
    c9MsrPmonCtl3 c9MsrPmonBoxFilter0 c9MsrPmonBoxFilter1 c9MsrPmonBoxStatus c9MsrPmonCtr0 c9MsrPmonCtr1
    c9MsrPmonCtr2 c9MsrPmonCtr3 c10MsrPmonBoxCtl c10MsrPmonCtl0 c10MsrPmonCtl1 c10MsrPmonCtl2 c10MsrPmonCtl3
    c10MsrPmonBoxFilter0 c10MsrPmonBoxFilter1 c10MsrPmonBoxStatus c10MsrPmonCtr0 c10MsrPmonCtr1 c10MsrPmonCtr2
    c10MsrPmonCtr3 c11MsrPmonBoxCtl c11MsrPmonCtl0 c11MsrPmonCtl1 c11MsrPmonCtl2 c11MsrPmonCtl3 c11MsrPmonBoxFilter0
    c11MsrPmonBoxFilter1 c11MsrPmonBoxStatus c11MsrPmonCtr0 c11MsrPmonCtr1 c11MsrPmonCtr2 c11MsrPmonCtr3
    c12MsrPmonBoxCtl c12MsrPmonCtl0 c12MsrPmonCtl1 c12MsrPmonCtl2 c12MsrPmonCtl3 c12MsrPmonBoxFilter0
    c12MsrPmonBoxFilter1 c12MsrPmonBoxStatus c12MsrPmonCtr0 c12MsrPmonCtr1 c12MsrPmonCtr2 c12MsrPmonCtr3
    c13MsrPmonBoxCtl c13MsrPmonCtl0 c13MsrPmonCtl1 c13MsrPmonCtl2 c13MsrPmonCtl3 c13MsrPmonBoxFilter0
    c13MsrPmonBoxFilter1 c13MsrPmonBoxStatus c13MsrPmonCtr0 c13MsrPmonCtr1 c13MsrPmonCtr2 c13MsrPmonCtr3
    c14MsrPmonBoxCtl c14MsrPmonCtl0 c14MsrPmonCtl1 c14MsrPmonCtl2 c14MsrPmonCtl3 c14MsrPmonBoxFilter0
    c14MsrPmonBoxFilter1 c14MsrPmonBoxStatus c14MsrPmonCtr0 c14MsrPmonCtr1 c14MsrPmonCtr2 c14MsrPmonCtr3
    c15MsrPmonBoxCtl c15MsrPmonCtl0 c15MsrPmonCtl1 c15MsrPmonCtl2 c15MsrPmonCtl3 c15MsrPmonBoxFilter0
    c15MsrPmonBoxFilter1 c15MsrPmonBoxStatus c15MsrPmonCtr0 c15MsrPmonCtr1 c15MsrPmonCtr2 c15MsrPmonCtr3
    c16MsrPmonBoxCtl c16MsrPmonCtl0 c16MsrPmonCtl1 c16MsrPmonCtl2 c16MsrPmonCtl3 c16MsrPmonBoxFilter0
    c16MsrPmonBoxFilter1 c16MsrPmonBoxStatus c16MsrPmonCtr0 c16MsrPmonCtr1 c16MsrPmonCtr2 c16MsrPmonCtr3
    c17MsrPmonBoxCtl c17MsrPmonCtl0 c17MsrPmonCtl1 c17MsrPmonCtl2 c17MsrPmonCtl3 c17MsrPmonBoxFilter0
    c17MsrPmonBoxFilter1 c17MsrPmonBoxStatus c17MsrPmonCtr0 c17MsrPmonCtr1 c17MsrPmonCtr2 c17MsrPmonCtr3
    s0MsrPmonBoxCtl s0MsrPmonCtl0 s0MsrPmonCtl1 s0MsrPmonCtl2 s0MsrPmonCtl3 s0MsrPmonBoxStatus s0MsrPmonCtr0
    s0MsrPmonCtr1 s0MsrPmonCtr2 s0MsrPmonCtr3 s1MsrPmonBoxCtl s1MsrPmonCtl0 s1MsrPmonCtl1 s1MsrPmonCtl2
    s1MsrPmonCtl3 s1MsrPmonBoxStatus s1MsrPmonCtr0 s1MsrPmonCtr1 s1MsrPmonCtr2 s1MsrPmonCtr3 s2MsrPmonBoxCtl
    s2MsrPmonCtl0 s2MsrPmonCtl1 s2MsrPmonCtl2 s2MsrPmonCtl3 s2MsrPmonBoxStatus s2MsrPmonCtr0 s2MsrPmonCtr1
    s2MsrPmonCtr2 s2MsrPmonCtr3 s3MsrPmonBoxCtl s3MsrPmonCtl0 s3MsrPmonCtl1 s3MsrPmonCtl2 s3MsrPmonCtl3
    s3MsrPmonBoxStatus s3MsrPmonCtr0 s3MsrPmonCtr1 s3MsrPmonCtr2 s3MsrPmonCtr3 pcuMsrPmonBoxCtl pcuMsrPmonCtl0
    pcuMsrPmonCtl1 pcuMsrPmonCtl2 pcuMsrPmonCtl3 pcuMsrPmonBoxFilter pcuMsrPmonBoxStatus pcuMsrPmonCtr0
    pcuMsrPmonCtr1 pcuMsrPmonCtr2 pcuMsrPmonCtr3 pcuMsrCoreCc6Ctr pcuMsrCoreCc3Ctr pcuMsrCorePc2Ctr pcuMsrCorePc3Ctr
    ha0PciPmonBoxStatus ha0PciPmonBoxCtl ha0PciPmonCtl0 ha0PciPmonCtl1 ha0PciPmonCtl2 ha0PciPmonCtl3 ha0PciPmonCtr0
    ha0PciPmonCtr1 ha0PciPmonCtr2 ha0PciPmonCtr3 ha0PciPmonBoxOpcodematch ha0PciPmonBoxAddrmatch1
    ha0PciPmonBoxAddrmatch0 ha1PciPmonBoxStatus ha1PciPmonBoxCtl ha1PciPmonCtl0 ha1PciPmonCtl1 ha1PciPmonCtl2
    ha1PciPmonCtl3 ha1PciPmonCtr0 ha1PciPmonCtr1 ha1PciPmonCtr2 ha1PciPmonCtr3 ha1PciPmonBoxOpcodematch
    ha1PciPmonBoxAddrmatch1 ha1PciPmonBoxAddrmatch0 mc0Ch0PciPmonBoxStatus mc0Ch0PciPmonBoxCtl mc0Ch0PciPmonCtl0
    mc0Ch0PciPmonCtl1 mc0Ch0PciPmonCtl2 mc0Ch0PciPmonCtl3 mc0Ch0PciPmonCtr0 mc0Ch0PciPmonCtr1 mc0Ch0PciPmonCtr2
    mc0Ch0PciPmonCtr3 mc0Ch0PciPmonFixedCtl mc0Ch0PciPmonFixedCtr mc0Ch1PciPmonBoxStatus mc0Ch1PciPmonBoxCtl
    mc0Ch1PciPmonCtl0 mc0Ch1PciPmonCtl1 mc0Ch1PciPmonCtl2 mc0Ch1PciPmonCtl3 mc0Ch1PciPmonCtr0 mc0Ch1PciPmonCtr1
    mc0Ch1PciPmonCtr2 mc0Ch1PciPmonCtr3 mc0Ch1PciPmonFixedCtl mc0Ch1PciPmonFixedCtr mc0Ch2PciPmonBoxStatus
    mc0Ch2PciPmonBoxCtl mc0Ch2PciPmonCtl0 mc0Ch2PciPmonCtl1 mc0Ch2PciPmonCtl2 mc0Ch2PciPmonCtl3 mc0Ch2PciPmonCtr0
    mc0Ch2PciPmonCtr1 mc0Ch2PciPmonCtr2 mc0Ch2PciPmonCtr3 mc0Ch2PciPmonFixedCtl mc0Ch2PciPmonFixedCtr
    mc0Ch3PciPmonBoxStatus mc0Ch3PciPmonBoxCtl mc0Ch3PciPmonCtl0 mc0Ch3PciPmonCtl1 mc0Ch3PciPmonCtl2
    mc0Ch3PciPmonCtl3 mc0Ch3PciPmonCtr0 mc0Ch3PciPmonCtr1 mc0Ch3PciPmonCtr2 mc0Ch3PciPmonCtr3 mc0Ch3PciPmonFixedCtl
    mc0Ch3PciPmonFixedCtr mc1Ch0PciPmonBoxStatus mc1Ch0PciPmonBoxCtl mc1Ch0PciPmonCtl0 mc1Ch0PciPmonCtl1
    mc1Ch0PciPmonCtl2 mc1Ch0PciPmonCtl3 mc1Ch0PciPmonCtr0 mc1Ch0PciPmonCtr1 mc1Ch0PciPmonCtr2 mc1Ch0PciPmonCtr3
    mc1Ch0PciPmonFixedCtl mc1Ch0PciPmonFixedCtr mc1Ch1PciPmonBoxStatus mc1Ch1PciPmonBoxCtl mc1Ch1PciPmonCtl0
    mc1Ch1PciPmonCtl1 mc1Ch1PciPmonCtl2 mc1Ch1PciPmonCtl3 mc1Ch1PciPmonCtr0 mc1Ch1PciPmonCtr1 mc1Ch1PciPmonCtr2
    mc1Ch1PciPmonCtr3 mc1Ch1PciPmonFixedCtl mc1Ch1PciPmonFixedCtr mc1Ch2PciPmonBoxStatus mc1Ch2PciPmonBoxCtl
    mc1Ch2PciPmonCtl0 mc1Ch2PciPmonCtl1 mc1Ch2PciPmonCtl2 mc1Ch2PciPmonCtl3 mc1Ch2PciPmonCtr0 mc1Ch2PciPmonCtr1
    mc1Ch2PciPmonCtr2 mc1Ch2PciPmonCtr3 mc1Ch2PciPmonFixedCtl mc1Ch2PciPmonFixedCtr mc1Ch3PciPmonBoxStatus
    mc1Ch3PciPmonBoxCtl mc1Ch3PciPmonCtl0 mc1Ch3PciPmonCtl1 mc1Ch3PciPmonCtl2 mc1Ch3PciPmonCtl3 mc1Ch3PciPmonCtr0
    mc1Ch3PciPmonCtr1 mc1Ch3PciPmonCtr2 mc1Ch3PciPmonCtr3 mc1Ch3PciPmonFixedCtl mc1Ch3PciPmonFixedCtr
    irpPciPmonBoxStatus irpPciPmonBoxCtl irp0PciPmonCtl0 irp0PciPmonCtl1 irp1PciPmonCtl0 irp1PciPmonCtl1
    irp0PciPmonCtr0 irp0PciPmonCtr1 irp1PciPmonCtr0 irp1PciPmonCtr1 qP0PciPmonBoxStatus qP0PciPmonBoxCtl
    qP0PciPmonCtl0 qP0PciPmonCtl1 qP0PciPmonCtl2 qP0PciPmonCtl3 qP0PciPmonCtr0 qP0PciPmonCtr1 qP0PciPmonCtr2
    qP0PciPmonCtr3 qP0PciPmonLinkLlr qP0PciPmonLinkIdle qP0PciPmonRxPktMask1 qP0PciPmonRxPktMask0
    qP0PciPmonRxPktMatch1 qP0PciPmonRxPktMatch0 qP0PciPmonTxPktMask1 qP0PciPmonTxPktMask0 qP0PciPmonTxPktMatch1
    qP0PciPmonTxPktMatch0 qP1PciPmonBoxStatus qP1PciPmonBoxCtl qP1PciPmonCtl0 qP1PciPmonCtl1 qP1PciPmonCtl2
    qP1PciPmonCtl3 qP1PciPmonCtr0 qP1PciPmonCtr1 qP1PciPmonCtr2 qP1PciPmonCtr3 qP1PciPmonLinkLlr qP1PciPmonLinkIdle
    qP1PciPmonRxPktMask1 qP1PciPmonRxPktMask0 qP1PciPmonRxPktMatch1 qP1PciPmonRxPktMatch0 qP1PciPmonTxPktMask1
    qP1PciPmonTxPktMask0 qP1PciPmonTxPktMatch1 qP1PciPmonTxPktMatch0 qP2PciPmonBoxStatus qP2PciPmonBoxCtl
    qP2PciPmonCtl0 qP2PciPmonCtl1 qP2PciPmonCtl2 qP2PciPmonCtl3 qP2PciPmonCtr0 qP2PciPmonCtr1 qP2PciPmonCtr2
    qP2PciPmonCtr3 qP2PciPmonLinkLlr qP2PciPmonLinkIdle qP2PciPmonRxPktMask1 qP2PciPmonRxPktMask0
    qP2PciPmonRxPktMatch1 qP2PciPmonRxPktMatch0 qP2PciPmonTxPktMask1 qP2PciPmonTxPktMask0 qP2PciPmonTxPktMatch1
    qP2PciPmonTxPktMatch0 qpi0RateStatus qpi1RateStatus r2PciPmonBoxStatus r2PciPmonBoxCtl r2PciPmonCtl0
    r2PciPmonCtl1 r2PciPmonCtl2 r2PciPmonCtl3 r2PciPmonCtr0 r2PciPmonCtr1 r2PciPmonCtr2 r2PciPmonCtr3
    r3L0PciPmonBoxStatus r3L0PciPmonBoxCtl r3L0PciPmonCtl0 r3L0PciPmonCtl1 r3L0PciPmonCtl2 r3L0PciPmonCtr0
    r3L0PciPmonCtr1 r3L0PciPmonCtr2 r3L1PciPmonBoxStatus r3L1PciPmonBoxCtl r3L1PciPmonCtl0 r3L1PciPmonCtl1
    r3L1PciPmonCtl2 r3L1PciPmonCtr0 r3L1PciPmonCtr1 r3L1PciPmonCtr2 r3L2PciPmonBoxStatus r3L2PciPmonBoxCtl
    r3L2PciPmonCtl0 r3L2PciPmonCtl1 r3L2PciPmonCtl2 r3L2PciPmonCtr0 r3L2PciPmonCtr1 r3L2PciPmonCtr2

/-! ### Control words there and back -/

/-- The event table of a kind holds the row an event instruction names (30_encoding.md R172 to R181). -/
theorem eventTable_of_view {i : Instr} {k : Kind} {e : Event} {base : BitVec 8} {o : EvOp k}
    (h : i.view = .event k e base o) :
    (∃ rows mk, (eventTable k).find? (fun p => p.1.code == e.code && p.1.ext == e.ext) = some (e, rows) ∧
      rows.lookup base = some mk ∧ mk o = i) ∧
    (k = .pcu → base &&& 0x3F = 0) ∧ (e.ext = true → k.hasExt = true) := by
  have hi := instr_coded i
  simp only [Laws.Coded.Statement, h] at hi
  obtain ⟨hrow, hbits⟩ := hi
  exact ⟨hrow, by simpa [or_iff_not_imp_left] using hbits⟩

theorem encode_event {i : Instr} {k : Kind} {e : Event} {base : BitVec 8} {o : EvOp k} (h : i.view = .event k e base o)
    (alt : Bool) : encode alt i = bytesOf (o.ctl.word k e.code e.ext base).pack := by
  simp only [encode, encodeWords, h, List.flatMap_cons, List.flatMap_nil, List.append_nil]

theorem slot_event {i : Instr} {k : Kind} {e : Event} {base : BitVec 8} {o : EvOp k} (h : i.view = .event k e base o)
    (alt : Bool) : i.slot alt = .counter k o.inst o.ctr := by
  simp only [Instr.slot, h]

/-- A well-formed event instruction is decoded from its control word. -/
theorem decodeCtl_word {i : Instr} {k : Kind} {e : Event} {base : BitVec 8} {o : EvOp k} (h : i.view = .event k e base o)
    (hwf : i.wf = true) : decodeCtl k o.inst o.ctr (o.ctl.word k e.code e.ext base).pack = .ok i := by
  obtain ⟨⟨rows, mk, hfind, hlookup, hmk⟩, hbase, hext⟩ := eventTable_of_view h
  have hchecks : (o.ctl.fits k = true ∧ o.ctl.threshOk k e.code = true) ∧ base &&& o.ctl.extra = 0 ∧
      e.pick (base ||| o.ctl.extra) = some base := by simpa [Instr.wf, h, Event.names] using hwf
  obtain ⟨⟨hfits, -⟩, hdisj, hpick⟩ := hchecks
  rw [decodeCtl_eq_ok_iff, CtlWord.unpack_pack]
  refine ⟨CtlOps.word_stored hfits hbase hext, e, rows, base, mk, hfind, hpick, hlookup, ?_⟩
  rw [CtlOps.ops_word hfits hdisj]
  exact hmk

/-- Settles O2: the fields of a stored word and the row it names make up the word again. -/
theorem controlWordDecodesOneWay : Obligations.ControlWordDecodesOneWay := by
  intro alt k n c w i hi
  rw [decode_counter_bytesOf, decodeCtl_eq_ok_iff] at hi
  obtain ⟨hs, e, rows, base, mk, hfind, hpick, hlookup, rfl⟩ := hi
  have hview := eventTable_faithful k _ (List.mem_of_find?_eq_some hfind) _ (mem_of_lookup hlookup)
    ⟨n, c, (CtlWord.unpack w).ops k base⟩
  have hkey : e.code = (CtlWord.unpack w).code ∧ e.ext = (CtlWord.unpack w).b21 := by
    simpa using List.find?_some hfind
  obtain ⟨hcode, hext⟩ := hkey
  refine ⟨?_, slot_event hview alt⟩
  rw [encode_event hview, hcode, hext, CtlWord.word_ops hs (Event.base_and_of_pick hpick), CtlWord.pack_unpack]

/-! ### Accesses there and back -/

/-- A command the encoder writes is an MSR access below 0x8000 and a PCICFG access from there on. -/
theorem decodeCommand_opWord (alt write : Bool) (addr lo hi : Word) :
    decodeCommand alt addr (opWord write) lo hi =
      if 0x8000 ≤ addr.toNat then
        if addr.extractLsb' 28 4 ≠ 0 then .error .malformed
        else decodeCfg alt (addr.extractLsb' 20 8) (addr.extractLsb' 0 20).toNat write lo
      else decodeMsr addr.toNat write (hi ++ lo) := by
  cases write <;> simp [decodeCommand, opWord]

theorem decodeCommand_msr {addr : Nat} (haddr : addr < 0x8000) (alt write : Bool) (lo hi : Word) :
    decodeCommand alt (BitVec.ofNat 32 addr) (opWord write) lo hi = decodeMsr addr write (hi ++ lo) := by
  have hnat : (BitVec.ofNat 32 addr).toNat = addr := Nat.mod_eq_of_lt (by omega)
  rw [decodeCommand_opWord, hnat, if_neg (by omega)]

theorem cfgAddress_fields (bus : BitVec 8) (addr : BitVec 20) :
    ((0 : BitVec 4) ++ bus ++ addr).extractLsb' 28 4 = 0 ∧ ((0 : BitVec 4) ++ bus ++ addr).extractLsb' 20 8 = bus ∧
      ((0 : BitVec 4) ++ bus ++ addr).extractLsb' 0 20 = addr := by
  have cut (w : Word) : w.extractLsb' 28 4 ++ w.extractLsb' 20 8 ++ w.extractLsb' 0 20 = w := by
    rw [append_fields w 20 8 4, append_fields w 0 20 _]
    exact BitVec.extractLsb'_eq_self
  obtain ⟨h, haddr⟩ := append_inj (cut ((0 : BitVec 4) ++ bus ++ addr))
  obtain ⟨htop, hbus⟩ := append_inj h
  exact ⟨htop, hbus, haddr⟩

theorem decodeCommand_cfg {addr : Nat} (hlow : 0x8000 ≤ addr) (hhigh : addr < 2 ^ 20) (alt write : Bool)
    (bus : BitVec 8) (v hi : Word) :
    decodeCommand alt ((0 : BitVec 4) ++ bus ++ BitVec.ofNat 20 addr) (opWord write) v hi =
      decodeCfg alt bus addr write v := by
  obtain ⟨htop, hbus, haddr⟩ := cfgAddress_fields bus (BitVec.ofNat 20 addr)
  have hnat : (BitVec.ofNat 20 addr).toNat = addr := Nat.mod_eq_of_lt hhigh
  have hge : 0x8000 ≤ ((0 : BitVec 4) ++ bus ++ BitVec.ofNat 20 addr : Word).toNat := by
    have := congrArg BitVec.toNat haddr
    rw [BitVec.extractLsb'_toNat, hnat] at this
    omega
  rw [decodeCommand_opWord, if_pos hge, if_neg (not_not.mpr htop), hbus, haddr, hnat]

theorem msrTable_of_view {i : Instr} {addr : Nat} {r : Reg} {a : MsrAccess} (h : i.view = .msr addr r a) :
    (∃ mk, msrTable.lookup addr = some mk ∧ mk a = i) ∧ addr < 0x8000 := by
  have hi := instr_coded i
  simpa only [Laws.Coded.Statement, h, decide_eq_true_eq] using hi

theorem join_halves (v : Quad) : v.extractLsb' 32 32 ++ v.extractLsb' 0 32 = v := by
  rw [append_fields v 0 32 32]
  exact BitVec.extractLsb'_eq_self

theorem decode_encode_msr {i : Instr} {addr : Nat} {r : Reg} {a : MsrAccess} (h : i.view = .msr addr r a) (alt : Bool) :
    decode (.host alt) (encode alt i) = .ok i := by
  obtain ⟨⟨mk, hlookup, rfl⟩, haddr⟩ := msrTable_of_view h
  simp only [encode, encodeWords, h]
  cases a with
  | read =>
    rw [decode_host_bytesOf, decodeCommand_msr haddr]
    simp [decodeMsr, hlookup]
  | write v =>
    rw [decode_host_bytesOf, decodeCommand_msr haddr, join_halves]
    simp [decodeMsr, hlookup]

theorem cfgTable_of_view {i : Instr} {addr : Nat} {r : Reg} {a : CfgAccess} (h : i.view = .cfg addr r a) :
    (∃ mk, cfgTable.lookup addr = some (r.twoDwords, mk) ∧ mk a = i) ∧
      Laws.Coded.cfgAddressOk addr r.twoDwords = true := by
  have hi := instr_coded i
  simpa only [Laws.Coded.Statement, h] using hi

/-- IRP_CTR_OFFSETS moves three counters of the IRP, and no other register. -/
theorem irpAlt_cases (addr : Nat) : irpAlt addr = addr ∨
    (addr = 0x2E0A8 ∨ addr = 0x2E0B0 ∨ addr = 0x2E0B8) ∧ irpAlt addr = addr + 8 := by
  unfold irpAlt
  split <;> simp

/-- The 20 address bits of the dword an access names, under either setting of IRP_CTR_OFFSETS. -/
def dwordAddress (alt high : Bool) (addr : Nat) : Nat := (if alt then irpAlt addr else addr) + if high then 4 else 0

/-- No function register stands where the alternative setting puts a counter of the IRP. -/
theorem functionTable_lookup_irpAlt {addr d : Nat} (hd : d = 0 ∨ d = 4) (h : functionTable.lookup (addr + d) = none) :
    functionTable.lookup (irpAlt addr + d) = none := by
  rcases irpAlt_cases addr with he | ⟨ha, -⟩
  · rwa [he]
  · rcases ha with rfl | rfl | rfl <;> rcases hd with rfl | rfl <;> rfl

/-- What the table's check of an address says: the dword is aligned, above the MSR numbers and in 20 bits, it and the
upper dword of a counter are no other register, and irpUnalt undoes irpAlt there. -/
theorem cfgAddressOk_iff {addr : Nat} {two : Bool} : Laws.Coded.cfgAddressOk addr two = true ↔
    addr % 4 = 0 ∧ 0x8000 ≤ addr ∧ addr + 12 < 2 ^ 20 ∧ functionTable.lookup addr = none ∧
    irpUnalt (irpAlt addr) = some addr ∧
    (two = true → functionTable.lookup (addr + 4) = none ∧ cfgTable.lookup (addr + 4) = none ∧
      irpUnalt (irpAlt addr + 4) = some (addr + 4)) := by
  simp [Laws.Coded.cfgAddressOk, and_assoc, or_iff_not_imp_left]

section
variable {addr : Nat} {two high : Bool}

/-- What the table says of an address holds of the dword the encoder writes: it is aligned, in the 20 bits above the MSR
numbers, no function register, and under the setting in force it is the default address of that dword. -/
theorem dwordAddress_spec (alt : Bool) (hok : Laws.Coded.cfgAddressOk addr two = true)
    (hhigh : high = true → two = true) :
    dwordAddress alt high addr % 4 = 0 ∧ 0x8000 ≤ dwordAddress alt high addr ∧ dwordAddress alt high addr < 2 ^ 20 ∧
      functionTable.lookup (dwordAddress alt high addr) = none ∧
      (if alt then irpUnalt (dwordAddress alt high addr) else some (dwordAddress alt high addr)) =
        some (addr + if high then 4 else 0) := by
  obtain ⟨halign, hlow, hbound, hfn, halt, htwo⟩ := cfgAddressOk_iff.mp hok
  have hmoved := irpAlt_cases addr
  cases high with
  | false =>
    cases alt with
    | false => exact ⟨halign, hlow, Nat.lt_of_add_right_lt hbound, hfn, rfl⟩
    | true =>
      have hat : dwordAddress true false addr = irpAlt addr := rfl
      exact ⟨by omega, by omega, by omega, functionTable_lookup_irpAlt (.inl rfl) hfn, halt⟩
  | true =>
    obtain ⟨hfn4, -, halt4⟩ := htwo (hhigh rfl)
    cases alt with
    | false =>
      have hat : dwordAddress false true addr = addr + 4 := rfl
      exact ⟨by omega, by omega, by omega, hfn4, rfl⟩
    | true =>
      have hat : dwordAddress true true addr = irpAlt addr + 4 := rfl
      exact ⟨by omega, by omega, by omega, functionTable_lookup_irpAlt (.inr rfl) hfn4, halt4⟩

theorem decodeCfg_dwordAddress {mk : CfgAccess → Instr} (hlookup : cfgTable.lookup addr = some (two, mk))
    (hok : Laws.Coded.cfgAddressOk addr two = true) (hhigh : high = true → two = true) (alt write : Bool)
    (bus : BitVec 8) (v : Word) :
    decodeCfg alt bus (dwordAddress alt high addr) write v =
      .ok (mk ⟨bus, high, if write then .write v else .read⟩) := by
  obtain ⟨halign, -, -, hfn, hdefault⟩ := dwordAddress_spec alt hok hhigh
  obtain ⟨-, -, -, -, -, htwo⟩ := cfgAddressOk_iff.mp hok
  simp only [decodeCfg, halign, hfn, hdefault]
  cases high with
  | false => simp [hlookup]
  | true =>
    obtain rfl := hhigh rfl
    obtain ⟨-, hnone, -⟩ := htwo rfl
    simp [hnone, hlookup]

end

theorem encode_cfg_read {i : Instr} {addr : Nat} {r : Reg} {bus : BitVec 8} {high : Bool}
    (h : i.view = .cfg addr r ⟨bus, high, .read⟩) (alt : Bool) : encode alt i =
      [(0 : BitVec 4) ++ bus ++ BitVec.ofNat 20 (dwordAddress alt high addr), opWord false, 0, 0].flatMap bytesOf := by
  simp only [encode, encodeWords, h]
  rfl

theorem encode_cfg_write {i : Instr} {addr : Nat} {r : Reg} {bus : BitVec 8} {high : Bool} {v : Word}
    (h : i.view = .cfg addr r ⟨bus, high, .write v⟩) (alt : Bool) : encode alt i =
      [(0 : BitVec 4) ++ bus ++ BitVec.ofNat 20 (dwordAddress alt high addr), opWord true, v, 0].flatMap bytesOf := by
  simp only [encode, encodeWords, h]
  rfl

theorem decode_encode_cfg {i : Instr} {addr : Nat} {r : Reg} {a : CfgAccess} (h : i.view = .cfg addr r a)
    (hwf : i.wf = true) (alt : Bool) : decode (.host alt) (encode alt i) = .ok i := by
  obtain ⟨⟨mk, hlookup, rfl⟩, hok⟩ := cfgTable_of_view h
  obtain ⟨bus, high, op⟩ := a
  have hhigh : high = true → r.twoDwords = true := by simpa [Instr.wf, h, or_iff_not_imp_right] using hwf
  obtain ⟨-, hlow, hbound, -, -⟩ := dwordAddress_spec alt hok hhigh
  cases op with
  | read =>
    rw [encode_cfg_read h, decode_host_bytesOf, decodeCommand_cfg hlow hbound, decodeCfg_dwordAddress hlookup hok hhigh]
    rfl
  | write v =>
    rw [encode_cfg_write h, decode_host_bytesOf, decodeCommand_cfg hlow hbound, decodeCfg_dwordAddress hlookup hok hhigh]
    rfl

/-- Settles O1: a control word is unpacked into the fields it was packed from, an access's dwords into its address,
operation and value, and the tables hold every instruction where its view says. -/
theorem decodeEncode : Obligations.DecodeEncode := by
  intro alt i hwf
  cases h : i.view with
  | event k e base o =>
    rw [encode_event h, slot_event h, decode_counter_bytesOf, decodeCtl_word h hwf]
  | msr addr r a => simpa only [Instr.slot, h] using decode_encode_msr h alt
  | cfg addr r a => simpa only [Instr.slot, h] using decode_encode_cfg h hwf alt

/-- Settles O3: the decoder evaluates each word to the row it names. -/
theorem decodesPrintedWords : Obligations.DecodesPrintedWords :=
  ⟨rfl, rfl, rfl, rfl, rfl, rfl⟩

end Sys2Proof
end

section
/-! What a counter adds without a threshold: the event rows by name, and control words that name no row. -/

namespace Sys2Proof.Machine

/-! ### The addend without a threshold -/

theorem spread_fst_le (b : BoxId) (j : Fin 4) (a : Nat) (s : State) : (spread b j a s).1 ≤ a := by
  unfold spread
  split
  · next h =>
    have ha : 1 < a := by simp only [Bool.and_eq_true, decide_eq_true_eq] at h; exact h.2
    have hd := s.draw_fst_le (a - 1)
    dsimp only
    omega
  · exact le_rfl

/-- Only a CBo's counters 1 to 3 spread an increment (41_cbo.md R272). -/
theorem spread_eq {b : BoxId} {j : Fin 4} (h : b.kind ≠ .cbo ∨ j = 0) (a : Nat) (s : State) :
    spread b j a s = (a, s) := by
  unfold spread
  rcases h with h | rfl
  · simp [h]
  · simp

/-- With thresh = 0 the stages pass the raw increment on, through the CBo's spread. -/
theorem addend_of_thresh_zero {c : CtlOps} (hc : c.thresh = 0) (b : BoxId) (j : Fin 4) (code : BitVec 8) (raw : Nat)
    (s : State) : addend b j code c raw s = if occShaped b code then (raw, s) else spread b j raw s := by
  simp [addend, stageThresh, hc]

theorem addend_fst_le {c : CtlOps} (hc : c.thresh = 0) (b : BoxId) (j : Fin 4) (code : BitVec 8) (raw : Nat) (s : State) :
    (addend b j code c raw s).1 ≤ raw := by
  rw [addend_of_thresh_zero hc]
  split
  · exact le_rfl
  · exact spread_fst_le _ _ _ _

theorem addend_eq_raw {c : CtlOps} (hc : c.thresh = 0) {b : BoxId} {j : Fin 4} (h : b.kind ≠ .cbo ∨ j = 0)
    (code : BitVec 8) (raw : Nat) (s : State) : addend b j code c raw s = (raw, s) := by
  rw [addend_of_thresh_zero hc, spread_eq h, ite_self]

/-- A counter that counts adds what the stages make of its raw increment. -/
theorem countStep_adds {b : BoxId} {j : Fin 4} {c : CtlOps} {raw : State → Nat × State} {s : State}
    (h : Counting b j c.en s) (hraw : OnlyDraws s (raw s).2) (code : BitVec 8) :
    Adds b j (addend b j code c (raw s).1 (raw s).2).1 c.ovEn s (countStep b j code c raw s) := by
  rw [countStep_counting h]
  exact ((addend_latched _ _ _ _ _ _).after_draws hraw).addTo_adds _ _

/-! ### The event rows by name -/

/-- What an instruction's view says of it settles that it counts its row. -/
theorem countsRow_of_view {k : Kind} {mk : EvOp k → Instr} {e : Event} {base : BitVec 8}
    (h : ∀ o, (mk o).view = .event k e base o) : CountsRow k mk e base := by
  intro o s
  have hraw : ∀ t, OnlyDraws t (o.raw e base t).2 := fun t => rawIncrement_onlyDraws _ _ _ _ _ _
  refine ⟨_, exec_event (h o) s, countStep_frame _ _ _ _ _ _ hraw, fun hcount hthresh hexact => ?_⟩
  have hexact' : o.box.kind ≠ .cbo ∨ o.unit = 0 := by rwa [EvOp.box, Kind.box_kind]
  simpa only [addend_eq_raw hthresh hexact'] using countStep_adds hcount (hraw s) e.code

theorem countsRow_of_faithful {k : Kind} {t : EventTable k} (h : TableFaithful k t) :
    ∀ p ∈ t, ∀ r ∈ p.2, CountsRow k r.2 p.1 r.1 := fun p hp r hr => countsRow_of_view (h p hp r hr)

/-- Settles O15: the lists are the decoder's tables, whose every entry builds the instruction of its own row. -/
theorem ringAndPlatformRowsComplete : Obligations.RingAndPlatformRowsComplete :=
  ⟨countsRow_of_faithful uboxEvents_faithful, countsRow_of_faithful sboEvents_faithful,
    countsRow_of_faithful haEvents_faithful, countsRow_of_faithful irpEvents_faithful,
    countsRow_of_faithful pcuEvents_faithful, countsRow_of_faithful r2Events_faithful,
    countsRow_of_faithful r3Events_faithful⟩

/-- Settles O16: the lists are the decoder's tables, whose every entry builds the instruction of its own row. -/
theorem cacheMemoryAndLinkRowsComplete : Obligations.CacheMemoryAndLinkRowsComplete :=
  ⟨countsRow_of_faithful cboEvents_faithful, countsRow_of_faithful imcEvents_faithful,
    countsRow_of_faithful qpiEvents_faithful⟩

/-! ### Control words that name no row -/

theorem stepCounter_of_error {r : Run} {i : Fin r.box.kind.ctrs} {s : State} {e : Reject}
    (h : decode (.counter r.box.kind r.box.inst i) (bytesOf (s.unit r.box (r.box.kind.unit i)).ctl) = .error e) :
    stepCounter r i s = .next (advance r (countUnlisted r.box (r.box.kind.unit i) s)) := by
  simp only [stepCounter, h]

theorem countsNothing_ubox {code u : BitVec 8} {s : State} : countsNothing .ubox code u s = true ↔ code = 0x00 := by
  simp [countsNothing]

theorem countsNothing_irp {code u : BitVec 8} {s : State} : countsNothing .irp code u s = true ↔
    code = 0x16 ∧ u &&& 0x3F = 0 ∨ code = 0x17 ∧ (u &&& 0x0F = 0 ∨ u &&& 0x70 = 0) := by
  simp [countsNothing]

theorem countsNothing_cbo {n : Fin 18} {code u : BitVec 8} {s : State} : countsNothing (.cbo n) code u s = true ↔
    code = 0x34 ∧ (u.getLsbD 0 = false ∨ s.cboFilter0[n].extractLsb' 17 7 = 0) := by
  simp [countsNothing]

theorem rawUnlisted_eq_zero {b : BoxId} {code u : BitVec 8} {s : State} (h : countsNothing b code u s = true) :
    (rawUnlisted b code u s).1 = 0 := by
  simp [rawUnlisted, h]

/-- A unit mask whose bits of one field are 0 has none of a mask within that field. -/
theorem umask_and_eq_zero {w : Word} {m : BitVec 8} {lo len : Nat}
    (hm : ∀ n < 8, m.getLsbD n = true → lo ≤ n ∧ n < lo + len) (h : w.extractLsb' (8 + lo) len = 0) :
    w.extractLsb' 8 8 &&& m = 0 := by
  refine BitVec.eq_of_getLsbD_eq fun n hn => ?_
  by_cases hb : m.getLsbD n = true
  · obtain ⟨hlo, hhi⟩ := hm n hn hb
    have hbit := congrArg (BitVec.getLsbD · (n - lo)) h
    have hat : 8 + lo + (n - lo) = 8 + n := by omega
    have hlt : n - lo < len := by omega
    have hw : w.getLsbD (8 + n) = false := by simpa [hat, hlt] using hbit
    simp [hn, hw]
  · simp [BitVec.getLsbD_and, hb]

theorem countUnlisted_adds {b : BoxId} {j : Fin 4} {s : State} (hcount : Counting b j ((s.unit b j).ctl.getLsbD 22) s)
    (hthresh : threshField b.kind (s.unit b j).ctl = 0) :
    ∃ a, Adds b j a ((s.unit b j).ctl.getLsbD 20) s (countUnlisted b j s) ∧
      a ≤ (rawUnlisted b ((s.unit b j).ctl.extractLsb' 0 8) ((s.unit b j).ctl.extractLsb' 8 8) s).1 :=
  have hc : ((CtlWord.unpack (s.unit b j).ctl).ops b.kind 0).thresh = 0 := (CtlWord.thresh_unpack _ _).trans hthresh
  ⟨_, countStep_adds hcount (rawUnlisted_onlyDraws _ _ _ _) _, addend_fst_le hc _ _ _ _ _⟩

/-- Settles O6: such a word's raw increment is a draw up to RAW_BOUND, or 0 where the boxes' rules say so. -/
theorem unlistedWordCounts : Obligations.UnlistedWordCounts := by
  intro s r h e hrun j w hdecode hcount hthresh
  obtain ⟨a, hadds, hle⟩ := countUnlisted_adds hcount hthresh
  have nothing : countsNothing r.box (w.extractLsb' 0 8) (w.extractLsb' 8 8) s = true → a = 0 := fun hz =>
    Nat.le_zero.mp (rawUnlisted_eq_zero hz ▸ hle)
  have hstep : step s = .next (advance r (countUnlisted r.box j s)) := by
    simp only [step, hrun, dif_pos h]
    exact stepCounter_of_error hdecode
  refine ⟨_, a, hstep, hadds, hle.trans (rawUnlisted_le _ _ _ _), fun hb hcode => nothing ?_,
    fun hb hirp => nothing ?_, fun n hb hcode hcbo => nothing ?_⟩
  · rw [hb]
    exact countsNothing_ubox.mpr hcode
  · rw [hb]
    rcases hirp with ⟨hcode, hu⟩ | ⟨hcode, hu | hu⟩
    · exact countsNothing_irp.mpr (.inl ⟨hcode, umask_and_eq_zero (lo := 0) (by decide) hu⟩)
    · exact countsNothing_irp.mpr (.inr ⟨hcode, .inl (umask_and_eq_zero (lo := 0) (by decide) hu)⟩)
    · exact countsNothing_irp.mpr (.inr ⟨hcode, .inr (umask_and_eq_zero (lo := 4) (by decide) hu)⟩)
  · rw [hb]
    exact countsNothing_cbo.mpr ⟨hcode, by simpa using hcbo⟩

end Sys2Proof.Machine
end

section
/-! The count step of an event row: its frame, the addend without and with a threshold, edge detect, and a counter that
does not count. -/

namespace Sys2Proof.Machine

/-! ### The count step of an event row -/

theorem raw_onlyDraws {k : Kind} (o : EvOp k) (e : Event) (base : BitVec 8) (s : State) :
    OnlyDraws s (o.raw e base s).2 := rawIncrement_onlyDraws _ _ _ _ _ _

/-- Settles O7: an event row is one count step, which has this frame in every state. -/
theorem eventCompletesInFrame : Obligations.EventCompletesInFrame := by
  intro i k e base o s hv
  exact ⟨_, exec_event hv s, countStep_frame _ _ _ _ _ _ (raw_onlyDraws o e base)⟩

/-- Settles O13: a counter that does not count loses its edge detector's sample and nothing else. -/
theorem eventIdle : Obligations.EventIdle := by
  intro i k e base o s hv hidle
  rw [exec_event hv s, countStep_notCounting hidle]
  rfl

section
variable {i : Instr} {k : Kind} {e : Event} {base : BitVec 8} {o : EvOp k} {s : State}

/-- What a counting counter does for an event row: it adds what the stages make of the raw increment. -/
theorem exec_event_adds (hv : i.view = .event k e base o) (hcount : Counting o.box o.unit o.ctl.en s) :
    ∃ t, exec i s = .next t ∧
      Adds o.box o.unit (addend o.box o.unit e.code o.ctl (o.raw e base s).1 (o.raw e base s).2).1 o.ctl.ovEn s t :=
  ⟨_, exec_event hv s, countStep_adds hcount (raw_onlyDraws o e base s) e.code⟩

end

/-- Settles O8: with thresh = 0 the stages pass the raw increment on. -/
theorem eventAccumulates : Obligations.EventAccumulates := by
  intro i k e base o s hv hcount hthresh hexact
  have hexact' : o.box.kind ≠ .cbo ∨ o.unit = 0 := by rwa [EvOp.box, Kind.box_kind]
  simpa only [addend_eq_raw hthresh hexact'] using exec_event_adds hv hcount

/-! ### The threshold stage (40_global_ubox.md R213) -/

/-- The comparison of the raw increment with the threshold. -/
def comparison (thresh : BitVec 8) (invert : Bool) (raw : Nat) : Bool :=
  if invert then decide (raw < thresh.toNat) else decide (thresh.toNat ≤ raw)

theorem stageThresh_of_ne_zero {thresh : BitVec 8} (h : thresh ≠ 0) (invert : Bool) (raw : Nat) :
    stageThresh thresh invert raw = .inr (comparison thresh invert raw) := by
  rw [stageThresh, if_neg h]
  cases invert <;> rfl

theorem comparison_toNat (thresh : BitVec 8) (invert : Bool) (raw : Nat) :
    (comparison thresh invert raw).toNat =
      if invert then (if raw < thresh.toNat then 1 else 0) else (if thresh.toNat ≤ raw then 1 else 0) := by
  unfold comparison
  split <;> split <;> simp [*]

/-- The occupancy events shape by the control word's own fields in the PCU alone (46_pcu.md R655). -/
theorem occShaped_box {k : Kind} (o : EvOp k) (code : BitVec 8) :
    occShaped o.box code = (k == .pcu && code.getLsbD 7) := by
  rw [occShaped, EvOp.box, Kind.box_kind]

section
variable {c : CtlOps} {b : BoxId} {code : BitVec 8}

/-- Without edge detect the addend is the comparison's bit. -/
theorem addend_of_no_edge (hthresh : c.thresh ≠ 0)
    (hedge : (if occShaped b code then c.occEdge else c.edge) = false) (j : Fin 4) (raw : Nat) (s : State) :
    addend b j code c raw s =
      ((comparison c.thresh (if occShaped b code then c.occInvert else c.invert) raw).toNat, s) := by
  unfold addend
  split at hedge <;> simp_all [stageThresh_of_ne_zero]

/-- With edge detect, outside the occupancy events, the addend is the edge of the comparison's bit. -/
theorem addend_of_edge (hthresh : c.thresh ≠ 0) (hocc : occShaped b code = false) (hedge : c.edge = true) (j : Fin 4)
    (raw : Nat) (s : State) : addend b j code c raw s = stageEdge b j (comparison c.thresh c.invert raw) s := by
  simp [addend, hocc, stageThresh_of_ne_zero hthresh, hedge]

end

/-- Settles O10: the addend is the comparison's bit, under the invert bit the event uses. -/
theorem eventThreshold : Obligations.EventThreshold := by
  intro i k e base o s hv hcount hthresh occ raw hedge
  have hocc : occShaped o.box e.code = occ := occShaped_box o e.code
  have hadds := exec_event_adds hv hcount
  rw [addend_of_no_edge hthresh (by rwa [hocc]), comparison_toNat, hocc] at hadds
  exact hadds

/-! ### The edge stage (40_global_ubox.md R214) -/

section
variable {b : BoxId} {j : Fin 4} {s : State}

/-- With a previous sample the edge stage gives 1 on a rise of the comparison and 0 otherwise. -/
theorem stageEdge_fst_some {p : Bool} (h : (s.unit b j).prev = some p) (c : Bool) :
    (stageEdge b j c s).1 = if p = false ∧ c = true then 1 else 0 := by
  simp [stageEdge, h, risingEdge]

/-- Without one it may give 1 for a true comparison only. -/
theorem stageEdge_fst_none (h : (s.unit b j).prev = none) (c : Bool) :
    (stageEdge b j c s).1 ≤ 1 ∧ (c = false → (stageEdge b j c s).1 = 0) := by
  rw [stageEdge, h]
  cases c with
  | false => simp [risingEdge]
  | true => exact ⟨State.draw_fst_le _ 1, fun h => nomatch h⟩

/-- The edge stage keeps the new sample and moves no other latch. -/
theorem stageEdge_unit (c : Bool) : (stageEdge b j c s).2.unit b j = { s.unit b j with prev := some c } := by
  rw [stageEdge, (risingEdge_onlyDraws _ _ _).unit_eq, State.unit_setUnit_self]

/-- The sum changes its own counter's value and none of that counter's latches. -/
theorem addTo_unit (ovEn : Bool) (a : Nat) :
    ∃ ctr, (addTo b j ovEn a s).unit b j = { s.unit b j with ctr := ctr } := by
  obtain ⟨ov, sent, draws, h, -⟩ := addTo_spec b j ovEn a s
  rw [h, State.unit_setDraws, State.unit_setPend, State.unit_setBlk_self, Blk.unit_setOv, Blk.unit_setUnit_self]
  exact ⟨_, rfl⟩

end

/-- Settles O11: the addend is the edge stage's, and the sum leaves the sample that stage keeps. -/
theorem eventEdgeDetect : Obligations.EventEdgeDetect := by
  intro i k e base o s hv hcount hthresh hocc hedge raw c
  have hdraws := raw_onlyDraws o e base s
  generalize hafter : (o.raw e base s).2 = after at hdraws
  have hunit : after.unit o.box o.unit = s.unit o.box o.unit := hdraws.unit_eq _ _
  have hstage : addend o.box o.unit e.code o.ctl raw after = stageEdge o.box o.unit c after :=
    addend_of_edge hthresh ((occShaped_box o e.code).trans hocc) hedge _ _ _
  have hadds := countStep_adds hcount (raw_onlyDraws o e base s) e.code
  have hstep := exec_event hv s
  rw [countStep_counting hcount, hafter, hstage] at hadds hstep
  obtain ⟨ctr, hlatch⟩ := addTo_unit (b := o.box) (j := o.unit) (s := (stageEdge o.box o.unit c after).2) o.ctl.ovEn
    (stageEdge o.box o.unit c after).1
  rw [stageEdge_unit, hunit] at hlatch
  exact ⟨_, _, hstep, hadds, by rw [hlatch], by rw [hlatch],
    fun p hp => stageEdge_fst_some (hunit ▸ hp) c, fun hnone => stageEdge_fst_none (hunit ▸ hnone) c⟩

end Sys2Proof.Machine
end

section
/-! The host's writes: when one passes the checks, and what it leaves of the block or register it reaches. -/

namespace Sys2Proof.Machine

/-! ### The checks of a write (60_exceptions.md R1002) -/

/-- A write passes when every one of its checks does. -/
theorem writeCheck_eq_none_iff {p : Params} {r : Reg} {v : Quad} : writeCheck p r v = none ↔
    (r.wide = false → v.extractLsb' 32 32 = 0) ∧ r.readOnly = false ∧ r.reservedBad p (v.extractLsb' 0 32) = false ∧
      r.threshZero (v.extractLsb' 0 32) = false ∧ r.bothActions (v.extractLsb' 0 32) = false := by
  unfold writeCheck
  grind

/-- A write that passes the checks stores. -/
theorem exec_accepted {i : Instr} {r : Reg} {v : Quad} {s : State} (h : WritesReg i r v s)
    (hc : writeCheck s.cfg r v = none) : exec i s = .next (storeReg r v s) := by
  rw [exec_writesReg h, writeReg, hc]

theorem exec_refused {i : Instr} {r : Reg} {v : Quad} {s : State} {why : Refusal} (h : WritesReg i r v s)
    (hc : writeCheck s.cfg r v = some why) : exec i s = .refused why := by
  rw [exec_writesReg h, writeReg, hc]

theorem writeCheck_high {p : Params} {r : Reg} {v : Quad} (hr : r.wide = false) (h : v.extractLsb' 32 32 ≠ 0) :
    writeCheck p r v = some .reservedNonzero :=
  if_pos (by simpa [hr] using h)

theorem reservedBad_of_mustZero {p : Params} {r : Reg} {w : Word} (h : w &&& r.mustZero ≠ 0) :
    r.reservedBad p w = true :=
  (Bool.or_eq_true _ _).mpr (.inl (bne_iff_ne.mpr h))

/-- The register's content is checked for must-be-0 bits alone. -/
def Reg.plain (r : Reg) : Bool :=
  match r with
  | .globalCtl | .fixedCtl _ | .ctl _ _ | .boxCtl _ | .pcuFree _ | .qpiRate _ => false
  | _ => true

theorem writeCheck_plain {p : Params} {r : Reg} {v : Quad} (hr : r.plain = true)
    (hhigh : r.wide = false → v.extractLsb' 32 32 = 0) (hzero : v.extractLsb' 0 32 &&& r.mustZero = 0) :
    writeCheck p r v = none := by
  refine writeCheck_eq_none_iff.mpr ⟨hhigh, ?_⟩
  cases r <;> simp_all [Reg.plain, Reg.readOnly, Reg.reservedBad, Reg.threshZero, Reg.bothActions]

/-! ### Masks -/

theorem and_eq_zero_iff_bits {n : Nat} {x m : BitVec n} :
    x &&& m = 0 ↔ ∀ k < n, m.getLsbD k = true → x.getLsbD k = false := by
  constructor
  · intro h k _ hm
    have hbit := congrArg (BitVec.getLsbD · k) h
    simpa [hm] using hbit
  · intro h
    refine BitVec.eq_of_getLsbD_eq fun k hk => ?_
    by_cases hm : m.getLsbD k = true
    · simp [h k hk hm]
    · simp [hm]

/-- A value without the bits outside a mask is its own masked value. -/
theorem and_mask_of_clear {n : Nat} {x m : BitVec n} (h : x &&& ~~~m = 0) : x &&& m = x := by
  calc x &&& m = x &&& m ||| x &&& ~~~m := by rw [h]; exact BitVec.or_zero.symm
    _ = x := by rw [← BitVec.and_or_distrib_left]; simp

/-! ### A counter control register (40_global_ubox.md R208) -/

theorem threshZero_ctl_iff {b : BoxId} {j : Fin 4} {w : Word} :
    Reg.threshZero (.ctl b j) w = false ↔ ThreshAllows b.kind w := by
  simp only [Reg.threshZero, ThreshAllows]
  grind

theorem writeCheck_ctl {p : Params} {b : BoxId} {j : Fin 4} {v : Quad} (hhigh : v.extractLsb' 32 32 = 0)
    (hzero : v.extractLsb' 0 32 &&& ctlMustZero b.kind = 0) (hthresh : ThreshAllows b.kind (v.extractLsb' 0 32)) :
    writeCheck p (.ctl b j) v = none :=
  writeCheck_eq_none_iff.mpr ⟨fun _ => hhigh, rfl, by simp [Reg.reservedBad, Reg.mustZero, hzero],
    threshZero_ctl_iff.mpr hthresh, rfl⟩

/-- Two words agree for the double write when they differ at most in bit 22 (10_state.md R95). -/
theorem masked_xor_eq_zero_iff {old w : Word} :
    (old ^^^ w) &&& 0xFFBFFFFF = 0 ↔ ∀ n < 32, n ≠ 22 → old.getLsbD n = w.getLsbD n := by
  have mask : ∀ n < 32, (0xFFBFFFFF : Word).getLsbD n = true ↔ n ≠ 22 := by decide
  rw [and_eq_zero_iff_bits]
  refine forall₂_congr fun n hn => ?_
  rw [mask n hn, BitVec.getLsbD_xor, bne_eq_false_iff_eq]

theorem CtrUnit.latchWrite_settled_iff {b : BoxId} (hb : b.doubleWrite = true) (w : Word) (u : CtrUnit) :
    (u.latchWrite b w).settled = true ↔ ∃ old, u.dw = some old ∧ ∀ n < 32, n ≠ 22 → old.getLsbD n = w.getLsbD n := by
  cases hdw : u.dw with
  | none => simp [latchWrite_settled_none hb w hdw]
  | some old => simp [latchWrite_settled_some hb w hdw, ← masked_xor_eq_zero_iff]

/-- A box whose control registers take hold at once has no double-write latch. -/
theorem CtrUnit.latchWrite_single {b : BoxId} (hb : b.doubleWrite = false) (w : Word) (u : CtrUnit) :
    u.latchWrite b w = u := by
  simp [latchWrite, hb]

/-- The double-write latch is apart from what a control register and its counter hold. -/
theorem CtrUnit.latchWrite_same (b : BoxId) (w : Word) (u : CtrUnit) :
    (u.latchWrite b w).ctr = u.ctr ∧ (u.latchWrite b w).qrst = u.qrst := by
  unfold latchWrite
  split <;> exact ⟨rfl, rfl⟩

/-- Breaking the pending pairs of a box changes its counters' latches alone. -/
theorem breakPairs_same (b : BoxId) (x : Blk) :
    (breakPairs b x).ov = x.ov ∧ (breakPairs b x).bfrz = x.bfrz ∧ (breakPairs b x).gseen = x.gseen ∧
      (breakPairs b x).fixCtl = x.fixCtl ∧ (breakPairs b x).fixCtr = x.fixCtr := by
  unfold breakPairs
  split <;> exact ⟨rfl, rfl, rfl, rfl, rfl⟩

/-- What a write of a control register does to its block: the written counter latches and stores, every other loses its
pending pair, and nothing else changes. -/
theorem writeCtl_spec (b : BoxId) (j : Fin 4) (w : Word) (s : State) : ∃ x, writeCtl b j w s = s.setBlk b x ∧
    x.unit j = ((s.unit b j).latchWrite b w).storeCtl b w ∧ (∀ m, m ≠ j → x.unit m = (s.unit b m).pairBroken b) ∧
    x.ov = (s.blk b).ov ∧ x.bfrz = (s.blk b).bfrz ∧ x.gseen = (s.blk b).gseen ∧ x.fixCtl = (s.blk b).fixCtl ∧
      x.fixCtr = (s.blk b).fixCtr := by
  refine ⟨_, rfl, Blk.unit_setUnit_self _ _ _, fun m hm => ?_, by simpa using breakPairs_same b (s.blk b)⟩
  rw [Blk.unit_setUnit_ne _ _ _ _ hm]
  exact unit_breakPairs b _ m

/-- Settles O32: by the spec of the write, with the double-write latch apart from the stored fields. -/
theorem controlWrite : Obligations.ControlWrite := by
  intro i b j v s hw w hhigh hzero hthresh
  obtain ⟨x, hx, hself, hother, hrest⟩ := writeCtl_spec b j w s
  obtain ⟨hctr, hqrst⟩ := CtrUnit.latchWrite_same b w (s.unit b j)
  refine ⟨x, (exec_accepted hw (writeCheck_ctl hhigh hzero hthresh)).trans (congrArg _ hx), ?_⟩
  rw [hself]
  refine ⟨rfl, ?_, rfl, rfl, ?_, fun hb => ?_, fun hb => ?_, hother, hrest⟩
  · simp only [CtrUnit.storeCtl, hctr]
  · simp only [CtrUnit.storeCtl, hqrst, beq_iff_eq]
  · rw [CtrUnit.latchWrite_single hb]
    exact ⟨rfl, rfl⟩
  · exact ⟨CtrUnit.latchWrite_dw hb w _, CtrUnit.latchWrite_settled_iff hb w _⟩

/-! ### A box control register (40_global_ubox.md R209) -/

theorem writeCheck_boxCtl {p : Params} {b : BoxId} {v : Quad} (hhigh : v.extractLsb' 32 32 = 0)
    (hone : hasRsvOne b.kind = true → (v.extractLsb' 0 32).extractLsb' 16 2 = p.boxCtlOne) :
    writeCheck p (.boxCtl b) v = none := by
  refine writeCheck_eq_none_iff.mpr ⟨fun _ => hhigh, rfl, ?_, rfl, rfl⟩
  have hzero : v.extractLsb' 0 32 &&& Reg.mustZero (.boxCtl b) = 0 := BitVec.and_zero
  by_cases hk : hasRsvOne b.kind = true
  · simp only [Reg.reservedBad, hzero, hk, hone hk]
    simp
  · simp only [Reg.reservedBad, hzero, hk]
    simp

/-- What a write of a box control register leaves of a counter: rst_ctrl, then rst_ctrs, on the counter as the broken
pair leaves it. -/
def CtrUnit.boxReset (b : BoxId) (w : Word) (u : CtrUnit) : CtrUnit :=
  let v := if w.getLsbD 0 then (u.pairBroken b).clearCtl else u.pairBroken b
  if w.getLsbD 1 then { v with ctr := 0 } else v

/-- What a write of a box control register does to its block: every counter by the two reset bits, the freeze latch by
bit 8, and nothing to the rest. -/
theorem writeBoxCtl_spec (b : BoxId) (w : Word) (s : State) : ∃ x, writeBoxCtl b w s = s.setBlk b x ∧
    (∀ m, x.unit m = (s.unit b m).boxReset b w) ∧ x.bfrz = w.getLsbD 8 ∧ x.ov = (s.blk b).ov ∧
      x.gseen = (s.blk b).gseen ∧ x.fixCtl = (s.blk b).fixCtl ∧ x.fixCtr = (s.blk b).fixCtr := by
  obtain ⟨hov, -, hgseen, hfixCtl, hfixCtr⟩ := breakPairs_same b (s.blk b)
  refine ⟨_, rfl, fun m => ?_, rfl, ?_⟩
  · rw [Blk.unit_with_bfrz]
    simp only [CtrUnit.boxReset, State.unit, ← unit_breakPairs]
    split <;> split <;> simp
  · dsimp only
    split <;> split <;> simp [hov, hgseen, hfixCtl, hfixCtr]

/-- What the two reset bits leave of a counter, field by field. -/
theorem CtrUnit.boxReset_spec (b : BoxId) (w : Word) (u : CtrUnit) :
    (u.boxReset b w).ctr = (if w.getLsbD 1 then 0 else u.ctr) ∧
      (w.getLsbD 0 = true → (u.boxReset b w).ctl = 0 ∧ (u.boxReset b w).prev = none ∧ (u.boxReset b w).oprev = none ∧
        (u.boxReset b w).dw = none ∧ (u.boxReset b w).settled = true ∧ (u.boxReset b w).qrst = false) ∧
      (w.getLsbD 0 = false → (u.boxReset b w).ctl = u.ctl ∧ (u.boxReset b w).prev = u.prev ∧
        (u.boxReset b w).oprev = u.oprev ∧ (u.boxReset b w).dw = (u.pairBroken b).dw ∧
        (u.boxReset b w).settled = u.settled ∧ (u.boxReset b w).qrst = u.qrst) := by
  unfold boxReset
  cases h0 : w.getLsbD 0 <;> cases h1 : w.getLsbD 1 <;> simp [clearCtl, pairBroken]

/-- Settles O33: the reset bits act on every counter of the block. -/
theorem boxControlWrite : Obligations.BoxControlWrite := by
  intro i b v s hw w hhigh hone
  obtain ⟨x, hx, hunit, hbfrz, hrest⟩ := writeBoxCtl_spec b w s
  refine ⟨x, (exec_accepted hw (writeCheck_boxCtl hhigh hone)).trans (congrArg _ hx), hbfrz, fun m => ?_, hrest⟩
  rw [hunit]
  exact CtrUnit.boxReset_spec b w (s.unit b m)

/-! ### A box status register (40_global_ubox.md R210) -/

/-- Settles O34: the status loses the bits written 1 that the box has. -/
theorem boxStatusWrite : Obligations.BoxStatusWrite := by
  intro i b v s hw w hhigh hzero
  obtain ⟨hov, hrest⟩ := breakPairs_same b (s.blk b)
  have hcheck : writeCheck s.cfg (.boxStatus b) v = none :=
    writeCheck_plain rfl (fun _ => hhigh) hzero
  refine ⟨_, exec_accepted hw hcheck, fun n hn => ?_, fun m => ?_, hrest⟩
  · have hlow : n < 32 := by omega
    simp [hov, w, hn, hlow]
  · rw [Blk.unit_with_ov]
    exact unit_breakPairs b _ m

/-! ### Counters (40_global_ubox.md R203, R211) -/

theorem writeCheck_ctr (p : Params) (b : BoxId) (j : Fin 4) (v : Quad) : writeCheck p (.ctr b j) v = none :=
  writeCheck_plain rfl (fun h => nomatch h) BitVec.and_zero

/-- Settles O35: the written counter takes the value's low bits, and every pending pair of the box is broken. -/
theorem counterWrite : Obligations.CounterWrite := by
  intro i b j v s hw
  refine ⟨_, exec_accepted hw (writeCheck_ctr _ _ _ _), ?_, fun m hm => ?_, ?_⟩
  · rw [Blk.unit_setUnit_self, unit_breakPairs]
    rfl
  · rw [Blk.unit_setUnit_ne _ _ _ _ hm]
    exact unit_breakPairs b _ m
  · simpa using breakPairs_same b (s.blk b)

theorem cutCounter_toNat {width : Nat} (h : width ≤ 48) (v : Quad) : (cutCounter width v).toNat = v.toNat % 2 ^ width := by
  rw [cutCounter, BitVec.toNat_ofNat]
  exact Nat.mod_eq_of_lt ((Nat.mod_lt _ (Nat.two_pow_pos _)).trans_le (Nat.pow_le_pow_right (by omega) h))

theorem unit_writeCtr_ctr (b : BoxId) (j : Fin 4) (v : Quad) (s : State) :
    ((writeCtr b j v s).unit b j).ctr = cutCounter (b.width s.cfg) v := by
  simp [writeCtr]

theorem append_words_toNat (x y : Word) : (x ++ y).toNat = x.toNat * 2 ^ 32 + y.toNat := by
  rw [BitVec.toNat_append, ← Nat.shiftLeft_add_eq_or_of_lt y.isLt, Nat.shiftLeft_eq]

/-- The value a dword write stores in a counter: the counter with that half replaced. -/
theorem mergeDword_ctr_toNat (b : BoxId) (j : Fin 4) (high : Bool) (w : Word) (s : State) :
    (mergeDword (.ctr b j) high w s).toNat =
      if high then w.toNat * 2 ^ 32 + (s.unit b j).ctr.toNat % 2 ^ 32
        else (s.unit b j).ctr.toNat / 2 ^ 32 * 2 ^ 32 + w.toNat := by
  have hctr := (s.unit b j).ctr.isLt
  cases high with
  | true =>
    simp only [mergeDword, Reg.twoDwords, if_true]
    rw [append_words_toNat]
    simp only [readReg, BitVec.extractLsb'_toNat, BitVec.toNat_setWidth, Nat.shiftRight_zero]
    omega
  | false =>
    simp only [mergeDword, Reg.twoDwords, if_true, Bool.false_eq_true, if_false]
    rw [append_words_toNat]
    simp only [readReg, BitVec.extractLsb'_toNat, BitVec.toNat_setWidth, Nat.shiftRight_eq_div_pow]
    omega

/-- Settles O36: the counter takes the merged value, cut to its width. -/
theorem counterDwordWrite : Obligations.CounterDwordWrite := by
  intro i addr b j high w s hv hp
  have hw : WritesReg i (.ctr b j) (mergeDword (.ctr b j) high w s) s := ⟨hp, .inr ⟨addr, _, w, hv, rfl, rfl, rfl⟩⟩
  refine ⟨_, exec_accepted hw (writeCheck_ctr _ _ _ _), ?_⟩
  rw [storeReg, unit_writeCtr_ctr, cutCounter_toNat (width_le b s.cfg), mergeDword_ctr_toNat]

/-! ### The fixed counters (40_global_ubox.md R208, R211; 44_imc.md R503) -/

theorem writeCheck_fixedCtl {p : Params} {b : BoxId} {v : Quad} (hhigh : v.extractLsb' 32 32 = 0)
    (hzero : (v.extractLsb' 0 32).getLsbD 21 = false)
    (hthresh : b.kind = .imc → (v.extractLsb' 0 32).getLsbD 23 = false) : writeCheck p (.fixedCtl b) v = none := by
  have mask : ∀ k < 32, (0x00200000 : Word).getLsbD k = true → k = 21 := by decide
  have hmask : v.extractLsb' 0 32 &&& Reg.mustZero (.fixedCtl b) = 0 :=
    and_eq_zero_iff_bits.mpr fun k hk hm => mask k hk hm ▸ hzero
  refine writeCheck_eq_none_iff.mpr ⟨fun _ => hhigh, rfl, by simp [Reg.reservedBad, hmask], ?_, rfl⟩
  cases b
  case imc n => exact hthresh rfl
  all_goals rfl

theorem cutCounter_48 (v : Quad) : cutCounter 48 v = v.extractLsb' 0 48 := by
  refine BitVec.eq_of_toNat_eq ?_
  rw [cutCounter_toNat le_rfl, BitVec.extractLsb'_toNat, Nat.shiftRight_zero]

/-- Settles O37: each write stores its own register of the block. -/
theorem fixedCounterWrites : Obligations.FixedCounterWrites := by
  intro i b v s w
  refine ⟨fun hw hhigh hzero hthresh => ?_, fun hw => ?_⟩
  · rw [exec_accepted hw (writeCheck_fixedCtl hhigh hzero hthresh)]
    simp only [storeReg, writeFixedCtl, Bool.and_eq_true, beq_iff_eq, w]
  · have hcheck : writeCheck s.cfg (.fixedCtr b) v = none :=
      writeCheck_plain rfl (fun h => nomatch h) BitVec.and_zero
    rw [exec_accepted hw hcheck, storeReg, writeFixedCtr, cutCounter_48]

/-! ### Filter, match, mask and QPI free-running registers (10_state.md R40 to R81) -/

/-- The must-be-0 bits of a match or mask register are those it does not store. -/
theorem qpiPkt_mustZero (p : Fin 3) (r : PktReg) : (Reg.qpiPkt p r).mustZero = ~~~r.stored := by
  cases r <;> rfl

/-- Settles O41: an accepted value has no must-be-0 bit, and its ignored bits are masked off. -/
theorem plainRegisterWrites : Obligations.PlainRegisterWrites := by
  intro i v s hhigh w
  have accepted {r : Reg} (hw : WritesReg i r v s) (hr : r.plain = true) (hzero : w &&& r.mustZero = 0) :
      exec i s = .next (storeReg r v s) :=
    exec_accepted hw (writeCheck_plain hr (fun _ => hhigh) hzero)
  refine ⟨fun n hw hzero => ?_, fun n hw hzero => ?_, fun n hw => ?_, fun n hw => ?_, fun n hw => ?_,
    fun p r hw hzero => ?_, fun p hw => ?_, fun p hw => ?_⟩
  · have hstored : w &&& 0x00FE003F = w := and_mask_of_clear hzero
    rw [accepted hw rfl hzero]
    simp only [storeReg, hstored, w]
  · have mask : ∀ k < 32, (0x20000000 : Word).getLsbD k = true → k = 29 := by decide
    exact accepted hw rfl (and_eq_zero_iff_bits.mpr fun k hk hm => mask k hk hm ▸ hzero)
  · exact accepted hw rfl BitVec.and_zero
  · exact accepted hw rfl BitVec.and_zero
  · exact accepted hw rfl BitVec.and_zero
  · have hstored : w &&& r.stored = w := and_mask_of_clear (qpiPkt_mustZero p r ▸ hzero)
    rw [accepted hw rfl hzero]
    simp only [storeReg, hstored, w]
  · exact accepted hw rfl BitVec.and_zero
  · exact accepted hw rfl BitVec.and_zero

/-! ### Addresses the part does not have (40_global_ubox.md R202, R207) -/

/-- Settles O45: the bus is checked first, then whether the part has the box. -/
theorem declinedAddresses : Obligations.DeclinedAddresses := by
  intro i addr r s
  refine ⟨fun a hv hp => ?_, fun a hv hbus => ?_, fun a hv hbus hp => ?_⟩
  · simp [exec_eq_view_run, hv, View.run, accessMsr, hp]
  · simp [exec_eq_view_run, hv, View.run, accessCfg, hbus]
  · simp [exec_eq_view_run, hv, View.run, accessCfg, hbus, hp]

/-! ### The global registers (40_global_ubox.md R225, R229, R230) -/

theorem writesReg_globalCtl (v : Quad) (s : State) : WritesReg (.uMsrPmonGlobalCtl (.write v)) .globalCtl v s :=
  ⟨rfl, .inl ⟨_, rfl⟩⟩

theorem writesReg_globalStatus (v : Quad) (s : State) :
    WritesReg (.uMsrPmonGlobalStatus (.write v)) .globalStatus v s := ⟨rfl, .inl ⟨_, rfl⟩⟩

theorem writesReg_globalConfig (v : Quad) (s : State) :
    WritesReg (.uMsrPmonGlobalConfig (.write v)) .globalConfig v s := ⟨rfl, .inl ⟨_, rfl⟩⟩

/-- Bits 28:27 of U_MSR_PMON_GLOBAL_CTL are its must-be-0 bits. -/
theorem globalCtl_mustZero_iff {v : Quad} :
    v.extractLsb' 0 32 &&& Reg.mustZero .globalCtl = 0 ↔ v.extractLsb' 27 2 = 0 := by
  have mask : ∀ k < 32, (0x18000000 : Word).getLsbD k = true ↔ k = 27 ∨ k = 28 := by decide
  have hword : v.extractLsb' 0 32 &&& Reg.mustZero .globalCtl = 0 ↔ v.getLsbD 27 = false ∧ v.getLsbD 28 = false := by
    rw [and_eq_zero_iff_bits]
    constructor
    · intro h
      exact ⟨by simpa using h 27 (by decide) (by decide), by simpa using h 28 (by decide) (by decide)⟩
    · rintro ⟨h27, h28⟩ k hk hm
      rcases (mask k hk).mp hm with rfl | rfl <;> simpa
  rw [hword]
  constructor
  · rintro ⟨h27, h28⟩
    refine BitVec.eq_of_getLsbD_eq fun k hk => ?_
    obtain rfl | rfl : k = 0 ∨ k = 1 := by omega
    · simpa using h27
    · simpa using h28
  · intro h
    exact ⟨by simpa using congrArg (BitVec.getLsbD · 0) h, by simpa using congrArg (BitVec.getLsbD · 1) h⟩

/-- Settles O38: the reserved bits are checked before the two action bits. -/
theorem globalControlWrite : Obligations.GlobalControlWrite := by
  intro v s i
  have hw : WritesReg i .globalCtl v s := writesReg_globalCtl v s
  refine ⟨fun hbad => exec_refused hw ?_, fun hhigh hzero => ?_⟩
  · by_cases hhigh : v.extractLsb' 32 32 = 0
    · have hmask := mt globalCtl_mustZero_iff.mp (hbad.resolve_left (not_not.mpr hhigh))
      simp [writeCheck, hhigh, Reg.readOnly, reservedBad_of_mustZero hmask]
    · exact writeCheck_high rfl hhigh
  · have hmask := globalCtl_mustZero_iff.mpr hzero
    split
    · next hboth =>
      refine exec_refused hw ?_
      simp [writeCheck, Reg.readOnly, Reg.reservedBad, Reg.threshZero, Reg.bothActions, hhigh, hmask, hboth]
    · next hone =>
      have hactions : Reg.bothActions .globalCtl (v.extractLsb' 0 32) = false := by
        simpa [Reg.bothActions] using hone
      rw [exec_accepted hw (writeCheck_eq_none_iff.mpr
        ⟨fun _ => hhigh, rfl, by simp [Reg.reservedBad, hmask], rfl, hactions⟩)]
      simp [storeReg, writeGlobalCtl]

/-- Settles O39: no check refuses the write, which clears the defined bits written 1. -/
theorem globalStatusWrite : Obligations.GlobalStatusWrite := fun v s =>
  exec_accepted (writesReg_globalStatus v s) (writeCheck_plain rfl (fun h => nomatch h) BitVec.and_zero)

/-- Settles O40: the upper dword is the only check. -/
theorem globalConfigWrite : Obligations.GlobalConfigWrite := by
  refine ⟨fun v s hhigh => ?_, fun v s hhigh => ?_, rfl⟩
  · rw [exec_accepted (writesReg_globalConfig v s) (writeCheck_plain rfl (fun _ => hhigh) BitVec.and_zero)]
    simp [storeReg]
  · exact exec_refused (writesReg_globalConfig v s) (writeCheck_high rfl hhigh)

end Sys2Proof.Machine
end

section
/-! The host's reads: what each returns, and the identification at offset 0 of a function. -/

namespace Sys2Proof.Machine

/-! ### Reads of one register (40_global_ubox.md R200, R202) -/

theorem exec_msrRead {i : Instr} {addr : Nat} {r : Reg} {s : State} (hv : i.view = .msr addr r .read)
    (hp : r.present s.cfg = true) : exec i s = .next (s.setHostRead (some (readReg r s))) := by
  simp [exec_eq_view_run, hv, View.run, accessMsr, hp]

theorem readDword_eq (r : Reg) (high : Bool) (s : State) :
    readDword r high s = (readReg r s).extractLsb' (if high then 32 else 0) 32 := by
  cases high <;> rfl

theorem exec_cfgRead {i : Instr} {addr : Nat} {r : Reg} {high : Bool} {s : State}
    (hv : i.view = .cfg addr r ⟨s.cfg.bus, high, .read⟩) (hp : r.present s.cfg = true) :
    exec i s =
      .next (s.setHostRead (some (((readReg r s).extractLsb' (if high then 32 else 0) 32).setWidth 64))) := by
  simp [exec_eq_view_run, hv, View.run, accessCfg, hp, readDword_eq]

/-! ### The rows by name (30_encoding.md R182) -/

/-- The row `mk` accesses the MSR `r`. -/
def MsrRow (mk : MsrAccess → Instr) (r : Reg) : Prop := ∃ addr, ∀ a, (mk a).view = .msr addr r a

/-- The row `mk` accesses the PCICFG register `r`. -/
def CfgRow (mk : CfgAccess → Instr) (r : Reg) : Prop := ∃ addr, ∀ a, (mk a).view = .cfg addr r a

theorem MsrRow.reads {mk : MsrAccess → Instr} {r : Reg} (h : MsrRow mk r) (s : State) (hp : r.present s.cfg = true) :
    exec (mk .read) s = .next (s.setHostRead (some (readReg r s))) := by
  obtain ⟨addr, hv⟩ := h
  exact exec_msrRead (hv .read) hp

theorem CfgRow.reads {mk : CfgAccess → Instr} {r : Reg} (h : CfgRow mk r) (high : Bool) (s : State)
    (hp : r.present s.cfg = true) :
    exec (mk ⟨s.cfg.bus, high, .read⟩) s =
      .next (s.setHostRead (some (((readReg r s).extractLsb' (if high then 32 else 0) 32).setWidth 64))) := by
  obtain ⟨addr, hv⟩ := h
  exact exec_cfgRead (hv _) hp

/-- Settles O29: each listed row's view is an access to its register. -/
theorem msrReadReturnsRegister : Obligations.MsrReadReturnsRegister := by
  refine ⟨fun i addr r s => exec_msrRead, fun p hp => MsrRow.reads ?_⟩
  revert p
  repeat' first | exact List.forall_mem_nil _ | refine List.forall_mem_cons.mpr ⟨⟨_, fun _ => rfl⟩, ?_⟩

/-! ### The identification (20_memory.md R110) -/

/-- Offset 0 of a function of a box the part has: a read returns the device id above the vendor id, a write is ignored. -/
theorem accessIdentification_present {fn : Nat} {r : Reg} {device : BitVec 16} {s : State}
    (hfn : functionTable.lookup fn = some (r, device)) (hp : r.present s.cfg = true) (write : Bool) :
    accessIdentification s.cfg.bus fn write s = .next (if write then s
      else s.setHostRead (some ((device ++ (0x8086 : BitVec 16)).setWidth 64))) := by
  cases write <;> simp [accessIdentification, hfn, hp, identification]

/-- On the host's turn bytes that are no row are answered as `declined` says. -/
theorem step_declined {s : State} {cmd : List Byte} {rest : List Turn} {e : Reject} (hrun : s.run = none)
    (hturn : s.agenda = .host cmd :: rest) (hd : decode (.host s.cfg.irpAlt) cmd = .error e) :
    step s = declined e (s.setAgenda rest) := by
  simp [step, hrun, nextTurn, hturn, stepHost, hd]

/-- Settles O30: each listed row's view is an access to its register, and offset 0 is no row but is answered. -/
theorem cfgReadReturnsDword : Obligations.CfgReadReturnsDword := by
  refine ⟨fun i addr r high s => exec_cfgRead, fun p hp => CfgRow.reads ?_, ?_⟩
  · revert p
    repeat' first | exact List.forall_mem_nil _ | refine List.forall_mem_cons.mpr ⟨⟨_, fun _ => rfl⟩, ?_⟩
  · intro s cmd rest bus fn write r device hrun hturn hd hfn hbus hp
    subst hbus
    rw [step_declined hrun hturn hd]
    exact accessIdentification_present (s := s.setAgenda rest) hfn hp write

end Sys2Proof.Machine
end

section
/-! Steps: the instruction a step runs, what a box's cycle leaves alone, the UBox fixed counter, and the delivery of an
overflow message. -/

namespace Sys2Proof.Machine

/-! ### The instruction a step runs -/

/-- Settles O4: the step fetches the control register, decodes and runs it, then advances the cycle. -/
theorem stepRunsCounterInstruction : Obligations.StepRunsCounterInstruction := by
  intro s r h i hrun hdecode
  simp only [step, hrun, dif_pos h, stepCounter, hdecode]
  rfl

/-- Settles O5: the turn comes from the agenda, and its bytes are decoded under the part's setting. -/
theorem stepRunsHostInstruction : Obligations.StepRunsHostInstruction := by
  intro s cmd rest i hrun hturn hdecode
  simp [step, hrun, nextTurn, hturn, stepHost, hdecode]

/-! ### What a box's cycle leaves alone (40_global_ubox.md R215) -/

/-- The control registers, the freeze latch and the copy of the global freeze of a block are the same. -/
structure Blk.SameControls (x y : Blk) : Prop where
  ctl : ∀ j, (y.unit j).ctl = (x.unit j).ctl
  fixCtl : y.fixCtl = x.fixCtl
  bfrz : y.bfrz = x.bfrz
  gseen : y.gseen = x.gseen

theorem Blk.SameControls.refl (x : Blk) : x.SameControls x := ⟨fun _ => rfl, rfl, rfl, rfl⟩

/-- Every global, filter, match and mask register, the last read and the agenda are the same. -/
structure SameSocket (s t : State) : Prop where
  status : t.status = s.status
  gfrz : t.gfrz = s.gfrz
  wkOnPmi : t.wkOnPmi = s.wkOnPmi
  pmiCoreSel : t.pmiCoreSel = s.pmiCoreSel
  numC : t.numC = s.numC
  cboFilter0 : t.cboFilter0 = s.cboFilter0
  cboFilter1 : t.cboFilter1 = s.cboFilter1
  pcuFilter : t.pcuFilter = s.pcuFilter
  effband : t.effband = s.effband
  haOpcodeMatch : t.haOpcodeMatch = s.haOpcodeMatch
  haAddrMatch1 : t.haAddrMatch1 = s.haAddrMatch1
  haAddrMatch0 : t.haAddrMatch0 = s.haAddrMatch0
  qpiPkt : t.qpiPkt = s.qpiPkt
  hostRead : t.hostRead = s.hostRead
  agenda : t.agenda = s.agenda

theorem SameSocket.refl (s : State) : SameSocket s s := by constructor <;> rfl

section
variable {s t : State}

theorem SameSocket.setBlk (h : SameSocket s t) (b : BoxId) (x : Blk) : SameSocket s (t.setBlk b x) := by
  constructor <;> simp [h.status, h.gfrz, h.wkOnPmi, h.pmiCoreSel, h.numC, h.cboFilter0, h.cboFilter1, h.pcuFilter,
    h.effband, h.haOpcodeMatch, h.haAddrMatch1, h.haAddrMatch0, h.qpiPkt, h.hostRead, h.agenda]

theorem SameSocket.setPend (h : SameSocket s t) (v : List Quad) : SameSocket s (t.setPend v) := { h with }

theorem SameSocket.setDraws (h : SameSocket s t) (n : Nat) : SameSocket s (t.setDraws n) := { h with }

theorem SameSocket.setTime (h : SameSocket s t) (n : Nat) : SameSocket s (t.setTime n) := { h with }

theorem SameSocket.setRun (h : SameSocket s t) (r : Option Run) : SameSocket s (t.setRun r) := { h with }

theorem SameSocket.onlyDraws (h : OnlyDraws s t) : SameSocket s t := by
  obtain ⟨n, -, rfl⟩ := h
  exact (SameSocket.refl s).setDraws n

theorem SameSocket.sendMessage (h : SameSocket s t) (m : Quad) : SameSocket s (sendMessage m t) := by
  unfold Machine.sendMessage
  split
  · exact h
  · exact h.setPend _

theorem SameSocket.reportOverflow (h : SameSocket s t) (b : BoxId) (n : Nat) (ovEn : Bool) :
    SameSocket s (reportOverflow b n ovEn t) := by
  obtain ⟨sent, draws, e, -⟩ := reportOverflow_spec b n ovEn t
  rw [e]
  exact ((h.setBlk _ _).setPend _).setDraws _

end

theorem SameSocket.fixedStepU (s : State) : SameSocket s (fixedStepU s) := by
  have drawn := SameSocket.onlyDraws (frozenGlobal_onlyDraws .ubox s)
  simp only [Machine.fixedStepU]
  split
  · split
    · exact drawn
    · split
      · exact (drawn.setBlk _ _).sendMessage _
      · exact drawn.setBlk _ _
  · exact .refl s

theorem SameSocket.fixedStepMc (b : BoxId) (s : State) : SameSocket s (fixedStepMc b s) := by
  have drawn := SameSocket.onlyDraws (frozenGlobal_onlyDraws b s)
  simp only [Machine.fixedStepMc]
  split
  · split
    · exact drawn
    · split
      · exact (drawn.setBlk _ _).reportOverflow _ _ _
      · exact drawn.setBlk _ _
  · exact .refl s

/-- The free-running counters, which do move, are none of these registers. -/
theorem SameSocket.otherCounters (b : BoxId) (s : State) : SameSocket s (otherCounters b s) := by
  cases b with
  | ubox => exact .fixedStepU s
  | imc n => exact .fixedStepMc _ s
  | pcu => exact { SameSocket.refl s with }
  | qpi p => exact { SameSocket.refl s with }
  | cbo _ | sbo _ | ha _ | irp | r2 | r3 _ => exact .refl s

/-- What one step of box `b`'s cycle keeps: the other boxes' blocks, its own control registers and latches of the freeze,
and the socket's registers. -/
structure CycleFrame (b : BoxId) (s t : State) : Prop where
  others : ∀ c, c ≠ b → t.blk c = s.blk c
  own : (s.blk b).SameControls (t.blk b)
  socket : SameSocket s t

theorem CycleFrame.setRun {b : BoxId} {s t : State} (h : CycleFrame b s t) (r : Option Run) :
    CycleFrame b s (t.setRun r) :=
  ⟨fun c hc => by simpa using h.others c hc, by simpa using h.own, h.socket.setRun r⟩

theorem CountFrame.cycleFrame {b : BoxId} {j : Fin 4} {s t : State} (h : CountFrame b j s t) : CycleFrame b s t := by
  obtain ⟨ctr, prev, oprev, ov, sent, draws, rfl, -⟩ := h
  refine ⟨fun c hc => by simp [hc], ⟨fun i => ?_, by simp, by simp, by simp⟩,
    (((SameSocket.refl s).setBlk _ _).setPend _).setDraws _⟩
  by_cases hi : i = j
  · subst hi
    simp [State.unit]
  · simp [hi]

theorem finishCycle_cycleFrame (b : BoxId) (s : State) : CycleFrame b s (finishCycle b s) := by
  obtain ⟨ctr, ov, hown⟩ := otherCounters_blk b s
  obtain ⟨-, -, -, -, -, -, hothers, hunits⟩ := otherCounters_same b s
  refine ⟨fun c hc => by simp [finishCycle, hothers c hc], ?_,
    ((SameSocket.otherCounters b s).setTime _).setRun _⟩
  have hblk : (finishCycle b s).blk b = (otherCounters b s).blk b := by simp [finishCycle]
  rw [hblk]
  exact ⟨fun j => congrArg CtrUnit.ctl (hunits j), by rw [hown], by rw [hown], by rw [hown]⟩

/-- What a step of a cycle in progress is: the count step of one of its box's counters, or the end of the cycle. -/
theorem cycle_step_cases {s t : State} {r : Run} (hrun : s.run = some r) (hstep : step s = .next t) :
    (∃ j u, CountFrame r.box j s u ∧ t = advance r u) ∨ t = finishCycle r.box s := by
  obtain ⟨r', hr, code, c, raw, hrun', hraw, rfl⟩ | ⟨r', hrun', -, rfl⟩ | ⟨cmd, hnone, -⟩ | ⟨hnone, -⟩ := step_cases hstep
  · obtain rfl : r = r' := Option.some.inj (hrun.symm.trans hrun')
    exact .inl ⟨_, _, countStep_frame _ _ _ _ _ _ hraw, rfl⟩
  · obtain rfl : r = r' := Option.some.inj (hrun.symm.trans hrun')
    exact .inr rfl
  · simp [hnone] at hrun
  · simp [hnone] at hrun

theorem cycle_step_frame {s t : State} {r : Run} (hrun : s.run = some r) (hstep : step s = .next t) :
    CycleFrame r.box s t := by
  obtain ⟨j, u, hframe, rfl⟩ | rfl := cycle_step_cases hrun hstep
  · exact hframe.cycleFrame.setRun _
  · exact finishCycle_cycleFrame r.box s

/-- Settles O56: a count step and the end of a cycle both keep the frame. -/
theorem cycleTouchesOneBox : Obligations.CycleTouchesOneBox := by
  intro s t r hrun hstep
  obtain ⟨others, own, socket⟩ := cycle_step_frame hrun hstep
  exact ⟨others, own.ctl, own.fixCtl, own.bfrz, own.gseen, socket.status, socket.gfrz, socket.wkOnPmi,
    socket.pmiCoreSel, socket.numC, socket.cboFilter0, socket.cboFilter1, socket.pcuFilter, socket.effband,
    socket.haOpcodeMatch, socket.haAddrMatch1, socket.haAddrMatch0, socket.qpiPkt, socket.hostRead, socket.agenda⟩

/-- Settles O53: the box whose cycle it is sees the freeze, and the step leaves every other box's block. -/
theorem frozenSocketCountsNothing : Obligations.FrozenSocketCountsNothing := by
  intro s t r hrun himmediate hfrozen hstep
  have hframe := cycle_step_frame hrun hstep
  obtain ⟨hpend, hov, hfix, hctr⟩ := step_frozen hrun (by simp [State.freezeSeen, himmediate, hfrozen]) hstep
  refine ⟨hpend, hframe.socket.gfrz, fun b => ?_⟩
  by_cases hb : b = r.box
  · exact hb ▸ ⟨hov, hfix, hctr⟩
  · simp [State.unit, hframe.others b hb]

/-! ### Boxes without an overflow message (40_global_ubox.md R217) -/

theorem globalBits_of_kind {b : BoxId} (h : b.kind = .cbo ∨ b.kind = .sbo) : b.globalBits = 0 := by
  cases b with
  | cbo _ | sbo _ => rfl
  | _ => exact absurd h (by simp [BoxId.kind])

/-- A box without a bit of the global status sends nothing from a generic counter. -/
theorem CountFrame.pend_eq {b : BoxId} {j : Fin 4} {s t : State} (h : CountFrame b j s t) (hb : b.globalBits = 0) :
    t.pend = s.pend := by
  obtain ⟨_, _, _, _, sent, _, rfl, -, -, hsent, -⟩ := h
  obtain rfl : sent = [] := hsent.resolve_right fun hs => hs.1 hb
  simp

/-- The CBo and the SBo have no counter beside the generic ones. -/
theorem otherCounters_of_kind {b : BoxId} (h : b.kind = .cbo ∨ b.kind = .sbo) (s : State) : otherCounters b s = s := by
  cases b with
  | cbo _ | sbo _ => rfl
  | _ => exact absurd h (by simp [BoxId.kind])

/-- Settles O54: the box has no global status bit, and no counter but the generic ones. -/
theorem cboAndSboSendNothing : Obligations.CboAndSboSendNothing := by
  intro s t r hrun hkind hstep
  have hframe := cycle_step_frame hrun hstep
  refine ⟨?_, hframe.socket.status, hframe.socket.gfrz⟩
  obtain ⟨j, u, hcount, rfl⟩ | rfl := cycle_step_cases hrun hstep
  · exact hcount.pend_eq (globalBits_of_kind hkind)
  · simp [finishCycle, otherCounters_of_kind hkind]

/-! ### The UBox fixed counter (40_global_ubox.md R234) -/

theorem step_finishCycle {s : State} {r : Run} (hrun : s.run = some r) (h : r.box.kind.ctrs ≤ r.next) :
    step s = .next (finishCycle r.box s) := by
  simp only [step, hrun, dif_neg (Nat.not_lt.mpr h)]

/-- The end of a cycle steps the time, whatever the other counters did. -/
theorem finishCycle_eq (b : BoxId) (s : State) :
    finishCycle b s = ((otherCounters b s).setTime (s.time + 1)).setRun none := by
  obtain ⟨-, -, -, -, -, htime, -⟩ := otherCounters_same b s
  rw [finishCycle, htime]

theorem succ_eq_two_pow_iff (x : Counter) : x.toNat + 1 = 2 ^ 48 ↔ x = BitVec.allOnes 48 := by
  rw [← BitVec.toNat_inj, BitVec.toNat_allOnes]
  omega

theorem fixedStepU_counting {s : State} (hen : s.ubox.fixCtl.getLsbD 22 = true)
    (hfree : s.freezeSeen .ubox = some false) :
    fixedStepU s = (s.setBlk .ubox { s.ubox with fixCtr := s.ubox.fixCtr + 1 }).setPend
      (if s.ubox.fixCtr = BitVec.allOnes 48 ∧ s.ubox.fixCtl.getLsbD 20 = true then s.pend ++ [1] else s.pend) := by
  have hblk : s.blk .ubox = s.ubox := rfl
  simp only [fixedStepU, hblk, hen, frozenGlobal, hfree, succ_eq_two_pow_iff, if_true, Bool.false_eq_true, if_false]
  by_cases hsend : s.ubox.fixCtr = BitVec.allOnes 48 ∧ s.ubox.fixCtl.getLsbD 20 = true
  · rw [if_pos hsend, if_pos hsend, sendMessage_of_ne (by decide), State.setBlk_pend]
  · rw [if_neg hsend, if_neg hsend, State.setBlk_setPend_self]

theorem fixedStepU_idle {s : State}
    (h : s.ubox.fixCtl.getLsbD 22 = false ∨ s.freezeSeen .ubox = some true) : fixedStepU s = s := by
  have hblk : s.blk .ubox = s.ubox := rfl
  rcases h with h | h
  · simp only [fixedStepU, hblk, h]
    simp
  · simp [fixedStepU, frozenGlobal, h]

/-- Settles O47: the end of the cycle is the fixed counter's step and the time's. -/
theorem uBoxFixedCounter : Obligations.UBoxFixedCounter := by
  intro s n hrun hn done x
  have hstep : step s = done (fixedStepU s) := (step_finishCycle hrun hn).trans (congrArg _ (finishCycle_eq .ubox s))
  exact ⟨fun hen hfree => hstep.trans (congrArg done (fixedStepU_counting hen hfree)),
    fun hidle => hstep.trans (congrArg done (fixedStepU_idle hidle))⟩

/-! ### The delivery of a message (40_global_ubox.md R226 to R228) -/

/-- Settles O50: the message leaves PEND, the latch and the status are set, and the PMI goes out from that state. -/
theorem deliveryFreezesAndInterrupts : Obligations.DeliveryFreezesAndInterrupts := by
  intro s k rest bits hrun hturn hpend cores asleep signal
  have hstep : step s = .next (deliver k (s.setAgenda rest)) := by
    simp [step, hrun, nextTurn, hturn, platformTurn]
  have hdeliver : deliver k (s.setAgenda rest) =
      receive bits ((s.setAgenda rest).setPend (s.pend.eraseIdx k)) := by
    simp [deliver, hpend]
  obtain ⟨n, -, hsent⟩ := sendPmi_spec { (s.setAgenda rest).setPend (s.pend.eraseIdx k) with
    status := s.status ||| bits, gfrz := some true }
  refine ⟨n, ?_⟩
  rw [hstep, hdeliver]
  exact congrArg _ hsent

end Sys2Proof.Machine
end

section
/-! The CBo's own rules: the spread of counters 1 to 3, the thread, node, opcode and state filters, and
COUNTER0_OCCUPANCY. -/

namespace Sys2Proof.Machine

/-! ### The spread of counters 1 to 3 (41_cbo.md R272) -/

/-- What is at least 1 spreads to at least 1. -/
theorem one_le_spread_fst {a : Nat} (ha : 1 ≤ a) (b : BoxId) (j : Fin 4) (s : State) : 1 ≤ (spread b j a s).1 := by
  unfold spread
  split
  · exact Nat.le_add_right 1 _
  · exact ha

theorem one_le_addend_fst {c : CtlOps} (hc : c.thresh = 0) {raw : Nat} (hraw : 1 ≤ raw) (b : BoxId) (j : Fin 4)
    (code : BitVec 8) (s : State) : 1 ≤ (addend b j code c raw s).1 := by
  rw [addend_of_thresh_zero hc]
  split
  · exact hraw
  · exact one_le_spread_fst hraw b j s

/-- Settles O9: without a threshold the addend is the spread of the raw increment. -/
theorem cboCounterSpreads : Obligations.CboCounterSpreads := by
  intro i e base o s hv hcount hthresh _
  obtain ⟨t, hexec, hadds⟩ := exec_event_adds hv hcount
  exact ⟨t, _, hexec, hadds, addend_fst_le hthresh _ _ _ _ _, fun hraw => one_le_addend_fst hthresh hraw _ _ _ _⟩

/-! ### Fields of a filter register -/

/-- Words that agree in a field agree in each bit of it. -/
theorem getLsbD_eq_of_field_eq {x y : Word} {lo len k : Nat} (h : x.extractLsb' lo len = y.extractLsb' lo len)
    (hlo : lo ≤ k) (hhi : k < lo + len) : x.getLsbD k = y.getLsbD k := by
  have hbit := congrArg (BitVec.getLsbD · (k - lo)) h
  have hlt : k - lo < len := by omega
  simpa [hlt, Nat.add_sub_cancel' hlo] using hbit

/-- Words that agree in a field agree in each field within it. -/
theorem field_eq_of_field_eq {x y : Word} {lo len lo' len' : Nat} (h : x.extractLsb' lo len = y.extractLsb' lo len)
    (hlo : lo ≤ lo') (hhi : lo' + len' ≤ lo + len) : x.extractLsb' lo' len' = y.extractLsb' lo' len' := by
  refine BitVec.eq_of_getLsbD_eq fun k hk => ?_
  rw [BitVec.getLsbD_extractLsb', BitVec.getLsbD_extractLsb',
    getLsbD_eq_of_field_eq h (k := lo' + k) (by omega) (by omega)]

theorem getLsbD_of_field_eq_zero {x : Word} {lo len k : Nat} (h : x.extractLsb' lo len = 0) (hlo : lo ≤ k)
    (hhi : k < lo + len) : x.getLsbD k = false :=
  (getLsbD_eq_of_field_eq (y := 0) (h.trans (BitVec.extractLsb'_zero).symm) hlo hhi).trans BitVec.getLsbD_zero

/-- A wider mask keeps every bit. -/
theorem getLsbD_of_and_eq {x y : Word} (h : x &&& y = x) {k : Nat} (hk : x.getLsbD k = true) : y.getLsbD k = true := by
  rw [← h, BitVec.getLsbD_and, Bool.and_eq_true] at hk
  exact hk.2

theorem getElem_set_fin {α : Type} {m : Nat} (v : Vector α m) (n : Fin m) (x : α) : (v.set n x)[n] = x :=
  Vector.getElem_set_self n.isLt

/-! ### Single filters (41_cbo.md R277 to R280) -/

section
variable {f w : Word}

/-- A row that one filter value passes passes under another that has its nodes, and its opcode field where the row reads
it. -/
theorem passRow_mono {r : Row} {o : Occ} (hnid : passNid f o = true → passNid w o = true)
    (hopc : r.opc = true → passOpc w o = passOpc f o) (h : passRow f o r = true) : passRow w o r = true := by
  simp only [passRow, Bool.and_eq_true, Bool.or_eq_true, Bool.not_eq_true'] at h ⊢
  obtain ⟨hn, ho⟩ := h
  refine ⟨hn.imp_right hnid, ?_⟩
  cases hr : r.opc with
  | false => exact .inl rfl
  | true => exact .inr ((hopc hr).trans (ho.resolve_left (by simp [hr])))

theorem passNid_mono (h : f &&& w = f) {o : Occ} : passNid f o = true → passNid w o = true := getLsbD_of_and_eq h

/-- The empty node mask passes no node. -/
theorem passNid_eq_false (h : f.extractLsb' 0 16 = 0) (o : Occ) : passNid f o = false :=
  getLsbD_of_field_eq_zero h (Nat.zero_le _) (by omega)

theorem filterOpc_congr (h : w.extractLsb' 16 16 = f.extractLsb' 16 16) : filterOpc w = filterOpc f :=
  field_eq_of_field_eq h (by omega) (by omega)

/-- The opcode filter reads opc, nc and isoc alone. -/
theorem passOpc_congr (h : w.extractLsb' 16 16 = f.extractLsb' 16 16) (o : Occ) : passOpc w o = passOpc f o := by
  unfold passOpc
  rw [filterOpc_congr h, getLsbD_eq_of_field_eq h (k := 30) (by omega) (by omega),
    getLsbD_eq_of_field_eq h (k := 31) (by omega) (by omega)]

theorem passRow_nid {o : Occ} {r : Row} (hr : r.nid = true) (h : passRow f o r = true) : passNid f o = true := by
  simp only [passRow, hr, Bool.not_true, Bool.false_or, Bool.and_eq_true] at h
  exact h.1

theorem passRow_opc {o : Occ} {r : Row} (hr : r.opc = true) (h : passRow f o r = true) : passOpc f o = true := by
  simp only [passRow, hr, Bool.not_true, Bool.false_or, Bool.and_eq_true] at h
  exact h.2

theorem passTid_congr (h : w.extractLsb' 0 17 = f.extractLsb' 0 17) (t : Bool) (o : Occ) :
    passTid t w o = passTid t f o := by
  unfold passTid
  rw [field_eq_of_field_eq h (lo' := 0) (len' := 6) (by omega) (by omega)]

/-- The bit of a line state is one of the five named. -/
theorem lineState_bit_le (l : LineState) : LineState.bit l ≤ 4 := by cases l <;> decide

theorem passState_mono (h : f &&& w = f) {o : Occ} : passState f o = true → passState w o = true :=
  getLsbD_of_and_eq h

/-- The state filter reads the five named bits alone. -/
theorem passState_congr (h : w.extractLsb' 17 5 = f.extractLsb' 17 5) (o : Occ) : passState w o = passState f o :=
  have := lineState_bit_le o.line
  getLsbD_eq_of_field_eq h (by omega) (by omega)

/-- With no state set no lookup passes. -/
theorem passState_eq_false (h : f.extractLsb' 17 7 = 0) (o : Occ) : passState f o = false :=
  have := lineState_bit_le o.line
  getLsbD_of_field_eq_zero h (by omega) (by omega)

end

/-! ### The rows an occurrence is counted by (41_cbo.md R276) -/

section
variable {e : Event} {u : BitVec 8} {o : Occ}

/-- The exact row that stands alone is a selected row. -/
theorem Event.selected_of_alone {r : Row} (h : e.alone u = some r) : r ∈ e.rows ∧ r.sel.selected u = true := by
  have hp := List.find?_some h
  simp only [Bool.and_eq_true] at hp
  exact ⟨List.mem_of_find?_eq_some h, hp.2⟩

/-- Which row covers an occurrence depends on the test of the selected rows only. -/
theorem Event.covers_mono {ok ok' : Row → Bool}
    (hok : ∀ r ∈ e.rows, r.sel.selected u = true → ok r = true → ok' r = true) (h : e.covers u ok o = true) :
    e.covers u ok' o = true := by
  unfold Event.covers at h ⊢
  split at h
  · next r hr =>
    obtain ⟨hmem, hsel⟩ := Event.selected_of_alone hr
    rw [Bool.and_eq_true] at h ⊢
    exact h.imp_right (hok r hmem hsel)
  · simp only [List.any_eq_true, Bool.and_eq_true] at h ⊢
    obtain ⟨r, hmem, ⟨hsel, hrow⟩, hr⟩ := h
    exact ⟨r, hmem, ⟨hsel, hrow⟩, hok r hmem hsel hr⟩

/-- A covered occurrence is one of a selected row that passes. -/
theorem Event.exists_row_of_covers {ok : Row → Bool} (h : e.covers u ok o = true) :
    ∃ r ∈ e.rows, r.sel.selected u = true ∧ ok r = true := by
  unfold Event.covers at h
  split at h
  · next r hr =>
    obtain ⟨hmem, hsel⟩ := Event.selected_of_alone hr
    rw [Bool.and_eq_true] at h
    exact ⟨r, hmem, hsel, h.2⟩
  · simp only [List.any_eq_true, Bool.and_eq_true] at h
    obtain ⟨r, hmem, ⟨hsel, -⟩, hr⟩ := h
    exact ⟨r, hmem, hsel, hr⟩

theorem Event.readsOpc_of_row {r : Row} (hr : r ∈ e.rows) (hsel : r.sel.selected u = true) (hopc : r.opc = true) :
    e.readsOpc u = true :=
  List.any_eq_true.mpr ⟨r, hr, by simp [hsel, hopc]⟩

end

/-! ### How many occurrences pass -/

section
variable {e : Event} {p q : Occ → Bool} {l : List Occ}

theorem count_mono (h : ∀ o, p o = true → q o = true) : e.count p l ≤ e.count q l :=
  min_le_min_left _ (List.countP_mono_left fun o _ => h o)

theorem count_le_countP (h : ∀ o, p o = true → q o = true) : e.count p l ≤ l.countP q :=
  (min_le_right _ _).trans (List.countP_mono_left fun o _ => h o)

theorem count_eq_zero (h : ∀ o, p o = false) : e.count p l = 0 := by
  simp [Event.count, h]

end

/-! ### The filtered increments -/

/-- An occurrence passes the thread filter, and by some selected row the node and opcode filters that row reads. -/
def passFilters (e : Event) (u : BitVec 8) (t : Bool) (f0 f1 : Word) (o : Occ) : Bool :=
  e.covers u (passRow f1 o) o && passTid t f0 o

/-- Where the opcode is one the filter can choose, the occurrences that pass are counted (R280). -/
theorem rawCbo_eq {n : Fin 18} {e : Event} {u : BitVec 8} {s : State}
    (h : e.readsOpc u = true → filterOpc s.cboFilter1[n] ∈ opcodeTable) (t : Bool) :
    rawCbo n e u t s =
      (e.count (passFilters e u t s.cboFilter0[n] s.cboFilter1[n]) (s.occurrences (.cbo n) 0 e), s) := by
  refine if_neg fun hdraw => ?_
  simp only [Bool.and_eq_true, Bool.not_eq_true', List.contains_eq_mem, decide_eq_false_iff_not] at hdraw
  exact hdraw.2 (h hdraw.1)

/-- LLC_LOOKUP counts nothing without a state or without unit mask bit 0 (R277). -/
theorem rawLookup_eq_zero {n : Fin 18} {u : BitVec 8} {s : State}
    (h : s.cboFilter0[n].extractLsb' 17 7 = 0 ∨ u.getLsbD 0 = false) (e : Event) (t : Bool) :
    rawLookup n e u t s = 0 :=
  if_pos (by simpa [or_comm] using h)

/-- LLC_LOOKUP counts, under unit mask bit 0, the occurrences that pass the state filter too; state = 0 passes none
(R277). -/
theorem rawLookup_eq (n : Fin 18) (e : Event) (u : BitVec 8) (t : Bool) (s : State) :
    rawLookup n e u t s =
      if u.getLsbD 0 = true then
        e.count (fun o => passFilters e u t s.cboFilter0[n] s.cboFilter1[n] o && passState s.cboFilter0[n] o)
          (s.occurrences (.cbo n) 0 e)
      else 0 := by
  split
  · next hu =>
    by_cases hstate : s.cboFilter0[n].extractLsb' 17 7 = 0
    · rw [rawLookup_eq_zero (.inl hstate), count_eq_zero fun o => by rw [passState_eq_false hstate, Bool.and_false]]
    · exact if_neg (by simpa [hu] using hstate)
  · next hu => exact rawLookup_eq_zero (.inr (Bool.eq_false_iff.mpr hu)) e t

/-- With tid_en = 0 an increment without the state filter does not read FILTER0 (R278). -/
theorem rawCbo_no_tid (n : Fin 18) (e : Event) (u : BitVec 8) (s : State) (v : Vector Word 18) :
    (rawCbo n e u false { s with cboFilter0 := v }).1 = (rawCbo n e u false s).1 := by
  unfold rawCbo
  rw [apply_ite Prod.fst, apply_ite Prod.fst]
  rfl

section
variable {e : Event} {u : BitVec 8} {t : Bool} {f0 f1 w : Word} {o : Occ}

/-- A wider node mask passes no less, while the opcode filter's fields stay where a selected row reads them. -/
theorem passFilters_node_mono (hsub : f1 &&& w = f1)
    (hopc : e.readsOpc u = true → w.extractLsb' 16 16 = f1.extractLsb' 16 16) (h : passFilters e u t f0 f1 o = true) :
    passFilters e u t f0 w o = true := by
  unfold passFilters at h ⊢
  rw [Bool.and_eq_true] at h ⊢
  refine h.imp_left (Event.covers_mono fun r hr hsel => passRow_mono (passNid_mono hsub) fun hreads => ?_)
  exact passOpc_congr (hopc (Event.readsOpc_of_row hr hsel hreads)) o

/-- An empty node mask passes nothing where every selected row reads it. -/
theorem passFilters_node_empty (hempty : f1.extractLsb' 0 16 = 0)
    (hnid : ∀ r ∈ e.rows, r.sel.selected u = true → r.nid = true) : passFilters e u t f0 f1 o = false := by
  refine Bool.eq_false_iff.mpr fun h => ?_
  obtain ⟨hcovers, -⟩ := Bool.and_eq_true_iff.mp h
  obtain ⟨r, hr, hsel, hpass⟩ := Event.exists_row_of_covers hcovers
  exact absurd (passRow_nid (hnid r hr hsel) hpass) (Bool.eq_false_iff.mp (passNid_eq_false hempty o))

/-- What passes carries the opcode chosen, where every selected row reads the opcode filter. -/
theorem passOpc_of_passFilters (hopc : ∀ r ∈ e.rows, r.sel.selected u = true → r.opc = true)
    (h : passFilters e u t f0 f1 o = true) : passOpc f1 o = true := by
  obtain ⟨hcovers, -⟩ := Bool.and_eq_true_iff.mp h
  obtain ⟨r, hr, hsel, hpass⟩ := Event.exists_row_of_covers hcovers
  exact passRow_opc (hopc r hr hsel) hpass

/-- With tid_en = 1 what passes is of the thread chosen (R278). -/
theorem tid_eq_of_passFilters (h : passFilters e u true f0 f1 o = true) : (o.tid == f0.extractLsb' 0 6) = true :=
  (Bool.and_eq_true_iff.mp h).2

/-- With tid_en = 0 the thread filter passes everything. -/
theorem passFilters_no_tid : passFilters e u false f0 f1 o = e.covers u (passRow f1 o) o := Bool.and_true _

theorem passFilters_tid_congr (h : w.extractLsb' 0 17 = f0.extractLsb' 0 17) :
    passFilters e u t w f1 o = passFilters e u t f0 f1 o := by
  rw [passFilters, passFilters, passTid_congr h]

end

/-! ### The statements of the filters -/

/-- Settles O20: a larger state set passes no less, and its bits beyond the five named pass nothing. -/
theorem lookupStateFilter : Obligations.LookupStateFilter := by
  intro n u t s
  refine ⟨fun hnone => rawLookup_eq_zero hnone _ t, fun w hsub hrest _ => ?_, ?_⟩
  · rw [rawLookup_eq, rawLookup_eq, getElem_set_fin]
    split
    · refine count_mono fun o h => ?_
      obtain ⟨hpass, hstate⟩ := Bool.and_eq_true_iff.mp h
      exact Bool.and_eq_true_iff.mpr ⟨(passFilters_tid_congr hrest).trans hpass, passState_mono hsub hstate⟩
    · exact le_rfl
  · have hlow : (s.cboFilter0[n] &&& 0xFF3FFFFF).extractLsb' 0 22 = s.cboFilter0[n].extractLsb' 0 22 := by
      rw [BitVec.extractLsb'_and]
      exact BitVec.and_allOnes
    have htid := field_eq_of_field_eq (lo' := 0) (len' := 17) hlow (by omega) (by omega)
    have hstate := field_eq_of_field_eq (lo' := 17) (len' := 5) hlow (by omega) (by omega)
    simp only [rawLookup_eq, getElem_set_fin, passFilters_tid_congr htid, passState_congr hstate]
    rfl

theorem llcLookup_reads_no_opc (u : BitVec 8) : evCBoLlcLookup.readsOpc u = false := by
  simp [Event.readsOpc, evCBoLlcLookup]

/-- Settles O21: the filtered increments count what passes, and the node mask narrows that alone. -/
theorem nodeFilterLaws : Obligations.NodeFilterLaws := by
  intro n u t s wider
  refine ⟨fun e htable => ⟨fun w hsub hopc => ?_, fun hempty hnid => ?_⟩, fun w hsub => ?_, fun hempty => ?_⟩
  · have hset : (wider w).cboFilter1[n] = w := getElem_set_fin _ _ _
    have htable' : e.readsOpc u = true → filterOpc (wider w).cboFilter1[n] ∈ opcodeTable := fun h => by
      rw [hset, filterOpc_congr (hopc h)]
      exact htable h
    rw [rawCbo_eq htable, rawCbo_eq htable', hset]
    exact count_mono fun o => passFilters_node_mono hsub hopc
  · rw [rawCbo_eq htable]
    exact count_eq_zero fun o => passFilters_node_empty hempty hnid
  · rw [rawLookup_eq, rawLookup_eq, getElem_set_fin]
    split
    · refine count_mono fun o h => ?_
      obtain ⟨hpass, hstate⟩ := Bool.and_eq_true_iff.mp h
      exact Bool.and_eq_true_iff.mpr ⟨passFilters_node_mono hsub (by simp [llcLookup_reads_no_opc]) hpass, hstate⟩
    · exact le_rfl
  · have hnid : ∀ r ∈ evCBoLlcLookup.rows, r.sel.selected 0x41 = true → r.nid = true := by decide
    rw [rawLookup_eq, if_pos (by decide)]
    exact count_eq_zero fun o => by rw [passFilters_node_empty hempty hnid, Bool.false_and]

/-- Settles O22: what passes the opcode filter carries its opcode, nc and isoc, what passes the thread filter its
thread, and without tid_en the field is not read. -/
theorem opcodeFilterSelects : Obligations.OpcodeFilterSelects := by
  intro n e u s
  refine ⟨fun t hopc => ⟨fun htable => ?_, rawCbo_le_maxInc n e u t s⟩, ⟨fun htable => ?_, ?_⟩,
    fun w hrest => ?_⟩
  · rw [rawCbo_eq fun _ => htable]
    exact count_le_countP fun o => passOpc_of_passFilters hopc
  · rw [rawCbo_eq htable]
    exact count_le_countP fun o => tid_eq_of_passFilters
  · rw [rawLookup_eq]
    split
    · exact count_le_countP fun o h => tid_eq_of_passFilters (Bool.and_eq_true_iff.mp h).1
    · exact Nat.zero_le _
  · have hstate := field_eq_of_field_eq (lo' := 17) (len' := 5) hrest (by omega) (by omega)
    refine ⟨rawCbo_no_tid n e u s _, ?_⟩
    simp only [rawLookup_eq, getElem_set_fin, passState_congr hstate, passFilters_no_tid]
    rfl

/-! ### COUNTER0_OCCUPANCY (41_cbo.md R273) -/

/-- The three occupancy events are told apart by their codes, and counter 0 may count them as filtered events. -/
theorem occupancyEvents_spec : ∀ e ∈ occupancyEvents,
    e.kind = .cbo ∧ e.ctrs.getLsbD 0 = true ∧ ∀ e' ∈ occupancyEvents, e'.code = e.code → e' = e := by
  decide

/-- Counter 0's own raw increment for an occupancy event with a listed unit mask. -/
theorem rawIncrement_occupancy {e : Event} (he : e ∈ occupancyEvents) {u : BitVec 8} (hu : e.listed u = true)
    (n : Fin 18) (t : Bool) (s : State) : rawIncrement (.cbo n) 0 e u t s = rawCbo n e u t s := by
  obtain ⟨hkind, hctr, -⟩ := occupancyEvents_spec e he
  have hallows : e.allows s.cfg 0 = true := by simpa [Event.allows, hkind] using hctr
  simp [rawIncrement, hu, hallows, rawListed, hkind]

/-- The search by counter 0's control register finds the event it selects. -/
theorem rawCounter0_of_selects {n : Fin 18} {s : State} {e : Event} (he : e ∈ occupancyEvents)
    (hcode : (s.unit (.cbo n) 0).ctl.extractLsb' 0 8 = e.code)
    (hlisted : e.listed ((s.unit (.cbo n) 0).ctl.extractLsb' 8 8) = true) :
    rawCounter0 n s =
      rawCbo n e ((s.unit (.cbo n) 0).ctl.extractLsb' 8 8) ((s.unit (.cbo n) 0).ctl.getLsbD 19) s := by
  obtain ⟨-, -, hunique⟩ := occupancyEvents_spec e he
  have hfind : occupancyEvents.find? (fun e => e.code == (s.unit (.cbo n) 0).ctl.extractLsb' 0 8 &&
      e.listed ((s.unit (.cbo n) 0).ctl.extractLsb' 8 8)) = some e := by
    cases hf : occupancyEvents.find? _ with
    | none => exact absurd (List.find?_eq_none.mp hf e he) (by simp [hcode, hlisted])
    | some e' =>
      have hsel := List.find?_some hf
      simp only [Bool.and_eq_true, beq_iff_eq] at hsel
      rw [hunique e' (List.mem_of_find?_eq_some hf) (hsel.1.trans hcode)]
  simp only [rawCounter0, hfind]

theorem rawListed_counter0 (n : Fin 18) (j : Fin 4) (u : BitVec 8) (t : Bool) (s : State) :
    rawListed (.cbo n) j evCBoCounter0Occupancy u t s = rawCounter0 n s := rfl

/-- Settles O23: both are the filtered increment of the event counter 0 selects. -/
theorem counter0OccupancyFollowsCounter0 : Obligations.Counter0OccupancyFollowsCounter0 := by
  intro n j u t s w
  rw [rawListed_counter0]
  refine ⟨fun e he hcode hlisted => ?_, rawCounter0_le n s⟩
  rw [rawCounter0_of_selects he hcode hlisted, rawIncrement_occupancy he hlisted]

end Sys2Proof.Machine
end

section
/-! The HA's address and opcode match: which register each row of ADDR_OPC_MATCH reads, and that no other event reads
any. -/

namespace Sys2Proof.Machine

/-! ### The opcode match (43_ha.md R403) -/

/-- A 4-bit class code is one of the first four, and the one a 2-bit code names, exactly when it is that code with two
zero bits above it. -/
theorem class_eq_zero_append_iff (c : BitVec 4) (k : BitVec 2) :
    c.extractLsb' 2 2 = 0 ∧ c.extractLsb' 0 2 = k ↔ c = (0 : BitVec 2) ++ k := by
  revert c k
  decide

/-- What gives opc_hit: the class and the opcode that OPCODEMATCH names, where the tables list the two together. -/
theorem opcHit_iff (m : Word) (o : Occ) :
    opcHit m o = true ↔ carriesOpcode o.cls o.pktOpc = true ∧
      o.cls = (0 : BitVec 2) ++ m.extractLsb' 4 2 ∧ o.pktOpc = m.extractLsb' 0 4 := by
  simp only [opcHit, Bool.and_eq_true, beq_iff_eq, and_assoc, ← class_eq_zero_append_iff]

/-- The same with the class codes compared as numbers. -/
theorem opcHit_eq (m : Word) (o : Occ) :
    opcHit m o = (carriesOpcode o.cls o.pktOpc && decide (o.cls.toNat < 4) &&
      (m.extractLsb' 4 2).toNat == o.cls.toNat && m.extractLsb' 0 4 == o.pktOpc) := by
  have hclass : o.cls = (0 : BitVec 2) ++ m.extractLsb' 4 2 ↔
      o.cls.toNat < 4 ∧ (m.extractLsb' 4 2).toNat = o.cls.toNat := by
    have hlt : (m.extractLsb' 4 2).toNat < 4 := (m.extractLsb' 4 2).isLt
    rw [← BitVec.toNat_inj, BitVec.toNat_append, BitVec.ofNat_eq_ofNat, BitVec.toNat_zero,
      Nat.zero_shiftLeft, Nat.zero_or]
    omega
  rw [Bool.eq_iff_iff, opcHit_iff, hclass, eq_comm (a := o.pktOpc)]
  simp only [Bool.and_eq_true, decide_eq_true_eq, beq_iff_eq, and_assoc]

/-- An opcode that the tables do not list for its class gives no opc_hit (log 38). -/
theorem opcHit_eq_false {m : Word}
    (h : carriesOpcode ((0 : BitVec 2) ++ m.extractLsb' 4 2) (m.extractLsb' 0 4) = false) (o : Occ) :
    opcHit m o = false := by
  refine Bool.eq_false_iff.mpr fun hhit => ?_
  obtain ⟨hcarries, hcls, hopc⟩ := (opcHit_iff m o).mp hhit
  rw [hcls, hopc, h] at hcarries
  exact Bool.false_ne_true hcarries

/-! ### The address match (43_ha.md R404) -/

theorem addrHit_eq (a1 a0 : Word) (o : Occ) :
    addrHit a1 a0 o = (o.cls != 0x2 && o.addr == some (a1.extractLsb' 0 14 ++ a0.extractLsb' 6 26)) := by
  rw [Bool.eq_iff_iff, addrHit_iff]
  simp only [Bool.and_eq_true, bne_iff_ne, beq_iff_eq]

/-- What is an opc_hit of the class NDR has no address. -/
theorem addrHit_and_opcHit_eq_false_of_ndr {m : Word} (hndr : m.extractLsb' 4 2 = 2) (a1 a0 : Word) (o : Occ) :
    (addrHit a1 a0 o && opcHit m o) = false := by
  refine Bool.eq_false_iff.mpr fun hhit => ?_
  obtain ⟨haddr, hopc⟩ := Bool.and_eq_true_iff.mp hhit
  obtain ⟨hcls, -⟩ := (addrHit_iff a1 a0 o).mp haddr
  obtain ⟨-, hclass, -⟩ := (opcHit_iff m o).mp hopc
  rw [hndr] at hclass
  exact hcls hclass

/-! ### The rows of ADDR_OPC_MATCH -/

section
variable (n : Fin 2) (s : State) (o : Occ)

/-- Row ADDR. -/
theorem passMatch_addr : passMatch n 0x01 s o = addrHit s.haAddrMatch1[n] s.haAddrMatch0[n] o := by
  simp [passMatch, ringHit_eq_false]

/-- Row OPC. -/
theorem passMatch_opc : passMatch n 0x02 s o = opcHit s.haOpcodeMatch[n] o := by
  simp [passMatch, ringHit_eq_false]

/-- FILT. -/
theorem passMatch_filt :
    passMatch n 0x03 s o = (addrHit s.haAddrMatch1[n] s.haAddrMatch0[n] o && opcHit s.haOpcodeMatch[n] o) := rfl

/-- Without the rows ADDR and OPC the environment's rows alone count a packet. -/
theorem passMatch_ring {u : BitVec 8} (h : u &&& 0x03 = 0) : passMatch n u s o = ringHit n u s o := by
  have low : ∀ u : BitVec 8, u &&& 0x03 = 0 → (u == 0x03) = false ∧ u.getLsbD 0 = false ∧ u.getLsbD 1 = false := by decide
  obtain ⟨hfilt, haddr, hopc⟩ := low u h
  simp only [passMatch, hfilt, haddr, hopc, Bool.false_and, Bool.false_or, Bool.false_eq_true, if_false]

end

/-- The increment of ADDR_OPC_MATCH: whether some packet passes. -/
theorem rawListed_haMatch (n : Fin 2) (j : Fin 4) (u : BitVec 8) (t : Bool) (s : State) :
    (rawListed (.ha n) j evHaAddrOpcMatch u t s).1 =
      min 1 ((s.occurrences (.ha n) j evHaAddrOpcMatch).countP (passMatch n u s)) := rfl

theorem rawListed_haMatch_eq_zero {n : Fin 2} {u : BitVec 8} {s : State} (h : ∀ o, passMatch n u s o = false)
    (j : Fin 4) (t : Bool) : (rawListed (.ha n) j evHaAddrOpcMatch u t s).1 = 0 :=
  count_eq_zero h

/-! ### The other events of an HA -/

/-- FREQ_BANDk_CYCLES: 0 in a transition, a draw from {0, 1} without a threshold, else the comparison (46_pcu.md R656). -/
theorem rawBand_fst (k : Fin 4) (s : State) :
    (rawBand k s).1 = if Config.inTransition s.time then 0
      else s.effband[k].elim (s.draw 1).1 (fun v => if v.toNat ≤ Config.ratio s.time then 1 else 0) := by
  unfold rawBand
  split
  · rfl
  · cases s.effband[k] <;> rfl

/-- The match registers of the HAs, replaced. -/
def State.setHaMatch (s : State) (opc addr1 addr0 : Vector Word 2) : State :=
  { s with haOpcodeMatch := opc, haAddrMatch1 := addr1, haAddrMatch0 := addr0 }

section
variable (s : State) (x y z : Vector Word 2)

theorem rawBand_setHaMatch (k : Fin 4) : (rawBand k (s.setHaMatch x y z)).1 = (rawBand k s).1 := by
  rw [rawBand_fst, rawBand_fst]
  rfl

/-- An event other than the match reads no match register of an HA. -/
theorem rawListed_setHaMatch {e : Event} (hk : e.kind ≠ .haMatch) (n : Fin 2) (j : Fin 4) (u : BitVec 8) (t : Bool) :
    (rawListed (.ha n) j e u t (s.setHaMatch x y z)).1 = (rawListed (.ha n) j e u t s).1 := by
  cases h : e.kind with
  | haMatch => exact absurd h hk
  | freqBand k => simpa only [rawListed, h] using rawBand_setHaMatch s x y z k
  | _ => simp only [rawListed, h] <;> rfl

/-- So with any unit mask: one that is not listed counts a draw, which reads none either. -/
theorem rawIncrement_setHaMatch {e : Event} (hk : e.kind ≠ .haMatch) (n : Fin 2) (j : Fin 4) (u : BitVec 8) (t : Bool) :
    (rawIncrement (.ha n) j e u t (s.setHaMatch x y z)).1 = (rawIncrement (.ha n) j e u t s).1 := by
  unfold rawIncrement
  rw [apply_ite Prod.fst, apply_ite Prod.fst, rawListed_setHaMatch s x y z hk]
  rfl

end

/-- After reset no counter of an HA selects the match (70_reset_and_hazards.md R1043(d)). -/
theorem reset_ha_selects_no_match (n : Fin 2) (j : Fin 4) :
    (State.reset.unit (.ha n) j).ctl.extractLsb' 0 8 ≠ evHaAddrOpcMatch.code := by
  revert n j
  decide

/-- Settles O24: each row reads the registers of its own hit, and only this event's rows read any. -/
theorem haFiltMatches : Obligations.HaFiltMatches := by
  intro n j t s m addr opc raw counts withAddr
  have haddr : addrHit s.haAddrMatch1[n] s.haAddrMatch0[n] = addr := funext (addrHit_eq _ _)
  have hopc : opcHit m = opc := funext (opcHit_eq m)
  refine ⟨⟨?_, ?_, ?_⟩, fun hndr => ?_, fun u a1 a0 hring => ?_, fun e u a1 a0 w hk => ?_,
    reset_ha_selects_no_match n j, fun hunlisted => ⟨?_, ?_⟩⟩
  · rw [← haddr, ← funext (passMatch_addr n s)]
    exact rawListed_haMatch n j _ t s
  · rw [← hopc, ← funext (passMatch_opc n s)]
    exact rawListed_haMatch n j _ t s
  · rw [← haddr, ← hopc, ← funext (passMatch_filt n s)]
    exact rawListed_haMatch n j _ t s
  · exact rawListed_haMatch_eq_zero (fun o => (passMatch_filt n s o).trans (addrHit_and_opcHit_eq_false_of_ndr hndr _ _ o)) j t
  · have hpass : passMatch n u (withAddr a1 a0) = passMatch n u s := funext fun o => by
      rw [passMatch_ring n _ o hring, passMatch_ring n s o hring]
      rfl
    simp only [raw, rawListed_haMatch, hpass]
    rfl
  · exact rawIncrement_setHaMatch s _ _ _ hk n j u t
  · refine rawListed_haMatch_eq_zero (fun o => ?_) j t
    rw [passMatch_opc, opcHit_eq_false hunlisted]
  · refine rawListed_haMatch_eq_zero (fun o => ?_) j t
    rw [passMatch_filt, opcHit_eq_false hunlisted, Bool.and_false]

end Sys2Proof.Machine
end

section
/-! The fixed counter of an IMC channel: its step, its overflow, and the end of the channel's cycle. -/

namespace Sys2Proof.Machine

/-! ### The fixed counter's step (44_imc.md R503) -/

theorem fixedStepMc_counting {b : BoxId} {s : State} (hen : (s.blk b).fixCtl.getLsbD 22 = true)
    (hbfrz : (s.blk b).bfrz = false) (hfree : s.freezeSeen b = some false) :
    fixedStepMc b s =
      let s' := s.setBlk b { s.blk b with fixCtr := (s.blk b).fixCtr + 1 }
      if (s.blk b).fixCtr = BitVec.allOnes 48 then reportOverflow b 0 ((s.blk b).fixCtl.getLsbD 20) s' else s' := by
  simp only [fixedStepMc, hen, hbfrz, frozenGlobal, hfree, succ_eq_two_pow_iff, Bool.not_false, Bool.and_true, if_true,
    Bool.false_eq_true, if_false]

theorem fixedStepMc_idle {b : BoxId} {s : State} (h : (s.blk b).fixCtl.getLsbD 22 = false ∨ (s.blk b).bfrz = true ∨
    s.freezeSeen b = some true) : fixedStepMc b s = s := by
  rcases h with hdisabled | hbox | hglobal
  · simp only [fixedStepMc, hdisabled, Bool.false_and, Bool.false_eq_true, if_false]
  · simp [fixedStepMc, hbox]
  · simp [fixedStepMc, frozenGlobal, hglobal]

/-! ### Its overflow (44_imc.md R504) -/

/-- The overflow of a fixed counter sets status bit 0, and its message is the one of `reportOverflow_spec`. -/
theorem fixedOverflow_spec (b : BoxId) (ovEn : Bool) (v : Counter) (s : State) :
    ∃ sent draws, reportOverflow b 0 ovEn (s.setBlk b { s.blk b with fixCtr := v }) =
        ((s.setBlk b { s.blk b with fixCtr := v, ov := (s.blk b).ov ||| 1 }).setPend (s.pend ++ sent)).setDraws draws ∧
      (ovEn = false → sent = []) ∧
      (ovEn = true → b.globalBits ≠ 0 → (s.blk b).ov.getLsbD 0 = false → s.status &&& b.globalBits = 0 →
        sent = [b.globalBits]) := by
  obtain ⟨sent, draws, hreport, hsent, -, hsure⟩ :=
    reportOverflow_spec b 0 ovEn (s.setBlk b { s.blk b with fixCtr := v })
  refine ⟨sent, draws, by simpa [Blk.setOv] using hreport, fun hov => ?_, by simpa using hsure⟩
  exact hsent.resolve_right fun h => by simp [hov] at h

/-- A fixed counter that counts changes its own box's fixed counter and status, PEND and the count of draws: without a
wrap the fixed counter alone, on a wrap as `fixedOverflow_spec` says. -/
theorem fixedStepMc_counting_spec {b : BoxId} {s : State} (hen : (s.blk b).fixCtl.getLsbD 22 = true)
    (hbfrz : (s.blk b).bfrz = false) (hfree : s.freezeSeen b = some false) :
    ∃ ov sent draws, fixedStepMc b s =
        ((s.setBlk b { s.blk b with fixCtr := (s.blk b).fixCtr + 1, ov := ov }).setPend (s.pend ++ sent)).setDraws draws ∧
      ((s.blk b).fixCtr ≠ BitVec.allOnes 48 → ov = (s.blk b).ov ∧ sent = []) ∧
      ((s.blk b).fixCtr = BitVec.allOnes 48 → ov = (s.blk b).ov ||| 1 ∧
        ((s.blk b).fixCtl.getLsbD 20 = false → sent = []) ∧
        ((s.blk b).fixCtl.getLsbD 20 = true → b.globalBits ≠ 0 → (s.blk b).ov.getLsbD 0 = false →
          s.status &&& b.globalBits = 0 → sent = [b.globalBits])) := by
  rw [fixedStepMc_counting hen hbfrz hfree]
  by_cases hwrap : (s.blk b).fixCtr = BitVec.allOnes 48
  · obtain ⟨sent, draws, hreport, hnone, hsure⟩ :=
      fixedOverflow_spec b ((s.blk b).fixCtl.getLsbD 20) ((s.blk b).fixCtr + 1) s
    exact ⟨_, sent, draws, (if_pos hwrap).trans hreport, fun h => absurd hwrap h, fun _ => ⟨rfl, hnone, hsure⟩⟩
  · exact ⟨(s.blk b).ov, [], s.draws, (if_neg hwrap).trans (by simp), fun _ => ⟨rfl, rfl⟩, fun h => absurd h hwrap⟩

/-! ### The end of a channel's cycle -/

/-- Every channel belongs to a controller, whose bit its message names. -/
theorem globalBits_imc_ne_zero (c : Fin 8) : (BoxId.imc c).globalBits ≠ 0 := by
  revert c
  decide

/-- Settles O48: the end of the cycle is the fixed counter's step and the time's. -/
theorem imcFixedCounter : Obligations.ImcFixedCounter := by
  intro s c n hrun hn x bits
  have hstep : step s = .next (((fixedStepMc (.imc c) s).setTime (s.time + 1)).setRun none) :=
    (step_finishCycle hrun hn).trans (congrArg _ (finishCycle_eq (.imc c) s))
  refine ⟨fun hen hbfrz hfree => ⟨_, hstep, ?_⟩, fun hidle => by rw [hstep, fixedStepMc_idle hidle]⟩
  obtain ⟨ov, sent, draws, heq, hplain, hwrap⟩ := fixedStepMc_counting_spec hen hbfrz hfree
  have hblk : (fixedStepMc (.imc c) s).blk (.imc c) = { x with fixCtr := x.fixCtr + 1, ov := ov } := by simp [heq, x]
  have hpend : (fixedStepMc (.imc c) s).pend = s.pend ++ sent := by simp [heq]
  obtain ⟨-, -, -, -, -, -, hothers, hunits⟩ := otherCounters_same (.imc c) s
  simp only [State.blk_setRun, State.blk_setTime, State.unit_setRun, State.unit_setTime, State.setRun_pend,
    State.setTime_pend, hblk, hpend]
  refine ⟨trivial, hunits, hothers, fun hmax => ?_, fun hmax => ?_⟩
  · obtain ⟨hov, hsent⟩ := hplain hmax
    exact ⟨hov, by simp [hsent]⟩
  · obtain ⟨hov, hnone, hsure⟩ := hwrap hmax
    exact ⟨by simp [hov], fun hovEn => by simp [hnone hovEn], fun hovEn hstatus hglobal =>
      congrArg _ (hsure hovEn (globalBits_imc_ne_zero c) hstatus hglobal)⟩

end Sys2Proof.Machine
end

section
/-! The IRP's combinations of unit mask bits (45_irp.md R604, R605). -/

namespace Sys2Proof.Machine

/-- With no row selected an occurrence is covered by none. -/
theorem Event.covers_eq_false {e : Event} {u : BitVec 8} (h : ∀ r ∈ e.rows, r.sel.selected u = false) (ok : Row → Bool)
    (o : Occ) : e.covers u ok o = false := by
  refine Bool.eq_false_iff.mpr fun hcovers => ?_
  obtain ⟨r, hr, hsel, -⟩ := Event.exists_row_of_covers hcovers
  exact absurd hsel (Bool.eq_false_iff.mp (h r hr))

/-- Where the spec gives 0 to an unlisted unit mask, a listed increment of 0 makes the raw increment 0 under every
value and on every counter. -/
theorem rawIncrement_eq_zero {b : BoxId} {i : Fin 4} {e : Event} {u : BitVec 8} {t : Bool} {s : State}
    (hlisted : (rawListed b i e u t s).1 = 0) (hnone : countsNothing b e.code u s = true) :
    (rawIncrement b i e u t s).1 = 0 := by
  unfold rawIncrement
  split
  · exact hlisted
  · exact rawUnlisted_eq_zero hnone

/-! ### TRANSACTIONS -/

theorem rawListed_irpTransactions (b : BoxId) (i : Fin 4) (u : BitVec 8) (t : Bool) (s : State) :
    rawListed b i evIrpTransactions u t s =
      (evIrpTransactions.count (passTransaction u s.cfg.irpOrderingQ) (s.occurrences b i evIrpTransactions), s) := rfl

theorem irpTransactions_unselected : ∀ r ∈ evIrpTransactions.rows, r.sel.selected 0 = false := by decide

/-- Without a request type in bits 5:0 no transaction passes, whatever bits 7:6 are (R605). -/
theorem passTransaction_eq_false {u : BitVec 8} (h : u &&& 0x3F = 0) (q : BitVec 5) (o : Occ) :
    passTransaction u q o = false := by
  rw [passTransaction, h, Event.covers_eq_false irpTransactions_unselected, Bool.false_and]

/-- The ORDERINGQ bit keeps of the selected types those of the selected queue (R604). -/
theorem passTransaction_orderingQ (u : BitVec 8) (q : BitVec 5) (o : Occ) :
    passTransaction (u ||| 0x40) q o =
      (evIrpTransactions.covers (u &&& 0x3F) (fun _ => true) o && o.queue == q) := by
  have htypes : (u ||| 0x40) &&& 0x3F = u &&& 0x3F := by
    rw [BitVec.and_comm, BitVec.and_or_distrib_left, BitVec.and_comm 0x3F u]
    exact BitVec.or_zero
  have hbit : (u ||| 0x40).getLsbD 6 = true := by simp
  rw [passTransaction, htypes, hbit, Bool.not_true, Bool.false_or]

/-- What passes with the ORDERINGQ bit passes without it. -/
theorem passTransaction_of_orderingQ {u : BitVec 8} {q : BitVec 5} {o : Occ} (h : passTransaction (u ||| 0x40) q o = true) :
    passTransaction u q o = true := by
  rw [passTransaction_orderingQ, Bool.and_eq_true] at h
  obtain ⟨htypes, hqueue⟩ := h
  rw [passTransaction, htypes, hqueue, Bool.or_true, Bool.and_true]

/-! ### SNOOP_RESP -/

theorem rawListed_irpSnoopResp (b : BoxId) (i : Fin 4) (u : BitVec 8) (t : Bool) (s : State) :
    rawListed b i evIrpSnoopResp u t s =
      (evIrpSnoopResp.count (passSnoop u) (s.occurrences b i evIrpSnoopResp), s) := rfl

theorem irpSnoopResp_unselected : ∀ r ∈ evIrpSnoopResp.rows, r.sel.selected 0 = false := by decide

/-- Without a response in bits 3:0, or without a snoop in bits 6:4, nothing passes (R605). -/
theorem passSnoop_eq_false {u : BitVec 8} (h : u &&& 0x0F = 0 ∨ u &&& 0x70 = 0) (o : Occ) : passSnoop u o = false := by
  unfold passSnoop
  rcases h with hresponse | hsnoop
  · rw [hresponse, Event.covers_eq_false irpSnoopResp_unselected, Bool.false_and]
  · rw [hsnoop, Event.covers_eq_false irpSnoopResp_unselected, Bool.and_false]

/-- Settles O25: without a type, or without both groups, no occurrence passes and an unlisted value counts nothing; the
ORDERINGQ bit only narrows what passes. -/
theorem irpCombinationRules : Obligations.IrpCombinationRules := by
  intro j u t s
  refine ⟨fun htypes => rawIncrement_eq_zero ?_ (countsNothing_irp.mpr (.inl ⟨rfl, htypes⟩)), ?_,
    fun hgroups => rawIncrement_eq_zero ?_ (countsNothing_irp.mpr (.inr ⟨rfl, hgroups⟩))⟩
  · rw [rawListed_irpTransactions]
    exact count_eq_zero fun o => passTransaction_eq_false htypes _ o
  · rw [rawListed_irpTransactions, rawListed_irpTransactions]
    exact count_mono fun o => passTransaction_of_orderingQ
  · rw [rawListed_irpSnoopResp]
    exact count_eq_zero fun o => passSnoop_eq_false hgroups o

end Sys2Proof.Machine
end

section
/-! The PCU: its occupancy events' edge detector, its bands and per-core events, the writes and transitions that set the
band thresholds, and the free-running counters of the PCU and the QPI ports. -/

namespace Sys2Proof.Machine

/-! ### The edge stage of the occupancy events (46_pcu.md R655, R656) -/

/-- With a sample the comparison of the edge stages gives 1 on a rise and 0 otherwise. -/
theorem risingEdge_some_fst (p c : Bool) (s : State) :
    (risingEdge (some p) c s).1 = if p = false ∧ c = true then 1 else 0 := by
  simp [risingEdge]

/-- Without a sample it may give 1 for a true bit only. -/
theorem risingEdge_none_fst (c : Bool) (s : State) :
    (risingEdge none c s).1 ≤ 1 ∧ (c = false → (risingEdge none c s).1 = 0) := by
  cases c with
  | false => exact ⟨Nat.zero_le 1, fun _ => rfl⟩
  | true => exact ⟨State.draw_fst_le _ 1, fun h => nomatch h⟩

/-- The edge stage of an occupancy event keeps the new sample in OPREV and moves no other latch. -/
theorem stageOccEdge_unit (b : BoxId) (j : Fin 4) (c : Bool) (s : State) :
    (stageOccEdge b j c s).2.unit b j = { s.unit b j with oprev := some c } := by
  rw [stageOccEdge, (risingEdge_onlyDraws _ _ _).unit_eq, State.unit_setUnit_self]

/-- With occ_edge_det the addend of an occupancy event is the edge of the comparison under occ_invert. -/
theorem addend_of_occEdge {c : CtlOps} {b : BoxId} {code : BitVec 8} (hthresh : c.thresh ≠ 0)
    (hocc : occShaped b code = true) (hedge : c.occEdge = true) (j : Fin 4) (raw : Nat) (s : State) :
    addend b j code c raw s = stageOccEdge b j (comparison c.thresh c.occInvert raw) s := by
  simp [addend, hocc, stageThresh_of_ne_zero hthresh, hedge]

/-- A counting counter adds what the stages make of its raw increment, and keeps the latches they leave. -/
theorem exec_event_staged {i : Instr} {k : Kind} {e : Event} {base : BitVec 8} {o : EvOp k} {s : State}
    (hv : i.view = .event k e base o) (hcount : Counting o.box o.unit o.ctl.en s) :
    ∃ drawn, OnlyDraws s drawn ∧
      let staged := addend o.box o.unit e.code o.ctl (o.raw e base s).1 drawn
      ∃ t ctr, exec i s = .next t ∧ Adds o.box o.unit staged.1 o.ctl.ovEn s t ∧
        t.unit o.box o.unit = { staged.2.unit o.box o.unit with ctr := ctr } := by
  have hdraws := raw_onlyDraws o e base s
  obtain ⟨ctr, hlatch⟩ := addTo_unit (b := o.box) (j := o.unit) o.ctl.ovEn _
  exact ⟨_, hdraws, _, ctr, exec_event hv s, countStep_adds hcount hdraws e.code,
    (congrArg (State.unit · o.box o.unit) (countStep_counting hcount)).trans hlatch⟩

/-- Settles O12: the addend is the occupancy edge stage's, and the sum leaves the sample that stage keeps. -/
theorem pcuOccupancyEdgeDetect : Obligations.PcuOccupancyEdgeDetect := by
  intro i e base o s hv hcount hthresh hcode hedge raw c
  obtain ⟨drawn, hdraws, t, ctr, hexec, hadds, hunit⟩ := exec_event_staged hv hcount
  have hsample : drawn.unit o.box o.unit = s.unit o.box o.unit := hdraws.unit_eq _ _
  have hocc : occShaped o.box e.code = true := by rw [occShaped_box, hcode]; rfl
  have hstage : addend o.box o.unit e.code o.ctl raw drawn = stageOccEdge o.box o.unit c drawn :=
    addend_of_occEdge hthresh hocc hedge _ _ _
  rw [hstage, stageOccEdge_unit, hsample] at hunit
  rw [hstage, stageOccEdge, hsample] at hadds
  refine ⟨t, _, hexec, hadds, by rw [hunit], by rw [hunit], fun p hp => ?_, fun hnone => ?_⟩
  · rw [hp, risingEdge_some_fst]
  · rw [hnone]
    exact risingEdge_none_fst c _

/-! ### The frequency bands and the cores (46_pcu.md R656, R660) -/

theorem rawListed_freqBand {e : Event} {k : Fin 4} (hk : e.kind = .freqBand k) (b : BoxId) (j : Fin 4) (u : BitVec 8)
    (t : Bool) (s : State) : rawListed b j e u t s = rawBand k s := by
  simp only [rawListed, hk]

theorem rawListed_perCore_absent {e : Event} {n : Nat} (hk : e.kind = .perCore n) (b : BoxId) (j : Fin 4) (u : BitVec 8)
    (t : Bool) {s : State} (hn : s.cfg.nCore ≤ n) : (rawListed b j e u t s).1 = 0 := by
  simp only [rawListed, hk, if_neg (Nat.not_lt.mpr hn)]

/-- Settles O28: with a threshold in use a band compares the ratio with it, and an absent core's event counts 0. -/
theorem pcuBandAndCoreEvents : Obligations.PcuBandAndCoreEvents := by
  refine fun j e u t s => ⟨fun k v hk hv => ?_, fun n hk hn => rawListed_perCore_absent hk _ _ _ _ hn⟩
  rw [rawListed_freqBand hk, rawBand_fst, hv, Option.elim_some]

/-! ### The band thresholds (46_pcu.md R656, 10_state.md R97) -/

/-- `t` is `s` but for draws and the band thresholds in use: each stays or becomes its band's new byte, and one without a
value gains none. -/
def BandsOldOrNew (new : Fin 4 → BitVec 8) (s t : State) : Prop :=
  ∃ eff n, t = ({ s with effband := eff } : State).setDraws n ∧
    ∀ k : Fin 4, (s.effband[k] = none → eff[k] = none) ∧ (eff[k] = s.effband[k] ∨ eff[k] = some (new k))

theorem BandsOldOrNew.refl (new : Fin 4 → BitVec 8) (s : State) : BandsOldOrNew new s s :=
  ⟨s.effband, s.draws, rfl, fun _ => ⟨id, .inl rfl⟩⟩

theorem BandsOldOrNew.drawBand {new : Fin 4 → BitVec 8} {s t : State} (h : BandsOldOrNew new s t) (k : Fin 4) :
    BandsOldOrNew new s (drawBand k (new k) t) := by
  obtain ⟨eff, n, rfl, hbands⟩ := h
  obtain ⟨eff', n', -, hdraw, hother, hnone, hown⟩ :=
    drawBand_spec k (new k) (({ s with effband := eff } : State).setDraws n)
  refine ⟨eff', n', hdraw, fun j => ?_⟩
  obtain ⟨hkeep, hvalue⟩ := hbands j
  by_cases hj : j = k
  · subst hj
    exact ⟨fun h => hnone (hkeep h), hown.elim (fun h => h ▸ hvalue) .inr⟩
  · rw [hother j hj]
    exact ⟨hkeep, hvalue⟩

/-- A write of the PCU filter stores it and leaves each threshold in use the old one or the new byte. -/
theorem writePcuFilter_bands (w : Word) (s : State) :
    BandsOldOrNew (fun k => w.extractLsb' (8 * k.val) 8) { s with pcuFilter := w } (writePcuFilter w s) :=
  ((((BandsOldOrNew.refl _ _).drawBand 0).drawBand 1).drawBand 2).drawBand 3

/-- A byte of the low dword is that byte of the value. -/
theorem byte_low_dword (v : Quad) (k : Fin 4) :
    (v.extractLsb' 0 32).extractLsb' (8 * k.val) 8 = v.extractLsb' (8 * k.val) 8 := by
  rw [BitVec.extractLsb'_extractLsb'_of_le (by omega)]

theorem frequencyTransition_effband (s : State) (k : Fin 4) :
    (frequencyTransition s).effband[k] = some (s.pcuFilter.extractLsb' (8 * k.val) 8) :=
  match k with
  | 0 | 1 | 2 | 3 => rfl

/-- Settles O42: the write draws the thresholds band by band, the transition sets them all. -/
theorem pcuFilterWrite : Obligations.PcuFilterWrite := by
  refine ⟨fun v s hhigh => ?_, fun s rest hrun hturn => ?_⟩
  · have hw : WritesReg (.pcuMsrPmonBoxFilter (.write v)) .pcuFilter v s := ⟨rfl, .inl ⟨_, rfl⟩⟩
    obtain ⟨eff, n, hwrite, hbands⟩ := writePcuFilter_bands (v.extractLsb' 0 32) s
    refine ⟨eff, n, ?_, fun k => byte_low_dword v k ▸ hbands k⟩
    rw [exec_accepted hw (writeCheck_plain rfl (fun _ => hhigh) BitVec.and_zero), storeReg, hwrite]
  · have hstep : step s = .next (frequencyTransition (s.setAgenda rest)) := by
      simp only [step, hrun, nextTurn, hturn, platformTurn]
    exact ⟨_, hstep, frequencyTransition_effband (s.setAgenda rest)⟩

/-! ### The free-running counters (46_pcu.md R659, 47_qpi.md R760) -/

/-- One register of an array steps when its condition holds, and no other. -/
theorem getElem_step_one {m : Nat} (v : Vector Word m) (p : Fin m) (c : Bool) (q : Fin m) :
    (if c then v.set p (v[p] + 1) else v)[q] = if q = p ∧ c = true then v[q] + 1 else v[q] := by
  cases c with
  | false => simp
  | true =>
    by_cases hq : q = p
    · simp [hq]
    · simp [hq, Vector.getElem_set_ne, Ne.symm (Fin.val_ne_of_ne hq)]

/-- Settles O49: the end of the cycle is the free-running counters' step, which reads no freeze, and the time's. -/
theorem freeRunningCounters : Obligations.FreeRunningCounters := by
  intro s n hn tick
  have hend {b : BoxId} (hrun : s.run = some ⟨b, n⟩) (hb : b.kind.ctrs = 4) :
      step s = .next (((otherCounters b s).setTime (s.time + 1)).setRun none) :=
    (step_finishCycle hrun (hb.trans_le hn)).trans (congrArg _ (finishCycle_eq b s))
  exact ⟨fun hrun => hend hrun rfl, fun p hrun => ⟨_, _, hend hrun rfl,
    getElem_step_one s.qpiIdle p (Config.rxIdle p s.time), getElem_step_one s.qpiLlr p (Config.rxLlr p s.time)⟩⟩

end Sys2Proof.Machine
end

section
/-! The QPI ports: the packet match, the packets CTO_COUNT counts, and how a box's cycle begins. -/

namespace Sys2Proof.Machine

/-! ### The fields of the packed words (47_qpi.md R757) -/

/-- The first word as the OR of its shifted fields. -/
theorem Packet.word0_eq_or (p : Packet) : Packet.word0 p = ((p.rnid.extractLsb' 4 1).setWidth 32 <<< 31 |||
    p.dnid.setWidth 32 <<< 13 ||| p.mc.setWidth 32 <<< 9 ||| p.opc.setWidth 32 <<< 5 ||| p.vnw.setWidth 32 <<< 3) := by
  calc
    Packet.word0 p = (p.rnid.extractLsb' 4 1 ++ (0 : BitVec 13) ++ p.dnid ++ p.mc ++ p.opc ++ p.vnw ++
        (0 : BitVec 3)).setWidth 32 := (BitVec.setWidth_eq (Packet.word0 p)).symm
    _ = _ := by
      simp only [BitVec.setWidth_append_eq_shiftLeft_setWidth_or, BitVec.shiftLeft_or_distrib, ← BitVec.shiftLeft_add]
      simp

/-- The second word as the OR of its shifted fields. -/
theorem Packet.word1_eq_or (p : Packet) :
    Packet.word1 p = (p.rds.setWidth 32 <<< 16 ||| (p.rnid.extractLsb' 0 4).setWidth 32) := by
  calc
    Packet.word1 p = ((0 : BitVec 12) ++ p.rds ++ (0 : BitVec 12) ++ p.rnid.extractLsb' 0 4).setWidth 32 :=
      (BitVec.setWidth_eq (Packet.word1 p)).symm
    _ = _ := by
      simp only [BitVec.setWidth_append_eq_shiftLeft_setWidth_or, BitVec.shiftLeft_or_distrib, ← BitVec.shiftLeft_add]
      simp

theorem Packet.word0_opc (p : Packet) : (Packet.word0 p).extractLsb' 5 4 = p.opc := by
  rw [Packet.word0, BitVec.extractLsb'_append_eq_of_le (by decide), BitVec.extractLsb'_append_eq_of_le (by decide)]
  exact BitVec.extractLsb'_append_eq_right

theorem Packet.word0_mc (p : Packet) : (Packet.word0 p).extractLsb' 9 4 = p.mc := by
  rw [Packet.word0, BitVec.extractLsb'_append_eq_of_le (by decide), BitVec.extractLsb'_append_eq_of_le (by decide),
    BitVec.extractLsb'_append_eq_of_le (by decide)]
  exact BitVec.extractLsb'_append_eq_right

theorem Packet.word1_rds (p : Packet) : (Packet.word1 p).extractLsb' 16 4 = p.rds := by
  rw [Packet.word1, BitVec.extractLsb'_append_eq_of_le (by decide), BitVec.extractLsb'_append_eq_of_le (by decide)]
  exact BitVec.extractLsb'_append_eq_right

/-! ### Agreement under a mask (47_qpi.md R757) -/

/-- `w` agrees with `m` in every bit the mask compares. -/
def AgreesUnder (mask w m : Word) : Prop := ∀ n < 32, mask.getLsbD n = true → w.getLsbD n = m.getLsbD n

theorem masked_xor_eq_zero_iff_agreesUnder {mask w m : Word} : (w ^^^ m) &&& mask = 0 ↔ AgreesUnder mask w m := by
  rw [and_eq_zero_iff_bits]
  refine forall₂_congr fun n _ => ?_
  rw [BitVec.getLsbD_xor, bne_eq_false_iff_eq]

theorem agreesUnder_zero (w m : Word) : AgreesUnder 0 w m := fun n _ hn => by simp at hn

/-- Words that agree under a mask agree under every part of it. -/
theorem AgreesUnder.of_fewer {less mask w m : Word} (h : AgreesUnder mask w m) (hless : less &&& mask = less) :
    AgreesUnder less w m := fun n hn hbit => h n hn (getLsbD_of_and_eq hless hbit)

/-- Words that agree under a mask with a whole field have the same field. -/
theorem AgreesUnder.field_eq {mask w m : Word} (h : AgreesUnder mask w m) {lo len : Nat} (hlen : lo + len ≤ 32)
    (hfield : ∀ i < len, mask.getLsbD (lo + i) = true) : w.extractLsb' lo len = m.extractLsb' lo len := by
  refine BitVec.eq_of_getLsbD_eq fun i hi => ?_
  rw [BitVec.getLsbD_extractLsb', BitVec.getLsbD_extractLsb', h (lo + i) (by omega) (hfield i hi)]

/-! ### The match (47_qpi.md R757, R759) -/

/-- A packet matches when both words agree with the registers of its own direction. -/
theorem Packet.hits_iff (p : Packet) (x : PktRegs) : Packet.hits p x = true ↔
    AgreesUnder (if p.rx then x.rxMask0 else x.txMask0) (Packet.word0 p) (if p.rx then x.rxMatch0 else x.txMatch0) ∧
    AgreesUnder (if p.rx then x.rxMask1 else x.txMask1) (Packet.word1 p) (if p.rx then x.rxMatch1 else x.txMatch1) := by
  rw [← masked_xor_eq_zero_iff_agreesUnder, ← masked_xor_eq_zero_iff_agreesUnder]
  cases hdir : p.rx <;> simp [Packet.hits, PktRegs.side, hdir]

/-- `x` compares under the match values of `y`, at most what `y` compares. -/
structure PktRegs.ComparesLess (x y : PktRegs) : Prop where
  rxMatch0 : x.rxMatch0 = y.rxMatch0
  rxMatch1 : x.rxMatch1 = y.rxMatch1
  txMatch0 : x.txMatch0 = y.txMatch0
  txMatch1 : x.txMatch1 = y.txMatch1
  rxMask0 : x.rxMask0 &&& y.rxMask0 = x.rxMask0
  rxMask1 : x.rxMask1 &&& y.rxMask1 = x.rxMask1
  txMask0 : x.txMask0 &&& y.txMask0 = x.txMask0
  txMask1 : x.txMask1 &&& y.txMask1 = x.txMask1

/-- A filter that compares less matches at least as much. -/
theorem Packet.hits_of_comparesLess {p : Packet} {x y : PktRegs} (h : x.ComparesLess y) (hy : Packet.hits p y = true) :
    Packet.hits p x = true := by
  rw [Packet.hits_iff] at hy ⊢
  obtain ⟨hword0, hword1⟩ := hy
  rw [h.rxMatch0, h.rxMatch1, h.txMatch0, h.txMatch1]
  refine ⟨hword0.of_fewer ?_, hword1.of_fewer ?_⟩
  · split
    · exact h.rxMask0
    · exact h.txMask0
  · split
    · exact h.rxMask1
    · exact h.txMask1

/-- A filter that compares nothing matches every packet. -/
theorem Packet.hits_of_masks_zero (p : Packet) {x : PktRegs}
    (h : x.rxMask0 = 0 ∧ x.rxMask1 = 0 ∧ x.txMask0 = 0 ∧ x.txMask1 = 0) : Packet.hits p x = true := by
  obtain ⟨hrx0, hrx1, htx0, htx1⟩ := h
  rw [Packet.hits_iff, hrx0, hrx1, htx0, htx1, ite_self]
  exact ⟨agreesUnder_zero _ _, agreesUnder_zero _ _⟩

/-- Settles O26: the words are concatenations of the fields, and a match is an agreement under the masks. -/
theorem packetMaskLaws : Obligations.PacketMaskLaws := by
  refine fun p x y => ⟨⟨Packet.word0_eq_or p, Packet.word1_eq_or p⟩, (Packet.hits_iff p x).trans ?_, ?_,
    Packet.hits_of_masks_zero p⟩
  · simp only [AgreesUnder, forall_and]
  · rintro ⟨hrx0, hrx1, htx0, htx1⟩ ⟨mrx0, mrx1, mtx0, mtx1⟩
    exact Packet.hits_of_comparesLess ⟨hrx0, hrx1, htx0, htx1, mrx0, mrx1, mtx0, mtx1⟩

/-! ### The packets counted (47_qpi.md R759) -/

/-- The packets the two slots of a port hold in cycle `t`. -/
def slotPackets (p : Fin 3) (t : Nat) : List Packet := (Config.slot p false t).toList ++ (Config.slot p true t).toList

theorem rawSlot_eq_countP (p : Fin 3) (second : Bool) (s : State) : rawSlot p second s =
    (Config.slot p second s.time).toList.countP (fun k => Packet.carried k && Packet.hits k s.qpiPkt[p]) := by
  unfold rawSlot
  split
  · next hnone => simp [hnone]
  · next k hsome => simp [hsome, List.countP_singleton]

/-- CTO_COUNT's increment is the number of packets of this hardware in the slots that the port's filters match. -/
theorem rawCto_eq_countP (p : Fin 3) (s : State) :
    rawCto p s = (slotPackets p s.time).countP (fun k => Packet.carried k && Packet.hits k s.qpiPkt[p]) := by
  rw [rawCto, rawSlot_eq_countP, rawSlot_eq_countP, slotPackets, List.countP_append]

/-- The reset registers compare nothing, so every packet of this hardware counts. -/
theorem rawCto_of_reset {p : Fin 3} {s : State} (h : s.qpiPkt[p] = .reset) :
    rawCto p s = (slotPackets p s.time).countP Packet.carried := by
  have hall (k : Packet) : Packet.hits k .reset = true := Packet.hits_of_masks_zero k ⟨rfl, rfl, rfl, rfl⟩
  simp only [rawCto_eq_countP, h, hall, Bool.and_true]

/-- A port whose registers compare less counts no less. -/
theorem rawCto_le_of_comparesLess {p : Fin 3} {s : State} {x : PktRegs} (h : x.ComparesLess s.qpiPkt[p]) :
    rawCto p s ≤ rawCto p { s with qpiPkt := s.qpiPkt.set p x } := by
  rw [rawCto_eq_countP, rawCto_eq_countP]
  refine List.countP_mono_left fun k _ hk => ?_
  obtain ⟨hcarried, hhits⟩ := Bool.and_eq_true_iff.mp hk
  simpa [hcarried] using Packet.hits_of_comparesLess h hhits

/-- Any part of a mask is a part of the mask. -/
theorem masked_and_self (w m : Word) : w &&& m &&& w = w &&& m := by
  rw [BitVec.and_comm, ← BitVec.and_assoc, BitVec.and_self]

/-! ### What no packet carries (49_packet_matching.md R971 to R974, 47_qpi.md R757) -/

/-- One direction's registers demand a class and opcode, or a response state, that no packet of this hardware has. -/
def Unsent (match0 match1 mask0 mask1 : Word) : Prop :=
  mask0 &&& 0x1FE0 = 0x1FE0 ∧
    (carriesOpcode (match0.extractLsb' 9 4) (match0.extractLsb' 5 4) = false ∨
      match0.extractLsb' 9 4 = 0xE ∧ (match0.extractLsb' 5 4).toNat ≤ 2 ∧ mask1 &&& 0xF0000 = 0xF0000 ∧
        match1.extractLsb' 16 4 ∉ [(8 : BitVec 4), 4, 2, 1, 0])

/-- A packet of this hardware has a listed opcode, and in DRS opcodes 0 to 2 one of the five states. -/
theorem Packet.carried_iff (k : Packet) : Packet.carried k = true ↔ carriesOpcode k.mc k.opc = true ∧
    (k.mc = 0xE → k.opc.toNat ≤ 2 → k.rds ∈ [(8 : BitVec 4), 4, 2, 1, 0]) := by
  simp only [Packet.carried, Bool.and_eq_true, Bool.or_eq_true, Bool.not_eq_true', Bool.and_eq_false_imp, beq_iff_eq,
    decide_eq_false_iff_not, List.contains_iff_mem]
  tauto

/-- What agrees with registers that demand an unsent packet is no packet of this hardware. -/
theorem Unsent.not_carried {match0 match1 mask0 mask1 : Word} (h : Unsent match0 match1 mask0 mask1) {k : Packet}
    (h0 : AgreesUnder mask0 (Packet.word0 k) match0) (h1 : AgreesUnder mask1 (Packet.word1 k) match1) :
    Packet.carried k = false := by
  obtain ⟨hmask0, hdemand⟩ := h
  have hpart0 : 0x1FE0 &&& mask0 = 0x1FE0 := (BitVec.and_comm _ _).trans hmask0
  have opcBits : ∀ i < 4, (0x1FE0 : Word).getLsbD (5 + i) = true := by decide
  have mcBits : ∀ i < 4, (0x1FE0 : Word).getLsbD (9 + i) = true := by decide
  have rdsBits : ∀ i < 4, (0xF0000 : Word).getLsbD (16 + i) = true := by decide
  have hopc : k.opc = match0.extractLsb' 5 4 :=
    (Packet.word0_opc k).symm.trans ((h0.of_fewer hpart0).field_eq (by decide) opcBits)
  have hmc : k.mc = match0.extractLsb' 9 4 :=
    (Packet.word0_mc k).symm.trans ((h0.of_fewer hpart0).field_eq (by decide) mcBits)
  rw [← hopc, ← hmc] at hdemand
  refine Bool.eq_false_iff.mpr fun hcarried => ?_
  obtain ⟨hlisted, hstate⟩ := (Packet.carried_iff k).mp hcarried
  obtain hunlisted | ⟨hdrs, hlow, hmask1, hnostate⟩ := hdemand
  · exact Bool.eq_false_iff.mp hunlisted hlisted
  · have hpart1 : 0xF0000 &&& mask1 = 0xF0000 := (BitVec.and_comm _ _).trans hmask1
    have hrds : k.rds = match1.extractLsb' 16 4 :=
      (Packet.word1_rds k).symm.trans ((h1.of_fewer hpart1).field_eq (by decide) rdsBits)
    exact hnostate (hrds ▸ hstate hdrs hlow)

/-- A port whose filters demand unsent packets in both directions counts nothing. -/
theorem rawCto_eq_zero_of_unsent {p : Fin 3} {s : State}
    (hrx : Unsent s.qpiPkt[p].rxMatch0 s.qpiPkt[p].rxMatch1 s.qpiPkt[p].rxMask0 s.qpiPkt[p].rxMask1)
    (htx : Unsent s.qpiPkt[p].txMatch0 s.qpiPkt[p].txMatch1 s.qpiPkt[p].txMask0 s.qpiPkt[p].txMask1) :
    rawCto p s = 0 := by
  rw [rawCto_eq_countP, List.countP_eq_zero]
  intro k _ hk
  obtain ⟨hcarried, hhits⟩ := Bool.and_eq_true_iff.mp hk
  obtain ⟨hword0, hword1⟩ := (Packet.hits_iff k _).mp hhits
  refine Bool.eq_false_iff.mp ?_ hcarried
  cases hdir : k.rx with
  | true =>
    simp only [hdir, if_true] at hword0 hword1
    exact hrx.not_carried hword0 hword1
  | false =>
    simp only [hdir, Bool.false_eq_true, if_false] at hword0 hword1
    exact htx.not_carried hword0 hword1

/-- Settles O27: the increment counts the carried packets that match, which the masks narrow. -/
theorem ctoCountsEveryPacket : Obligations.CtoCountsEveryPacket := by
  refine fun p s => ⟨rawCto_of_reset, fun m0 m1 m2 m3 => ?_, rawCto_eq_zero_of_unsent⟩
  exact rawCto_le_of_comparesLess ⟨rfl, rfl, rfl, rfl, masked_and_self _ m0, masked_and_self _ m1,
    masked_and_self _ m2, masked_and_self _ m3⟩

/-! ### The begin of a box's cycle (47_qpi.md R755) -/

theorem CtrUnit.holdReset_eq (u : CtrUnit) : u.holdReset = if u.qrst = true then { u with ctr := 0 } else u := rfl

/-- The block of a box as its cycle begins. -/
def beginBlk (b : BoxId) (x : Blk) : Blk := if b.kind = .qpi then x.mapUnits CtrUnit.holdReset else x

theorem startCycle_present {b : BoxId} {s : State} (h : b.present s.cfg = true) :
    startCycle b s = (s.setBlk b (beginBlk b (s.blk b))).setRun (some ⟨b, 0⟩) := by
  simp only [startCycle, h, if_true, beginBlk, beq_iff_eq]

theorem step_clock {s : State} {b : BoxId} {rest : List Turn} (hrun : s.run = none)
    (hturn : s.agenda = .clock b :: rest) :
    step s = .next (startCycle b (s.setAgenda rest)) := by
  simp only [step, hrun, nextTurn, hturn, platformTurn]

/-- The begin of a cycle clears the counters a QPI box holds in reset. -/
theorem beginBlk_unit (b : BoxId) (x : Blk) (j : Fin 4) : (beginBlk b x).unit j =
    if b.kind = .qpi ∧ (x.unit j).qrst = true then { x.unit j with ctr := 0 } else x.unit j := by
  by_cases hq : b.kind = .qpi
  · simp [beginBlk, hq, CtrUnit.holdReset_eq]
  · simp [beginBlk, hq]

/-- The begin of a cycle changes nothing of a block but its counters. -/
theorem beginBlk_same (b : BoxId) (x : Blk) : (beginBlk b x).ov = x.ov ∧ (beginBlk b x).bfrz = x.bfrz ∧
    (beginBlk b x).gseen = x.gseen ∧ (beginBlk b x).fixCtl = x.fixCtl ∧ (beginBlk b x).fixCtr = x.fixCtr := by
  unfold beginBlk
  split <;> simp

/-- Settles O46: the turn begins the cycle, whose block differs in the held counters alone. -/
theorem cycleBegins : Obligations.CycleBegins := by
  intro s b rest hrun hturn hpresent
  have hstart := startCycle_present (s := s.setAgenda rest) (b := b) (by simpa using hpresent)
  rw [State.blk_setAgenda] at hstart
  exact ⟨beginBlk b (s.blk b), (step_clock hrun hturn).trans (congrArg _ hstart), beginBlk_unit b _,
    beginBlk_same b _⟩

end Sys2Proof.Machine
end

section
/-! The exceptions: which writes are declined, in the order of the checks, and what can signal a core. -/

namespace Sys2Proof.Machine

/-! ### Declined writes (60_exceptions.md R1001, R1002) -/

section
variable {p : Params} {r : Reg} {v : Quad}

theorem writeCheck_readOnly (hhigh : r.wide = false → v.extractLsb' 32 32 = 0) (hro : r.readOnly = true) :
    writeCheck p r v = some .readOnly := by
  have hpass : ¬ (!r.wide && v.extractLsb' 32 32 != 0) = true := by simpa using hhigh
  simp only [writeCheck, if_neg hpass, if_pos hro]

/-- Past the checks that do not read the low dword, the three that do decide. -/
theorem writeCheck_eq_low (hhigh : r.wide = false → v.extractLsb' 32 32 = 0) (hro : r.readOnly = false) :
    writeCheck p r v =
      if r.reservedBad p (v.extractLsb' 0 32) = true then some .reservedNonzero
      else if r.threshZero (v.extractLsb' 0 32) = true then some .threshZero
      else if r.bothActions (v.extractLsb' 0 32) = true then some .freezeAndUnfreeze
      else none := by
  have hpass : ¬ (!r.wide && v.extractLsb' 32 32 != 0) = true := by simpa using hhigh
  simp only [writeCheck, if_neg hpass, hro, Bool.false_eq_true, if_false]

end

/-- Beside the must-be-0 bits only a box control register holds a field that is checked as reserved. -/
theorem reservedBad_of_mustZero_clear {p : Params} {r : Reg} {w : Word} (hr : ∀ b, r ≠ .boxCtl b)
    (h : w &&& r.mustZero = 0) : r.reservedBad p w = false := by
  cases r with
  | boxCtl b => exact absurd rfl (hr b)
  | _ => simp [Reg.reservedBad, h]

theorem reservedBad_of_boxCtlOne {p : Params} {b : BoxId} {w : Word} (hk : hasRsvOne b.kind = true)
    (h : w.extractLsb' 16 2 ≠ p.boxCtlOne) : Reg.reservedBad p (.boxCtl b) w = true := by
  simp [Reg.reservedBad, hk, h]

/-- Settles O44: the checks in their order, each decided by what the ones before it let through. -/
theorem declinedWrites : Obligations.DeclinedWrites := by
  intro i r v s hw w
  split
  next hhigh => exact exec_refused hw (writeCheck_high hhigh.1 hhigh.2)
  next hnhigh =>
    have hhigh : r.wide = false → v.extractLsb' 32 32 = 0 := fun h => by_contra fun hne => hnhigh ⟨h, hne⟩
    split
    next hro => exact exec_refused hw (writeCheck_readOnly hhigh hro)
    next hnro =>
      have hlow := writeCheck_eq_low (p := s.cfg) hhigh (Bool.eq_false_iff.mpr hnro)
      split
      next hmask => exact exec_refused hw (hlow.trans (if_pos (reservedBad_of_mustZero hmask)))
      next hnmask =>
        have hzero : w &&& r.mustZero = 0 := not_not.mp hnmask
        have hshape (hr : ∀ b, r ≠ .boxCtl b) : writeCheck s.cfg r v =
            if r.threshZero w = true then some .threshZero
            else if r.bothActions w = true then some .freezeAndUnfreeze else none := by
          rw [hlow, reservedBad_of_mustZero_clear hr hzero, if_neg Bool.false_ne_true]
        refine ⟨fun b hr hk hone => ?_, fun b j hr hthresh => ?_, fun n hr hinv => ?_, fun hr hfrz hunfrz => ?_⟩
        · subst hr
          exact exec_refused hw (hlow.trans (if_pos (reservedBad_of_boxCtlOne hk hone)))
        · subst hr
          have hbad : Reg.threshZero (.ctl b j) w = true := Bool.not_eq_false _ ▸ mt threshZero_ctl_iff.mp hthresh
          exact exec_refused hw ((hshape (by simp)).trans (if_pos hbad))
        · subst hr
          exact exec_refused hw ((hshape (by simp)).trans (if_pos hinv))
        · subst hr
          have hboth : Reg.bothActions .globalCtl w = true := Bool.and_eq_true_iff.mpr ⟨hfrz, hunfrz⟩
          exact exec_refused hw ((hshape (by simp)).trans ((if_neg Bool.false_ne_true).trans (if_pos hboth)))

/-! ### What signals a core (60_exceptions.md R1005) -/

theorem CountFrame.out_eq {b : BoxId} {j : Fin 4} {s t : State} (h : CountFrame b j s t) : t.out = s.out := by
  obtain ⟨_, _, _, _, _, _, rfl, -⟩ := h
  simp

theorem nextTurn_out (s : State) : (nextTurn s).2.out = s.out := by
  obtain ⟨turns, n, h⟩ := nextTurn_snd s
  simp [h]

/-- A step of a cycle in progress signals no core: an overflow only puts its message in flight. -/
theorem cycle_step_out {s t : State} {r : Run} (hrun : s.run = some r) (hstep : step s = .next t) : t.out = s.out := by
  obtain ⟨j, u, hframe, rfl⟩ | rfl := cycle_step_cases hrun hstep
  · simpa [advance] using hframe.out_eq
  · obtain ⟨-, -, -, hout, -⟩ := otherCounters_same r.box s
    simpa [finishCycle] using hout

theorem exec_out {i : Instr} {s t : State} (h : exec i s = .next t) : t.out = s.out := by
  obtain ⟨k, e, base, o, -, rfl⟩ | ⟨v, rfl⟩ | ⟨r, v, -, -, rfl⟩ := exec_next h
  · exact (countStep_frame _ _ _ _ _ _ fun _ => rawIncrement_onlyDraws _ _ _ _ _ _).out_eq
  · exact State.setHostRead_out _ _
  · obtain ⟨-, -, -, hout, -⟩ := storeReg_same r v s
    exact hout

theorem startCycle_out (b : BoxId) (s : State) : (startCycle b s).out = s.out := by
  unfold startCycle
  split <;> simp

/-- Of the other turns only a delivery signals; the hardware reset keeps what has been signalled. -/
theorem platformTurn_out (turn : Turn) (s : State) : (platformTurn turn s).out = s.out ∨ ∃ k, turn = .deliver k := by
  cases turn with
  | deliver k => exact .inr ⟨k, rfl⟩
  | clock b => exact .inl (startCycle_out b s)
  | seen b => exact .inl (State.setBlk_out _ _ _)
  | host _ | frequency | reset => exact .inl rfl

/-- Settles O51: by what a step is; the host's turn and a cycle in progress signal no core. -/
theorem onlyDeliverySignals : Obligations.OnlyDeliverySignals := by
  intro s t hstep hne
  obtain ⟨r, _, _, _, _, hrun, -⟩ | ⟨r, hrun, -⟩ | ⟨cmd, -, -, (rfl | ⟨v, rfl⟩) | ⟨i, -, hx⟩⟩ | ⟨hrun, -, rfl⟩ :=
    step_cases hstep
  · exact absurd (cycle_step_out hrun hstep) hne
  · exact absurd (cycle_step_out hrun hstep) hne
  · exact absurd (nextTurn_out s) hne
  · exact absurd (nextTurn_out s) hne
  · exact absurd ((exec_out hx).trans (nextTurn_out s)) hne
  · exact ⟨hrun, (platformTurn_out _ _).resolve_left fun hout => hne (hout.trans (nextTurn_out s))⟩

end Sys2Proof.Machine
end

section
/-! Reset: no step changes the part's parameters, what reset leaves in every register and latch, and that the hardware
reset puts any state there. -/

namespace Sys2Proof

/-! ### The default parameters (00_scope.md R7) -/

theorem Params.default_ok : Params.default.Ok := by constructor <;> decide

/-- The default part has every box. -/
theorem BoxId.present_default (b : BoxId) : b.present Params.default = true := by
  cases b <;> decide +revert

end Sys2Proof

namespace Sys2Proof.Machine

/-! ### The parameters of the part (70_reset_and_hazards.md R1040) -/

theorem CountFrame.cfg_eq {b : BoxId} {j : Fin 4} {s t : State} (h : CountFrame b j s t) : t.cfg = s.cfg := by
  obtain ⟨_, _, _, _, _, _, rfl, -⟩ := h
  simp

theorem nextTurn_cfg (s : State) : (nextTurn s).2.cfg = s.cfg := by
  obtain ⟨turns, n, h⟩ := nextTurn_snd s
  simp [h]

/-- A step of a cycle in progress is of counters alone. -/
theorem cycle_step_cfg {s t : State} {r : Run} (hrun : s.run = some r) (hstep : step s = .next t) : t.cfg = s.cfg := by
  obtain ⟨j, u, hframe, rfl⟩ | rfl := cycle_step_cases hrun hstep
  · simpa [advance] using hframe.cfg_eq
  · obtain ⟨hcfg, -⟩ := otherCounters_same r.box s
    simpa [finishCycle] using hcfg

/-- No register holds a parameter that a write could change: QPI_RATE_STATUS is read-only. -/
theorem exec_cfg {i : Instr} {s t : State} (h : exec i s = .next t) : t.cfg = s.cfg := by
  obtain ⟨k, e, base, o, -, rfl⟩ | ⟨v, rfl⟩ | ⟨r, v, -, -, rfl⟩ := exec_next h
  · exact (countStep_frame _ _ _ _ _ _ fun _ => rawIncrement_onlyDraws _ _ _ _ _ _).cfg_eq
  · exact State.setHostRead_cfg _ _
  · obtain ⟨hcfg, -⟩ := storeReg_same r v s
    exact hcfg

theorem startCycle_cfg (b : BoxId) (s : State) : (startCycle b s).cfg = s.cfg := by
  unfold startCycle
  split <;> simp

theorem deliver_cfg (k : Nat) (s : State) : (deliver k s).cfg = s.cfg := by
  rcases deliver_spec k s with ⟨-, h⟩ | ⟨bits, out, n, -, -, h⟩ <;> rw [h]
  rfl

/-- Every other turn keeps the parameters, the hardware reset too. -/
theorem platformTurn_cfg (turn : Turn) (s : State) : (platformTurn turn s).cfg = s.cfg := by
  cases turn with
  | clock b => exact startCycle_cfg b s
  | deliver k => exact deliver_cfg k s
  | seen b => exact State.setBlk_cfg _ _ _
  | host _ | frequency | reset => rfl

/-- Settles O55: by what a step is; no kind of step writes the parameters. -/
theorem parametersAreFixed : Obligations.ParametersAreFixed := by
  intro s t hstep
  obtain ⟨r, _, _, _, _, hrun, -⟩ | ⟨r, hrun, -⟩ | ⟨cmd, -, -, (rfl | ⟨v, rfl⟩) | ⟨i, -, hx⟩⟩ | ⟨-, -, rfl⟩ :=
    step_cases hstep
  · exact cycle_step_cfg hrun hstep
  · exact cycle_step_cfg hrun hstep
  · exact nextTurn_cfg s
  · exact nextTurn_cfg s
  · exact (exec_cfg hx).trans (nextTurn_cfg s)
  · exact (platformTurn_cfg _ _).trans (nextTurn_cfg s)

/-! ### The state after reset (R1041, R1042) -/

@[simp] theorem Blk.unit_reset (i : Fin 4) : Blk.reset.unit i = .reset := by
  fin_cases i <;> rfl

@[simp] theorem PktRegs.get_reset (r : PktReg) : PktRegs.reset.get r = 0 := by
  cases r <;> rfl

@[simp] theorem State.blk_reset (b : BoxId) : State.reset.blk b = .reset := blk_hardwareReset State.reset b

@[simp] theorem State.unit_reset (b : BoxId) (i : Fin 4) : State.reset.unit b i = .reset := by
  rw [State.unit, State.blk_reset, Blk.unit_reset]

/-- Every register that reads neither num_c nor a parameter reads 0 after reset. -/
theorem readReg_reset {r : Reg} (hnumC : r ≠ .globalConfig) (hrate : ∀ x, r ≠ .qpiRate x) : readReg r State.reset = 0 := by
  cases r with
  | globalConfig => exact absurd rfl hnumC
  | qpiRate x => exact absurd rfl (hrate x)
  | globalCtl | globalStatus | boxCtl b | pcuFilter => rfl
  | fixedCtl b | fixedCtr b | boxStatus b =>
    rw [readReg, State.blk_reset]
    rfl
  | ctl b i | ctr b i =>
    rw [readReg, State.unit_reset]
    rfl
  | pcuFree c => cases c <;> rfl
  | cboFilter0 n | cboFilter1 n | haOpcodeMatch n | haAddrMatch1 n | haAddrMatch0 n | qpiIdle n | qpiLlr n =>
    simp [readReg, State.reset]
  | qpiPkt p q => simp [readReg, State.reset]

/-! ### The invariant at reset -/

theorem replicate_zero_and {n : Nat} (m : Word) (i : Fin n) : (Vector.replicate n (0 : Word))[i] &&& m = 0 := by simp

/-- Settles O58: the default parameters are in their ranges, and a register of 0 has no reserved bit set. -/
theorem resetMeetsInvariant : Obligations.ResetMeetsInvariant where
  cfg := Params.default_ok
  blk b := State.blk_reset b ▸ .reset _ b
  status := BitVec.zero_and
  pend _ hm := nomatch hm
  filter0 := replicate_zero_and _
  filter1 := replicate_zero_and _
  opcodeMatch := replicate_zero_and _
  addrMatch1 := replicate_zero_and _
  addrMatch0 := replicate_zero_and _
  packet p r := by simp [State.reset]

/-! ### The identification at reset (20_memory.md R110) -/

/-- So every register exists on it. -/
theorem Reg.present_default (r : Reg) : r.present Params.default = true := by
  cases r with
  | qpiRate second => cases second <;> rfl
  | globalCtl | globalStatus | globalConfig | pcuFilter | pcuFree _ => rfl
  | fixedCtl b | fixedCtr b | ctl b _ | ctr b _ | boxCtl b | boxStatus b => exact b.present_default
  | cboFilter0 n | cboFilter1 n => exact (BoxId.cbo n).present_default
  | haOpcodeMatch n | haAddrMatch1 n | haAddrMatch0 n => exact (BoxId.ha n).present_default
  | qpiPkt p _ | qpiIdle p | qpiLlr p => exact (BoxId.qpi p).present_default

/-- The device id above the vendor id, as a shift. -/
theorem setWidth_append_eq_shiftLeft_or (device vendor : BitVec 16) :
    (device ++ vendor).setWidth 64 = device.setWidth 64 <<< 16 ||| vendor.setWidth 64 := by
  ext i hi
  simp only [BitVec.getElem_setWidth, BitVec.getLsbD_append, BitVec.getElem_or, BitVec.getElem_shiftLeft]
  grind

/-- Settles O59: the registers, the latches and the blocks as reset has them, and every function's box is present. -/
theorem resetLeaves : Obligations.ResetLeaves := by
  refine ⟨fun r => readReg_reset, rfl, fun x => rfl, fun fn p hfn => ?_, rfl, rfl, fun k => by simp [State.reset],
    fun b => ?_⟩
  · rw [accessIdentification_present hfn (Reg.present_default p.1), setWidth_append_eq_shiftLeft_or]
    rfl
  · simp only [State.blk_reset, State.unit_reset]
    exact ⟨rfl, rfl, fun j => ⟨rfl, rfl, rfl, rfl, rfl⟩⟩

/-! ### The hardware reset (R1040) -/

theorem step_reset {s : State} {rest : List Turn} (hrun : s.run = none) (hturn : s.agenda = .reset :: rest) :
    step s = .next (hardwareReset (s.setAgenda rest)) := by
  simp only [step, hrun, nextTurn, hturn, platformTurn]

/-- After the hardware reset every register but the QPI rate, a parameter, reads as after `State.reset`. -/
theorem readReg_hardwareReset {r : Reg} (hrate : ∀ x, r ≠ .qpiRate x) (s : State) :
    readReg r (hardwareReset s) = readReg r State.reset := by
  have hblk (b : BoxId) : (hardwareReset s).blk b = State.reset.blk b :=
    (blk_hardwareReset s b).trans (State.blk_reset b).symm
  cases r with
  | qpiRate x => exact absurd rfl (hrate x)
  | fixedCtl b | fixedCtr b | ctl b i | ctr b i | boxStatus b => simp only [readReg, State.unit, hblk]
  | pcuFree c => cases c <;> rfl
  | _ => rfl

/-- Settles O60: the turn is the hardware reset of the state without it. -/
theorem resetTurn : Obligations.ResetTurn := fun s rest hrun hturn =>
  ⟨hardwareReset (s.setAgenda rest), step_reset hrun hturn, rfl,
    fun b => (blk_hardwareReset _ b).trans (State.blk_reset b).symm, rfl, rfl, rfl,
    fun _ hrate => readReg_hardwareReset hrate _⟩

end Sys2Proof.Machine
end
